-- ==== Sys2Proof/Word.lean ====
section
/-! DEFINITION. Word.lean: the word types of the OC-8016M and their plainest arithmetic. -/

namespace Sys2Proof

/-- One byte of a memory, table or frame (R9). -/
abbrev Byte := BitVec 8

/-- A 32-bit word: an engine register, a yard word, a table word (R98). -/
abbrev Word := BitVec 32

/-- A 64-bit word: the widest register (R58). -/
abbrev DWord := BitVec 64

end Sys2Proof
end

