-- ==== Sys2Proof/Machine/LibState.lean ====
section
/-! DEFINITION. LibState.lean: what the library programs keep from block to block in their DM areas, as plain data (R100,
R303 to R388, R431, R432). The manual gives that state no layout in DM; it stands in State by program. -/

namespace Sys2Proof.Machine

/-- An entry of a ride-through curve (R330): threshold, REGION, T_MS. -/
structure CurvePoint where
  level : Word
  region : Nat
  ms : Nat
  deriving DecidableEq, Repr

/-- Ride-through and islanding of a GC instance (R329 to R346): the lists in force (LV, HV, LF, HF), the band each quantity
lies in, the disturbance and its times in ticks, and the quantities of R329. -/
structure RtState where
  lists : List (List CurvePoint)
  bands : List Nat
  active : Bool
  start : Nat
  span : Nat
  normalFrom : Option Nat
  starts : List Nat
  idPre : Word
  iqPre : Word
  vref : Word
  angle : Word
  fSum : Word
  fN : Nat
  fTicks : Nat
  fbar : List Word
  rocof : Word
  rocofFrom : Option Nat
  dphi : List Word
  vshift : Word
  jump : Bool
  jumpRun : Nat
  cease : Option Nat
  endAt : Option Nat
  island : Bool
  found : Bool
  sent : Nat
  vpos : Word
  vlv : Word
  vhv : Word
  region : Nat
  deriving DecidableEq, Repr

/-- A second-order generalised integrator pair (R314): v and qv of the two axes. -/
structure Sogi where
  va : Word
  qa : Word
  vb : Word
  qb : Word
  deriving DecidableEq, Repr

/-- The grid program GC_CTL (R303 to R328): parameters in use, state machine, PLL, references, grid-forming
values and what ended the last block. -/
structure GcState where
  inst : Nat
  par : List Word
  clamped : Bool
  dpend : Bool
  frame : Nat
  prevMode : Nat
  st : Nat
  cause : Nat
  since : Nat
  omega : Word
  theta : Word
  sogi : Sogi
  lock : Bool
  lockRun : Nat
  slipRun : Nat
  coastFrom : Option Nat
  ageFrame : Nat
  age : Word
  pRef : Word
  qRef : Word
  idRef : Word
  iqRef : Word
  ndRef : Word
  nqRef : Word
  harmOff : Bool
  thetaV : Word
  omegaV : Word
  pf : Word
  qf : Word
  limited : Bool
  form : Nat
  formNew : Bool
  black : Bool
  fLim : Option Nat
  vdcBad : Nat
  halfBad : Nat
  recover : Bool
  plim : Bool
  pNow : Word
  vdcNow : Word
  rt : RtState
  deriving DecidableEq, Repr

/-- The monitoring task GC_MON (R303, R309): its integrators. -/
structure GmState where
  sogi : Sogi
  deriving DecidableEq, Repr

/-- A global scan under way (R321). -/
structure Scan where
  start : Nat
  p0 : Word
  v0 : Word
  slot : Nat
  sumP : Word
  n : Nat
  best : Word
  bestV : Word
  deriving DecidableEq, Repr

/-- GC_MPPT or DP_MPPT (R320, R321, R357). -/
structure MpptState where
  inst : Nat
  vref : Word
  last : Option (Word × Word)
  sumV : Word
  sumI : Word
  n : Nat
  from' : Nat
  scanFrom : Option Nat
  scan : Option Scan
  deriving DecidableEq, Repr

/-- A command to DP (R361): V_TGT, SLEW, I_LIM and its SEQ. -/
structure DpCmd where
  seq : Word
  v : Word
  slew : Word
  ilim : Word
  deriving DecidableEq, Repr

/-- A BMS limit frame (R356, R364). -/
structure BmsLimit where
  vmax : Word
  chg : Word
  dis : Word
  deriving DecidableEq, Repr

/-- The DC-port program DP_CTL (R350 to R368). -/
structure DpState where
  inst : Nat
  par : List Word
  clamped : Bool
  dpend : Bool
  frame : Nat
  prevMode : Nat
  st : Nat
  cause : Nat
  since : Nat
  vref : Word
  cmd : Option DpCmd
  lastSeq : Option Word
  seenSeq : Option Word
  cmdAt : Nat
  vcmdUpd : Nat
  bmsUpd : Nat
  bms : Option BmsLimit
  bmsAt : Nat
  supLog : List DpCmd
  supCnt : Nat
  settled : Bool
  settleRun : Nat
  mask : Nat
  shedFrom : Option Nat
  cc : Bool
  done : Bool
  doneFrom : Option Nat
  imb : Bool
  imbFrom : Option Nat
  imbLow : Option Nat
  iTot : Word
  iHi : Word
  iLo : Word
  lost : Nat
  vpBad : Nat
  busBad : Nat
  phFail : List Nat
  statAt : Nat
  recCount : Nat
  iPort : Word
  vPort : Word
  deriving DecidableEq, Repr

/-- The machine program MC_CTL (R370 to R388). -/
structure McState where
  par : List Word
  clamped : Bool
  dpend : Bool
  frame : Nat
  prevMode : Nat
  st : Nat
  cause : Nat
  since : Nat
  last : Option Nat
  psiA : Word
  psiB : Word
  theta : Word
  omega : Word
  mag : Word
  res : Word
  emf : Word
  cls : Nat
  revSent : Bool
  fListen : Word
  retries : Nat
  ifF : Word
  ifTheta : Word
  ifAt : Option Nat
  back : Word
  obsRun : Nat
  resFrom : Option Nat
  goodOmega : Word
  wRef : Word
  iqRef : Word
  idRef : Word
  vAbs : Word
  duty1 : List Word
  duty2 : List Word
  fwAt : Option Nat
  raising : Bool
  raisedFrame : Nat
  ascAngle : Option Word
  ascRates : List Word
  freewheel : Bool
  vHi : Nat
  vLo : Nat
  fast : Nat
  iqNow : Word
  deriving DecidableEq, Repr

/-- The metering program ME_PT (R431, R432): the instant of the last sample used, recent voltages for the quarter-period
delay, and the zero crossings of va in ns. -/
structure MeState where
  par : List Word
  frame : Nat
  last : Option Nat
  period : Option Nat
  prev : Option (Nat × Word)
  hist : List (Nat × List Word)
  cross : List Nat
  gap : Bool
  deriving DecidableEq, Repr

/-- What a library task keeps from block to block in its DM area (R100). -/
inductive LibState where
  | gc (s : GcState) | gm (s : GmState) | mppt (s : MpptState) | dp (s : DpState) | mc (s : McState)
  | me (s : MeState)
  deriving DecidableEq, Repr

/-! ### The same state on another module's time line

A standby that loads its lead's snapshot (R514, R515) finds the instants in it on the lead's tick counter; `f` carries an
instant over. -/

def RtState.moved (f : Nat → Nat) (s : RtState) : RtState :=
  { s with start := f s.start, normalFrom := s.normalFrom.map f, starts := s.starts.map f
           rocofFrom := s.rocofFrom.map f, cease := s.cease.map f, endAt := s.endAt.map f }

def GcState.moved (f : Nat → Nat) (s : GcState) : GcState :=
  { s with since := f s.since, coastFrom := s.coastFrom.map f, fLim := s.fLim.map f, rt := s.rt.moved f }

def MpptState.moved (f : Nat → Nat) (s : MpptState) : MpptState :=
  { s with from' := f s.from', scanFrom := s.scanFrom.map f
           scan := s.scan.map (fun c => { c with start := f c.start }) }

def DpState.moved (f : Nat → Nat) (s : DpState) : DpState :=
  { s with since := f s.since, cmdAt := f s.cmdAt, bmsAt := f s.bmsAt, shedFrom := s.shedFrom.map f
           doneFrom := s.doneFrom.map f, imbFrom := s.imbFrom.map f, imbLow := s.imbLow.map f, statAt := f s.statAt }

def McState.moved (f : Nat → Nat) (s : McState) : McState :=
  { s with since := f s.since, last := s.last.map f, ifAt := s.ifAt.map f, resFrom := s.resFrom.map f
           fwAt := s.fwAt.map f }

/-- A library task's state with its instants carried over; those of the metering program's samples are times of day. -/
def LibState.moved (f : Nat → Nat) (s : LibState) : LibState :=
  match s with
  | .gc s => .gc (s.moved f)
  | .gm s => .gm s
  | .mppt s => .mppt (s.moved f)
  | .dp s => .dp (s.moved f)
  | .mc s => .mc (s.moved f)
  | .me s => .me { s with period := s.period.map f }

end Sys2Proof.Machine
end

