-- ==== Sys2Proof/Operand.lean ====
section
/-! DEFINITION. Operand.lean: the operands that commands carry, as plain data. -/

namespace Sys2Proof

/-- A detection of R108: the detector's SRC code (0x0 to 0x8), the byte offset that ENG_nn_DET_ADDR
records, and whether the word's stored parity fails, so that it goes on failing until it is rewritten (R111). -/
structure Detection where
  src : Fin 9
  addr : BitVec 24
  stays : Bool
  deriving DecidableEq, Repr

/-- The issue of one instruction: the logical engine that executes it, and the detection, if any, that
stops the block at it (R108). -/
structure Issue where
  le : Fin 8
  det : Option Detection
  deriving DecidableEq, Repr

end Sys2Proof

namespace Sys2Proof.Machine

/-- The access paths of R50, numbered as HOST_VIOL_INFO.INITIATOR numbers them (R68). -/
inductive Initiator where
  | pcie | spi | uart | program
  deriving DecidableEq, Repr

/-- A host register access that completes (R52): a PCIe read of 2^`k` bytes at a BAR0 offset, the pending SPI
transaction, or accesses that reach their register together (R64): over PCIe, as a write where data is given; the pending SPI
transaction; and a UART read (CMD, ARG, CRC). -/
inductive HostAccess where
  | pcie (k : Fin 4) (addr : BitVec 25)
  | spi
  | tie (pcie : Option (Fin 4 × BitVec 25 × Option (BitVec 64))) (spi : Bool)
      (uart : Option (BitVec 8 × BitVec 16 × BitVec 16))
  deriving DecidableEq, Repr

/-- One copy of a triplicated field that has come to hold another value (R62): the normal address of its register, the
field's lowest bit, the copy, and what the copy holds. -/
structure Upset where
  addr : BitVec 22
  lo : Fin 64
  copy : Fin 3
  val : BitVec 64
  deriving DecidableEq, Repr

/-- What happens to triplicated fields (R62): a copy is disturbed; or a scrub passes, which finds a write at the registers
`written` together with itself. -/
inductive Scrub where
  | strike (u : Upset)
  | pass (written : List (BitVec 22))
  deriving DecidableEq, Repr

/-- Hardware updates that reach a register within the arbitration window of a write to it (R63): the w1c bits set, and
the increments of a counter. -/
structure Race where
  sets : BitVec 64
  incs : BitVec 8
  deriving DecidableEq, Repr

/-- A run of compare cycles (R191): the largest phase error in ps, how many cycles kept to it, and how far into its 2 ns each
timebase cycle of that time fell short (R195). -/
structure PhaseRun where
  err : BitVec 32
  cycles : BitVec 32
  edges : List (BitVec 16)
  deriving DecidableEq, Repr

/-- A run of compare cycles in REACQUIRE (R196): the offset in ns at its end, and as in `PhaseRun` the cycles and the edges. -/
structure FreqRun where
  o : BitVec 64
  cycles : BitVec 32
  edges : List (BitVec 16)
  deriving DecidableEq, Repr

/-- What a channel's desaturation input reads through its filter (R291): mV, and ns since the turn-on edge at OUT. -/
structure DesatSense where
  ch : Fin 24
  mv : BitVec 32
  ns : BitVec 32
  deriving DecidableEq, Repr

/-- What a channel's di/dt input reads through its filter (R291), in mV. -/
structure DidtSense where
  ch : Fin 24
  mv : BitVec 32
  deriving DecidableEq, Repr

/-- A supply check (R287): 0 UVLO, 1 VN presence, 2 reversal, with VP and VN in mV through the filter. -/
structure SupplySense where
  check : Fin 3
  vp : BitVec 32
  vn : BitVec 32
  deriving DecidableEq, Repr

/-- Who requests a fault line (R273). CMP, GD, GOOSE and COLL keep their requesters apart, so that a line
stays requested while any of them stands; SYS holds removal and core silence separately. -/
inductive Req where
  | cmp (pair : Nat)
  | gd (half : Nat) (kind : Nat)
  | goose (filter : Nat)
  | clk
  | coll (src : Nat)
  | safe
  | removal
  | silent
  | host
  deriving DecidableEq, Repr

/-- A fast frame as it came back to a port (R396, R397, R401): whether its CRC was good, whether it returned
WRAPPED, its HOPS, and the slots it carries, as position and 8 bytes. -/
structure RingFrame where
  good : Bool
  wrapped : Bool
  hops : BitVec 10
  slots : List (Fin 512 × BitVec 64)
  deriving DecidableEq, Repr

/-- A cell found by enumeration (R402): serial, type, protocol version, role-mismatch flags, point count less one. -/
structure CellId where
  serial : BitVec 64
  type : BitVec 8
  version : BitVec 8
  swapped : Bool
  points : BitVec 8
  deriving DecidableEq, Repr

/-- What training measured (R402 to R404): a failure that a receiver or the two ends report (CODE 0x01, 0x02, 0x03
or 0x05, and the position), or the cells found and the round trip in ps. -/
inductive TrainResult where
  | failed (code : Fin 6) (pos : Fin 512)
  | found (cells : List CellId) (rtt : BitVec 32)
  deriving DecidableEq, Repr

/-- Whose slow frame returns (R415). -/
inductive SlowOrigin where
  | token (conn : Fin 16) | program | host | poll
  deriving DecidableEq, Repr

/-- A slow frame as it came back (R412, R413): CRC, DONE, ERR, and its payload words. -/
structure SlowFrame where
  good : Bool
  done : Bool
  err : Bool
  words : List (BitVec 32)
  deriving DecidableEq, Repr

/-- The mirror set of R514 as one snapshot: bytes of yard and DM by BAR2 offset, registers of loop units and
consists by address, loop-unit state that no register shows (unit, then its words and runs), the frame-start
word, the tasks whose READY has counted, and what library tasks keep in their DM areas, by logical engine and task, with
the lead's instant at the boundary. -/
structure Snapshot where
  bytes : List (Nat × BitVec 8)
  regs : List (Nat × BitVec 64)
  units : List (Nat × List (BitVec 32) × Nat × Nat)
  frameWord : BitVec 32
  ready : List Nat
  libs : List (Nat × Option LibState)
  at' : Nat
  deriving DecidableEq, Repr

/-- What the heading link shows of the peer at a frame boundary (R513): the lane pairs with symbol lock, and what the peer
answers. -/
structure Peer where
  lane0 : Bool
  lane1 : Bool
  en : Bool
  mode : Fin 8
  copyCrc : BitVec 32
  generation : BitVec 32
  locked : Bool
  frame : BitVec 23
  wantLead : Bool
  uid : BitVec 64
  deriving DecidableEq, Repr

/-- What an Announce says of a grandmaster (R201): its source and the sequence number of a redundancy trailer or HSR tag
(R207, R208), its domain, the fields of the IEEE 1588 comparison in their order, and the current UTC offset. -/
structure Announce where
  src : BitVec 48
  tag : Option (BitVec 16)
  domain : BitVec 8
  priority1 : BitVec 8
  clockClass : BitVec 8
  accuracy : BitVec 8
  variance : BitVec 16
  priority2 : BitVec 8
  identity : BitVec 64
  steps : BitVec 16
  utc : BitVec 16
  deriving DecidableEq, Repr

/-- What a Sync says, with its Follow_Up where it is a two-step one (R200, R201): source and redundancy tag, domain, the
master's time, and the correction in ns. -/
structure PtpSync where
  src : BitVec 48
  tag : Option (BitVec 16)
  domain : BitVec 8
  sec : BitVec 48
  ns : BitVec 32
  correction : BitVec 64
  deriving DecidableEq, Repr

/-- What a reference's silence is measured from (R191): the crystal's or REF_IN's last edge, by the ns since; or the last
pulse or Sync, which the clock has noted. -/
inductive RefLoss where
  | crystal (idle : BitVec 32)
  | refIn (idle : BitVec 32)
  | outer
  deriving DecidableEq, Repr

/-- A frame at a port that no table takes (R206, R207, R209): a bad FCS, a supervision frame, or a frame of a kind the port does
not carry. -/
inductive PbOther where
  | badFcs
  | other
  | supervision (src : BitVec 48) (tag : Option (BitVec 16))
  deriving DecidableEq, Repr

/-- One ASDU of an SV frame (R210): smpCnt, smpSynch and its sequence of data. -/
structure SvAsdu where
  smpCnt : BitVec 16
  synch : BitVec 8
  data : List (BitVec 8)
  deriving DecidableEq, Repr

/-- What the head of a process-bus frame says (R206 to R208, R210): addresses as 48-bit numbers whose byte 0 is
lowest, the VLAN ID of a tagged frame, the sequence number of a valid redundancy trailer or HSR tag, APPID, the
simulation bit, and whether it carries authentication or a security length. -/
structure PbHead where
  dst : BitVec 48
  src : BitVec 48
  vlan : Option (BitVec 12)
  tag : Option (BitVec 16)
  appid : BitVec 16
  sim : Bool
  secured : Bool
  deriving DecidableEq, Repr

/-- An SV frame (R210): svID, confRev and ASDUs. -/
structure SvFrame where
  head : PbHead
  svid : List (BitVec 8)
  confRev : BitVec 32
  asdus : List SvAsdu
  deriving DecidableEq, Repr

/-- A primitive member of a GOOSE dataset as it is received (R222): a bit string with its first bit first, the contents bytes
of an INTEGER or UNSIGNED most significant first, the seconds, fraction and quality of a time, or a member of a type the
table does not name. -/
inductive GsMember where
  | boolean (b : Bool)
  | bits (l : List Bool)
  | integer (bytes : List (BitVec 8))
  | unsigned (bytes : List (BitVec 8))
  | float32 (w : BitVec 32)
  | utcTime (sec : BitVec 32) (frac : BitVec 24) (qual : BitVec 8)
  | other
  deriving DecidableEq, Repr

/-- A GOOSE frame (R210, R222, R223), its dataset flattened; `fixed` marks the fixed-length encoding. -/
structure GsFrame where
  head : PbHead
  fixed : Bool
  gocbRef : List (BitVec 8)
  datSet : List (BitVec 8)
  goID : List (BitVec 8)
  tal : BitVec 32
  tSec : BitVec 32
  tQual : BitVec 8
  tFrac : BitVec 24
  st : BitVec 32
  sq : BitVec 32
  test : Bool
  confRev : BitVec 32
  ndsCom : Bool
  members : List GsMember
  deriving DecidableEq, Repr

/-- The reading of a pulse input's loop (R435). -/
inductive PiReading where
  | short | closed | opened | broken
  deriving DecidableEq, Repr

/-- A tamper edge (R477): an input's contact closed or opened, or P − N of a Keeper comparator, in µV, crossed an edge of its band. -/
inductive TamperEdge where
  | input (n : Fin 4) (closed : Bool)
  | comparator (n : Fin 4) (pn : BitVec 32)
  deriving DecidableEq, Repr

/-- Instance values of the grid program (R305): first bridge generator, bridge group, LU_BASE, transform unit, the SV
subscriptions of PCC voltage and current, the GOOSE subscription of the transfer trip (R341), and the yard
address of VDC_REF (R319). -/
structure GcInst where
  gen : Fin 32
  group : Fin 32
  lu : Fin 86
  xfm : Fin 4
  sv : Fin 32
  svI : Option (Fin 32)
  tt : Option (Fin 64)
  vref : BitVec 24
  deriving DecidableEq, Repr

/-- Instance values of the DC-port program (R350): port, phase list, group, LU_BASE, CAN channel, and the yard address of
the reference that DP_MPPT commits (R357). -/
structure DpInst where
  port : Fin 4
  phases : List (Fin 32)
  group : Fin 32
  lu : Fin 84
  can : Fin 2
  vref : BitVec 24
  deriving DecidableEq, Repr

/-- Instance values of the machine program (R371): machine, GEN_BASE, group, LU_BASE, transform unit. -/
structure McInst where
  mch : Fin 2
  gen : Fin 32
  group : Fin 32
  lu : Fin 92
  xfm : Fin 4
  deriving DecidableEq, Repr

/-- The tasks of the library programs (R303, R352, R370, R431), with their instance values. -/
inductive LibTask where
  | gcCtl (c : GcInst) | gcMppt (c : GcInst) | gcMon (c : GcInst)
  | dpCtl (c : DpInst) | dpMppt (c : DpInst)
  | mcCtl (c : McInst)
  | mePt (point : Fin 4)
  deriving DecidableEq, Repr

/-- A block of a library task: the task, how many ticks after its start its commit-ready mark leaves, and the detections that
stop its run and its re-run (R108, R109). -/
structure LibRun where
  task : LibTask
  ready : BitVec 20
  det : Option Detection
  again : Option Detection
  deriving DecidableEq, Repr

/-- A TAP instruction (R524): those the manual names, and any other. -/
inductive TapInstr where
  | bypass | idcode
  | other (code : BitVec 8)
  deriving DecidableEq, Repr

end Sys2Proof.Machine
end

