-- ==== Sys2Proof/Syntax.lean ====
section
/-! DEFINITION. Syntax.lean: the commands of the OC-8016M, one constructor per row of the opcode table.
A command is something the world does to the module (a host access, a frame, a pin event), an instant
its timebase reaches (a reload, a block end), or one instruction that a logical engine executes. -/

namespace Sys2Proof

/-- The commands. Each constructor's docstring names its row and the rule the row cites. -/
inductive Instr where
  /-- VMAIN_VALID (R40): VMAIN has stayed at or above 10.6 V for 1 ms and becomes valid; the Keeper ends a WAKE burst as DONE. -/
  | vmainValid
  /-- VMAIN_INVALID (R46): VMAIN falls below 10.3 V for 20 µs and the module starts the hold-up sequence. -/
  | vmainInvalid
  /-- SEATED_CLOSED (R47): SEATED has read closed for 2 ms; this is one of the two conditions that start INSPECT. -/
  | seatedClosed
  /-- SEATED_OPEN (R47): The short contacts break and SEATED opens; if INSPECT is running, it is abandoned. -/
  | seatedOpen
  /-- REMOVAL_DECLARED (R47): SEATED has read open for 5 µs: the removal line drives every output off, the load is shed and SYS_REMOVAL is raised. -/
  | removalDeclared
  /-- HOLDUP_COMMIT_DONE (R48): The hold-up commit ends; SEATED and VMAIN then decide between HALT cause 0x0A, a new INSPECT and WATCH. With `cut`, the store ran out within that record (R49). -/
  | holdupCommitDone (cut : Option (BitVec 8) := none)
  /-- INSPECT_START (R41): INSPECT starts within 5 ms of VMAIN valid and SEATED closed, with the mode hold applied. -/
  | inspectStart
  /-- INSPECT_END (R42): INSPECT completes: the record is committed, saved configuration takes effect and the module enters HALT. -/
  | inspectEnd (failures : List (BitVec 16)) (notes : List (BitVec 16)) (alive : BitVec 14)
  /-- FRAME_BOUNDARY (R86): At a major frame boundary the module checks the copy CRC, switches copy, applies the mode transition, re-admits elastic tasks and issues the frame-start word. -/
  | frameBoundary (peer : Option Machine.Peer) (mismatch : Bool)
  /-- HALT_ENTER (R35): A HALT decision reaches the timebase; the mode hold applies within 14 ns and a block under way stops without a commit. -/
  | haltEnter (cause : BitVec 8) (inc : BitVec 16)
  /-- STOP_T_EXPIRY (R36): STOP_T elapses during a controlled stop, and the module enters DEPOT at the next boundary. -/
  | stopTExpiry
  /-- DEPART_TIMEOUT (R37): DEPART_T expires before RUN; DEPART_TIMEOUT is raised and the module returns to DEPOT. -/
  | departTimeout
  /-- MODE_REQ_INSPECT (R34): The host requests INSPECT through SYS_MODE_REQ. -/
  | modeReqInspect
  /-- MODE_REQ_HALT (R35): The host requests HALT, which is never held. -/
  | modeReqHalt
  /-- MODE_REQ_DEPOT (R36): The host requests DEPOT; from RUN this starts a controlled stop, held while ride-through is active. -/
  | modeReqDepot
  /-- MODE_REQ_SHUNT (R34): The host requests SHUNT, with KEY 0x3C96. -/
  | modeReqShunt
  /-- MODE_REQ_DEPART (R34): The host requests DEPART. -/
  | modeReqDepart
  /-- MODE_REQ_RUN (R34): The host requests RUN, which is taken once every departure program is ready. -/
  | modeReqRun
  /-- SHUNT_GO (R33): The host sets SYS_SHUNT.GO, and limited generators run N periods. -/
  | shuntGo
  /-- SHUNT_STEP_END (R33): A limited generator ends its N-th period and holds its outputs inactive; GO clears when every limited generator has done so. -/
  | shuntStepEnd (g : Fin 32)
  /-- REGISTER_WRITE (R58): A host write to a register that has no row of its own is decided by the access table. With `race`, hardware updates of that register meet the write (R63). -/
  | registerWrite (k : Fin 4) (addr : BitVec 25) (v : BitVec 64) (race : Option Machine.Race := none)
  /-- ALIAS_SET_WRITE (R56): A write to the SET alias sets each bit written as 1, as an atomic read-modify-write. -/
  | aliasSetWrite (k : Fin 4) (addr : BitVec 22) (v : BitVec 64)
  /-- ALIAS_CLEAR_WRITE (R56): A write to the CLEAR alias clears each bit written as 1, atomically. -/
  | aliasClearWrite (k : Fin 4) (addr : BitVec 22) (v : BitVec 64)
  /-- ALIAS_TOGGLE_WRITE (R56): A write to the TOGGLE alias inverts each bit written as 1, atomically. -/
  | aliasToggleWrite (k : Fin 4) (addr : BitVec 22) (v : BitVec 64)
  /-- LOW_WORD_READ (R58): A 32-bit read of the low word of a 64-bit register latches the high word for that initiator. -/
  | lowWordRead (addr : BitVec 22)
  /-- HIGH_WORD_READ (R58): A 32-bit read of the high word returns the latched word or the current word. -/
  | highWordRead (addr : BitVec 22)
  /-- SYS_MODE_READ (R67): A PCIe or SPI read of SYS_MODE in the normal window clears REFUSE. -/
  | sysModeRead
  /-- HOST_IRQ_EN_WRITE (R51): Setting an enable whose status bit is already 1 sends an interrupt message. -/
  | hostIrqEnWrite (v : BitVec 32)
  /-- HOST_ACCESS_COMPLETE (R52): A host register read completes within one host period. -/
  | hostAccessComplete (a : Machine.HostAccess)
  /-- BAR2_READ (R57): The host reads a BAR2 region, checked in order and drawn against the host yard budget. -/
  | bar2Read (k : Fin 4) (off : BitVec 28) (bad : Bool)
  /-- BAR2_WRITE (R57): The host writes a BAR2 region, checked in order and drawn against the host yard budget. -/
  | bar2Write (k : Fin 4) (off : BitVec 28) (v : BitVec 64)
  /-- BAR2_ACCESS_COMPLETE (R92): A queued BAR2 access completes within its bound of host periods. -/
  | bar2AccessComplete
  /-- BUDGET_PERIOD_START (R91): A budget period starts; delayed accesses are served first and the delay counter counts the period. -/
  | budgetPeriodStart (b : Fin 6)
  /-- PCIE_RESET (R532): PCIE_PERST rises and link training starts within 20 ms. -/
  | pcieReset
  /-- SPI_READ_32 (R53): An SPI request frame with CMD 0x0B reads 32 bits; `cmd` is the CMD received. -/
  | spiRead32 (addr : BitVec 32) (crc : BitVec 16) (cmd : BitVec 8 := 0x0B)
  /-- SPI_READ_64 (R53): An SPI request frame with CMD 0x0C reads 64 bits. -/
  | spiRead64 (addr : BitVec 32) (crc : BitVec 16)
  /-- SPI_WRITE_32 (R53): An SPI request frame with CMD 0x02 writes 32 bits. -/
  | spiWrite32 (addr : BitVec 32) (v : BitVec 32) (crc : BitVec 16)
  /-- SPI_WRITE_64 (R53): An SPI request frame with CMD 0x03 writes 64 bits. -/
  | spiWrite64 (addr : BitVec 32) (v : BitVec 64) (crc : BitVec 16)
  /-- SPI_STATUS (R53): An SPI status frame, CMD 0x05, returns the status and data of the transaction. -/
  | spiStatus
  /-- UART_READ_SYS_32 (R54): UART command 0x01 reads 4 bytes of the SYS block; `cmd` is the command received. -/
  | uartReadSys32 (arg : BitVec 16) (crc : BitVec 16) (cmd : BitVec 8 := 0x01)
  /-- UART_READ_SYS_64 (R54): UART command 0x02 reads 8 aligned bytes of the SYS block. -/
  | uartReadSys64 (arg : BitVec 16) (crc : BitVec 16)
  /-- UART_READ_INCIDENT (R54): UART command 0x10 reads one of the last 8 incident records. -/
  | uartReadIncident (arg : BitVec 16) (crc : BitVec 16)
  /-- VOTE_SCRUB (R62): Every 1 ms the triplicated fields are scrubbed. -/
  | voteScrub (e : Machine.Scrub)
  /-- CONFIG_SAVE (R536): A block's SAVE go bit stores its configuration as last written in MRAM. -/
  | configSave (b : Fin 9)
  /-- TTB_ARM (R94): Setting TTB_CTRL.ARM starts admission of the inactive copy. -/
  | ttbArm
  /-- ADMISSION_DONE (R81): Admission ends within 2 ms with a RESULT; a passing copy is armed. -/
  | admissionDone (regions : List (BitVec 32 × BitVec 32))
  /-- TTB_CANCEL (R95): Setting TTB_CTRL.CANCEL abandons admission or an armed switch. -/
  | ttbCancel
  /-- BLOCK_START (R73): At a block's start tick the engine sets its registers, takes the snapshot and begins the task. -/
  | blockStart (le : Fin 8) (entry : Fin 512) (lib : Option Machine.LibRun)
  /-- BLOCK_END (R17): At a block's end tick, the timebase applies the staged outputs if the commit-ready mark has crossed. -/
  | blockEnd (le : Fin 8)
  /-- COMMIT_DRAIN_COMPLETE (R107): A block's committed staged words finish draining to the yard, and waiting readers proceed. -/
  | commitDrainComplete (le : Fin 8)
  /-- CORE_SILENCE (R21): The core has answered no block end in 2 consecutive periods; the timebase asserts the silence lines and latches TB_CORE_SILENT. -/
  | coreSilence
  /-- CORE_ANSWERS_AGAIN (R21): The silent core answers again; CORE_SILENT is raised and the module enters HALT with cause 0x08. -/
  | coreAnswersAgain
  /-- GAUGE_READING (R101): Every 8 µs an engine's gauge is read and compared with t_adm and the floor. -/
  | gaugeReading (p : Fin 10) (r : Option (BitVec 16))
  /-- IM_LINE_REWRITE (R110): The loader finishes rewriting a failing IM line from the NOR bank. -/
  | imLineRewrite (le : Fin 8) (line : Fin 2048)
  /-- ROW_RETIRE_COPY_DONE (R111): The mirror copy of a retiring row completes and the spare replaces it. -/
  | rowRetireCopyDone
  /-- NOP (R125): No operation, 1 handshake. -/
  | nop (x : Issue)
  /-- ADD (R126): A + B modulo 2^32. -/
  | add (x : Issue) (d : Fin 32) (a : Fin 32) (b : Fin 32)
  /-- SUB (R126): A − B modulo 2^32. -/
  | sub (x : Issue) (d : Fin 32) (a : Fin 32) (b : Fin 32)
  /-- AND (R126): Bitwise AND. -/
  | and (x : Issue) (d : Fin 32) (a : Fin 32) (b : Fin 32)
  /-- OR (R126): Bitwise OR. -/
  | or (x : Issue) (d : Fin 32) (a : Fin 32) (b : Fin 32)
  /-- XOR (R126): Bitwise XOR. -/
  | xor (x : Issue) (d : Fin 32) (a : Fin 32) (b : Fin 32)
  /-- ANDN (R126): A AND NOT B. -/
  | andn (x : Issue) (d : Fin 32) (a : Fin 32) (b : Fin 32)
  /-- SHL (R126): Shift left by B[4:0]. -/
  | shl (x : Issue) (d : Fin 32) (a : Fin 32) (b : Fin 32)
  /-- SHR (R126): Logical shift right by B[4:0]. -/
  | shr (x : Issue) (d : Fin 32) (a : Fin 32) (b : Fin 32)
  /-- SAR (R126): Arithmetic shift right by B[4:0]. -/
  | sar (x : Issue) (d : Fin 32) (a : Fin 32) (b : Fin 32)
  /-- ADDS (R126): Saturating add. -/
  | adds (x : Issue) (d : Fin 32) (a : Fin 32) (b : Fin 32)
  /-- SUBS (R126): Saturating subtract. -/
  | subs (x : Issue) (d : Fin 32) (a : Fin 32) (b : Fin 32)
  /-- MIN (R126): Signed minimum. -/
  | min (x : Issue) (d : Fin 32) (a : Fin 32) (b : Fin 32)
  /-- MAX (R126): Signed maximum. -/
  | max (x : Issue) (d : Fin 32) (a : Fin 32) (b : Fin 32)
  /-- MINU (R126): Unsigned minimum. -/
  | minu (x : Issue) (d : Fin 32) (a : Fin 32) (b : Fin 32)
  /-- MAXU (R126): Unsigned maximum. -/
  | maxu (x : Issue) (d : Fin 32) (a : Fin 32) (b : Fin 32)
  /-- ABS (R126): Absolute value, with 0x8000_0000 giving 0x7FFF_FFFF. -/
  | abs (x : Issue) (d : Fin 32) (a : Fin 32)
  /-- MUL (R126): Low 32 bits of A × B. -/
  | mul (x : Issue) (d : Fin 32) (a : Fin 32) (b : Fin 32)
  /-- MULH (R126): High 32 bits of the signed product. -/
  | mulh (x : Issue) (d : Fin 32) (a : Fin 32) (b : Fin 32)
  /-- MULHU (R126): High 32 bits of the unsigned product. -/
  | mulhu (x : Issue) (d : Fin 32) (a : Fin 32) (b : Fin 32)
  /-- DIV (R127): Signed quotient, with the defined results for zero and overflow. -/
  | div (x : Issue) (d : Fin 32) (a : Fin 32) (b : Fin 32)
  /-- DIVU (R127): Unsigned quotient. -/
  | divu (x : Issue) (d : Fin 32) (a : Fin 32) (b : Fin 32)
  /-- REM (R127): Signed remainder. -/
  | rem (x : Issue) (d : Fin 32) (a : Fin 32) (b : Fin 32)
  /-- REMU (R127): Unsigned remainder. -/
  | remu (x : Issue) (d : Fin 32) (a : Fin 32) (b : Fin 32)
  /-- CLZ (R126): Count leading zeros. -/
  | clz (x : Issue) (d : Fin 32) (a : Fin 32)
  /-- SEL (R126): Integer select on a flag. -/
  | sel (x : Issue) (d : Fin 32) (a : Fin 32) (b : Fin 32) (c : Fin 8)
  /-- ADDI (R126): Add a sign-extended immediate. -/
  | addi (x : Issue) (d : Fin 32) (a : Fin 32) (imm : BitVec 16)
  /-- ANDI (R126): AND with a zero-extended immediate. -/
  | andi (x : Issue) (d : Fin 32) (a : Fin 32) (imm : BitVec 16)
  /-- ORI (R126): OR with a zero-extended immediate. -/
  | ori (x : Issue) (d : Fin 32) (a : Fin 32) (imm : BitVec 16)
  /-- XORI (R126): XOR with a zero-extended immediate. -/
  | xori (x : Issue) (d : Fin 32) (a : Fin 32) (imm : BitVec 16)
  /-- SHLI (R126): Shift left by an immediate. -/
  | shli (x : Issue) (d : Fin 32) (a : Fin 32) (imm : BitVec 5)
  /-- SHRI (R126): Logical shift right by an immediate. -/
  | shri (x : Issue) (d : Fin 32) (a : Fin 32) (imm : BitVec 5)
  /-- SARI (R126): Arithmetic shift right by an immediate. -/
  | sari (x : Issue) (d : Fin 32) (a : Fin 32) (imm : BitVec 5)
  /-- LUI (R126): Load the immediate into the upper half. -/
  | lui (x : Issue) (d : Fin 32) (imm : BitVec 16)
  /-- MULI (R126): Multiply by an immediate. -/
  | muli (x : Issue) (d : Fin 32) (a : Fin 32) (imm : BitVec 16)
  /-- LI_G (R126): Long form: load a 32-bit immediate into a g register. -/
  | liG (x : Issue) (d : Fin 32) (imm : BitVec 32)
  /-- ADDI32 (R126): Long form: add a 32-bit immediate. -/
  | addi32 (x : Issue) (d : Fin 32) (a : Fin 32) (imm : BitVec 32)
  /-- CMP (R128): Integer compare into a flag. -/
  | cmp (x : Issue) (cd : Fin 8) (cc : Fin 8) (a : Fin 32) (b : Fin 32)
  /-- CMPI (R128): Integer compare with an immediate into a flag. -/
  | cmpi (x : Issue) (cd : Fin 8) (cc : Fin 8) (a : Fin 32) (imm : BitVec 15)
  /-- FCMP (R128): FP compare into a flag. -/
  | fcmp (x : Issue) (cd : Fin 8) (cc : Fin 8) (a : Fin 32) (b : Fin 32)
  /-- FLAG_AND (R128): Flag function 0: AND of two flags. -/
  | flagAnd (x : Issue) (cd : Fin 8) (ca : Fin 8) (cb : Fin 8)
  /-- FLAG_OR (R128): Flag function 1: OR of two flags. -/
  | flagOr (x : Issue) (cd : Fin 8) (ca : Fin 8) (cb : Fin 8)
  /-- FLAG_XOR (R128): Flag function 2: XOR of two flags. -/
  | flagXor (x : Issue) (cd : Fin 8) (ca : Fin 8) (cb : Fin 8)
  /-- FLAG_ANDN (R128): Flag function 3: first flag AND NOT second. -/
  | flagAndn (x : Issue) (cd : Fin 8) (ca : Fin 8) (cb : Fin 8)
  /-- FLAG_COPY (R128): Flag function 4: copy a flag. -/
  | flagCopy (x : Issue) (cd : Fin 8) (ca : Fin 8)
  /-- FLAG_NOT (R128): Flag function 5: invert a flag. -/
  | flagNot (x : Issue) (cd : Fin 8) (ca : Fin 8)
  /-- FADD (R130): FP add. -/
  | fadd (x : Issue) (d : Fin 32) (a : Fin 32) (b : Fin 32)
  /-- FSUB (R130): FP subtract. -/
  | fsub (x : Issue) (d : Fin 32) (a : Fin 32) (b : Fin 32)
  /-- FMUL (R130): FP multiply. -/
  | fmul (x : Issue) (d : Fin 32) (a : Fin 32) (b : Fin 32)
  /-- FDIV (R130): FP divide. -/
  | fdiv (x : Issue) (d : Fin 32) (a : Fin 32) (b : Fin 32)
  /-- FSQRT (R130): FP square root. -/
  | fsqrt (x : Issue) (d : Fin 32) (a : Fin 32)
  /-- FMA (R130): Fused multiply-add. -/
  | fma (x : Issue) (d : Fin 32) (a : Fin 32) (b : Fin 32) (c : Fin 32)
  /-- FMS (R130): Fused multiply-subtract. -/
  | fms (x : Issue) (d : Fin 32) (a : Fin 32) (b : Fin 32) (c : Fin 32)
  /-- FNMA (R130): Negated fused multiply-add. -/
  | fnma (x : Issue) (d : Fin 32) (a : Fin 32) (b : Fin 32) (c : Fin 32)
  /-- FMIN (R130): FP minimum. -/
  | fmin (x : Issue) (d : Fin 32) (a : Fin 32) (b : Fin 32)
  /-- FMAX (R130): FP maximum. -/
  | fmax (x : Issue) (d : Fin 32) (a : Fin 32) (b : Fin 32)
  /-- FABS (R130): Clear the sign bit. -/
  | fabs (x : Issue) (d : Fin 32) (a : Fin 32)
  /-- FNEG (R130): Invert the sign bit. -/
  | fneg (x : Issue) (d : Fin 32) (a : Fin 32)
  /-- FCLAMP (R130): Clamp between two bounds; a NaN gives the lower bound. -/
  | fclamp (x : Issue) (d : Fin 32) (a : Fin 32) (b : Fin 32) (c : Fin 32)
  /-- FSEL (R130): FP select on a flag. -/
  | fsel (x : Issue) (d : Fin 32) (a : Fin 32) (b : Fin 32) (c : Fin 8)
  /-- FCVT_S_W (R130): Signed integer to FP. -/
  | fcvtSW (x : Issue) (d : Fin 32) (a : Fin 32)
  /-- FCVT_S_WU (R130): Unsigned integer to FP. -/
  | fcvtSWu (x : Issue) (d : Fin 32) (a : Fin 32)
  /-- FCVT_W_S (R131): FP to signed integer, with saturation. -/
  | fcvtWS (x : Issue) (d : Fin 32) (a : Fin 32)
  /-- FMV_F_G (R130): Move bits from a g register to an f register. -/
  | fmvFG (x : Issue) (d : Fin 32) (a : Fin 32)
  /-- FMV_G_F (R130): Move bits from an f register to a g register. -/
  | fmvGF (x : Issue) (d : Fin 32) (a : Fin 32)
  /-- FXS (R130): Read the FPX sticky flags. -/
  | fxs (x : Issue) (d : Fin 32)
  /-- LI_F (R130): Long form: load a 32-bit immediate into an f register. -/
  | liF (x : Issue) (d : Fin 32) (imm : BitVec 32)
  /-- LD (R133): Load from DM into a g register. -/
  | ld (x : Issue) (d : Fin 32) (a : Fin 32) (imm : BitVec 16)
  /-- LDF (R133): Load from DM into an f register. -/
  | ldf (x : Issue) (d : Fin 32) (a : Fin 32) (imm : BitVec 16)
  /-- ST (R133): Journalled store of a g register to DM. -/
  | st (x : Issue) (d : Fin 32) (a : Fin 32) (imm : BitVec 16)
  /-- STF (R133): Journalled store of an f register to DM. -/
  | stf (x : Issue) (d : Fin 32) (a : Fin 32) (imm : BitVec 16)
  /-- LDY (R133): Load from the yard into a g register, own staged value first. -/
  | ldy (x : Issue) (d : Fin 32) (a : Fin 32) (imm : BitVec 16)
  /-- LDYF (R133): Load from the yard into an f register. -/
  | ldyf (x : Issue) (d : Fin 32) (a : Fin 32) (imm : BitVec 16)
  /-- STY (R133): Stage a yard write from a g register. -/
  | sty (x : Issue) (d : Fin 32) (a : Fin 32) (imm : BitVec 16)
  /-- STYF (R133): Stage a yard write from an f register. -/
  | styf (x : Issue) (d : Fin 32) (a : Fin 32) (imm : BitVec 16)
  /-- LDT (R133): Load a table word into a g register. -/
  | ldt (x : Issue) (d : Fin 32) (a : Fin 32) (tbl : Fin 64) (word : Fin 1024)
  /-- LDTF (R133): Load a table word into an f register. -/
  | ldtf (x : Issue) (d : Fin 32) (a : Fin 32) (tbl : Fin 64) (word : Fin 1024)
  /-- STT (R133): Stage a table write from a g register. -/
  | stt (x : Issue) (d : Fin 32) (a : Fin 32) (tbl : Fin 64) (word : Fin 1024)
  /-- STTF (R133): Stage a table write from an f register. -/
  | sttf (x : Issue) (d : Fin 32) (a : Fin 32) (tbl : Fin 64) (word : Fin 1024)
  /-- LDYB (R133): Copy up to 64 yard words into DM, each journalled. -/
  | ldyb (x : Issue) (d : Fin 32) (a : Fin 32) (nm1 : Fin 64)
  /-- STYB (R133): Stage up to 64 DM words as yard writes. -/
  | styb (x : Issue) (d : Fin 32) (a : Fin 32) (nm1 : Fin 64)
  /-- LDY_ABS (R133): Long form: yard load into a g register at an absolute address. -/
  | ldyAbs (x : Issue) (d : Fin 32) (imm : BitVec 32)
  /-- LDYF_ABS (R133): Long form: yard load into an f register at an absolute address. -/
  | ldyfAbs (x : Issue) (d : Fin 32) (imm : BitVec 32)
  /-- STY_ABS (R133): Long form: stage a yard write from a g register at an absolute address. -/
  | styAbs (x : Issue) (d : Fin 32) (imm : BitVec 32)
  /-- STYF_ABS (R133): Long form: stage a yard write from an f register at an absolute address. -/
  | styfAbs (x : Issue) (d : Fin 32) (imm : BitVec 32)
  /-- BT (R137): Forward branch when the flag is 1. -/
  | bt (x : Issue) (c : Fin 8) (off : BitVec 22)
  /-- BF (R137): Forward branch when the flag is 0. -/
  | bf (x : Issue) (c : Fin 8) (off : BitVec 22)
  /-- REP (R138): Run the following body COUNT times. -/
  | rep (x : Issue) (len : Fin 1024) (count : BitVec 16)
  /-- BRK (R138): Conditionally end the innermost open rep. -/
  | brk (x : Issue) (sense : Bool) (c : Fin 8)
  /-- CALL (R139): Push the return address and call a listed function. -/
  | call (x : Issue) (tgt : BitVec 14)
  /-- RET (R139): Return to the popped address. -/
  | ret (x : Issue)
  /-- SW (R140): Switch to the entry selected by an index. -/
  | sw (x : Issue) (a : Fin 32) (nm1 : Fin 64)
  /-- LOOP_STEP (R174): Step a loop unit with an input and a feed-forward. -/
  | loopStep (x : Issue) (d : Fin 32) (a : Fin 32) (b : Fin 32) (u : Fin 128)
  /-- LOOP_STEP_DIFF (R174): Step a loop unit on the difference of two inputs. -/
  | loopStepDiff (x : Issue) (d : Fin 32) (a : Fin 32) (b : Fin 32) (u : Fin 128)
  /-- LOOP_TRACK (R178): Force a unit's output and recompute its state for a bumpless reclose. -/
  | loopTrack (x : Issue) (d : Fin 32) (a : Fin 32) (b : Fin 32) (u : Fin 128)
  /-- LOOP_PEEK (R152): Read a unit's staged or committed output. -/
  | loopPeek (x : Issue) (d : Fin 32) (u : Fin 128)
  /-- LOOP_STATUS (R152): Read a unit's status word. -/
  | loopStatus (x : Issue) (d : Fin 32) (u : Fin 128)
  /-- XFM_CLARKE (R153): Clarke transform. -/
  | xfmClarke (x : Issue) (d : Fin 32) (a : Fin 32) (b : Fin 32) (u : Fin 4)
  /-- XFM_ICLARKE (R153): Inverse Clarke transform. -/
  | xfmIclarke (x : Issue) (d : Fin 32) (a : Fin 32) (b : Fin 32) (u : Fin 4)
  /-- XFM_PARK (R153): Park transform. -/
  | xfmPark (x : Issue) (d : Fin 32) (a : Fin 32) (b : Fin 32) (u : Fin 4)
  /-- XFM_IPARK (R153): Inverse Park transform. -/
  | xfmIpark (x : Issue) (d : Fin 32) (a : Fin 32) (b : Fin 32) (u : Fin 4)
  /-- XFM_ABC2DQ (R153): abc to dq transform. -/
  | xfmAbc2dq (x : Issue) (d : Fin 32) (a : Fin 32) (b : Fin 32) (u : Fin 4)
  /-- XFM_DQ2ABC (R153): dq to abc transform. -/
  | xfmDq2abc (x : Issue) (d : Fin 32) (a : Fin 32) (b : Fin 32) (u : Fin 4)
  /-- XFM_SINCOS (R153): Sine and cosine. -/
  | xfmSincos (x : Issue) (d : Fin 32) (a : Fin 32) (b : Fin 32) (u : Fin 4)
  /-- XFM_ATAN2 (R153): Angle and magnitude of a vector. -/
  | xfmAtan2 (x : Issue) (d : Fin 32) (a : Fin 32) (b : Fin 32) (u : Fin 4)
  /-- XFM_SEQ (R153): Positive and negative sequence separation. -/
  | xfmSeq (x : Issue) (d : Fin 32) (a : Fin 32) (b : Fin 32) (u : Fin 4)
  /-- XFM_WRAP (R153): Reduce an angle to (−π, π]. -/
  | xfmWrap (x : Issue) (d : Fin 32) (a : Fin 32) (b : Fin 32) (u : Fin 4)
  /-- SEL_SELECTION (R155): Rank cells and stage the insertion selection of the named arms. -/
  | selSelection (x : Issue) (d : Fin 32) (a : Fin 32) (b : Fin 32) (n : Fin 32)
  /-- PWST (R157): Stage a consist field of a generator or group. -/
  | pwst (x : Issue) (grp : Bool) (frac : Bool) (a : Fin 32) (inst : Fin 32) (field : Fin 32)
  /-- SVRD_NEAREST (R159): Read the SV sample at or before an instant. -/
  | svrdNearest (x : Issue) (d : Fin 32) (a : Fin 32) (q : Fin 32) (stream : Fin 32) (chan : Fin 32)
  /-- SVRD_INTERP (R159): Read an SV value interpolated at an instant. -/
  | svrdInterp (x : Issue) (d : Fin 32) (a : Fin 32) (q : Fin 32) (stream : Fin 32) (chan : Fin 32)
  /-- LNX_CMD (R160): Stage a cell's fast command slot. -/
  | lnxCmd (x : Issue) (a : Fin 32) (b : Fin 32) (port : Fin 16)
  /-- LNX_RESP (R160): Read a cell's last valid fast response. -/
  | lnxResp (x : Issue) (d : Fin 32) (a : Fin 32) (port : Fin 16)
  /-- LNX_RSTAT (R160): Read the cycles since a cell's last response. -/
  | lnxRstat (x : Issue) (d : Fin 32) (a : Fin 32) (port : Fin 16)
  /-- LNX_APPLY (R160): Stage the apply offset of the delivery cycle. -/
  | lnxApply (x : Issue) (b : Fin 32) (port : Fin 16)
  /-- LNX_ARM (R160): Stage an arm's template for every cell, with INS from the selection. -/
  | lnxArm (x : Issue) (a : Fin 32) (b : Fin 32) (port : Fin 16)
  /-- LNX_SLOW (R160): Queue a slow-channel request for a cell. -/
  | lnxSlow (x : Issue) (a : Fin 32) (b : Fin 32) (port : Fin 16)
  /-- MACC (R162): Stage a metering sample set for a point. -/
  | macc (x : Issue) (mp : Fin 4) (a : Fin 32) (b : Fin 32)
  /-- EVT_FAULT (R163): Stage a fault-source report, raised at the commit point. -/
  | evtFault (x : Issue) (code : BitVec 8) (a : Fin 32)
  /-- EVT_READY (R163): Stage the departure ready event. -/
  | evtReady (x : Issue) (a : Fin 32)
  /-- EVT_STOPPED (R163): Stage the stopped event of a controlled stop. -/
  | evtStopped (x : Issue) (a : Fin 32)
  /-- HPOST (R164): Stage a host mailbox post. -/
  | hpost (x : Issue) (mbx : Fin 8) (a : Fin 32) (b : Fin 32)
  /-- CMT (R166): End the task's execution in the block and send the commit-ready mark. -/
  | cmt (x : Issue)
  /-- WAIT_DELAY (R167): Wait exactly W ticks. -/
  | waitDelay (x : Issue) (d : Fin 32) (n : Fin 16) (w : BitVec 13)
  /-- WAIT_ADC (R167): Wait until a logical core's ADC sequence is readable. -/
  | waitAdc (x : Issue) (d : Fin 32) (n : Fin 16) (w : BitVec 13)
  /-- WAIT_ARM_CAPTURE (R167): Arm a capture unit, then wait for its capture. -/
  | waitArmCapture (x : Issue) (d : Fin 32) (n : Fin 16) (w : BitVec 13)
  /-- WAIT_CAPTURE (R167): Wait for a capture unit that was armed elsewhere. -/
  | waitCapture (x : Issue) (d : Fin 32) (n : Fin 16) (w : BitVec 13)
  /-- WAIT_RELOAD (R167): Wait for a reload of a service's PWM group. -/
  | waitReload (x : Issue) (d : Fin 32) (n : Fin 16) (w : BitVec 13)
  /-- WAIT_COMPARATOR (R167): Wait for a comparator event route. -/
  | waitComparator (x : Issue) (d : Fin 32) (n : Fin 16) (w : BitVec 13)
  /-- WAIT_RING_CYCLE (R167): Wait for a ring port's cycle complete. -/
  | waitRingCycle (x : Issue) (d : Fin 32) (n : Fin 16) (w : BitVec 13)
  /-- WAIT_RELEASE (R167): A wait releases on its event or bound, and the result is written to gD. -/
  | waitRelease (le : Fin 8)
  /-- LU_REQ_OPEN (R179): The host requests OPEN for a loop unit. -/
  | luReqOpen (u : Fin 96)
  /-- LU_REQ_HELD (R179): The host requests HELD for a loop unit. -/
  | luReqHeld (u : Fin 96)
  /-- LU_REQ_CLOSED (R180): The host requests CLOSED for a loop unit. -/
  | luReqClosed (u : Fin 96)
  /-- LU_SNAP (R185): The SNAP go bit latches OUT and state in one instant. -/
  | luSnap (u : Fin 96)
  /-- LOCK_DECLARED (R191): The phase error stays within LOCK_WIN for LOCK_N cycles; the clock is LOCKED and ticks resume. -/
  | lockDeclared (run : Machine.PhaseRun)
  /-- LOSS_OF_LOCK (R191): The phase error exceeds 4 × LOCK_WIN on 4 compare cycles. -/
  | lossOfLock (run : Machine.PhaseRun)
  /-- LOSS_OF_REFERENCE (R191): The selected reference has given no edge, pulse or Sync within its limit. -/
  | lossOfReference (l : Machine.RefLoss)
  /-- REFERENCE_RETURN (R196): The reference returns or SRC changes, and the clock enters REACQUIRE. -/
  | referenceReturn
  /-- FREQUENCY_REACQUIRED (R196): Frequency is reacquired; CLK_TERR is recorded and the clock steps or starts SLEWING. -/
  | frequencyReacquired (run : Machine.FreqRun)
  /-- DIVIDER_APPLY (R198): A pending divider pair is applied on the first compare edge after the boundary, or DIV_BAD is set. `edges` are the timebase cycles that fall short meanwhile (R195). -/
  | dividerApply (edges : List (BitVec 16) := [])
  /-- PTP_SYNC (R200): A PTP Sync is taken and the servo computes the offset and frequency correction. -/
  | ptpSync (port : Fin 4) (f : Machine.PtpSync)
  /-- PPS_PULSE (R200): A PPS_IN edge drives the servo with the nanoseconds of the time of day. -/
  | ppsPulse
  /-- PTP_ANNOUNCE (R201): An Announce is received and the default BMCA runs. -/
  | ptpAnnounce (port : Fin 4) (a : Machine.Announce)
  /-- PDELAY_EXCHANGE (R201): Each 1 s, peer delay is measured on every enabled port. -/
  | pdelayExchange (port : Fin 4) (delay : BitVec 32)
  /-- CLK_STEP_CMD (R197): The host sets CLK_CTRL.STEP to step by −CLK_TERR at the next boundary. -/
  | clkStepCmd
  /-- CLK_SET (R197): The host sets CLK_CTRL.SET to set the time of day under the step rule. -/
  | clkSet
  /-- CLK_SNAP (R203): The host sets CLK_CTRL.SNAP to latch the time of day and CLK_TERR. -/
  | clkSnap
  /-- SV_FRAME_RECEIVED (R213): An SV frame is matched to a subscription and its samples are placed in the platform. -/
  | svFrameReceived (p : Fin 4) (f : Machine.SvFrame)
  /-- SV_SLOT_TIMEOUT (R216): The time of day passes t_s + MAXDLY and the slot is declared missing. -/
  | svSlotTimeout (n : Fin 32)
  /-- SV_PUBLICATION_SEND (R221): An SV publication frame is built and sent after its last sample instant. -/
  | svPublicationSend (k : Fin 4)
  /-- GOOSE_FRAME_RECEIVED (R223): A GOOSE frame is matched, ordered and stored in the received-dataset table. -/
  | gooseFrameReceived (p : Fin 4) (f : Machine.GsFrame)
  /-- GOOSE_TAL_EXPIRY (R223): No frame is taken within timeAllowedToLive; the subscription is lost. -/
  | gooseTalExpiry (n : Fin 64)
  /-- GOOSE_RETRANSMIT (R228): A GOOSE publication is retransmitted at its doubling interval. -/
  | gooseRetransmit (k : Fin 32)
  /-- PB_GPUB_SEND (R228): The host sets a send bit to compare and publish a host-owned row. -/
  | pbGpubSend (k : Fin 32)
  /-- SUPERVISION_FRAME_SEND (R207): A PRP or HSR supervision frame is sent every 2 s. -/
  | supervisionFrameSend (p : Fin 4)
  /-- LAN_SUPERVISION_TIMEOUT (R209): A port has received no tagged frame for 3 s while its partner has; it is declared lost. -/
  | lanSupervisionTimeout (p : Fin 4)
  /-- PB_LINK_DOWN (R231): A process-bus port's link goes down. -/
  | pbLinkDown (p : Fin 4)
  /-- TRIGGER_FIRE (R236): An AFE trigger line fires at its generator's TRIG tick and starts sequences, or is refused. -/
  | triggerFire (t : Fin 8)
  /-- SEQUENCE_COMPLETE (R237): A sequence becomes readable in the sample table and latches the ADC wait event. -/
  | sequenceComplete (c : Fin 4) (codes : List (BitVec 16))
  /-- DRIFT_CHECK (R243): Once per second a core converts VREF and is checked for drift. -/
  | driftCheck (core : Fin 5) (dev : Option (BitVec 32))
  /-- OWTEST (R244): The host starts the open-wire test. -/
  | owtest
  /-- OPEN_WIRE_DONE (R244): The open-wire test ends; OW_RES is set and AFE_OPEN may be raised. -/
  | openWireDone (readings : List (Fin 24 × BitVec 32))
  /-- CMPTEST (R251): The host starts the comparator offset test. -/
  | cmptest
  /-- CMP_TEST_DONE (R251): The offset test ends and failing comparators are marked. -/
  | cmpTestDone (offsets : List (Fin 28 × BitVec 32))
  /-- COMPARATOR_CROSSING (R249): A comparator input crosses its band and drives its routes. -/
  | comparatorCrossing (n : Fin 24) (pn : BitVec 32)
  /-- PWM_RELOAD (R264): At a period start a generator applies its consist, handles short pulses and carries, and counts the period. -/
  | pwmReload (g : Fin 34)
  /-- FAULT_LINE_REQUEST (R274): A request reaches a fault line; its action applies within 14 ns and ring ports block. -/
  | faultLineRequest (l : Fin 32) (r : Machine.Req)
  /-- FAULT_LINE_RELEASE (R277): A line's last request is withdrawn and the line is not latched; it releases. -/
  | faultLineRelease (l : Fin 32) (r : Machine.Req)
  /-- GENERATOR_RESUME (R277): A released generator resumes at its first reload at least 64 ns later. -/
  | generatorResume (g : Fin 34)
  /-- PWM_FL_HOST (R273): A host write to PWM_FL_HOST requests or withdraws fault lines. -/
  | pwmFlHost (v : BitVec 32)
  /-- FL_LATCH_CLEAR (R273): The host clears LATCHED, and the line releases if no request stands. -/
  | flLatchClear (l : Fin 32)
  /-- CAPTURE_EDGE (R280): A capture unit records an edge, increments SEQ, sets NEW and latches its wait event. -/
  | captureEdge (u : Fin 16) (rising : Bool)
  /-- CAP_ARM (R280): The host arms a one-shot capture unit. -/
  | capArm (u : Fin 16)
  /-- GATE_COMMAND_RISE (R296): A rising command edge at a gate die may clear a latch, or be refused as both-on. -/
  | gateCommandRise (ch : Fin 24)
  /-- BOTH_OFF_WINDOW_END (R298): Both commands have been inactive together for 20 ns; the episode ends and the request is withdrawn. -/
  | bothOffWindowEnd (hb : Fin 12)
  /-- DESAT_DETECT (R292): Desaturation asserts: soft turn-off, partner held off, latch and fault-line request. -/
  | desatDetect (d : Machine.DesatSense)
  /-- DIDT_DETECT (R292): The di/dt detector asserts, with the same actions as desaturation. -/
  | didtDetect (d : Machine.DidtSense)
  /-- SUPPLY_CHECK_FAIL (R293): A UVLO, VN or reversal check fails; the channel is held off and latches in SHUNT, DEPART and RUN. -/
  | supplyCheckFail (ch : Fin 24) (c : Machine.SupplySense)
  /-- SUPPLY_CHECK_PASS (R287): A failed supply check passes again with hysteresis. -/
  | supplyCheckPass (ch : Fin 24) (c : Machine.SupplySense)
  /-- SOFT_TURNOFF_DONE (R292): OUT falls below COM + 2 V or 10 µs pass: sink changes to SNK2, clamp engages, and the request is withdrawn once the condition is gone. -/
  | softTurnoffDone (ch : Fin 24)
  /-- GD_CLEAR (R296): The host clears a latched channel, refused if its condition is still present. -/
  | gdClear (ch : Fin 24)
  /-- GATE_LINK_LOSS (R300): A die receives no valid link frame for 1 µs and turns off and latches its channels. -/
  | gateLinkLoss (die : Fin 6)
  /-- GATE_LINK_RETURN (R300): The link of a gate die returns. -/
  | gateLinkReturn (die : Fin 6)
  /-- CAN_VCMD_RECEIVED (R365): A VCMD frame is written to its row and acknowledged. -/
  | canVcmdReceived (c : Fin 2) (port : Fin 4) (data : List (BitVec 8))
  /-- CAN_BMS_RECEIVED (R365): A BMS frame is written to its row and acknowledged. -/
  | canBmsReceived (c : Fin 2) (port : Fin 4) (data : List (BitVec 8))
  /-- CAN_ACK_SEND (R365): A staged ACK message is queued at the commit point and sent. -/
  | canAckSend (c : Fin 2) (port : Fin 4)
  /-- CAN_STATUS_SEND (R365): A staged STATUS message is sent. -/
  | canStatusSend (c : Fin 2) (port : Fin 4)
  /-- CAN_FAULT_SEND (R365): A staged FAULT message is sent. -/
  | canFaultSend (c : Fin 2) (port : Fin 4)
  /-- CAN_BUS_OFF (R364): A controller enters bus-off and raises CAN_BUSOFF. -/
  | canBusOff (c : Fin 2)
  /-- CAN_BUSOFF_RECOVERY (R364): After 128 occurrences of 11 recessive bits the controller recovers. -/
  | canBusoffRecovery (c : Fin 2)
  /-- RING_CYCLE_START (R399): A port's fast frame leaves its TX at the cycle-start tick, blocked if required. -/
  | ringCycleStart (p : Fin 16)
  /-- CYCLE_COMPLETE (R401): A cycle completes: responses are taken, the cell table is written and the wait event occurs. -/
  | cycleComplete (p : Fin 16) (fa : Option Machine.RingFrame) (fb : Option Machine.RingFrame)
  /-- SLOW_FRAME_RETURN (R413): A slow frame returns and is matched to its request, with retries or errors. -/
  | slowFrameReturn (p : Fin 16) (origin : Machine.SlowOrigin) (f : Option Machine.SlowFrame)
  /-- LN_TRAIN (R402): The host starts the training of a ring port. -/
  | lnTrain (p : Fin 16)
  /-- TRAINING_COMPLETE (R402): Training ends in RUN, or fails with a code. -/
  | trainingComplete (p : Fin 16) (r : Machine.TrainResult)
  /-- TRAINING_STEP_TIMEOUT (R404): A training step overruns its time and training fails with CODE 0x0A. -/
  | trainingStepTimeout (p : Fin 16)
  /-- LN_HOST_REQUEST (R415): The host sets HREQ.GO to read or write one cell point. -/
  | lnHostRequest (p : Fin 16) (wr : Bool) (point : BitVec 8) (pos : Fin 512)
  /-- DEMAND_INTERVAL_END (R426): A demand interval ends; the demand values and netting are updated. -/
  | demandIntervalEnd (n : Fin 4)
  /-- METER_MRAM_COMMIT (R428): Every second the metering registers are committed to MRAM. -/
  | meterMramCommit
  /-- MTR_SNAP (R427): The host takes a snapshot of a point's registers. -/
  | mtrSnap (n : Fin 4)
  /-- MTR_CLR (R427): The host requests a keyed clear of a point. -/
  | mtrClr (n : Fin 4) (key : BitVec 16)
  /-- PULSE_OUTPUT_START (R434): A queued pulse starts on a pulse output. -/
  | pulseOutputStart (n : Fin 8)
  /-- PULSE_INPUT_ACCEPT (R436): A debounced level is accepted and a count or wiring fault is recorded. -/
  | pulseInputAccept (n : Fin 8) (r : Machine.PiReading)
  /-- SAFE_INPUT_CHANGE (R444): A safe input channel's level is accepted, and the pair reads demand or release. -/
  | safeInputChange (n : Fin 16) (b : Bool) (level : Bool)
  /-- DISCREPANCY_TIMEOUT (R444): T_DISC passes without the second channel; a discrepancy fault is raised. -/
  | discrepancyTimeout (n : Fin 16)
  /-- TEST_PULSE_CHECK (R445): A test pulse is sent and its channels are checked for a wiring fault. -/
  | testPulseCheck (t : Fin 4) (low : List (Fin 32))
  /-- FB_RESET (R446): A valid reset pulse releases a manual-restart function block. -/
  | fbReset (k : Fin 16)
  /-- STOP1_DELAY_END (R447): T1 of a category 1 e-stop passes and the result turns to demand. -/
  | stop1DelayEnd (k : Fin 16)
  /-- MUTING_TIMEOUT (R448): Muting reaches T1 and ends. -/
  | mutingTimeout (k : Fin 16)
  /-- OFF_DELAY_END (R451): OFF_DLY passes and a safe output turns off. -/
  | offDelayEnd (j : Fin 4)
  /-- EDM_TIMEOUT (R451): EDM does not follow within EDM_T, and an EDM fault turns the output off. -/
  | edmTimeout (j : Fin 4)
  /-- DARK_PULSE_TEST (R451): Every 200 ms each switch of an on output is dark-pulse tested. -/
  | darkPulseTest (failed : List (Fin 4))
  /-- CHANNEL_COMPARE (R441): Every 1 ms the channels compare, and a lasting disagreement causes lockout. -/
  | channelCompare (agree : Bool) (selfTest : Bool)
  /-- STOP_SIGNAL (R452): A severity 7 stop signal acts as a demand on every output. -/
  | stopSignal (active : Bool)
  /-- TOKEN_PRODUCE (R455): Every T_PROD the Interlocking forms a Token frame and hands it to its carrier. -/
  | tokenProduce (c : Fin 16)
  /-- TOKEN_FRAME_RECEIVED (R456): A consumed Token frame is checked and accepted, ignored or failed. -/
  | tokenFrameReceived (c : Fin 16) (frame : List (BitVec 8))
  /-- TOKEN_WATCHDOG (R456): T_WD passes without an accepted frame; the connection fails. -/
  | tokenWatchdog (c : Fin 16)
  /-- TOKEN_HOST_SLOT_READ (R458): Every 1 ms the Interlocking reads the host's consumed slots. -/
  | tokenHostSlotRead
  /-- SAFE_REQUEST_FETCH (R460): Every 10 ms the Interlocking fetches the request area. -/
  | safeRequestFetch
  /-- SAFE_CHECK (R460): CHECK command: validate a configuration image. -/
  | safeCheck
  /-- SAFE_APPLY (R462): APPLY command: check and write the change-log entry. -/
  | safeApply
  /-- APPLY_LOG_CONFIRMED (R462): The log writer confirms the entry and the configuration is replaced in one step. -/
  | applyLogConfirmed
  /-- SAFE_SETPW (R461): SETPW command: set a new password. -/
  | safeSetpw
  /-- SAFE_UNKNOWN_COMMAND (R460): A request with an undefined CMD is answered 0x08. -/
  | safeUnknownCommand
  /-- EDIT_LOCK_EXPIRY (R461): The 15 min edit lock after five failures ends. -/
  | editLockExpiry
  /-- SAFE_MIRROR_REFRESH (R465): Every 1 ms the SAFE mirror is rewritten as one update. -/
  | safeMirrorRefresh
  /-- KEEPER_COLD_START (R468): KST reaches 1.95 V and the Keeper logic starts; DARK passes to WATCH. -/
  | keeperColdStart
  /-- KST_READING (R470): KST is read, every 1 s or every 1 ms during a burst, and aborts or overruns are tested. -/
  | kstReading (mv : BitVec 16)
  /-- LAMP_POWER_OFF (R473): LAMP_PWR switches off 2 ms after an abort. -/
  | lampPowerOff
  /-- BURST_DECIDE (R472): A request at the head of the queue is granted or denied. -/
  | burstDecide (mv : BitVec 16)
  /-- BURST_DURATION_END (R473): A burst reaches D_b and ends. -/
  | burstDurationEnd
  /-- LAMP_PING (R481): Lamp-line PING is answered with STATUS. -/
  | lampPing (q : BitVec 8)
  /-- LAMP_BURST_REQ (R481): Lamp-line BURST_REQ queues a burst request. -/
  | lampBurstReq (q : BitVec 8) (cls : Fin 3) (energy : BitVec 32) (dur : BitVec 32)
  /-- LAMP_DONE (R481): Lamp-line DONE ends the burst. -/
  | lampDone (q : BitVec 8)
  /-- LAMP_READ_TAMP (R481): Lamp-line READ_TAMP returns a tamper entry. -/
  | lampReadTamp (q : BitVec 8) (index : BitVec 8)
  /-- STATUS_REPORT_SEND (R481): 50 ms after an XMIT grant for a report, the Keeper sends STATUS. -/
  | statusReportSend
  /-- WAKE_TIMER (R475): The wake timer expires and issues a report or WAKE request. -/
  | wakeTimer
  /-- TAMPER_INPUT_ACCEPT (R477): A tamper edge is accepted, an entry written and a WAKE possibly requested. -/
  | tamperInputAccept (e : Machine.TamperEdge)
  /-- KEEPER_RECORD_WRITE (R478): The Keeper writes its MRAM slot. -/
  | keeperRecordWrite
  /-- RTC_WRITE (R476): The module writes the RTC each second, and a pending dark interval is reported. -/
  | rtcWrite
  /-- DARKNESS_SEQUENCE (R479): KST falls below KTH_DARK; the Keeper aborts, stops counting, writes its record and stops. -/
  | darknessSequence
  /-- FAULT_REPORT (R486): A report reaches the collector, is counted and its severity's reaction is applied. -/
  | faultReport
  /-- QUIET_EXPIRY (R495): QUIET_T passes since a source's last report; it settles and recovers or latches. -/
  | quietExpiry (src : BitVec 8)
  /-- GD_RECOVERY_END (R496): The 100 ms automatic recovery sequence of a gate channel ends. -/
  | gdRecoveryEnd (ch : Fin 24)
  /-- FLT_CLEAR (R497): The host clears one latched source. -/
  | fltClear (src : BitVec 8)
  /-- FLT_CLRALL (R497): The host clears every source and closes the incident. -/
  | fltClrall
  /-- FLT_CLRCNT (R500): The host zeroes every per-source counter. -/
  | fltClrcnt
  /-- OCCURRENCE_RECORD_WRITE (R494): The log writer writes an incident, violation or last-fault record to MRAM. -/
  | occurrenceRecordWrite
  /-- SID_SUB (R504): The host requests substitution of a named unit. -/
  | sidSub (unit : BitVec 8)
  /-- SID_ABORT (R507): The host abandons the substitution under way. -/
  | sidAbort
  /-- SUBSTITUTION_COPY_DONE (R505): The reserve copy completes and the shadow frame follows. -/
  | substitutionCopyDone
  /-- GENERATOR_LOOPBACK_CHECK (R503): Every 10 s the generators are checked by loopback for wear. -/
  | generatorLoopbackCheck (bad : List (Fin 34))
  /-- NVM_ERASE (R509): Erase a sector of a bank. -/
  | nvmErase (bank : Bool) (sector : BitVec 17)
  /-- NVM_PROGRAM (R509): Program a page from the buffer and read it back. -/
  | nvmProgram (bank : Bool) (page : BitVec 17)
  /-- NVM_CHECK (R509): Check the directory and every image of a bank. -/
  | nvmCheck (bank : Bool)
  /-- NVM_ACTIVATE (R509): Check a bank and write the boot record naming it. -/
  | nvmActivate (bank : Bool)
  /-- NVM_ENROL (R511): Enrol a key slot under a signed authorisation. -/
  | nvmEnrol (slot : Fin 4)
  /-- NVM_REVOKE (R511): Revoke a key slot under a signed authorisation. -/
  | nvmRevoke (slot : Fin 4)
  /-- NVM_COMMAND_DONE (R509): An NVM command ends with its RESULT. -/
  | nvmCommandDone (readBack : Bool)
  /-- SNAPSHOT_SEND (R514): The lead sends the mirror-set snapshot on both heading lanes. -/
  | snapshotSend
  /-- SNAPSHOT_RECEIVED (R514): A snapshot is complete at the standby, or counted missing. -/
  | snapshotReceived (snap : Option Machine.Snapshot)
  /-- HALT_NOTICE_RECEIVED (R516): The standby receives the lead's HALT notice. -/
  | haltNoticeReceived (cause : BitVec 8)
  /-- HEADING_LANE_LOSS (R514): A heading lane loses lock and HL_LANE is raised. -/
  | headingLaneLoss (lane : Fin 2)
  /-- JTAG_INSTRUCTION (R524): A TAP instruction is loaded, refused outside HALT except BYPASS and IDCODE. -/
  | jtagInstruction (t : Machine.TapInstr)
  /-- GATE_COMMAND_FALL (R291): A falling command edge at a gate die's command input turns the channel off with its turn-off profile, ends the detectors' active interval and starts the both-off window. -/
  | gateCommandFall (ch : Fin 24)
  /-- EDM_INPUT_CHANGE (R451): An EDM input changes level; a change while the output is steady is an EDM fault that turns the output off and raises SAFE_EDM. -/
  | edmInputChange (j : Fin 4) (high : Bool)
  /-- SWITCH_READBACK_FAIL (R451): The continuous readback of a safe-output switch disagrees, the output turns off and SAFE_OUT is raised. -/
  | switchReadbackFail (j : Fin 4)
  /-- INTERLOCKING_SUPPLY_LOSS (R441): The Interlocking's own supply is lost and it enters lockout with STO active and safe outputs off. -/
  | interlockingSupplyLoss
  /-- APPLY_LOG_TIMEOUT (R462): The log writer has not confirmed the change-log entry within 100 ms, and APPLY ends with RESULT 0x06, leaving the configuration unchanged. -/
  | applyLogTimeout
  /-- HL_ACT_IN_CHANGE (R516): The peer's HL_ACT, read on HL_ACT_IN, changes; the standby notes when it found it inactive for the takeover decision. -/
  | hlActInChange (active : Bool)
  /-- PB_LINK_UP (R209): A process-bus port's link comes up with auto-negotiation complete, and PB_LINK reports it. -/
  | pbLinkUp (p : Fin 4)
  /-- PCIE_LINK_UP (R51): PCIe link training completes, or the link goes down, and HOST_LINK reports UP, WIDTH and SPEED. -/
  | pcieLinkUp (link : Option (Fin 3 × Fin 3 × Bool))
  /-- PDELAY_REQ_RECEIVED (R201): A peer's Pdelay_Req arrives on an enabled port, and the module answers as a two-step responder. -/
  | pdelayReqReceived (port : Fin 4)
  /-- PB_FRAME_DISCARD (R206): A frame that is not SV, GOOSE, PTP or supervision, or that has a bad FCS, arrives at a port and is discarded and counted. -/
  | pbFrameDiscard (p : Fin 4) (f : Machine.PbOther)
  /-- CAN_FRAME_DISCARD (R364): A CAN frame that is not an ISO FD base frame, or whose M is not VCMD or BMS, is discarded and counted in CAN_nn_DISC. -/
  | canFrameDiscard (c : Fin 2)
  /-- MODE_REQ_INVALID (R67): The host writes SYS_MODE_REQ.REQ with a code outside R34's table, which is refused with REFUSE 0x1 at the frame boundary. -/
  | modeReqInvalid (code : BitVec 4)
  /-- AFE_REFERENCE_SETTLED (R245): 200 µs after LP clears, the reference has settled, AFE_STAT.SETTLING clears and new sequences no longer carry SETTLE. -/
  | afeReferenceSettled
  deriving DecidableEq, Repr

end Sys2Proof
end

