-- ==== Sys2Proof/Machine/State.lean ====
section
/-! DEFINITION. State.lean: the state of the OC-8016M as plain data, the queue of waiting commands, the
reasons a step can stop, and the machine right after reset. The registers of BAR0 are one sparse store
keyed by their normal address (R66), the memories of BAR2 another (R57); what a key that is not listed
reads as is given once, in Ops.lean. Everything else the spec gives the module stands in typed fields. -/

namespace Sys2Proof.Machine

/-- A field of a register or table word: bits `hi` down to `lo` (R8). -/
structure Field where
  hi : Nat
  lo : Nat
  deriving DecidableEq, Repr

/-- The access codes of R10. -/
inductive Access where
  | rw | ro | wo | w1c | rb | rt | rtb
  deriving DecidableEq, Repr

/-- How a register's reset value is given: a number; a number plus the instance number; the value of
R118 for an engine's STAT; the rows of R490 for FLT_REACT, from row `first`; or a factory value. -/
inductive ResetRule where
  | val (v : Nat)
  | index (v : Nat)
  | engStat
  | react (first : Nat)
  | uid | band | mac
  deriving DecidableEq, Repr

/-- In which modes the host may write a register, as its chapter states (R58, reason 0x0A). -/
inductive WriteRule where
  | any
  | haltDepot
  | haltDepotIfChanged
  | sysShunt
  | modeReq
  | luOpen
  | pbCfg
  | afeCtrl
  | pwmPeriod
  | pwmConsist
  | pwmForce
  | lnTrain
  | mtrCtrl
  | ttbArm
  deriving DecidableEq, Repr

/-- One field of a register row. -/
structure FieldDef where
  hi : Nat
  lo : Nat
  acc : Access
  deriving DecidableEq, Repr

/-- One row of the register tables: `count` registers `stride` bytes apart from `base`, each with
`count2` sub-registers `stride2` apart; 64 bits wide when `wide`; `deferred` when a write takes effect
at the next frame boundary that follows it by at least 1 µs. -/
structure RegDef where
  base : Nat
  count : Nat
  stride : Nat
  count2 : Nat
  stride2 : Nat
  wide : Bool
  reset : ResetRule
  rule : WriteRule
  deferred : Bool
  fields : List FieldDef
  deriving DecidableEq, Repr

/-- A sparse store in canonical form: keys strictly rising, and no entry equal to what an unlisted
key reads as (see `Sys2Proof.Machine.SMap.get`). -/
abbrev SMap (α : Type) := List (Nat × α)

/-- What supplies the module (R29): DARK and WATCH cannot be read from SYS_MODE, so they are told
here; `on` is every mode from INSPECT to RUN, whose code is SYS_MODE.MODE. -/
inductive Power where
  | dark | watch | on
  deriving DecidableEq, Repr

/-- The eight modes of R29. -/
inductive Mode where
  | dark | watch | inspect | halt | depot | shunt | depart | run
  deriving DecidableEq, Repr

/-- The owner of a report (R486). -/
inductive Owner where
  | none
  | task (t : Nat)
  | engine (e : Nat)
  deriving DecidableEq, Repr

/-- A report on its way to the collector (R486): its source, information word, owner, and the tick
and time of day at which it arrived. -/
structure Report where
  src : Nat
  info : Word
  owner : Owner
  at' : Nat
  sec : Nat
  ns : Nat
  deriving DecidableEq, Repr

/-- A configuration write that the hardware does not use yet: until the frame boundary that
follows it by at least 1 µs, the register at `addr` acts with `old` (R67, R279, R302, R488, …). -/
structure HeldReg where
  addr : Nat
  old : DWord
  at' : Nat
  deriving DecidableEq, Repr

/-- The same for one byte of a configuration table in BAR2 (R211, R239, R405, R488). -/
structure HeldByte where
  addr : Nat
  old : Byte
  at' : Nat
  deriving DecidableEq, Repr

/-- A pending value of the rb and rtb fields of one register (R61): `mask` marks the bits written. -/
structure PendField where
  addr : Nat
  mask : DWord
  val : DWord
  at' : Nat
  deriving DecidableEq, Repr

/-- The last answer given on PCIe (R59): read data, a completer-abort completion, or none. -/
inductive Reply where
  | none
  | data (v : DWord)
  | abort
  deriving DecidableEq, Repr

/-- An SPI request accepted and not yet served (R53): a write or a read, its bytes, address and data. -/
structure SpiReq where
  write : Bool
  bytes : Nat
  addr : Nat
  data : DWord
  deriving DecidableEq, Repr

/-- The SPI transaction slot (R53): `stat` is the STATUS of the transaction, `data` its read result;
`ovf` marks a request discarded while one was pending, reported once; `req` the request pending; and `out` the
bytes of the last status frame the module sent. -/
structure SpiSlot where
  stat : Byte
  data : DWord
  ovf : Bool
  req : Option SpiReq
  out : List Byte
  deriving DecidableEq, Repr

/-- A 32-bit high word latched for an initiator by its last low-word read (R58). -/
structure HighLatch where
  addr : Nat
  high : Word
  deriving DecidableEq, Repr

/-- A BAR2 access held by the host's yard budget (R52, R91, R92): a read when `data` is none; `bad` when it meets a parity
error (R112). -/
structure Bar2Access where
  off : Nat
  bytes : Nat
  data : Option DWord
  bad : Bool
  deriving DecidableEq, Repr

/-- The newest entry of the violation log (R60, R499): address and information words, the tick and time of
day of its first occurrence, its repeat count, the owner half-word, and its sequence number. -/
structure ViolEntry where
  addr : Word
  info : Word
  first : Nat
  sec : Nat
  ns : Nat
  rep : Nat
  owner : Nat
  seq : Nat
  deriving DecidableEq, Repr

/-- The host port (R50 to R68): answers, among them the UART's last response frame (R54), the high words latched per initiator, the interrupt messages sent,
whether MSI-X is enabled, the BAR2 accesses held by the budget, and the newest violation. -/
structure HostPort where
  pcie : Reply
  spi : SpiSlot
  uart : List Byte
  high : SMap (Option HighLatch)
  msi : List Nat
  msix : Bool
  queue : List Bar2Access
  viol : Option ViolEntry
  linkTraining : Bool
  deriving DecidableEq, Repr

/-- Start-up, hot plug and mode control (R29 to R49): the supply; VMAIN valid and SEATED closed (R40);
removal declared and the hold-up sequence under way (R47, R48); INSPECT running, and passed since the last
start (D1 of R34); the mode hold (R30); DEPART_T expired (R37) and STOP_T expired (R36); the tasks whose
READY and STOPPED have counted (R163); the last frame-start word (R32); core silence latched in the
timebase (TB_CORE_SILENT, R21); a pending frame hold-back (R197); and the information word of the last GC_RT_STATE
committed (R335); INSPECT abandoned since SEATED opened in it (R47); the codes of the last INSPECT record (R42); whether the
hold-up sequence has run and the module has not started again since (R48); and the records of MRAM that the exhaustion of the
hold-up store interrupted, as place and the bytes of the record before (R49). -/
structure Sys where
  power : Power
  vmainValid : Bool
  seated : Bool
  removed : Bool
  holdUp : Bool
  inspecting : Bool
  inspectPassed : Bool
  modeHold : Bool
  departTimeout : Bool
  stopExpired : Bool
  readySeen : List Nat
  stoppedSeen : List Nat
  frameStart : Word
  frameTick : Nat
  coreSilent : Bool
  alignHold : Bool
  rtWord : Nat
  abandoned : Bool
  inspectLog : List Nat
  shed : Bool
  torn : List (Nat × List Byte)
  deriving DecidableEq, Repr

/-- A loop unit's working values (R173 to R182): S0–S3, the output, the marks that LU_nn_STAT shows, the
two run counters, what a block's steps add to the unit's counters when it commits, and whether a run reached its
number in the block (R182). -/
structure LuState where
  s0 : Word
  s1 : Word
  s2 : Word
  s3 : Word
  out : Word
  primed : Bool
  trk : Bool
  nan : Bool
  satLo : Bool
  satHi : Bool
  feRun : Nat
  satRun : Nat
  steps : Nat
  satSteps : Nat
  nanSteps : Nat
  feHit : Bool
  satHit : Bool
  deriving DecidableEq, Repr

/-- The committed part of a loop unit that no register shows (R177, R182). -/
structure LuCore where
  s0 : Word
  s1 : Word
  s2 : Word
  s3 : Word
  feRun : Nat
  satRun : Nat
  deriving DecidableEq, Repr

/-- The station clock beside its registers (R186 to R203): the outer loop's integrator and correction in ppb /
65,536, the runs of Syncs within PTP_WIN and of updates above CLK_TERR_LIM, Syncs since reacquisition began, the
dither register, whether an offset waits for its step, a divider pair waiting for its compare edge, the tick at which
HOLDOVER was entered, plus one, the fractional word of N (R187), the edge phase against REF_IN in fs (R196), the tick at which
the tick to users stops after a loss and whether it waits for LOCKED and a crystal mark (R194), the tick of the last Sync or
pulse, plus one (R191), the Announces last received by port and their ticks, the peer-delay answers sent and the delays measured by port. -/
structure Clk where
  integ : Int
  corr : Int
  winRun : Nat
  terrRun : Nat
  syncs : Nat
  lfsr : Word
  stepDue : Bool
  divDue : Option Nat
  holdoverAt : Nat
  frac : Word
  phase : Int
  stopAt : Option Nat
  tickHold : Bool
  refAt : Nat
  announceAt : SMap Nat
  announces : SMap (Option Announce)
  pdelaySent : SMap Nat
  pdelay : SMap Word
  deriving DecidableEq, Repr

/-- One slot of a platform (R214): the continuous sample number, the sample time, INT32 values and
quality words per channel, and the flags that `svrd` shows (R159, R216, R218). -/
structure SvSample where
  num : Nat
  sec : Nat
  ns : Nat
  vals : List Word
  quals : List Word
  synch : Nat
  sim : Bool
  filled : Bool
  marked : Bool
  deriving DecidableEq, Repr

/-- A platform: 64 slots by N modulo 64, and whether its stream is lost (R214, R217). -/
structure Platform where
  slots : SMap (Option SvSample)
  lost : Bool
  deriving DecidableEq, Repr

/-- The last frame a GOOSE subscription took (R223): stNum, sqNum, and the tick at which its
timeAllowedToLive ends. -/
structure GooseLast where
  st : Nat
  sq : Nat
  until' : Nat
  deriving DecidableEq, Repr

/-- A GOOSE publication's state (R228): stNum, sqNum, the interval to the next frame in ms, the tick of the
last frame, the values last published, and the timeAllowedToLive that frame carried. -/
structure GoosePub where
  st : Nat
  sq : Nat
  interval : Nat
  sentAt : Nat
  vals : List Byte
  tal : Nat
  deriving DecidableEq, Repr

/-- One ASDU of an SV frame sent (R220, R221). -/
structure SvSent where
  smpCnt : Nat
  synch : Nat
  vals : List (Word × Word)
  deriving DecidableEq, Repr

/-- What a published frame carries beside its values (R206, R207, R210, R220, R227): the ports it is sent on, each with its
source address and, in a pair, the sequence number of its trailer or tag; priority and VLAN ID where it is tagged; destination,
APPID, confRev, svID or gocbRef, datSet and goID; simulation, test and ndsCom; and t, the seconds and ns of a GOOSE state. -/
structure SentHead where
  ports : List (Nat × Nat × Option Nat)
  vlan : Option (Nat × Nat)
  dst : Nat
  appid : Nat
  confRev : Nat
  name : List Byte
  datSet : List Byte
  goID : List Byte
  sim : Bool
  test : Bool
  ndsCom : Bool
  tSec : Nat
  tNs : Nat
  deriving DecidableEq, Repr

/-- A frame that an HSR port has received (R207): the port, the source, its sequence number and the tick. -/
structure RingCopy where
  port : Nat
  src : Nat
  seq : Nat
  at' : Nat
  deriving DecidableEq, Repr

/-- The process bus beside its registers and tables (R206 to R229). `ring` holds what HSR ports received lately, `lanDown` the
ports declared lost (R209), `seqs` the next sequence number of a pair, `svHead` and `gpHead` the heads of the frames last
sent (R220, R227). `svNext` is the next sample number a
stream expects, plus one; `svRun` the run of missing samples; `dups` the source, sequence number and tick of
frames kept for R208; `tagAt` the tick of a port's last tagged frame, plus one; `sentSv` the
last frame sent; `supervision` the frames of R207 sent per port; `ftMatch` the filters that match (R226);
`forwarded` the frames passed on per HSR port (R208); `svSim` and `gsSim` the subscriptions that take simulated
frames (R219). -/
structure Pb where
  sv : SMap Platform
  svNext : SMap Nat
  svRun : SMap Nat
  svCfgSec : SMap Nat
  gsCfgSec : SMap Nat
  gs : SMap (Option GooseLast)
  pubs : SMap (Option GoosePub)
  dups : List (Nat × Nat × Nat)
  tagAt : SMap Nat
  sentSv : SMap (List SvSent)
  svPubNext : SMap Nat
  supervision : SMap Nat
  ftMatch : List Nat
  forwarded : SMap Nat
  svSim : List Nat
  gsSim : List Nat
  ring : List RingCopy
  lanDown : List Nat
  seqs : SMap Nat
  svHead : SMap (Option SentHead)
  gpHead : SMap (Option SentHead)
  deriving DecidableEq, Repr

/-- A sequence under way on a logical core (R237): its trigger tick and time of day, its slots, and whether it
began while the reference was settling, and whether it follows a refused trigger (R238). -/
structure SeqRun where
  start : Nat
  sec : Nat
  ns : Nat
  len : Nat
  slot : Nat
  settle : Bool
  ovr : Bool
  deriving DecidableEq, Repr

/-- The analog front end beside its registers and tables (R235 to R251): sequences under way per logical core,
the tick at which a core's last conversion ends, triggers refused since the last sequence, the frame (plus one) of
the last AFE_TRIG_OVR and CMP_TRIP raised, recent conversions per input (tick of the slot, physical core, code),
P − N of a pin pair in µV, and the comparators' raw outputs. -/
structure Afe where
  runs : SMap (List SeqRun)
  busyTo : SMap Nat
  refused : List Nat
  ovrFrame : SMap Nat
  tripFrame : SMap Nat
  hist : SMap (List (Nat × Nat × Nat))
  pn : SMap Int
  out : List Nat
  deriving DecidableEq, Repr

/-- The actions of R274. -/
inductive Act where
  | off | lowOn | hold | gateHiz
  deriving DecidableEq, Repr

/-- The level of one generator output at stage 8 of R270. -/
inductive Level where
  | inactive | active | hiz
  deriving DecidableEq, Repr

/-- One committed write of a consist field (R264): the register's address, the value, the tick of the
commit (or host write), and whether a block committed it. -/
structure ConsistWrite where
  addr : Nat
  val : Word
  at' : Nat
  block : Bool
  deriving DecidableEq, Repr

/-- What one period of a generator places at stage 7 of R270: the period, and the intervals in which outputs A
and B are active, in units of 1/1,024 tick from the period start; the window levels at the period's end and
for how long A's window has had its level; and whether the pair was in conflict (R272). -/
structure Plan where
  period : Nat
  outA : List (Nat × Nat)
  outB : List (Nat × Nat)
  endA : Bool
  since : Nat
  conflict : Bool
  deriving DecidableEq, Repr

/-- The working state of one generator beside its registers (R255 to R278): whether it counts, the dither
index, its period start (ticks, and the fraction of R259), the parts of SHIFT windows still running past
the period start, the plan of the period, the action in force, a HOLD waiting for the period end, the
instant its last action was released, the levels an action keeps, whether PWM_ILK was raised in this frame,
the committed writes not yet applied, the instant of a GO not yet begun, and the single-step periods left,
the present one included (R33), when output B may rise under LOW_ON, and when output A last fell before the present period, both in
units of 1/1,024 tick (R274). -/
structure Gen where
  running : Bool
  idx : Nat
  start : Nat
  frac : Nat
  tailA : Nat
  tailB : Nat
  plan : Plan
  act : Option Act
  holdWait : Bool
  released : Option Nat
  heldA : Level
  heldB : Level
  ilkRaised : Bool
  commits : List ConsistWrite
  stepWait : Option Nat
  stepLeft : Nat
  riseAt : Nat
  lastFall : Nat
  deriving DecidableEq, Repr

/-- The timebase's PWM, fault-line and capture state beside the registers. -/
structure Pwm where
  gens : SMap Gen
  reqs : SMap (List Req)
  lineAt : SMap Nat
  capLatched : List Nat
  periodStart : SMap Nat
  deriving DecidableEq, Repr

/-- The edge a channel drives at OUT (R288): sourcing or sinking, its first current step in mA, how long that step lasts in ns
(none for SOFT, which lasts until R292 ends it), and its second step in mA. -/
structure GdEdge where
  source : Bool
  first : Nat
  time : Option Nat
  second : Nat
  deriving DecidableEq, Repr

/-- The gate dies beside their registers (R286 to R300): the ticks (plus one) of a channel's last rising command and of
its last fall, the
half-bridges in a both-on refusal episode, channels that obey only their next rising command, channels under
automatic recovery (R296), the two enable lines of the Interlocking (R450), and the edge that a channel drove last
(R288; none: no edge since power came, so the passive clamp of R287 holds OUT). -/
structure Gate where
  roseAt : SMap Nat
  fellAt : SMap Nat
  episode : List Nat
  waitRise : List Nat
  recovering : List Nat
  enA : Bool
  enB : Bool
  drive : SMap (Option GdEdge)
  deriving DecidableEq, Repr

/-- The CAN controllers beside their registers and rows (R364, R365): messages queued at a commit point (port, M, bytes)
and not yet sent, and the last message sent by port and M. -/
structure Can where
  queue : List (Nat × Nat × List Byte)
  sent : SMap (List Byte)
  deriving DecidableEq, Repr

/-- A ring port's configuration as captured by its last training (R418). -/
structure PortCfg where
  en : Bool
  double : Bool
  svc : Nat
  div : Nat
  wd : Nat
  lostN : Nat
  base : Nat
  count : Nat
  ringId : Nat
  retHop : Nat
  deriving DecidableEq, Repr

/-- A slow-channel request committed by `lnx` SLOW (R415, R416): position, request word, how often it has
been sent again, and the tick of its commit. -/
structure SlowReq where
  pos : Nat
  word : Word
  tries : Nat
  at' : Nat
  deriving DecidableEq, Repr

/-- The fast frame or frames of the cycle under way (R394, R399, R411): the cycle number, start tick, the
apply offset carried, whether every cell has a slot in both frames, and the command of every position before
blocking. -/
structure Flight where
  cycle : Nat
  start : Nat
  apply : Nat
  full : Bool
  staged : Bool
  cmds : SMap (List Byte)
  deriving DecidableEq, Repr

/-- A ring port beside its registers and its cells' table entries (R389 to R416): the configuration in force,
the cycle length in ticks, the command each cell carries again, commands and apply offsets committed and not
yet delivered (with their commit tick), the cycle under way, the last complete cycle, the runs of R409 and
R410, when blocking began and ended, the program's slow requests, retries of the host request and of the
poll, the poll position, results that wait for the budget (R91), the second of the last LN_CRC, and the start of the last
cycle. -/
structure RingPort where
  cfg : PortCfg
  cycLen : Nat
  cmds : SMap (List Byte)
  waiting : List (Nat × Nat × List Byte)
  applies : List (Nat × Nat)
  flight : Option Flight
  done : Nat
  downRun : Nat
  healRun : Nat
  changedAt : Nat
  blockAt : Option Nat
  freeAt : Option Nat
  slow : List SlowReq
  hostTries : Nat
  pollTries : Nat
  pollPos : Nat
  pollPoint : Nat
  results : List (Nat × List Word)
  crcSec : Nat
  cycAt : Nat
  deriving DecidableEq, Repr

/-- A demand interval of a metering point (R426), in 2^-32 µWh: total import and export, the signed accumulators of the
four active-energy pairs under NET, whether it is irregular, and an instant in ns of time of day: its end once it has ended,
the instant it began while it is under way. -/
structure Interval where
  imp : Int
  exp : Int
  net : SMap Int
  irr : Bool
  endAt : Nat
  deriving DecidableEq, Repr

/-- What the metering unit committed to MRAM last (R428): registers by address, pulse-output accumulators, and the NET
accumulators of the points. -/
structure MtrRecord where
  regs : List (Nat × DWord)
  po : SMap Int
  net : SMap (SMap Int)
  deriving DecidableEq, Repr

/-- The metering unit beside its registers and tables (R419 to R439): remainders below 1 µ unit by register, the current
and the last interval of each point, pulse-output accumulators and the start (plus one) of their last pulse, the second
of the last MTR_GAP, nanoseconds of gap below 1 µs, points to clear at the next boundary, the SEL last checked, and the
record in MRAM. -/
structure Mtr where
  rem : SMap Nat
  cur : SMap Interval
  last : SMap Interval
  po : SMap Int
  poStart : SMap Nat
  gapSec : SMap Nat
  gapNs : SMap Nat
  clrDue : List Nat
  selSeen : Nat
  record : Option MtrRecord
  deriving DecidableEq, Repr

/-- A function block of the Interlocking (R446 to R448): released, a category 1 stop running, muting, M1 (0 inactive, 1
activated without starting anything, else 2 more than the tick at which it activated), and for two-hand control whether both buttons were released and when the first was actuated. -/
structure FbState where
  rel : Bool
  stop1 : Bool
  muting : Bool
  m1At : Nat
  thArmed : Bool
  thFirst : Nat
  deriving DecidableEq, Repr

/-- A safe output (R451): on, its off delay running, EDM awaited after a change, EDM and switch faults standing. -/
structure SafeOut where
  on : Bool
  delay : Bool
  edmWait : Bool
  edmFlt : Bool
  outFlt : Bool
  deriving DecidableEq, Repr

/-- A Token connection (R455 to R457): state (0 CLOSED, 1 START, 2 RUN, 3 FAILED), whether a baseline is set, the last
accepted frame, the last failure code, and the producer's next SEQ. -/
structure Token where
  st : Nat
  base : Bool
  last : List Byte
  code : Nat
  seq : Nat
  deriving DecidableEq, Repr

/-- A request the Interlocking fetched (R460). -/
structure SafeReq where
  seq : Nat
  cmd : Nat
  user : Nat
  pw : List Byte
  newPw : List Byte
  image : List Byte
  deriving DecidableEq, Repr

/-- An APPLY that waits for its change-log entry (R462): the request's SEQ, the image, the entry's place and bytes and its
number. -/
structure SafeApply where
  seq : Nat
  image : List Byte
  place : Nat
  entry : List Byte
  logSeq : Nat
  deriving DecidableEq, Repr

/-- The Interlocking (R441 to R465), which the SAFE registers only mirror: lockout and for how many compares a
disagreement has lasted; the image in force, or nothing; accepted channel levels (channel 2n + 0 or 1), pair readings
(0 demand, 1 release, 2 one channel changed, 3 fault), function blocks, the last reading of MSEL; STO and the safe
outputs, the instances an output waits to see reset, EDM inputs at 24 V; the stop signal; Token connections and frames
handed to ring ports; password, failures and lock; the change log's newest SEQ; the last request and an APPLY under
way. -/
structure Il where
  lockout : Bool
  differ : Nat
  image : List Byte
  levels : List Nat
  pairs : SMap Nat
  fbs : SMap FbState
  msel : Bool
  stoRel : Bool
  outs : SMap SafeOut
  need : SMap (List Nat)
  edm : List Nat
  stopSig : Bool
  tokens : SMap Token
  ring : List (Nat × Nat × Nat × List Byte × Nat)
  salt : List Byte
  hash : List Byte
  fails : Nat
  locked : Bool
  lockAt : Nat
  logSeq : Nat
  lastReq : Nat
  req : Option SafeReq
  apply : Option SafeApply
  deriving DecidableEq, Repr

/-- A burst request (R471, R472): the requester (0 the lamp-line peer, 1 the wake timer's report, 2 the wake timer, 3 to 6
tamper inputs, 7 to 10 Keeper comparators), class, energy in µJ, duration in ms, and the SEQ a peer's request carried. -/
structure BurstReq where
  who : Nat
  cls : Nat
  energy : Nat
  dur : Nat
  seq : Nat
  deriving DecidableEq, Repr

/-- A burst running (R473): its request, KST at its start, and the predicted KST, in mV. -/
structure Burst where
  req : BurstReq
  vStart : Nat
  vPred : Nat
  deriving DecidableEq, Repr

/-- The Keeper beside its registers (R467 to R482): stopped in darkness; the RTC as a value in 1/32,768 s and the tick it
stood at; pending requests in order of arrival; the burst running; LAMP_PWR to go off 2 ms after an abort;
LAMP_STOP low; the burst log and how many entries it has taken; the tamper record by entry number modulo 32; what
STATUS reports (tamper since the last STATUS, a dark interval not yet reported); DARK_START written with RTCV; reports
due at the next boundary; pulse inputs whose next level is a new baseline; Keeper comparators' P − N in µV and outputs; the
sequence number of the newest record; the last lamp-line frame sent (type, SEQ, payload); and the RTC, in 1/32,768 s, at
the last loss of VMAIN (R46; none before the first). -/
structure Keep where
  stopped : Bool
  rtcBase : Nat
  rtcAt : Nat
  queue : List BurstReq
  burst : Option Burst
  offDue : Bool
  stopLow : Bool
  bursts : SMap (List Byte)
  burstCount : Nat
  tampers : SMap (List Byte)
  tampered : Bool
  darkPending : Bool
  darkValid : Bool
  due : List (Nat × Option Nat)
  rebase : List Nat
  pn : SMap Int
  out : List Nat
  slotSeq : Nat
  sent : Option (Nat × Nat × List Byte)
  lostAt : Option Nat
  deriving DecidableEq, Repr

/-- A fault source in the collector (R488 to R498) beside its status entry: the tick (plus one) of its last report, the
lines it requests as COLL, the tasks whose STOP bits its reports set, the information words of those reports, the
ticks of its recoveries, and whether its last recovery was refused by a limit. -/
structure SrcState where
  last : Nat
  lines : List Nat
  tasks : List Nat
  infos : List Nat
  recs : List Nat
  limited : Bool
  deriving DecidableEq, Repr

/-- A secondary of an incident (R492, R494): source, severity, ESC, tick, information word. -/
structure Secondary where
  src : Nat
  sev : Nat
  esc : Bool
  at' : Nat
  info : Word
  deriving DecidableEq, Repr

/-- The open incident (R492 to R494): number, the primary's severity, source, information word and owner, mode code, time
of day and tick at opening, incident severity, reaction bits applied, secondaries, reports beyond them, repeats. -/
structure Incident where
  num : Nat
  psev : Nat
  src : Nat
  info : Word
  owner : Owner
  mode : Nat
  sec : Nat
  ns : Nat
  at' : Nat
  sev : Nat
  applied : Nat
  secs : List Secondary
  ovf : Nat
  reps : Nat
  deriving DecidableEq, Repr

/-- The fault collector beside its registers and tables (R484 to R500): sources by number, the open incident, and the
ticks of the recoveries of all sources. -/
structure Coll where
  srcs : SMap SrcState
  inc : Option Incident
  recs : List Nat
  deriving DecidableEq, Repr

/-- One item of a task's table list (R136, R144), with its table number where it is double-buffered (R512). -/
structure TblItem where
  base : Nat
  size : Nat
  access : Nat
  count : Nat
  dbl : Option Nat
  deriving DecidableEq, Repr

/-- A task as the booking office loaded it (R99, R143, R144): the BAR2 offset of its image, where its code
stands in the IM half, and its certificate. -/
structure TaskInfo where
  task : Nat
  img : Nat
  codeBase : Nat
  codeWords : Nat
  dataOff : Nat
  dmBase : Nat
  dmSize : Nat
  hcBase : Nat
  jMax : Nat
  stageMax : Nat
  beats : Nat
  luMap : Nat
  xsMap : Nat
  noOut : Bool
  outs : List (Nat × Nat)
  funcs : List Nat
  tbl : List TblItem
  waitHc : Nat
  deriving DecidableEq, Repr

/-- An open `rep` level (R138): the first word of the body, the word after it, the iterations left, and the
call depth at which it was opened. -/
structure Rep where
  start : Nat
  stop : Nat
  left : Nat
  depth : Nat
  deriving DecidableEq, Repr

/-- A wait under way (R167): event kind and instance, the bound, the tick of the request, and gD. -/
structure WaitFor where
  ev : Nat
  inst : Nat
  bound : Nat
  from' : Nat
  dest : Nat
  deriving DecidableEq, Repr

/-- The state of a block on its engine: running, committed-ready (`cmt` executed), or stopped with nothing to
commit (a violation, a detection, HALT). -/
inductive BlkState where
  | running | ready | stopped
  deriving DecidableEq, Repr

/-- Consist fields staged by `pwst` (R157): group or generator, FIELD, value. -/
structure StagedField where
  group : Bool
  inst : Nat
  field : Nat
  val : Word
  deriving DecidableEq, Repr

/-- A staged sample set of `macc` (R162): 12 words and the duration. -/
structure StagedSet where
  mp : Nat
  vals : List Word
  dur : Nat
  deriving DecidableEq, Repr

/-- Everything a block has staged outside its own registers and DM (R148). -/
structure Staged where
  words : List (Nat × Word)
  lu : SMap (Option LuState)
  sel : List (Nat × List Nat × Bool)
  fields : List StagedField
  cmds : List (Nat × Nat × List Byte)
  apply : List (Nat × Nat)
  slow : List (Nat × Nat × Word)
  sets : List StagedSet
  evts : List (Nat × Nat × Word)
  posts : List (Nat × Word × Word)
  recs : List (Nat × List Byte)
  lib : Option LibState
  deriving DecidableEq, Repr

/-- The registers of an engine (R98, R120, R122). -/
structure RegFile where
  g : SMap Word
  f : SMap Word
  c : SMap Bool
  fpx : Nat
  deriving DecidableEq, Repr

/-- A block open on a logical engine (R71, R73, R98, R104 to R109). -/
structure Blk where
  entry : Nat
  task : Nat
  svc : Nat
  firm : Bool
  prot : Bool
  mon : Bool
  start : Nat
  periodStart : Nat
  periodIdx : Nat
  state : BlkState
  readyAt : Nat
  rerun : Bool
  regs : RegFile
  shadow : RegFile
  pc : Nat
  calls : List Nat
  reps : List Rep
  journal : List (Nat × Word)
  st : Staged
  wait : Option WaitFor
  viewMem : SMap Byte
  viewSv : SMap Platform
  viewCyc : List Nat
  viewAfe : List (Nat × List Byte)
  deriving DecidableEq, Repr

/-- A memory row of 1 KiB (R111): yard rows by MiB, DM and IM rows by physical engine. -/
inductive Row where
  | yard (row : Nat)
  | dm (eng row : Nat)
  | im (eng row : Nat)
  deriving DecidableEq, Repr

/-- An access of a bus master that waits for its budget (R91): the log writer's oldest record; a GOOSE row to write from a
frame taken (with its arrival in ns), to show lost, or to begin anew; a GOOSE or SV publication to read; a metering set to
take. -/
inductive BusOp where
  | record
  | gsRow (n : Nat) (f : GsFrame) (gap : Bool) (ns : Nat)
  | gsLost (n : Nat)
  | gsNew (n : Nat) (never : Bool)
  | gsSim (n : Nat) (on : Bool)
  | goose (k : Nat)
  | sv (k : Nat)
  | set (n : Nat) (vals : List Word) (dur tc : Nat)
  deriving DecidableEq, Repr

/-- Engines, timetable and yard state beside the registers and memories (R69 to R117). `failing` lists the words of BAR2 that
fail parity until they are rewritten (R111); `maxFresh` the engines whose gauge MAX software has written since the last reading
(R101); `busWait` the accesses of bus masters that wait for budget: master, beats still to go, access (R91). -/
structure Eng where
  blks : SMap (Option Blk)
  tasks : SMap (Option TaskInfo)
  armedTasks : SMap (Option TaskInfo)
  armCopy : Option Nat
  armTick : Nat
  activeCrc : Nat
  armedCrc : Nat
  better : List (Option Nat)
  shedNow : List Nat
  shedPrev : List Nat
  gaugeN : SMap Nat
  gaugeMax : SMap Nat
  gaugeMiss : SMap Nat
  detAt : SMap Nat
  repeats : SMap (List Nat)
  reinit : List (Nat × Nat)
  badLines : List (Nat × Nat)
  hits : List (Row × Nat)
  retireNext : List Row
  retiring : List Row
  draining : List (Nat × List Nat)
  events : SMap Nat
  bankOf : SMap Nat
  armedBank : Nat
  budgetUsed : SMap Nat
  delayed : List Nat
  noFrame : Bool
  libs : SMap (Option LibState)
  failing : List Nat
  maxFresh : List Nat
  busWait : List (Nat × Nat × BusOp)
  deriving DecidableEq, Repr

/-- Non-volatile memory beside its registers and windows (R508 to R511): the public keys of the slots in OTP (slot 0 is
Mirsin's, a constant of Config), slots enrolled and revoked in OTP, the bank that the boot record names, erase counts
by bank and sector (512 × bank + sector), and the command under way. -/
structure Nvm where
  keys : SMap (List Byte)
  enrolled : Nat
  revoked : Nat
  bootBank : Nat
  erases : SMap Nat
  running : Option Nat
  deriving DecidableEq, Repr

/-- Reserves and substitution beside the SID registers (R501 to R507): physical units retired by code, mismatches by unit
code, units whose SID_NO_RESERVE was raised, inconclusive shadow frames, the copy done, whether the shadow frame
under way is inconclusive, the physical core and comparator of each logical core and pin pair (R235, R246), the
gauge readings of the last hour per engine (tick, normalised value), and the CRC errors of the last 10 s per ring
port (tick, sum of its cells' ERRS), and the beats of an engine's copy still to go (R505). -/
structure Sid where
  retired : List Nat
  misses : SMap Nat
  noReserve : List Nat
  inconclusive : Nat
  copied : Bool
  danger : Bool
  coreOf : SMap Nat
  pairOf : SMap Nat
  gauge : SMap (List (Nat × Nat))
  crcHits : SMap (List (Nat × Nat))
  copyLeft : Nat
  deriving DecidableEq, Repr

/-- Double heading beside its registers (R513 to R516): the snapshot taken at the boundary, the last one sent and the last
complete one received, the cause of a HALT notice received, when the peer's HL_ACT was found inactive, the second
(plus one) of the last HL_LOST, the heading hold, and HALT notices sent. -/
structure Heading where
  taken : Option Snapshot
  sent : Option Snapshot
  last : Option Snapshot
  notice : Option Nat
  inactiveAt : Option Nat
  lostSec : Nat
  hold : Bool
  notices : List Nat
  deriving DecidableEq, Repr

/-- The module: every piece of state the spec gives it, apart from the queue of commands. -/
structure Module where
  /-- The time line: ticks of 2 ns since the start of the model (R14, R69). -/
  now : Nat
  /-- Time of day: seconds, 48 bits (R203). -/
  todSec : Nat
  /-- Time of day: nanoseconds, below 1,000,000,000 (R203). -/
  todNs : Nat
  /-- The registers of BAR0 by normal address (R66); unlisted: the reset value. -/
  regs : SMap DWord
  /-- The memories of BAR2 by offset (R57); unlisted: `memReset`. -/
  mem : SMap Byte
  /-- Configuration writes not yet in effect (R67, R279, …). -/
  held : List HeldReg
  /-- The same for BAR2 configuration tables (R211, R239, …). -/
  heldMem : List HeldByte
  /-- Pending rb and rtb values, oldest first (R61). -/
  pendF : List PendField
  /-- Registers held at their reset value after a three-way disagreement (R62). -/
  voteFailed : List Nat
  /-- Copies of triplicated fields that differ from the value all three were written with (R62). -/
  upsets : List Upset
  /-- Register configuration saved in MRAM (R536). -/
  saved : List (Nat × DWord)
  /-- Table configuration saved in MRAM (R536). -/
  savedMem : List (Nat × Byte)
  /-- Reports on their way to the collector, in order of arrival (R486). -/
  reports : List Report
  /-- The model's own: how many free values have been drawn. No statement rests on it. -/
  freeCtr : Nat
  /-- The host port (R50 to R68). -/
  host : HostPort
  /-- Records the log writer has yet to write to MRAM: BAR2 offset and bytes (R494, R499). -/
  logq : List (Nat × List Byte)
  /-- Generators, fault-line requests and capture events (R255 to R285). -/
  pwm : Pwm
  /-- Start-up, hot plug and mode control (R29 to R49). -/
  sys : Sys
  /-- Loop units: what no register shows (R172 to R185). -/
  lu : SMap LuCore
  /-- Engines, timetable and yard (R69 to R119). -/
  eng : Eng
  /-- Logical to physical engine; unlisted: the same number (R98, R505). -/
  engMap : SMap Nat
  /-- Ring ports (R389 to R418). -/
  rings : SMap RingPort
  /-- The process bus (R206 to R232). -/
  pb : Pb
  /-- Non-volatile memory (R508 to R511). -/
  nvm : Nvm
  /-- Reserves and substitution (R501 to R507). -/
  sid : Sid
  /-- Double heading (R513 to R516). -/
  hl : Heading
  /-- The station clock (R186 to R205). -/
  clk : Clk
  /-- The analog front end (R233 to R254). -/
  afe : Afe
  /-- The gate dies (R286 to R302). -/
  gate : Gate
  /-- The CAN controllers (R364 to R369). -/
  can : Can
  /-- The metering unit (R419 to R439). -/
  mtr : Mtr
  /-- The Interlocking (R441 to R466). -/
  il : Il
  /-- The Keeper (R467 to R483). -/
  keep : Keep
  /-- The fault collector (R484 to R500). -/
  coll : Coll
  /-- The instruction in the JTAG test port (R524). -/
  tap : TapInstr
  deriving DecidableEq, Repr

/-- The machine: the module, and the commands waiting for it, first in first out. -/
structure State where
  mod : Module
  pending : List Sys2Proof.Instr
  deriving DecidableEq, Repr

/-- Reasons for a stop with a fault. -/
inductive Fault where
  /-- Raised by no meaning of this model: the spec names no condition in which the block stops (a halted
  module goes on answering its host, R44). It keeps the interface's type inhabited; safe. -/
  | noStop
  deriving DecidableEq, Repr

/-- Reasons for a refusal. -/
inductive Refusal where
  /-- A command without a meaning yet, by its mnemonic; raised by an arm of exec only; safe. -/
  | notModelled (mnemonic : String)
  deriving DecidableEq, Repr

/-- The module right after reset: every register at the value the spec states for it (nothing is listed),
INSPECT about to run its first test (SYS_MODE reads 0x2 at reset, R67), no memory written. -/
def Module.reset : Module where
  now := 0
  todSec := 0
  todNs := 0
  regs := []
  mem := []
  held := []
  heldMem := []
  pendF := []
  voteFailed := []
  upsets := []
  saved := []
  savedMem := []
  reports := []
  freeCtr := 0
  host := ⟨.none, ⟨0, 0, false, none, []⟩, [], [], [], false, [], none, false⟩
  logq := []
  pwm := ⟨[], [], [], [], []⟩
  sys := ⟨.on, true, true, false, false, true, false, true, false, false, [], [], 0, 0, false, false, 0, false, [], false, []⟩
  lu := []
  eng := ⟨[], [], [], none, 0, 0, 0, [], [], [], [], [], [], [], [], [], [], [], [], [], [], [], [], 0, [], [], false, [], [], [], []⟩
  engMap := []
  rings := []
  pb := ⟨[], [], [], [], [], [], [], [], [], [], [], [], [], [], [], [], [], [], [], [], []⟩
  nvm := ⟨[], 1, 0, 0, [], none⟩
  sid := ⟨[], [], [], 0, false, false, [], [], [], [], 0⟩
  hl := ⟨none, none, none, none, none, 0, false, []⟩
  clk := ⟨0, 0, 0, 0, 0, 0, false, none, 0, 0, 0, none, false, 0, [], [], [], []⟩
  afe := ⟨[], [], [], [], [], [], [], []⟩
  gate := ⟨[], [], [], [], [], false, false, []⟩
  can := ⟨[], []⟩
  mtr := ⟨[], [], [], [], [], [], [], [], 0, none⟩
  il := ⟨false, 0, [], [], [], [], true, false, [], [], [], false, [], [], [], [], 0, false, 0, 0, 0, none, none⟩
  keep := ⟨false, 0, 0, [], none, false, false, [], 0, [], false, false, false, [], [], [], [], 0, none, none⟩
  coll := ⟨[], none, []⟩
  tap := .idcode

/-- The machine right after reset: the module at reset, no command waiting. -/
def State.reset : State := ⟨Module.reset, []⟩

end Sys2Proof.Machine
end

