-- ==== Sys2Proof/Machine/Store.lean ====
section
/-! DEFINITION. Store.lean: the operations of a sparse store in canonical form, and of bit fields. -/

namespace Sys2Proof.Machine

/-- What key `k` reads as: its entry, or the default of the key where none is listed. -/
def SMap.get {α : Type} (d : Nat → α) : SMap α → Nat → α
  | [], k => d k
  | (a, v) :: r, k => if a = k then v else SMap.get d r k

/-- Enter `v` at `k`, keeping the keys rising. -/
def SMap.ins {α : Type} : SMap α → Nat → α → SMap α
  | [], k, v => [(k, v)]
  | (a, w) :: r, k, v =>
    if k < a then (k, v) :: (a, w) :: r
    else if k = a then (k, v) :: r
    else (a, w) :: SMap.ins r k v

/-- Write `v` at `k`; writing what an unlisted key reads as removes the entry. -/
def SMap.put {α : Type} [DecidableEq α] (d : Nat → α) (m : SMap α) (k : Nat) (v : α) : SMap α :=
  if v = d k then m.filter (fun p => p.1 ≠ k) else SMap.ins m k v

/-- Keys strictly rising. -/
def SMap.sorted {α : Type} : SMap α → Bool
  | [] => true
  | (a, _) :: r => r.all (fun p => decide (a < p.1)) && SMap.sorted r

/-- The canonical form: keys strictly rising, no entry equal to its key's default. -/
def SMap.wf {α : Type} [DecidableEq α] (d : Nat → α) (m : SMap α) : Bool :=
  SMap.sorted m && m.all (fun p => decide (p.2 ≠ d p.1))

/-- A store whose unlisted keys all read `d`. -/
def SMap.getD {α : Type} (d : α) (m : SMap α) (k : Nat) : α := SMap.get (fun _ => d) m k

/-- A write to a store whose unlisted keys all read `d`. -/
def SMap.setD {α : Type} [DecidableEq α] (d : α) (m : SMap α) (k : Nat) (v : α) : SMap α :=
  SMap.put (fun _ => d) m k v

/-- Change every entry of a store whose unlisted keys all read `d`. -/
def SMap.mapD {α : Type} [DecidableEq α] (d : α) (f : Nat → α → α) (m : SMap α) : SMap α :=
  (m.map (fun p => (p.1, f p.1 p.2))).filter (fun p => p.2 ≠ d)

/-- The bits of a field, as a number. -/
def fget (v : DWord) (f : Field) : Nat := (v.toNat >>> f.lo) % 2 ^ (f.hi + 1 - f.lo)

/-- The bits that a field covers. -/
def fmask (f : Field) : DWord := BitVec.ofNat 64 ((2 ^ (f.hi + 1 - f.lo) - 1) <<< f.lo)

/-- A value with one field replaced; the number is taken modulo the field's range. -/
def fset (v : DWord) (f : Field) (n : Nat) : DWord :=
  (v &&& ~~~ (fmask f)) ||| (BitVec.ofNat 64 (n <<< f.lo) &&& fmask f)

/-- Bit `i` of a number, as a number. -/
def bitN (n i : Nat) : Nat := (n >>> i) % 2

/-- A number with bit `i` set or cleared. -/
def setBitN (n i : Nat) (b : Bool) : Nat :=
  if b then n ||| 1 <<< i else if n.testBit i then n - 1 <<< i else n

/-- One as true. -/
def toBool (n : Nat) : Bool := n != 0

/-- Bits `hi` down to `lo` of a number. -/
def bitsN (n hi lo : Nat) : Nat := (n >>> lo) % 2 ^ (hi + 1 - lo)

/-- Two's-complement reading of a `w`-bit number. -/
def signedN (w n : Nat) : Int := if n < 2 ^ (w - 1) then (n : Int) else (n : Int) - 2 ^ w

end Sys2Proof.Machine
end

