-- ==== Sys2Proof/Decode.lean ====
section
/-! DEFINITION. Decode.lean: words that spell a command: those of the opcode table, and the words of the engines' code. -/

namespace Sys2Proof.Machine

/-! ### Encodings of the engines' instructions (R123 to R125, R147) -/

/-- The FN of an FP-group word that uses C (R130). -/
def fpUsesC (fn : Nat) : Bool := fn == 5 || fn == 6 || fn == 7 || fn == 0x0C

/-- The long operations (R126, R130, R133). -/
def longOps : List Nat := [0x01, 0x02, 0x10, 0x11, 0x12, 0x13, 0x20]

/-- The long operations with a source register in A (R124). -/
def longUsesA (op : Nat) : Bool := op == 0x20

/-- The word is no undefined encoding (R123, R125, R147); the entry words of `sw` and the second word of a long form
are not looked at here. -/
def wordDefined (w : Nat) : Bool :=
  let z (hi lo : Nat) : Bool := bitsN w hi lo == 0
  let f (hi lo : Nat) : Nat := bitsN w hi lo
  match w >>> 26 with
  | 0x01 => z 25 0
  | 0x02 => if f 10 5 = 0x18 then z 4 3
      else f 10 5 < 0x18 && z 4 0 && ((f 10 5 ≠ 0x0F && f 10 5 ≠ 0x17) || z 15 11)
  | 0x03 | 0x04 | 0x05 | 0x06 | 0x0A | 0x0B => true
  | 0x07 | 0x08 | 0x09 => z 15 5
  | 0x0C | 0x0E => z 9 0
  | 0x0D => true
  | 0x0F => f 22 20 ≤ 5 && z 13 0 && (f 22 20 < 4 || z 16 14)
  | 0x10 => if f 10 5 = 0x0D then z 4 3 else f 10 5 ≤ 0x13 && (fpUsesC (f 10 5) || z 4 0)
  | 0x18 | 0x19 | 0x1A | 0x1B | 0x1C | 0x1D | 0x1E | 0x1F | 0x20 | 0x21 | 0x22 | 0x23 => true
  | 0x24 | 0x25 => z 9 0
  | 0x28 => !z 21 0
  | 0x29 => !z 25 16
  | 0x2A => z 21 0
  | 0x2B => z 25 14
  | 0x2C => z 25 0
  | 0x2D => z 14 0
  | 0x30 => z 0 0 && f 3 1 ≤ 4 && f 10 4 < 96
  | 0x31 => z 4 0 && f 8 5 ≤ 9 && (f 8 5 ≠ 6 || z 20 16)
      && ((2 ≤ f 8 5 && f 8 5 ≤ 6) || z 15 11)
  | 0x32 => z 5 0 && 1 ≤ f 10 6 && f 10 6 ≤ 16
  | 0x33 => z 23 21 && z 15 10 && f 4 0 ≤ 7
  | 0x34 => true
  | 0x35 => z 3 0 && f 6 4 ≤ 5
  | 0x36 => z 25 21 && z 8 0
  | 0x37 => z 25 21 && z 14 8 && (f 15 15 = 0 || f 7 0 ≤ 1)
  | 0x38 => z 25 0
  | 0x39 => !z 12 0 && f 20 17 ≤ 6 && (f 20 17 ≠ 0 || z 16 13) && ((f 20 17 ≠ 1 && f 20 17 ≠ 4) || f 16 13 ≤ 3)
  | 0x3A => z 25 21 && z 7 0
  | 0x3E => longOps.contains (f 15 0) && (longUsesA (f 15 0) || z 20 16)
  | _ => false

end Sys2Proof.Machine

namespace Sys2Proof

open Machine

/-- The command that a word of the opcode table spells: no row of the table has bits, so none (log 1). What the words of an
engine's code spell is `decodeRanzor`: an instruction reaches the block as a command (R123 to R140). -/
def decodeTableWord (_nbits _w : Nat) : Option Instr := none

/-- A register number from a field. -/
def fin32 (n : Nat) : Fin 32 := Fin.ofNat 32 n

/-- The integer group by its FN (R126). -/
def decodeInt (x : Issue) (w : Nat) : Option Instr :=
  let d := fin32 (bitsN w 25 21)
  let a := fin32 (bitsN w 20 16)
  let b := fin32 (bitsN w 15 11)
  match bitsN w 10 5 with
  | 0 => some (.add x d a b)
  | 1 => some (.sub x d a b)
  | 2 => some (.and x d a b)
  | 3 => some (.or x d a b)
  | 4 => some (.xor x d a b)
  | 5 => some (.andn x d a b)
  | 6 => some (.shl x d a b)
  | 7 => some (.shr x d a b)
  | 8 => some (.sar x d a b)
  | 9 => some (.adds x d a b)
  | 10 => some (.subs x d a b)
  | 11 => some (.min x d a b)
  | 12 => some (.max x d a b)
  | 13 => some (.minu x d a b)
  | 14 => some (.maxu x d a b)
  | 15 => some (.abs x d a)
  | 16 => some (.mul x d a b)
  | 17 => some (.mulh x d a b)
  | 18 => some (.mulhu x d a b)
  | 19 => some (.div x d a b)
  | 20 => some (.divu x d a b)
  | 21 => some (.rem x d a b)
  | 22 => some (.remu x d a b)
  | 23 => some (.clz x d a)
  | 24 => some (.sel x d a b (Fin.ofNat 8 w))
  | _ => none

/-- The FP group by its FN (R130). -/
def decodeFp (x : Issue) (w : Nat) : Option Instr :=
  let d := fin32 (bitsN w 25 21)
  let a := fin32 (bitsN w 20 16)
  let b := fin32 (bitsN w 15 11)
  let c := fin32 (bitsN w 4 0)
  match bitsN w 10 5 with
  | 0 => some (.fadd x d a b)
  | 1 => some (.fsub x d a b)
  | 2 => some (.fmul x d a b)
  | 3 => some (.fdiv x d a b)
  | 4 => some (.fsqrt x d a)
  | 5 => some (.fma x d a b c)
  | 6 => some (.fms x d a b c)
  | 7 => some (.fnma x d a b c)
  | 8 => some (.fmin x d a b)
  | 9 => some (.fmax x d a b)
  | 10 => some (.fabs x d a)
  | 11 => some (.fneg x d a)
  | 12 => some (.fclamp x d a b c)
  | 13 => some (.fsel x d a b (Fin.ofNat 8 w))
  | 14 => some (.fcvtSW x d a)
  | 15 => some (.fcvtSWu x d a)
  | 16 => some (.fcvtWS x d a)
  | 17 => some (.fmvFG x d a)
  | 18 => some (.fmvGF x d a)
  | 19 => some (.fxs x d)
  | _ => none

/-- The flag group by its FN (R128). -/
def decodeFlag (x : Issue) (w : Nat) : Option Instr :=
  let cd := Fin.ofNat 8 (bitsN w 25 23)
  let ca := Fin.ofNat 8 (bitsN w 19 17)
  let cb := Fin.ofNat 8 (bitsN w 16 14)
  match bitsN w 22 20 with
  | 0 => some (.flagAnd x cd ca cb)
  | 1 => some (.flagOr x cd ca cb)
  | 2 => some (.flagXor x cd ca cb)
  | 3 => some (.flagAndn x cd ca cb)
  | 4 => some (.flagCopy x cd ca)
  | 5 => some (.flagNot x cd ca)
  | _ => none

/-- A long form by its LOP; `imm` is its second word (R124, R126, R130, R133). -/
def decodeLong (x : Issue) (w imm : Nat) : Option Instr :=
  let d := fin32 (bitsN w 25 21)
  let v := BitVec.ofNat 32 imm
  match bitsN w 15 0 with
  | 0x01 => some (.liG x d v)
  | 0x02 => some (.liF x d v)
  | 0x10 => some (.ldyAbs x d v)
  | 0x11 => some (.styAbs x d v)
  | 0x12 => some (.ldyfAbs x d v)
  | 0x13 => some (.styfAbs x d v)
  | 0x20 => some (.addi32 x d (fin32 (bitsN w 20 16)) v)
  | _ => none

/-- `loop`, `xfm`, `lnx` and `wait` by their functions (R152, R153, R160, R167). -/
def decodeUnit (x : Issue) (w : Nat) : Option Instr :=
  let d := fin32 (bitsN w 25 21)
  let a := fin32 (bitsN w 20 16)
  let b := fin32 (bitsN w 15 11)
  let u := Fin.ofNat 128 (bitsN w 10 4)
  let t := Fin.ofNat 4 (bitsN w 10 9)
  let p := Fin.ofNat 16 (bitsN w 10 7)
  let n := Fin.ofNat 16 (bitsN w 16 13)
  let k := BitVec.ofNat 13 w
  match w >>> 26, (if w >>> 26 = 0x30 then bitsN w 3 1 else if w >>> 26 = 0x31 then bitsN w 8 5
    else if w >>> 26 = 0x35 then bitsN w 6 4 else bitsN w 20 17) with
  | 0x30, 0 => some (.loopStep x d a b u)
  | 0x30, 1 => some (.loopStepDiff x d a b u)
  | 0x30, 2 => some (.loopTrack x d a b u)
  | 0x30, 3 => some (.loopPeek x d u)
  | 0x30, 4 => some (.loopStatus x d u)
  | 0x31, 0 => some (.xfmClarke x d a b t)
  | 0x31, 1 => some (.xfmIclarke x d a b t)
  | 0x31, 2 => some (.xfmPark x d a b t)
  | 0x31, 3 => some (.xfmIpark x d a b t)
  | 0x31, 4 => some (.xfmAbc2dq x d a b t)
  | 0x31, 5 => some (.xfmDq2abc x d a b t)
  | 0x31, 6 => some (.xfmSincos x d a b t)
  | 0x31, 7 => some (.xfmAtan2 x d a b t)
  | 0x31, 8 => some (.xfmSeq x d a b t)
  | 0x31, 9 => some (.xfmWrap x d a b t)
  | 0x35, 0 => some (.lnxCmd x a b p)
  | 0x35, 1 => some (.lnxResp x d a p)
  | 0x35, 2 => some (.lnxRstat x d a p)
  | 0x35, 3 => some (.lnxApply x b p)
  | 0x35, 4 => some (.lnxArm x a b p)
  | 0x35, 5 => some (.lnxSlow x a b p)
  | 0x39, 0 => some (.waitDelay x d n k)
  | 0x39, 1 => some (.waitAdc x d n k)
  | 0x39, 2 => some (.waitArmCapture x d n k)
  | 0x39, 3 => some (.waitCapture x d n k)
  | 0x39, 4 => some (.waitReload x d n k)
  | 0x39, 5 => some (.waitComparator x d n k)
  | 0x39, 6 => some (.waitRingCycle x d n k)
  | _, _ => none

/-- The command that the word `w` of an engine's code spells, where it is no undefined encoding; `next` is the word behind it,
the immediate of a long form (R123 to R140, R147). `x` is who issues it. -/
def decodeRanzor (x : Issue) (w next : Nat) : Option Instr :=
  let d := fin32 (bitsN w 25 21)
  let a := fin32 (bitsN w 20 16)
  let b := fin32 (bitsN w 15 11)
  let imm := BitVec.ofNat 16 w
  let sh := BitVec.ofNat 5 w
  let cd := Fin.ofNat 8 (bitsN w 25 23)
  let cc := Fin.ofNat 8 (bitsN w 22 20)
  let ka := fin32 (bitsN w 19 15)
  let tbl := Fin.ofNat 64 (bitsN w 15 10)
  let word := Fin.ofNat 1024 w
  let sense : Bool := w.testBit 25
  let cf := Fin.ofNat 8 (bitsN w 24 22)
  if 2 ^ 32 ≤ w ∨ !wordDefined w then none
  else match w >>> 26 with
  | 0x01 => some (.nop x)
  | 0x02 => decodeInt x w
  | 0x03 => some (.addi x d a imm)
  | 0x04 => some (.andi x d a imm)
  | 0x05 => some (.ori x d a imm)
  | 0x06 => some (.xori x d a imm)
  | 0x07 => some (.shli x d a sh)
  | 0x08 => some (.shri x d a sh)
  | 0x09 => some (.sari x d a sh)
  | 0x0A => some (.lui x d imm)
  | 0x0B => some (.muli x d a imm)
  | 0x0C => some (.cmp x cd cc ka (fin32 (bitsN w 14 10)))
  | 0x0D => some (.cmpi x cd cc ka (BitVec.ofNat 15 w))
  | 0x0E => some (.fcmp x cd cc ka (fin32 (bitsN w 14 10)))
  | 0x0F => decodeFlag x w
  | 0x10 => decodeFp x w
  | 0x18 => some (.ld x d a imm)
  | 0x19 => some (.st x d a imm)
  | 0x1A => some (.ldf x d a imm)
  | 0x1B => some (.stf x d a imm)
  | 0x1C => some (.ldy x d a imm)
  | 0x1D => some (.sty x d a imm)
  | 0x1E => some (.ldyf x d a imm)
  | 0x1F => some (.styf x d a imm)
  | 0x20 => some (.ldt x d a tbl word)
  | 0x21 => some (.stt x d a tbl word)
  | 0x22 => some (.ldtf x d a tbl word)
  | 0x23 => some (.sttf x d a tbl word)
  | 0x24 => some (.ldyb x d a tbl)
  | 0x25 => some (.styb x d a tbl)
  | 0x28 => some (if sense then .bt x cf (BitVec.ofNat 22 w) else .bf x cf (BitVec.ofNat 22 w))
  | 0x29 => some (.rep x (Fin.ofNat 1024 (bitsN w 25 16)) imm)
  | 0x2A => some (.brk x sense cf)
  | 0x2B => some (.call x (BitVec.ofNat 14 w))
  | 0x2C => some (.ret x)
  | 0x2D => some (.sw x d (Fin.ofNat 64 (bitsN w 20 15)))
  | 0x30 | 0x31 | 0x35 | 0x39 => decodeUnit x w
  | 0x32 => some (.selSelection x d a b (fin32 (bitsN w 10 6)))
  | 0x33 => some (.pwst x sense (w.testBit 24) a (fin32 (bitsN w 9 5)) (fin32 w))
  | 0x34 =>
    let s := fin32 (bitsN w 10 6)
    let c := fin32 (bitsN w 5 1)
    some (if w.testBit 0 then .svrdInterp x d a b s c else .svrdNearest x d a b s c)
  | 0x36 => some (.macc x (Fin.ofNat 4 (bitsN w 10 9)) a b)
  | 0x37 => some (if !w.testBit 15 then .evtFault x (BitVec.ofNat 8 w) a
      else if bitsN w 7 0 = 0 then .evtReady x a else .evtStopped x a)
  | 0x38 => some (.cmt x)
  | 0x3A => some (.hpost x (Fin.ofNat 8 (bitsN w 10 8)) a b)
  | 0x3E => decodeLong x w next
  | _ => none

end Sys2Proof
end

