-- ==== Sys2Proof/Machine/Crc.lean ====
section
/-! DEFINITION. Crc.lean: the cyclic redundancy codes the manual names. -/

namespace Sys2Proof.Machine

/-- `n` steps of a reflected 32-bit CRC. -/
def crc32Steps (poly : Nat) : Nat → Nat → Nat
  | 0, c => c
  | n + 1, c => crc32Steps poly n (if c % 2 = 1 then (c >>> 1) ^^^ poly else c >>> 1)

/-- A reflected 32-bit CRC over bytes, from a register value. -/
def crc32From (poly : Nat) : List Byte → Nat → Nat
  | [], c => c
  | b :: r, c => crc32From poly r (crc32Steps poly 8 (c ^^^ b.toNat))

/-- CRC-32C (Castagnoli), as records and tables carry it (R75, R494, R499). -/
def crc32c (bs : List Byte) : Nat := crc32From 0x82F63B78 bs 0xFFFFFFFF ^^^ 0xFFFFFFFF

/-- `n` steps of a 16-bit CRC with polynomial 0x1021. -/
def crc16Steps : Nat → Nat → Nat
  | 0, c => c
  | n + 1, c => crc16Steps n (if c ≥ 0x8000 then ((c * 2) ^^^ 0x1021) % 65536 else c * 2)

/-- CRC-16/CCITT-FALSE (R53). -/
def crc16 (bs : List Byte) : Nat :=
  bs.foldl (fun c b => crc16Steps 8 (c ^^^ (b.toNat <<< 8))) 0xFFFF

/-- `n` steps of the Token layer's CRC, most significant bit first, polynomial 0x741B8CD7 (R454). -/
def scrcSteps : Nat → Nat → Nat
  | 0, c => c
  | n + 1, c => scrcSteps n (if c ≥ 0x80000000 then ((c * 2) ^^^ 0x741B8CD7) % 0x100000000 else c * 2)

/-- SCRC (R454). -/
def scrc (bs : List Byte) : Nat :=
  bs.foldl (fun c b => scrcSteps 8 (c ^^^ (b.toNat <<< 24))) 0xFFFFFFFF ^^^ 0xFFFFFFFF

end Sys2Proof.Machine
end

