-- ==== Sys2Proof/Config.lean ====
section
/-! DEFINITION. Config.lean: what the manual leaves to one module or leaves open, as constants without a
body. No proof can see a value of one, so a claim holds whatever it is. -/

namespace Sys2Proof.Config

/-- SYS_UID's value less one (R67): specific to each module and not documented; never 0 as a number. -/
opaque factoryUid : Fin 18446744073709551615

/-- The MAC address in OTP of process-bus port `p` (R206, R232). -/
opaque factoryMac : Nat → BitVec 48

/-- The factory's entry of the VCO band table, CLK_BAND_kk (R188, R205), before the guarantee of R188. -/
opaque rawBand : Nat → BitVec 32

/-- A band entry covers the targets from `f` to `f` + 1 MHz (R188). -/
def bandCovers (b : BitVec 32) (f : Nat) : Bool :=
  let lo := (b.extractLsb' 0 13).toNat
  let hi := (b.extractLsb' 16 13).toNat
  b.getLsbD 31 && 4000 ≤ lo && hi ≤ 6000 && lo ≤ f && f + 1 ≤ hi

/-- The factory's table: each target from 4,000 to 6,000 MHz is covered by a valid entry (R188). The factory's own entries
are free; where they would break the guarantee one band over the whole range stands for them. -/
def factoryBand (k : Nat) : BitVec 32 :=
  if (List.range 2000).all (fun f => (List.range 64).any (fun j => bandCovers (rawBand j) (4000 + f))) then rawBand k
  else if k = 0 then 0x97700FA0 else 0

/-- Free values: a value the manual leaves open, drawn afresh by the number of the draw. -/
opaque freeWord : Nat → BitVec 32

/-- What a transform unit answers, by function and inputs (R150: the same inputs give the same bits on every
unit). R154 bounds each output and leaves the rest open; `Xfm.pick` keeps an answer only within its bound. -/
opaque xfmRaw : (fn : Nat) → List (BitVec 32) → (k : Nat) → BitVec 32

/-- Mirsin's Ed25519 public key, in slot 0 of OTP since the factory (R145). -/
opaque factoryKey : List (BitVec 8)

/-- SHA-256 of a byte string (R145); the manual names the function and does not define it. -/
opaque sha256 : List (BitVec 8) → List (BitVec 8)

/-- Ed25519 verification of a signature over a message under a public key (R145, R511). -/
opaque ed25519 : (key msg sig : List (BitVec 8)) → Bool

/-- PBKDF2-HMAC-SHA-256 with 10,000 iterations of R461, of salt and password; the manual names the function and does not
define it. Its 256 bits are those of SHA-256. -/
opaque passwordHash : (salt password : List (BitVec 8)) → BitVec 256

/-- The factory trim of an ADC core (R242): what it adds to the volts of a code, times 2^40, by core, input and code. -/
opaque afeTrim : (core input : Nat) → (code : BitVec 16) → Int

/-- The FP32 value in °C of a temperature channel (R234), by core, input and code: its transfer is held per die and not
documented. -/
opaque afeCelsius : (core input : Nat) → (code : BitVec 16) → BitVec 32

/-- A gauge reading normalised to 25 °C and nominal VCORE by the factory coefficients in OTP (R503), by physical
engine, reading, and the number of the draw: temperature and supply are not part of the model. -/
opaque gaugeNorm : (engine reading draw : Nat) → BitVec 16

end Sys2Proof.Config
end

