-- ==== Sys2Proof/Machine/RegMap.lean ====
section
/-! DEFINITION. RegMap.lean: the BAR0 normal-window address of every register and the place of every
field, as the register tables of the spec give them (R66, R67, R68, R97, R118, R119, R171, R185, R205,
R232, R254, R281, R283, R284, R285, R302, R369, R418, R438, R439, R440, R465, R483, R500, R518, R519).
Names are the spec's, without the instance number, which is the argument. -/

namespace Sys2Proof.Machine

/-- SYS_ID (R67). -/
def R.SYS_ID : Nat := 0x0
/-- SYS_REV (R67). -/
def R.SYS_REV : Nat := 0x4
/-- SYS_UID (R67). -/
def R.SYS_UID : Nat := 0x8
/-- SYS_MODE (R67). -/
def R.SYS_MODE : Nat := 0x10
/-- SYS_MODE_REQ (R67). -/
def R.SYS_MODE_REQ : Nat := 0x14
/-- SYS_HALT_CAUSE (R67). -/
def R.SYS_HALT_CAUSE : Nat := 0x18
/-- SYS_HALT_INC (R67). -/
def R.SYS_HALT_INC : Nat := 0x1c
/-- SYS_INSPECT (R67). -/
def R.SYS_INSPECT : Nat := 0x20
/-- SYS_DIE_STAT (R67). -/
def R.SYS_DIE_STAT : Nat := 0x24
/-- SYS_TIMES (R67). -/
def R.SYS_TIMES : Nat := 0x28
/-- SYS_SHUNT (R67). -/
def R.SYS_SHUNT : Nat := 0x2c
/-- SYS_SHUNT_EX (R67). -/
def R.SYS_SHUNT_EX : Nat := 0x30
/-- HOST_LINK (R68). -/
def R.HOST_LINK : Nat := 0x10000
/-- HOST_IRQ_STAT (R68). -/
def R.HOST_IRQ_STAT : Nat := 0x10004
/-- HOST_IRQ_EN (R68). -/
def R.HOST_IRQ_EN : Nat := 0x10008
/-- HOST_PWERR (R68). -/
def R.HOST_PWERR : Nat := 0x1000c
/-- HOST_VIOL_ADDR (R68). -/
def R.HOST_VIOL_ADDR : Nat := 0x10010
/-- HOST_VIOL_INFO (R68). -/
def R.HOST_VIOL_INFO : Nat := 0x10014
/-- HOST_VIOL_TIME (R68). -/
def R.HOST_VIOL_TIME : Nat := 0x10018
/-- HOST_VIOL_CNT (R68). -/
def R.HOST_VIOL_CNT : Nat := 0x10020
/-- HOST_VOTE_FIX (R68). -/
def R.HOST_VOTE_FIX : Nat := 0x10024
/-- HOST_VOTE_ADDR (R68). -/
def R.HOST_VOTE_ADDR : Nat := 0x10028
/-- HOST_SAT (R68). -/
def R.HOST_SAT : Nat := 0x1002c
/-- TTB_CTRL (R97). -/
def R.TTB_CTRL : Nat := 0x20000
/-- TTB_STAT (R97). -/
def R.TTB_STAT : Nat := 0x20004
/-- TTB_SHED (R97). -/
def R.TTB_SHED : Nat := 0x20008
/-- TTB_CFG (R97). -/
def R.TTB_CFG : Nat := 0x2000c
/-- TTB_FRAMES (R97). -/
def R.TTB_FRAMES : Nat := 0x20010
/-- TTB_SHED_FR (R97). -/
def R.TTB_SHED_FR : Nat := 0x20018
/-- TTB_SAT (R97). -/
def R.TTB_SAT : Nat := 0x2001c
/-- TTB_OVR_nn (R97). -/
def R.TTB_OVR (n : Nat) : Nat := 0x20020 + 0x4 * n
/-- TTB_GAUGE_nn (R97). -/
def R.TTB_GAUGE (n : Nat) : Nat := 0x20040 + 0x4 * n
/-- TTB_DLY_nn (R97). -/
def R.TTB_DLY (n : Nat) : Nat := 0x20060 + 0x4 * n
/-- TTB_SVC_nn (R97). -/
def R.TTB_SVC (n : Nat) : Nat := 0x20080 + 0x4 * n
/-- TTB_BUD_nn (R97). -/
def R.TTB_BUD (n : Nat) : Nat := 0x20090 + 0x4 * n
/-- ENG_nn_STAT (R118). -/
def R.ENG_STAT (n : Nat) : Nat := 0x30000 + 0x1000 * n
/-- ENG_nn_GAUGE (R118). -/
def R.ENG_GAUGE (n : Nat) : Nat := 0x30004 + 0x1000 * n
/-- ENG_nn_LAST_DET (R118). -/
def R.ENG_LAST_DET (n : Nat) : Nat := 0x30008 + 0x1000 * n
/-- ENG_nn_DET_ADDR (R118). -/
def R.ENG_DET_ADDR (n : Nat) : Nat := 0x3000c + 0x1000 * n
/-- ENG_nn_DETECT (R118). -/
def R.ENG_DETECT (n : Nat) : Nat := 0x30010 + 0x1000 * n
/-- ENG_nn_RECOMP (R118). -/
def R.ENG_RECOMP (n : Nat) : Nat := 0x30014 + 0x1000 * n
/-- ENG_nn_REPEAT (R118). -/
def R.ENG_REPEAT (n : Nat) : Nat := 0x30018 + 0x1000 * n
/-- ENG_nn_VIOL (R118). -/
def R.ENG_VIOL (n : Nat) : Nat := 0x3001c + 0x1000 * n
/-- ENG_nn_SPARE (R118). -/
def R.ENG_SPARE (n : Nat) : Nat := 0x30020 + 0x1000 * n
/-- ENG_nn_SAT (R118). -/
def R.ENG_SAT (n : Nat) : Nat := 0x30024 + 0x1000 * n
/-- ENG_nn_DET_TIME (R118). -/
def R.ENG_DET_TIME (n : Nat) : Nat := 0x30028 + 0x1000 * n
/-- YARD_CFG (R119). -/
def R.YARD_CFG : Nat := 0x3a000
/-- YARD_DETECT (R119). -/
def R.YARD_DETECT : Nat := 0x3a004
/-- YARD_LAST (R119). -/
def R.YARD_LAST : Nat := 0x3a008
/-- YARD_SAT (R119). -/
def R.YARD_SAT : Nat := 0x3a00c
/-- YARD_SPARE_kk (R119). -/
def R.YARD_SPARE (n : Nat) : Nat := 0x3a010 + 0x4 * n
/-- XS_SEL_SHORT (R171). -/
def R.XS_SEL_SHORT : Nat := 0x50000
/-- XS_SEL_ARMS (R171). -/
def R.XS_SEL_ARMS : Nat := 0x50004
/-- XS_MBX_PEND (R171). -/
def R.XS_MBX_PEND : Nat := 0x50008
/-- XS_MBX_LOST (R171). -/
def R.XS_MBX_LOST : Nat := 0x5000c
/-- XS_SAT (R171). -/
def R.XS_SAT : Nat := 0x50010
/-- LU_nn_CFG (R185). -/
def R.LU_CFG (n : Nat) : Nat := 0x40000 + 0x100 * n
/-- LU_nn_CTRL (R185). -/
def R.LU_CTRL (n : Nat) : Nat := 0x40004 + 0x100 * n
/-- LU_nn_STAT (R185). -/
def R.LU_STAT (n : Nat) : Nat := 0x40008 + 0x100 * n
/-- LU_nn_FLAG (R185). -/
def R.LU_FLAG (n : Nat) : Nat := 0x4000c + 0x100 * n
/-- LU_nn_LO (R185). -/
def R.LU_LO (n : Nat) : Nat := 0x40010 + 0x100 * n
/-- LU_nn_HI (R185). -/
def R.LU_HI (n : Nat) : Nat := 0x40014 + 0x100 * n
/-- LU_nn_FE_LIM (R185). -/
def R.LU_FE_LIM (n : Nat) : Nat := 0x40018 + 0x100 * n
/-- LU_nn_SUP (R185). -/
def R.LU_SUP (n : Nat) : Nat := 0x4001c + 0x100 * n
/-- LU_nn_Kk (R185). -/
def R.LU_K (n k : Nat) : Nat := 0x40020 + 0x100 * n + 0x4 * k
/-- LU_nn_OUT (R185). -/
def R.LU_OUT (n : Nat) : Nat := 0x40040 + 0x100 * n
/-- LU_nn_SOUT (R185). -/
def R.LU_SOUT (n : Nat) : Nat := 0x40044 + 0x100 * n
/-- LU_nn_Sk (R185). -/
def R.LU_S (n k : Nat) : Nat := 0x40048 + 0x100 * n + 0x4 * k
/-- LU_nn_STEPS (R185). -/
def R.LU_STEPS (n : Nat) : Nat := 0x40058 + 0x100 * n
/-- LU_nn_SATCNT (R185). -/
def R.LU_SATCNT (n : Nat) : Nat := 0x4005c + 0x100 * n
/-- LU_nn_FECNT (R185). -/
def R.LU_FECNT (n : Nat) : Nat := 0x40060 + 0x100 * n
/-- LU_nn_NANCNT (R185). -/
def R.LU_NANCNT (n : Nat) : Nat := 0x40064 + 0x100 * n
/-- LU_nn_SAT (R185). -/
def R.LU_SAT (n : Nat) : Nat := 0x40068 + 0x100 * n
/-- CLK_CFG (R205). -/
def R.CLK_CFG : Nat := 0x60000
/-- CLK_STAT (R205). -/
def R.CLK_STAT : Nat := 0x60004
/-- CLK_CTRL (R205). -/
def R.CLK_CTRL : Nat := 0x60008
/-- CLK_LOCK (R205). -/
def R.CLK_LOCK : Nat := 0x6000c
/-- CLK_SLEW (R205). -/
def R.CLK_SLEW : Nat := 0x60010
/-- CLK_DIV (R205). -/
def R.CLK_DIV : Nat := 0x60014
/-- CLK_DITHER_SEED (R205). -/
def R.CLK_DITHER_SEED : Nat := 0x60018
/-- CLK_SERVO (R205). -/
def R.CLK_SERVO : Nat := 0x6001c
/-- CLK_PTP (R205). -/
def R.CLK_PTP : Nat := 0x60020
/-- CLK_PHERR (R205). -/
def R.CLK_PHERR : Nat := 0x60024
/-- CLK_TERR (R205). -/
def R.CLK_TERR : Nat := 0x60028
/-- CLK_TOD_SEC (R205). -/
def R.CLK_TOD_SEC : Nat := 0x60030
/-- CLK_TOD_NS (R205). -/
def R.CLK_TOD_NS : Nat := 0x60038
/-- CLK_TERR_LIM (R205). -/
def R.CLK_TERR_LIM : Nat := 0x6003c
/-- CLK_SET_SEC (R205). -/
def R.CLK_SET_SEC : Nat := 0x60040
/-- CLK_SET_NS (R205). -/
def R.CLK_SET_NS : Nat := 0x60048
/-- CLK_MPD (R205). -/
def R.CLK_MPD : Nat := 0x6004c
/-- CLK_GMID (R205). -/
def R.CLK_GMID : Nat := 0x60050
/-- CLK_UTC (R205). -/
def R.CLK_UTC : Nat := 0x60058
/-- CLK_SWALLOW (R205). -/
def R.CLK_SWALLOW : Nat := 0x6005c
/-- CLK_LOSSES (R205). -/
def R.CLK_LOSSES : Nat := 0x60060
/-- CLK_STEPS (R205). -/
def R.CLK_STEPS : Nat := 0x60064
/-- CLK_SAT (R205). -/
def R.CLK_SAT : Nat := 0x60068
/-- CLK_BAND_kk (R205). -/
def R.CLK_BAND (n : Nat) : Nat := 0x60100 + 0x4 * n
/-- PB_CFG (R232). -/
def R.PB_CFG : Nat := 0x70000
/-- PB_STAT (R232). -/
def R.PB_STAT : Nat := 0x70004
/-- PB_LINK (R232). -/
def R.PB_LINK : Nat := 0x70008
/-- PB_CTRL (R232). -/
def R.PB_CTRL : Nat := 0x7000c
/-- PB_GPUB_SEND (R232). -/
def R.PB_GPUB_SEND : Nat := 0x70010
/-- PB_GS_LOST (R232). -/
def R.PB_GS_LOST : Nat := 0x70018
/-- PB_FT_ACT (R232). -/
def R.PB_FT_ACT : Nat := 0x70020
/-- PB_SAT (R232). -/
def R.PB_SAT : Nat := 0x70024
/-- PB_SVS_LOST (R232). -/
def R.PB_SVS_LOST : Nat := 0x70028
/-- PB_RXDISC_pp (R232). -/
def R.PB_RXDISC (n : Nat) : Nat := 0x70030 + 0x4 * n
/-- PB_CRCERR_pp (R232). -/
def R.PB_CRCERR (n : Nat) : Nat := 0x70040 + 0x4 * n
/-- PB_MAC_pp (R232). -/
def R.PB_MAC (n : Nat) : Nat := 0x70050 + 0x8 * n
/-- PB_SVS_nn_STAT (R232). -/
def R.PB_SVS_STAT (n : Nat) : Nat := 0x70100 + 0x10 * n
/-- PB_SVS_nn_MISS (R232). -/
def R.PB_SVS_MISS (n : Nat) : Nat := 0x70104 + 0x10 * n
/-- PB_SVS_nn_LATE (R232). -/
def R.PB_SVS_LATE (n : Nat) : Nat := 0x70108 + 0x10 * n
/-- PB_SVS_nn_DISC (R232). -/
def R.PB_SVS_DISC (n : Nat) : Nat := 0x7010c + 0x10 * n
/-- AFE_CFG (R254). -/
def R.AFE_CFG : Nat := 0x80000
/-- AFE_CTRL (R254). -/
def R.AFE_CTRL : Nat := 0x80004
/-- AFE_STAT (R254). -/
def R.AFE_STAT : Nat := 0x80008
/-- AFE_OW_SEL (R254). -/
def R.AFE_OW_SEL : Nat := 0x8000c
/-- AFE_OW_RES (R254). -/
def R.AFE_OW_RES : Nat := 0x80010
/-- AFE_CMP_STAT (R254). -/
def R.AFE_CMP_STAT : Nat := 0x80014
/-- AFE_CMP_UNRES (R254). -/
def R.AFE_CMP_UNRES : Nat := 0x80018
/-- AFE_CMP_OFSFAIL (R254). -/
def R.AFE_CMP_OFSFAIL : Nat := 0x8001c
/-- AFE_TRIG_nn (R254). -/
def R.AFE_TRIG (n : Nat) : Nat := 0x80020 + 0x4 * n
/-- AFE_SEQ_nn (R254). -/
def R.AFE_SEQ (n : Nat) : Nat := 0x80040 + 0x4 * n
/-- AFE_OVR_nn (R254). -/
def R.AFE_OVR (n : Nat) : Nat := 0x80050 + 0x4 * n
/-- AFE_SAT (R254). -/
def R.AFE_SAT : Nat := 0x80060
/-- AFE_CMP_nn_CFG (R254). -/
def R.AFE_CMP_CFG (n : Nat) : Nat := 0x80100 + 0x4 * n
/-- CAP_uu_CFG (R281). -/
def R.CAP_CFG (n : Nat) : Nat := 0x95000 + 0x40 * n
/-- CAP_uu_CTRL (R281). -/
def R.CAP_CTRL (n : Nat) : Nat := 0x95004 + 0x40 * n
/-- CAP_uu_STAT (R281). -/
def R.CAP_STAT (n : Nat) : Nat := 0x95008 + 0x40 * n
/-- CAP_uu_SEQ (R281). -/
def R.CAP_SEQ (n : Nat) : Nat := 0x9500c + 0x40 * n
/-- CAP_uu_TICK (R281). -/
def R.CAP_TICK (n : Nat) : Nat := 0x95010 + 0x40 * n
/-- CAP_uu_NS (R281). -/
def R.CAP_NS (n : Nat) : Nat := 0x95014 + 0x40 * n
/-- CAP_uu_SEC (R281). -/
def R.CAP_SEC (n : Nat) : Nat := 0x95018 + 0x40 * n
/-- CAP_uu_OVR (R281). -/
def R.CAP_OVR (n : Nat) : Nat := 0x95020 + 0x40 * n
/-- CAP_uu_SAT (R281). -/
def R.CAP_SAT (n : Nat) : Nat := 0x95024 + 0x40 * n
/-- PWM_nn_CFG (R283). -/
def R.PWM_CFG (n : Nat) : Nat := 0x90000 + 0x200 * n
/-- PWM_nn_PERIOD (R283). -/
def R.PWM_PERIOD (n : Nat) : Nat := 0x90004 + 0x200 * n
/-- PWM_nn_PERFR (R283). -/
def R.PWM_PERFR (n : Nat) : Nat := 0x90008 + 0x200 * n
/-- PWM_nn_PHASE (R283). -/
def R.PWM_PHASE (n : Nat) : Nat := 0x9000c + 0x200 * n
/-- PWM_nn_CMPA (R283). -/
def R.PWM_CMPA (n : Nat) : Nat := 0x90010 + 0x200 * n
/-- PWM_nn_CMPB (R283). -/
def R.PWM_CMPB (n : Nat) : Nat := 0x90014 + 0x200 * n
/-- PWM_nn_DTR (R283). -/
def R.PWM_DTR (n : Nat) : Nat := 0x90018 + 0x200 * n
/-- PWM_nn_DTF (R283). -/
def R.PWM_DTF (n : Nat) : Nat := 0x9001c + 0x200 * n
/-- PWM_nn_TRIG0 (R283). -/
def R.PWM_TRIG0 (n : Nat) : Nat := 0x90020 + 0x200 * n
/-- PWM_nn_TRIG1 (R283). -/
def R.PWM_TRIG1 (n : Nat) : Nat := 0x90024 + 0x200 * n
/-- PWM_nn_DTMIN (R283). -/
def R.PWM_DTMIN (n : Nat) : Nat := 0x90028 + 0x200 * n
/-- PWM_nn_MINP (R283). -/
def R.PWM_MINP (n : Nat) : Nat := 0x9002c + 0x200 * n
/-- PWM_nn_FORCE (R283). -/
def R.PWM_FORCE (n : Nat) : Nat := 0x90030 + 0x200 * n
/-- PWM_nn_STAT (R283). -/
def R.PWM_STAT (n : Nat) : Nat := 0x90034 + 0x200 * n
/-- PWM_nn_LATE (R283). -/
def R.PWM_LATE (n : Nat) : Nat := 0x90038 + 0x200 * n
/-- PWM_nn_SHORT (R283). -/
def R.PWM_SHORT (n : Nat) : Nat := 0x9003c + 0x200 * n
/-- PWM_nn_CARRYA (R283). -/
def R.PWM_CARRYA (n : Nat) : Nat := 0x90040 + 0x200 * n
/-- PWM_nn_CARRYB (R283). -/
def R.PWM_CARRYB (n : Nat) : Nat := 0x90044 + 0x200 * n
/-- PWM_nn_PERIODS (R283). -/
def R.PWM_PERIODS (n : Nat) : Nat := 0x90048 + 0x200 * n
/-- PWM_nn_SAT (R283). -/
def R.PWM_SAT (n : Nat) : Nat := 0x90050 + 0x200 * n
/-- PWM_FL_nn_MASK (R284). -/
def R.PWM_FL_MASK (n : Nat) : Nat := 0x94400 + 0x10 * n
/-- PWM_FL_nn_CFG (R284). -/
def R.PWM_FL_CFG (n : Nat) : Nat := 0x94404 + 0x10 * n
/-- PWM_FL_nn_STAT (R284). -/
def R.PWM_FL_STAT (n : Nat) : Nat := 0x94408 + 0x10 * n
/-- PWM_FL_nn_CNT (R284). -/
def R.PWM_FL_CNT (n : Nat) : Nat := 0x9440c + 0x10 * n
/-- PWM_FL_ACT (R284). -/
def R.PWM_FL_ACT : Nat := 0x94600
/-- PWM_FL_HOST (R284). -/
def R.PWM_FL_HOST : Nat := 0x94604
/-- PWM_FL_SYS (R284). -/
def R.PWM_FL_SYS : Nat := 0x94608
/-- PWM_FL_SILENT (R284). -/
def R.PWM_FL_SILENT : Nat := 0x9460c
/-- PWM_FL_SAT (R284). -/
def R.PWM_FL_SAT : Nat := 0x94610
/-- GD_nn_EDGE (R302). -/
def R.GD_EDGE (n : Nat) : Nat := 0xa0000 + 0x20 * n
/-- GD_nn_PROT (R302). -/
def R.GD_PROT (n : Nat) : Nat := 0xa0004 + 0x20 * n
/-- GD_nn_STAT (R302). -/
def R.GD_STAT (n : Nat) : Nat := 0xa0008 + 0x20 * n
/-- GD_nn_SC (R302). -/
def R.GD_SC (n : Nat) : Nat := 0xa000c + 0x20 * n
/-- GD_nn_EDGES (R302). -/
def R.GD_EDGES (n : Nat) : Nat := 0xa0010 + 0x20 * n
/-- GD_HB_kk_CFG (R302). -/
def R.GD_HB_CFG (n : Nat) : Nat := 0xa0400 + 0x4 * n
/-- GD_CLEAR (R302). -/
def R.GD_CLEAR : Nat := 0xa0500
/-- GD_FAULT (R302). -/
def R.GD_FAULT : Nat := 0xa0504
/-- GD_LINK (R302). -/
def R.GD_LINK : Nat := 0xa0508
/-- GD_XC_CNT (R302). -/
def R.GD_XC_CNT : Nat := 0xa050c
/-- GD_CTRL (R302). -/
def R.GD_CTRL : Nat := 0xa0510
/-- GD_SAT (R302). -/
def R.GD_SAT : Nat := 0xa0514
/-- CAN_nn_CFG (R369). -/
def R.CAN_CFG (n : Nat) : Nat := 0x110000 + 0x100 * n
/-- CAN_nn_STAT (R369). -/
def R.CAN_STAT (n : Nat) : Nat := 0x110004 + 0x100 * n
/-- CAN_nn_RXCNT (R369). -/
def R.CAN_RXCNT (n : Nat) : Nat := 0x110008 + 0x100 * n
/-- CAN_nn_TXCNT (R369). -/
def R.CAN_TXCNT (n : Nat) : Nat := 0x11000c + 0x100 * n
/-- CAN_nn_DISC (R369). -/
def R.CAN_DISC (n : Nat) : Nat := 0x110010 + 0x100 * n
/-- CAN_nn_BUSOFF (R369). -/
def R.CAN_BUSOFF (n : Nat) : Nat := 0x110014 + 0x100 * n
/-- CAN_nn_SAT (R369). -/
def R.CAN_SAT (n : Nat) : Nat := 0x110018 + 0x100 * n
/-- LN_nn_CFG (R418). -/
def R.LN_CFG (n : Nat) : Nat := 0xb0000 + 0x100 * n
/-- LN_nn_CELLS (R418). -/
def R.LN_CELLS (n : Nat) : Nat := 0xb0004 + 0x100 * n
/-- LN_nn_RING (R418). -/
def R.LN_RING (n : Nat) : Nat := 0xb0008 + 0x100 * n
/-- LN_nn_APPLY (R418). -/
def R.LN_APPLY (n : Nat) : Nat := 0xb000c + 0x100 * n
/-- LN_nn_FLMASK (R418). -/
def R.LN_FLMASK (n : Nat) : Nat := 0xb0010 + 0x100 * n
/-- LN_nn_PTBASE (R418). -/
def R.LN_PTBASE (n : Nat) : Nat := 0xb0014 + 0x100 * n
/-- LN_nn_POLL (R418). -/
def R.LN_POLL (n : Nat) : Nat := 0xb0018 + 0x100 * n
/-- LN_nn_CTRL (R418). -/
def R.LN_PORT_CTRL (n : Nat) : Nat := 0xb001c + 0x100 * n
/-- LN_nn_STAT (R418). -/
def R.LN_STAT (n : Nat) : Nat := 0xb0020 + 0x100 * n
/-- LN_nn_TRAIN (R418). -/
def R.LN_TRAIN (n : Nat) : Nat := 0xb0024 + 0x100 * n
/-- LN_nn_RTT (R418). -/
def R.LN_RTT (n : Nat) : Nat := 0xb0028 + 0x100 * n
/-- LN_nn_HREQ (R418). -/
def R.LN_HREQ (n : Nat) : Nat := 0xb002c + 0x100 * n
/-- LN_nn_HDATA (R418). -/
def R.LN_HDATA (n : Nat) : Nat := 0xb0030 + 0x100 * n
/-- LN_nn_CRCERR (R418). -/
def R.LN_CRCERR (n : Nat) : Nat := 0xb0034 + 0x100 * n
/-- LN_nn_LOSTFR (R418). -/
def R.LN_LOSTFR (n : Nat) : Nat := 0xb0038 + 0x100 * n
/-- LN_nn_QFULL (R418). -/
def R.LN_QFULL (n : Nat) : Nat := 0xb003c + 0x100 * n
/-- LN_nn_CYCLES (R418). -/
def R.LN_CYCLES (n : Nat) : Nat := 0xb0040 + 0x100 * n
/-- LN_nn_SAT (R418). -/
def R.LN_SAT (n : Nat) : Nat := 0xb0048 + 0x100 * n
/-- LN_MAP_nn (R418). -/
def R.LN_MAP (n : Nat) : Nat := 0xb1000 + 0x4 * n
/-- LN_CTRL (R418). -/
def R.LN_CTRL : Nat := 0xb1040
/-- MTR_MP_nn_CFG (R438). -/
def R.MTR_MP_CFG (n : Nat) : Nat := 0xc0000 + 0x400 * n
/-- MTR_MP_nn_IN (R438). -/
def R.MTR_MP_IN (n : Nat) : Nat := 0xc0004 + 0x400 * n
/-- MTR_MP_nn_CTRL (R438). -/
def R.MTR_MP_CTRL (n : Nat) : Nat := 0xc0008 + 0x400 * n
/-- MTR_MP_nn_STAT (R438). -/
def R.MTR_MP_STAT (n : Nat) : Nat := 0xc000c + 0x400 * n
/-- MTR_MP_nn_SETS (R438). -/
def R.MTR_MP_SETS (n : Nat) : Nat := 0xc0010 + 0x400 * n
/-- MTR_MP_nn_GAP (R438). -/
def R.MTR_MP_GAP (n : Nat) : Nat := 0xc0018 + 0x400 * n
/-- MTR_MP_nn_DEM_IMP (R438). -/
def R.MTR_MP_DEM_IMP (n : Nat) : Nat := 0xc0020 + 0x400 * n
/-- MTR_MP_nn_DEM_EXP (R438). -/
def R.MTR_MP_DEM_EXP (n : Nat) : Nat := 0xc0024 + 0x400 * n
/-- MTR_MP_nn_DEM_MAX (R438). -/
def R.MTR_MP_DEM_MAX (n : Nat) : Nat := 0xc0028 + 0x400 * n
/-- MTR_MP_nn_CLRCNT (R438). -/
def R.MTR_MP_CLRCNT (n : Nat) : Nat := 0xc002c + 0x400 * n
/-- MTR_MP_nn_DEM_MAX_T (R438). -/
def R.MTR_MP_DEM_MAX_T (n : Nat) : Nat := 0xc0030 + 0x400 * n
/-- MTR_MP_nn_SNAP_T (R438). -/
def R.MTR_MP_SNAP_T (n : Nat) : Nat := 0xc0038 + 0x400 * n
/-- MTR_MP_nn_E_kk (R438). -/
def R.MTR_MP_E (n k : Nat) : Nat := 0xc0100 + 0x400 * n + 0x8 * k
/-- MTR_MP_nn_S_kk (R438). -/
def R.MTR_MP_S (n k : Nat) : Nat := 0xc0200 + 0x400 * n + 0x8 * k
/-- MTR_MP_nn_W_jj (R438). -/
def R.MTR_MP_W (n k : Nat) : Nat := 0xc0300 + 0x400 * n + 0x4 * k
/-- MTR_MP_nn_SW_jj (R438). -/
def R.MTR_MP_SW (n k : Nat) : Nat := 0xc0340 + 0x400 * n + 0x4 * k
/-- SAFE_STAT (R465). -/
def R.SAFE_STAT : Nat := 0xd0000
/-- SAFE_SI (R465). -/
def R.SAFE_SI : Nat := 0xd0004
/-- SAFE_FB (R465). -/
def R.SAFE_FB : Nat := 0xd0008
/-- SAFE_MUTE (R465). -/
def R.SAFE_MUTE : Nat := 0xd000c
/-- SAFE_OUT (R465). -/
def R.SAFE_OUT : Nat := 0xd0010
/-- SAFE_TK (R465). -/
def R.SAFE_TK : Nat := 0xd0014
/-- SAFE_TK_CODE (R465). -/
def R.SAFE_TK_CODE : Nat := 0xd0018
/-- SAFE_CFG_CRC (R465). -/
def R.SAFE_CFG_CRC : Nat := 0xd0020
/-- SAFE_CFG_SEQ (R465). -/
def R.SAFE_CFG_SEQ : Nat := 0xd0024
/-- SAFE_PW (R465). -/
def R.SAFE_PW : Nat := 0xd0028
/-- KEEP_STAT (R483). -/
def R.KEEP_STAT : Nat := 0xe0000
/-- KEEP_CFG (R483). -/
def R.KEEP_CFG : Nat := 0xe0004
/-- KEEP_KST (R483). -/
def R.KEEP_KST : Nat := 0xe0008
/-- KEEP_CAP (R483). -/
def R.KEEP_CAP : Nat := 0xe000c
/-- KEEP_ERES (R483). -/
def R.KEEP_ERES : Nat := 0xe0010
/-- KEEP_EMEAS (R483). -/
def R.KEEP_EMEAS : Nat := 0xe0014
/-- KEEP_EXMIT (R483). -/
def R.KEEP_EXMIT : Nat := 0xe0018
/-- KEEP_EWAKE (R483). -/
def R.KEEP_EWAKE : Nat := 0xe001c
/-- KEEP_LAMP (R483). -/
def R.KEEP_LAMP : Nat := 0xe0020
/-- KEEP_WAKE (R483). -/
def R.KEEP_WAKE : Nat := 0xe0024
/-- KEEP_BURST (R483). -/
def R.KEEP_BURST : Nat := 0xe0028
/-- KEEP_DENIES (R483). -/
def R.KEEP_DENIES : Nat := 0xe002c
/-- KEEP_ABORTS (R483). -/
def R.KEEP_ABORTS : Nat := 0xe0030
/-- KEEP_SAT (R483). -/
def R.KEEP_SAT : Nat := 0xe0034
/-- KEEP_RTC (R483). -/
def R.KEEP_RTC : Nat := 0xe0038
/-- KEEP_DARK_START (R483). -/
def R.KEEP_DARK_START : Nat := 0xe0040
/-- KEEP_DARK_END (R483). -/
def R.KEEP_DARK_END : Nat := 0xe0048
/-- KEEP_TMP_CFG (R483). -/
def R.KEEP_TMP_CFG : Nat := 0xe0050
/-- KEEP_TMP_CNT (R483). -/
def R.KEEP_TMP_CNT : Nat := 0xe0054
/-- KEEP_KCMP_STAT (R483). -/
def R.KEEP_KCMP_STAT : Nat := 0xe0058
/-- KEEP_KCMP_nn_CFG (R483). -/
def R.KEEP_KCMP_CFG (n : Nat) : Nat := 0xe0080 + 0x4 * n
/-- FLT_STAT (R500). -/
def R.FLT_STAT : Nat := 0xf0000
/-- FLT_CTRL (R500). -/
def R.FLT_CTRL : Nat := 0xf0004
/-- FLT_CFG (R500). -/
def R.FLT_CFG : Nat := 0xf0008
/-- FLT_INC_CNT (R500). -/
def R.FLT_INC_CNT : Nat := 0xf000c
/-- FLT_REC_G (R500). -/
def R.FLT_REC_G : Nat := 0xf0010
/-- FLT_SAT (R500). -/
def R.FLT_SAT : Nat := 0xf0014
/-- FLT_REACT_s (R500). -/
def R.FLT_REACT (n : Nat) : Nat := 0xf0020 + 0x4 * n
/-- SID_CFG (R518). -/
def R.SID_CFG : Nat := 0x100000
/-- SID_CTRL (R518). -/
def R.SID_CTRL : Nat := 0x100004
/-- SID_STAT (R518). -/
def R.SID_STAT : Nat := 0x100008
/-- SID_MARK_A (R518). -/
def R.SID_MARK_A : Nat := 0x10000c
/-- SID_MARK_L (R518). -/
def R.SID_MARK_L : Nat := 0x100010
/-- SID_MARK_C (R518). -/
def R.SID_MARK_C : Nat := 0x100014
/-- SID_MARK_G (R518). -/
def R.SID_MARK_G : Nat := 0x100018
/-- SID_SUBS (R518). -/
def R.SID_SUBS : Nat := 0x100020
/-- SID_FAILS (R518). -/
def R.SID_FAILS : Nat := 0x100024
/-- SID_HL_MISS (R518). -/
def R.SID_HL_MISS : Nat := 0x100028
/-- SID_SAT (R518). -/
def R.SID_SAT : Nat := 0x10002c
/-- SID_PTSEL (R518). -/
def R.SID_PTSEL : Nat := 0x100030
/-- SID_WEAR_nn (R518). -/
def R.SID_WEAR (n : Nat) : Nat := 0x100040 + 0x4 * n
/-- SID_HL_CFG (R518). -/
def R.SID_HL_CFG : Nat := 0x100080
/-- SID_HL_STAT (R518). -/
def R.SID_HL_STAT : Nat := 0x100084
/-- NVM_CMD (R519). -/
def R.NVM_CMD : Nat := 0x120000
/-- NVM_STAT (R519). -/
def R.NVM_STAT : Nat := 0x120004
/-- NVM_SPARE (R519). -/
def R.NVM_SPARE : Nat := 0x120008
/-- CAN_CTRL (R369). -/
def R.CAN_CTRL : Nat := 0x110200
/-- PWM_TT_dd (R285). -/
def R.PWM_TT (n : Nat) : Nat := 0x94800 + 0x4 * n
/-- PWM_MAP_nn (R285). -/
def R.PWM_MAP (n : Nat) : Nat := 0x94880 + 0x4 * n
/-- PWM_GRP_gg_MEM (R285). -/
def R.PWM_GRP_MEM (n : Nat) : Nat := 0x94c00 + 0x8 * n
/-- PWM_GRP_gg_SVC (R285). -/
def R.PWM_GRP_SVC (n : Nat) : Nat := 0x94c04 + 0x8 * n
/-- PWM_CTRL (R285). -/
def R.PWM_CTRL : Nat := 0x94f00
/-- MTR_PO_nn_CFG (R439). -/
def R.MTR_PO_CFG (n : Nat) : Nat := 0xc1000 + 0x10 * n
/-- MTR_PO_nn_QUEUE (R439). -/
def R.MTR_PO_QUEUE (n : Nat) : Nat := 0xc1004 + 0x10 * n
/-- MTR_PO_nn_K (R439). -/
def R.MTR_PO_K (n : Nat) : Nat := 0xc1008 + 0x10 * n
/-- MTR_CORR (R439). -/
def R.MTR_CORR : Nat := 0xc1100
/-- MTR_CTRL (R439). -/
def R.MTR_CTRL : Nat := 0xc1104
/-- MTR_SAT (R439). -/
def R.MTR_SAT : Nat := 0xc1108
/-- KEEP_PI_nn_CFG (R440). -/
def R.KEEP_PI_CFG (n : Nat) : Nat := 0xe0100 + 0x10 * n
/-- KEEP_PI_nn_CNT (R440). -/
def R.KEEP_PI_CNT (n : Nat) : Nat := 0xe0104 + 0x10 * n
/-- KEEP_PI_nn_STAT (R440). -/
def R.KEEP_PI_STAT (n : Nat) : Nat := 0xe0108 + 0x10 * n

def F.SYS_ID_VENDOR : Field := ⟨31, 16⟩
def F.SYS_ID_DEVICE : Field := ⟨15, 0⟩
def F.SYS_REV_REV : Field := ⟨7, 0⟩
def F.SYS_UID_UID : Field := ⟨63, 0⟩
def F.SYS_MODE_REFUSE : Field := ⟨19, 16⟩
def F.SYS_MODE_STOPPING : Field := ⟨12, 12⟩
def F.SYS_MODE_HALTING : Field := ⟨11, 11⟩
def F.SYS_MODE_RED : Field := ⟨10, 10⟩
def F.SYS_MODE_ISL : Field := ⟨9, 9⟩
def F.SYS_MODE_RT : Field := ⟨8, 8⟩
def F.SYS_MODE_SUB : Field := ⟨7, 4⟩
def F.SYS_MODE_MODE : Field := ⟨3, 0⟩
def F.SYS_MODE_REQ_KEY : Field := ⟨31, 16⟩
def F.SYS_MODE_REQ_PEND : Field := ⟨4, 4⟩
def F.SYS_MODE_REQ_REQ : Field := ⟨3, 0⟩
def F.SYS_HALT_CAUSE_CAUSE : Field := ⟨7, 0⟩
def F.SYS_HALT_INC_INC : Field := ⟨15, 0⟩
def F.SYS_INSPECT_RESTARTS : Field := ⟨31, 24⟩
def F.SYS_INSPECT_NOTES : Field := ⟨23, 16⟩
def F.SYS_INSPECT_CODE : Field := ⟨15, 0⟩
def F.SYS_DIE_STAT_ALIVE : Field := ⟨13, 0⟩
def F.SYS_TIMES_STOP_T : Field := ⟨29, 16⟩
def F.SYS_TIMES_DEPART_T : Field := ⟨9, 0⟩
def F.SYS_SHUNT_STEP : Field := ⟨31, 31⟩
def F.SYS_SHUNT_RINGRUN : Field := ⟨30, 30⟩
def F.SYS_SHUNT_GO : Field := ⟨29, 29⟩
def F.SYS_SHUNT_N : Field := ⟨23, 16⟩
def F.SYS_SHUNT_DUTY : Field := ⟨15, 8⟩
def F.SYS_SHUNT_EX_EX : Field := ⟨31, 0⟩
def F.HOST_LINK_UP : Field := ⟨8, 8⟩
def F.HOST_LINK_WIDTH : Field := ⟨7, 4⟩
def F.HOST_LINK_SPEED : Field := ⟨3, 0⟩
def F.HOST_IRQ_STAT_VOTE : Field := ⟨7, 7⟩
def F.HOST_IRQ_STAT_INSPECT_DONE : Field := ⟨6, 6⟩
def F.HOST_IRQ_STAT_REFUSE : Field := ⟨5, 5⟩
def F.HOST_IRQ_STAT_PWERR : Field := ⟨4, 4⟩
def F.HOST_IRQ_STAT_VIOL : Field := ⟨3, 3⟩
def F.HOST_IRQ_STAT_MODE : Field := ⟨2, 2⟩
def F.HOST_IRQ_STAT_MBX : Field := ⟨1, 1⟩
def F.HOST_IRQ_STAT_NOTIFY : Field := ⟨0, 0⟩
def F.HOST_IRQ_EN_VOTE : Field := ⟨7, 7⟩
def F.HOST_IRQ_EN_INSPECT_DONE : Field := ⟨6, 6⟩
def F.HOST_IRQ_EN_REFUSE : Field := ⟨5, 5⟩
def F.HOST_IRQ_EN_PWERR : Field := ⟨4, 4⟩
def F.HOST_IRQ_EN_VIOL : Field := ⟨3, 3⟩
def F.HOST_IRQ_EN_MODE : Field := ⟨2, 2⟩
def F.HOST_IRQ_EN_MBX : Field := ⟨1, 1⟩
def F.HOST_IRQ_EN_NOTIFY : Field := ⟨0, 0⟩
def F.HOST_PWERR_OVF : Field := ⟨1, 1⟩
def F.HOST_PWERR_ERR : Field := ⟨0, 0⟩
def F.HOST_VIOL_ADDR_SPACE : Field := ⟨31, 30⟩
def F.HOST_VIOL_ADDR_OFFSET : Field := ⟨27, 0⟩
def F.HOST_VIOL_INFO_WINDOW : Field := ⟨19, 17⟩
def F.HOST_VIOL_INFO_WRITE : Field := ⟨16, 16⟩
def F.HOST_VIOL_INFO_WIDTH : Field := ⟨15, 12⟩
def F.HOST_VIOL_INFO_INITIATOR : Field := ⟨11, 8⟩
def F.HOST_VIOL_INFO_REASON : Field := ⟨7, 0⟩
def F.HOST_VIOL_TIME_SEC : Field := ⟨63, 32⟩
def F.HOST_VIOL_TIME_NS : Field := ⟨31, 0⟩
def F.HOST_VIOL_CNT_CNT : Field := ⟨31, 0⟩
def F.HOST_VOTE_FIX_CNT : Field := ⟨31, 0⟩
def F.HOST_VOTE_ADDR_ADDR : Field := ⟨31, 0⟩
def F.HOST_SAT_VOTE_FIX_SAT : Field := ⟨1, 1⟩
def F.HOST_SAT_VIOL_CNT_SAT : Field := ⟨0, 0⟩
def F.TTB_CTRL_CANCEL : Field := ⟨1, 1⟩
def F.TTB_CTRL_ARM : Field := ⟨0, 0⟩
def F.TTB_STAT_ENTRY : Field := ⟨24, 16⟩
def F.TTB_STAT_RESULT : Field := ⟨15, 8⟩
def F.TTB_STAT_NONE : Field := ⟨3, 3⟩
def F.TTB_STAT_ARMED : Field := ⟨2, 2⟩
def F.TTB_STAT_BUSY : Field := ⟨1, 1⟩
def F.TTB_STAT_ACTIVE : Field := ⟨0, 0⟩
def F.TTB_SHED_NSHED : Field := ⟨23, 16⟩
def F.TTB_SHED_ACT : Field := ⟨4, 4⟩
def F.TTB_SHED_LEVEL : Field := ⟨3, 0⟩
def F.TTB_CFG_READMIT_N : Field := ⟨7, 0⟩
def F.TTB_FRAMES_CNT : Field := ⟨63, 0⟩
def F.TTB_SHED_FR_CNT : Field := ⟨31, 0⟩
def F.TTB_SAT_SHED_FR_SAT : Field := ⟨14, 14⟩
def F.TTB_SAT_DLY_SAT : Field := ⟨13, 8⟩
def F.TTB_SAT_OVR_SAT : Field := ⟨7, 0⟩
def F.TTB_OVR_CNT : Field := ⟨31, 0⟩
def F.TTB_GAUGE_ADM : Field := ⟨31, 16⟩
def F.TTB_GAUGE_MEAS : Field := ⟨15, 0⟩
def F.TTB_DLY_CNT : Field := ⟨31, 0⟩
def F.ENG_STAT_ROLE : Field := ⟨19, 16⟩
def F.ENG_STAT_STATE : Field := ⟨11, 8⟩
def F.ENG_STAT_LE : Field := ⟨6, 4⟩
def F.ENG_STAT_IMH : Field := ⟨3, 3⟩
def F.ENG_GAUGE_MAX : Field := ⟨31, 16⟩
def F.ENG_GAUGE_LAST : Field := ⟨15, 0⟩
def F.ENG_LAST_DET_SRC : Field := ⟨23, 20⟩
def F.ENG_LAST_DET_OUT : Field := ⟨19, 18⟩
def F.ENG_LAST_DET_TASK : Field := ⟨17, 9⟩
def F.ENG_LAST_DET_ENTRY : Field := ⟨8, 0⟩
def F.ENG_DET_ADDR_SPACE : Field := ⟨31, 30⟩
def F.ENG_DET_ADDR_ADDR : Field := ⟨23, 0⟩
def F.ENG_DETECT_CNT : Field := ⟨31, 0⟩
def F.ENG_RECOMP_CNT : Field := ⟨31, 0⟩
def F.ENG_REPEAT_CNT : Field := ⟨31, 0⟩
def F.ENG_VIOL_CNT : Field := ⟨31, 0⟩
def F.ENG_SPARE_IM : Field := ⟨15, 8⟩
def F.ENG_SPARE_DM : Field := ⟨7, 0⟩
def F.ENG_SAT_VIOL_SAT : Field := ⟨3, 3⟩
def F.ENG_SAT_REPEAT_SAT : Field := ⟨2, 2⟩
def F.ENG_SAT_RECOMP_SAT : Field := ⟨1, 1⟩
def F.ENG_SAT_DETECT_SAT : Field := ⟨0, 0⟩
def F.ENG_DET_TIME_SEC : Field := ⟨63, 32⟩
def F.ENG_DET_TIME_NS : Field := ⟨31, 0⟩
def F.YARD_CFG_ROW_WIN : Field := ⟨15, 0⟩
def F.YARD_DETECT_CNT : Field := ⟨31, 0⟩
def F.YARD_LAST_READER : Field := ⟨31, 28⟩
def F.YARD_LAST_OFFSET : Field := ⟨23, 0⟩
def F.YARD_SAT_DETECT_SAT : Field := ⟨0, 0⟩
def F.YARD_SPARE_USED : Field := ⟨7, 0⟩
def F.XS_SEL_SHORT_CNT : Field := ⟨31, 0⟩
def F.XS_SEL_ARMS_SHORT : Field := ⟨11, 0⟩
def F.XS_MBX_PEND_PEND : Field := ⟨7, 0⟩
def F.XS_MBX_LOST_CNT : Field := ⟨31, 0⟩
def F.XS_SAT_MBX_LOST_SAT : Field := ⟨1, 1⟩
def F.XS_SAT_SEL_SHORT_SAT : Field := ⟨0, 0⟩
def F.LU_CFG_FEACT : Field := ⟨7, 6⟩
def F.LU_CFG_HOLDOPEN : Field := ⟨5, 5⟩
def F.LU_CFG_ISTOP : Field := ⟨4, 4⟩
def F.LU_CFG_NEGG : Field := ⟨3, 3⟩
def F.LU_CFG_FORM : Field := ⟨1, 0⟩
def F.LU_CTRL_SNAP : Field := ⟨2, 2⟩
def F.LU_CTRL_REQ : Field := ⟨1, 0⟩
def F.LU_STAT_TRK : Field := ⟨11, 11⟩
def F.LU_STAT_NAN : Field := ⟨10, 10⟩
def F.LU_STAT_SAT_LO : Field := ⟨9, 9⟩
def F.LU_STAT_SAT_HI : Field := ⟨8, 8⟩
def F.LU_STAT_PRIMED : Field := ⟨7, 7⟩
def F.LU_STAT_PEND : Field := ⟨5, 5⟩
def F.LU_STAT_REFUSE : Field := ⟨4, 4⟩
def F.LU_STAT_STATE : Field := ⟨1, 0⟩
def F.LU_FLAG_CANCEL : Field := ⟨3, 3⟩
def F.LU_FLAG_NAN : Field := ⟨2, 2⟩
def F.LU_FLAG_SAT : Field := ⟨1, 1⟩
def F.LU_FLAG_FERR : Field := ⟨0, 0⟩
def F.LU_LO_LO : Field := ⟨31, 0⟩
def F.LU_HI_HI : Field := ⟨31, 0⟩
def F.LU_FE_LIM_LIM : Field := ⟨31, 0⟩
def F.LU_SUP_SAT_N : Field := ⟨31, 16⟩
def F.LU_SUP_FE_N : Field := ⟨15, 0⟩
def F.LU_K_K : Field := ⟨31, 0⟩
def F.LU_OUT_OUT : Field := ⟨31, 0⟩
def F.LU_SOUT_OUT : Field := ⟨31, 0⟩
def F.LU_S_S : Field := ⟨31, 0⟩
def F.LU_STEPS_CNT : Field := ⟨31, 0⟩
def F.LU_SATCNT_CNT : Field := ⟨31, 0⟩
def F.LU_FECNT_CNT : Field := ⟨31, 0⟩
def F.LU_NANCNT_CNT : Field := ⟨31, 0⟩
def F.LU_SAT_NANCNT_SAT : Field := ⟨2, 2⟩
def F.LU_SAT_FECNT_SAT : Field := ⟨1, 1⟩
def F.LU_SAT_SATCNT_SAT : Field := ⟨0, 0⟩
def F.CLK_CFG_ALIGN : Field := ⟨15, 15⟩
def F.CLK_CFG_FLINE : Field := ⟨14, 10⟩
def F.CLK_CFG_POLICY : Field := ⟨9, 9⟩
def F.CLK_CFG_DITHER : Field := ⟨8, 8⟩
def F.CLK_CFG_REFF : Field := ⟨7, 6⟩
def F.CLK_CFG_SRC : Field := ⟨2, 0⟩
def F.CLK_STAT_TOD_VALID : Field := ⟨23, 23⟩
def F.CLK_STAT_TOD_SRC : Field := ⟨22, 20⟩
def F.CLK_STAT_DIV_BAD : Field := ⟨19, 19⟩
def F.CLK_STAT_BADBAND : Field := ⟨18, 18⟩
def F.CLK_STAT_REF_OK : Field := ⟨16, 16⟩
def F.CLK_STAT_BAND : Field := ⟨13, 8⟩
def F.CLK_STAT_STATE : Field := ⟨3, 0⟩
def F.CLK_CTRL_SAVE : Field := ⟨3, 3⟩
def F.CLK_CTRL_STEP : Field := ⟨2, 2⟩
def F.CLK_CTRL_SET : Field := ⟨1, 1⟩
def F.CLK_CTRL_SNAP : Field := ⟨0, 0⟩
def F.CLK_LOCK_LOCK_N : Field := ⟨31, 16⟩
def F.CLK_LOCK_LOCK_WIN : Field := ⟨8, 0⟩
def F.CLK_SLEW_STEP_OK : Field := ⟨16, 16⟩
def F.CLK_SLEW_PHASE_SLEW : Field := ⟨9, 0⟩
def F.CLK_DIV_P1 : Field := ⟨7, 4⟩
def F.CLK_DIV_P2 : Field := ⟨3, 0⟩
def F.CLK_DITHER_SEED_SEED : Field := ⟨31, 0⟩
def F.CLK_SERVO_KP_SH : Field := ⟨31, 28⟩
def F.CLK_SERVO_KI_SH : Field := ⟨27, 24⟩
def F.CLK_SERVO_PTP_WIN : Field := ⟨23, 16⟩
def F.CLK_SERVO_FREQ_N : Field := ⟨15, 8⟩
def F.CLK_SERVO_LOSS_N : Field := ⟨7, 4⟩
def F.CLK_PTP_PSTATE : Field := ⟨15, 12⟩
def F.CLK_PTP_PORT : Field := ⟨11, 8⟩
def F.CLK_PTP_DOMAIN : Field := ⟨7, 0⟩
def F.CLK_PHERR_PS : Field := ⟨31, 0⟩
def F.CLK_TERR_NS : Field := ⟨63, 0⟩
def F.CLK_TOD_SEC_SEC : Field := ⟨47, 0⟩
def F.CLK_TOD_NS_NS : Field := ⟨31, 0⟩
def F.CLK_TERR_LIM_LIM : Field := ⟨31, 0⟩
def F.CLK_SET_SEC_SEC : Field := ⟨47, 0⟩
def F.CLK_SET_NS_NS : Field := ⟨31, 0⟩
def F.CLK_MPD_NS : Field := ⟨31, 0⟩
def F.CLK_GMID_ID : Field := ⟨63, 0⟩
def F.CLK_UTC_OFF : Field := ⟨15, 0⟩
def F.CLK_SWALLOW_CNT : Field := ⟨31, 0⟩
def F.CLK_LOSSES_CNT : Field := ⟨31, 0⟩
def F.CLK_STEPS_CNT : Field := ⟨31, 0⟩
def F.CLK_SAT_STEPS_SAT : Field := ⟨2, 2⟩
def F.CLK_SAT_LOSSES_SAT : Field := ⟨1, 1⟩
def F.CLK_SAT_SWALLOW_SAT : Field := ⟨0, 0⟩
def F.CLK_BAND_VALID : Field := ⟨31, 31⟩
def F.CLK_BAND_FHI : Field := ⟨28, 16⟩
def F.CLK_BAND_FLO : Field := ⟨12, 0⟩
def F.PB_CFG_ALARM : Field := ⟨15, 10⟩
def F.PB_CFG_SIM : Field := ⟨9, 9⟩
def F.PB_CFG_PAIR1 : Field := ⟨7, 6⟩
def F.PB_CFG_PAIR0 : Field := ⟨5, 4⟩
def F.PB_CFG_SGMII : Field := ⟨3, 0⟩
def F.PB_STAT_SIMACT : Field := ⟨8, 8⟩
def F.PB_STAT_LANOK : Field := ⟨7, 4⟩
def F.PB_CTRL_SAVE : Field := ⟨0, 0⟩
def F.PB_GPUB_SEND_SEND : Field := ⟨31, 0⟩
def F.PB_GS_LOST_LOST : Field := ⟨63, 0⟩
def F.PB_FT_ACT_ACT : Field := ⟨31, 0⟩
def F.PB_SAT_CRCERR_SAT : Field := ⟨7, 4⟩
def F.PB_SAT_RXDISC_SAT : Field := ⟨3, 0⟩
def F.PB_SVS_LOST_LOST : Field := ⟨31, 0⟩
def F.PB_RXDISC_CNT : Field := ⟨31, 0⟩
def F.PB_CRCERR_CNT : Field := ⟨31, 0⟩
def F.PB_MAC_MAC : Field := ⟨47, 0⟩
def F.PB_SVS_STAT_LOST : Field := ⟨31, 31⟩
def F.PB_SVS_STAT_SIM : Field := ⟨30, 30⟩
def F.PB_SVS_STAT_NOSYNC : Field := ⟨29, 29⟩
def F.PB_SVS_STAT_BADCFG : Field := ⟨28, 28⟩
def F.PB_SVS_STAT_REGAIN : Field := ⟨27, 24⟩
def F.PB_SVS_STAT_DISC_SAT : Field := ⟨22, 22⟩
def F.PB_SVS_STAT_LATE_SAT : Field := ⟨21, 21⟩
def F.PB_SVS_STAT_MISS_SAT : Field := ⟨20, 20⟩
def F.PB_SVS_STAT_SMPCNT : Field := ⟨15, 0⟩
def F.PB_SVS_MISS_CNT : Field := ⟨31, 0⟩
def F.PB_SVS_LATE_CNT : Field := ⟨31, 0⟩
def F.PB_SVS_DISC_CNT : Field := ⟨31, 0⟩
def F.AFE_CFG_LP : Field := ⟨0, 0⟩
def F.AFE_CTRL_CMPTEST : Field := ⟨2, 2⟩
def F.AFE_CTRL_OWTEST : Field := ⟨1, 1⟩
def F.AFE_CTRL_SAVE : Field := ⟨0, 0⟩
def F.AFE_STAT_NOCHK : Field := ⟨20, 16⟩
def F.AFE_STAT_DRIFT : Field := ⟨12, 8⟩
def F.AFE_STAT_CMPBUSY : Field := ⟨3, 3⟩
def F.AFE_STAT_OWBUSY : Field := ⟨2, 2⟩
def F.AFE_STAT_SETTLING : Field := ⟨1, 1⟩
def F.AFE_STAT_LPACT : Field := ⟨0, 0⟩
def F.AFE_OW_SEL_SEL : Field := ⟨23, 0⟩
def F.AFE_OW_RES_OPEN : Field := ⟨23, 0⟩
def F.AFE_CMP_STAT_OUT : Field := ⟨23, 0⟩
def F.AFE_CMP_UNRES_UNRES : Field := ⟨23, 0⟩
def F.AFE_CMP_OFSFAIL_FAIL : Field := ⟨27, 0⟩
def F.AFE_TRIG_EN : Field := ⟨31, 31⟩
def F.AFE_TRIG_SEL : Field := ⟨5, 5⟩
def F.AFE_TRIG_GEN : Field := ⟨4, 0⟩
def F.AFE_SEQ_EN : Field := ⟨31, 31⟩
def F.AFE_SEQ_TRG : Field := ⟨10, 8⟩
def F.AFE_SEQ_LENM1 : Field := ⟨3, 0⟩
def F.AFE_OVR_CNT : Field := ⟨31, 0⟩
def F.AFE_SAT_OVR_SAT : Field := ⟨3, 0⟩
def F.AFE_CMP_CFG_EN : Field := ⟨31, 31⟩
def F.AFE_CMP_CFG_WIN : Field := ⟨30, 30⟩
def F.AFE_CMP_CFG_MODE : Field := ⟨29, 28⟩
def F.AFE_CMP_CFG_HYS : Field := ⟨27, 26⟩
def F.AFE_CMP_CFG_INV : Field := ⟨25, 25⟩
def F.AFE_CMP_CFG_INIT : Field := ⟨24, 24⟩
def F.AFE_CMP_CFG_UA : Field := ⟨23, 23⟩
def F.AFE_CMP_CFG_NTF : Field := ⟨22, 22⟩
def F.AFE_CMP_CFG_FLEN : Field := ⟨21, 21⟩
def F.AFE_CMP_CFG_FL : Field := ⟨20, 16⟩
def F.AFE_CMP_CFG_CAPEN : Field := ⟨15, 15⟩
def F.AFE_CMP_CFG_CAP : Field := ⟨14, 11⟩
def F.AFE_CMP_CFG_EVEN : Field := ⟨10, 10⟩
def F.AFE_CMP_CFG_EVR : Field := ⟨9, 6⟩
def F.AFE_CMP_CFG_EDGE : Field := ⟨5, 4⟩
def F.CAP_CFG_EN : Field := ⟨31, 31⟩
def F.CAP_CFG_MODE : Field := ⟨30, 30⟩
def F.CAP_CFG_SVC : Field := ⟨29, 28⟩
def F.CAP_CFG_EDGE : Field := ⟨27, 26⟩
def F.CAP_CFG_SRC : Field := ⟨6, 0⟩
def F.CAP_CTRL_ARM : Field := ⟨0, 0⟩
def F.CAP_STAT_BADCFG : Field := ⟨2, 2⟩
def F.CAP_STAT_ARMED : Field := ⟨1, 1⟩
def F.CAP_STAT_NEW : Field := ⟨0, 0⟩
def F.CAP_SEQ_CNT : Field := ⟨31, 0⟩
def F.CAP_TICK_TICK : Field := ⟨18, 0⟩
def F.CAP_NS_NS : Field := ⟨31, 0⟩
def F.CAP_SEC_SEC : Field := ⟨47, 0⟩
def F.CAP_OVR_CNT : Field := ⟨31, 0⟩
def F.CAP_SAT_OVR_SAT : Field := ⟨0, 0⟩
def F.PWM_CFG_EN : Field := ⟨31, 31⟩
def F.PWM_CFG_MODE : Field := ⟨30, 29⟩
def F.PWM_CFG_INDEP : Field := ⟨28, 28⟩
def F.PWM_CFG_ACT : Field := ⟨27, 26⟩
def F.PWM_CFG_POLICY : Field := ⟨25, 24⟩
def F.PWM_CFG_SWAP : Field := ⟨23, 23⟩
def F.PWM_CFG_INVA : Field := ⟨22, 22⟩
def F.PWM_CFG_INVB : Field := ⟨21, 21⟩
def F.PWM_PERIOD_TICKS : Field := ⟨23, 0⟩
def F.PWM_PERFR_FINE : Field := ⟨9, 4⟩
def F.PWM_PERFR_DITH : Field := ⟨3, 0⟩
def F.PWM_PHASE_VAL : Field := ⟨31, 0⟩
def F.PWM_CMPA_VAL : Field := ⟨31, 0⟩
def F.PWM_CMPB_VAL : Field := ⟨31, 0⟩
def F.PWM_DTR_FS : Field := ⟨18, 0⟩
def F.PWM_DTF_FS : Field := ⟨18, 0⟩
def F.PWM_TRIG0_VAL : Field := ⟨31, 0⟩
def F.PWM_TRIG1_VAL : Field := ⟨31, 0⟩
def F.PWM_DTMIN_FS : Field := ⟨18, 0⟩
def F.PWM_MINP_FS : Field := ⟨16, 0⟩
def F.PWM_FORCE_FB : Field := ⟨3, 2⟩
def F.PWM_FORCE_FA : Field := ⟨1, 0⟩
def F.PWM_STAT_MHOLD : Field := ⟨15, 15⟩
def F.PWM_STAT_FLINE : Field := ⟨14, 14⟩
def F.PWM_STAT_FACT : Field := ⟨13, 12⟩
def F.PWM_STAT_BADCFG : Field := ⟨7, 7⟩
def F.PWM_STAT_PER_IGN : Field := ⟨6, 6⟩
def F.PWM_STAT_ILK : Field := ⟨5, 5⟩
def F.PWM_STAT_SHORT : Field := ⟨4, 4⟩
def F.PWM_STAT_DT_CLAMP : Field := ⟨3, 3⟩
def F.PWM_STAT_CLIP : Field := ⟨2, 2⟩
def F.PWM_STAT_CONSIST_LATE : Field := ⟨1, 1⟩
def F.PWM_LATE_CNT : Field := ⟨31, 0⟩
def F.PWM_SHORT_CNT : Field := ⟨31, 0⟩
def F.PWM_CARRYA_VAL : Field := ⟨31, 0⟩
def F.PWM_CARRYB_VAL : Field := ⟨31, 0⟩
def F.PWM_PERIODS_CNT : Field := ⟨63, 0⟩
def F.PWM_SAT_SHORT_SAT : Field := ⟨1, 1⟩
def F.PWM_SAT_LATE_SAT : Field := ⟨0, 0⟩
def F.PWM_FL_MASK_MASK : Field := ⟨31, 0⟩
def F.PWM_FL_CFG_LATCH : Field := ⟨4, 4⟩
def F.PWM_FL_CFG_FORCED : Field := ⟨2, 2⟩
def F.PWM_FL_CFG_ACT : Field := ⟨1, 0⟩
def F.PWM_FL_STAT_REQ : Field := ⟨9, 2⟩
def F.PWM_FL_STAT_LATCHED : Field := ⟨1, 1⟩
def F.PWM_FL_STAT_ACTIVE : Field := ⟨0, 0⟩
def F.PWM_FL_CNT_CNT : Field := ⟨31, 0⟩
def F.PWM_FL_ACT_ACT : Field := ⟨31, 0⟩
def F.PWM_FL_HOST_REQ : Field := ⟨31, 0⟩
def F.PWM_FL_SYS_STO : Field := ⟨12, 8⟩
def F.PWM_FL_SYS_REM : Field := ⟨4, 0⟩
def F.PWM_FL_SILENT_MASK : Field := ⟨31, 0⟩
def F.PWM_FL_SAT_CNT_SAT : Field := ⟨31, 0⟩
def F.GD_EDGE_SRC1 : Field := ⟨31, 28⟩
def F.GD_EDGE_SRC2 : Field := ⟨27, 24⟩
def F.GD_EDGE_TON1 : Field := ⟨23, 19⟩
def F.GD_EDGE_SNK1 : Field := ⟨18, 15⟩
def F.GD_EDGE_SNK2 : Field := ⟨14, 11⟩
def F.GD_EDGE_TOFF1 : Field := ⟨10, 6⟩
def F.GD_EDGE_SOFT : Field := ⟨5, 2⟩
def F.GD_EDGE_CLAMP : Field := ⟨1, 1⟩
def F.GD_PROT_DESEN : Field := ⟨31, 31⟩
def F.GD_PROT_KLVEN : Field := ⟨30, 30⟩
def F.GD_PROT_DTH : Field := ⟨29, 26⟩
def F.GD_PROT_KTH : Field := ⟨25, 22⟩
def F.GD_PROT_UVLO : Field := ⟨21, 20⟩
def F.GD_PROT_VNREQ : Field := ⟨19, 19⟩
def F.GD_PROT_BLANK : Field := ⟨8, 0⟩
def F.GD_STAT_REV : Field := ⟨18, 18⟩
def F.GD_STAT_VNOK : Field := ⟨17, 17⟩
def F.GD_STAT_VPOK : Field := ⟨16, 16⟩
def F.GD_STAT_LATCH : Field := ⟨15, 15⟩
def F.GD_STAT_CAUSE : Field := ⟨14, 12⟩
def F.GD_STAT_SOFT : Field := ⟨11, 11⟩
def F.GD_STAT_CLAMPON : Field := ⟨10, 10⟩
def F.GD_STAT_HELD : Field := ⟨9, 9⟩
def F.GD_STAT_CMD : Field := ⟨8, 8⟩
def F.GD_STAT_ON : Field := ⟨7, 7⟩
def F.GD_STAT_CLRREF : Field := ⟨2, 2⟩
def F.GD_STAT_XC : Field := ⟨1, 1⟩
def F.GD_STAT_DET : Field := ⟨0, 0⟩
def F.GD_SC_CNT : Field := ⟨31, 0⟩
def F.GD_EDGES_CNT : Field := ⟨63, 0⟩
def F.GD_HB_CFG_EN : Field := ⟨31, 31⟩
def F.GD_HB_CFG_FLINE : Field := ⟨4, 0⟩
def F.GD_CLEAR_CLR : Field := ⟨23, 0⟩
def F.GD_FAULT_LATCH : Field := ⟨23, 0⟩
def F.GD_LINK_OK : Field := ⟨5, 0⟩
def F.GD_XC_CNT_CNT : Field := ⟨31, 0⟩
def F.GD_CTRL_SAVE : Field := ⟨0, 0⟩
def F.GD_SAT_XC_SAT : Field := ⟨24, 24⟩
def F.GD_SAT_SC_SAT : Field := ⟨23, 0⟩
def F.CAN_CFG_EN : Field := ⟨31, 31⟩
def F.CAN_CFG_TDC : Field := ⟨30, 30⟩
def F.CAN_CFG_DBR : Field := ⟨7, 4⟩
def F.CAN_CFG_NBR : Field := ⟨1, 0⟩
def F.CAN_STAT_BUSOFF : Field := ⟨18, 18⟩
def F.CAN_STAT_EPASS : Field := ⟨17, 17⟩
def F.CAN_STAT_EWARN : Field := ⟨16, 16⟩
def F.CAN_STAT_REC : Field := ⟨15, 8⟩
def F.CAN_STAT_TEC : Field := ⟨7, 0⟩
def F.CAN_RXCNT_CNT : Field := ⟨31, 0⟩
def F.CAN_TXCNT_CNT : Field := ⟨31, 0⟩
def F.CAN_DISC_CNT : Field := ⟨31, 0⟩
def F.CAN_BUSOFF_CNT : Field := ⟨31, 0⟩
def F.CAN_SAT_BUSOFF_SAT : Field := ⟨1, 1⟩
def F.CAN_SAT_DISC_SAT : Field := ⟨0, 0⟩
def F.LN_CFG_EN : Field := ⟨31, 31⟩
def F.LN_CFG_DOUBLE : Field := ⟨30, 30⟩
def F.LN_CFG_SVC : Field := ⟨29, 28⟩
def F.LN_CFG_DIV : Field := ⟨27, 22⟩
def F.LN_CFG_CELL_WD : Field := ⟨21, 18⟩
def F.LN_CFG_LOST_N : Field := ⟨17, 14⟩
def F.LN_CELLS_BASE : Field := ⟨27, 16⟩
def F.LN_CELLS_COUNT : Field := ⟨9, 0⟩
def F.LN_RING_RINGID : Field := ⟨31, 16⟩
def F.LN_RING_RETHOP : Field := ⟨15, 0⟩
def F.LN_APPLY_MIN : Field := ⟨31, 16⟩
def F.LN_APPLY_DEF : Field := ⟨15, 0⟩
def F.LN_FLMASK_MASK : Field := ⟨31, 0⟩
def F.LN_PTBASE_PAGE : Field := ⟨23, 12⟩
def F.LN_POLL_EN : Field := ⟨31, 31⟩
def F.LN_POLL_NM1 : Field := ⟨27, 24⟩
def F.LN_POLL_LAST : Field := ⟨23, 16⟩
def F.LN_POLL_FIRST : Field := ⟨15, 8⟩
def F.LN_PORT_CTRL_TRAIN : Field := ⟨0, 0⟩
def F.LN_STAT_UP : Field := ⟨31, 31⟩
def F.LN_STAT_BREAK : Field := ⟨30, 30⟩
def F.LN_STAT_BADCYC : Field := ⟨29, 29⟩
def F.LN_STAT_FULL : Field := ⟨28, 28⟩
def F.LN_STAT_CLAMP : Field := ⟨27, 27⟩
def F.LN_STAT_REACH_A : Field := ⟨25, 16⟩
def F.LN_STAT_REACH_B : Field := ⟨9, 0⟩
def F.LN_TRAIN_STATE : Field := ⟨31, 28⟩
def F.LN_TRAIN_CODE : Field := ⟨23, 16⟩
def F.LN_TRAIN_POS : Field := ⟨8, 0⟩
def F.LN_RTT_PS : Field := ⟨31, 0⟩
def F.LN_HREQ_GO : Field := ⟨31, 31⟩
def F.LN_HREQ_WR : Field := ⟨30, 30⟩
def F.LN_HREQ_ERR : Field := ⟨29, 29⟩
def F.LN_HREQ_POINT : Field := ⟨23, 16⟩
def F.LN_HREQ_POS : Field := ⟨8, 0⟩
def F.LN_HDATA_DATA : Field := ⟨31, 0⟩
def F.LN_CRCERR_CNT : Field := ⟨31, 0⟩
def F.LN_LOSTFR_CNT : Field := ⟨31, 0⟩
def F.LN_QFULL_CNT : Field := ⟨31, 0⟩
def F.LN_CYCLES_CNT : Field := ⟨63, 0⟩
def F.LN_SAT_QFULL_SAT : Field := ⟨2, 2⟩
def F.LN_SAT_LOSTFR_SAT : Field := ⟨1, 1⟩
def F.LN_SAT_CRCERR_SAT : Field := ⟨0, 0⟩
def F.LN_MAP_SHADOW : Field := ⟨31, 31⟩
def F.LN_MAP_PHYS : Field := ⟨4, 0⟩
def F.LN_CTRL_SAVE : Field := ⟨0, 0⟩
def F.MTR_MP_CFG_EN : Field := ⟨31, 31⟩
def F.MTR_MP_CFG_NEG : Field := ⟨30, 30⟩
def F.MTR_MP_CFG_PER_PHASE : Field := ⟨29, 29⟩
def F.MTR_MP_CFG_NET : Field := ⟨28, 28⟩
def F.MTR_MP_CFG_ST : Field := ⟨15, 8⟩
def F.MTR_MP_CFG_DEM : Field := ⟨7, 0⟩
def F.MTR_MP_IN_IN : Field := ⟨31, 0⟩
def F.MTR_MP_CTRL_KEY : Field := ⟨31, 16⟩
def F.MTR_MP_CTRL_CLR : Field := ⟨1, 1⟩
def F.MTR_MP_CTRL_SNAP : Field := ⟨0, 0⟩
def F.MTR_MP_STAT_WRAP : Field := ⟨8, 8⟩
def F.MTR_MP_STAT_IRREG : Field := ⟨7, 7⟩
def F.MTR_MP_STAT_CORR : Field := ⟨6, 6⟩
def F.MTR_MP_STAT_GAP : Field := ⟨5, 5⟩
def F.MTR_MP_STAT_DIR : Field := ⟨4, 4⟩
def F.MTR_MP_STAT_BLOCKED : Field := ⟨3, 3⟩
def F.MTR_MP_SETS_CNT : Field := ⟨63, 0⟩
def F.MTR_MP_GAP_US : Field := ⟨63, 0⟩
def F.MTR_MP_DEM_IMP_W : Field := ⟨31, 0⟩
def F.MTR_MP_DEM_EXP_W : Field := ⟨31, 0⟩
def F.MTR_MP_DEM_MAX_W : Field := ⟨31, 0⟩
def F.MTR_MP_CLRCNT_CNT : Field := ⟨31, 0⟩
def F.MTR_MP_DEM_MAX_T_SEC : Field := ⟨63, 32⟩
def F.MTR_MP_DEM_MAX_T_NS : Field := ⟨31, 0⟩
def F.MTR_MP_SNAP_T_SEC : Field := ⟨63, 32⟩
def F.MTR_MP_SNAP_T_NS : Field := ⟨31, 0⟩
def F.MTR_MP_E_E : Field := ⟨63, 0⟩
def F.MTR_MP_S_E : Field := ⟨63, 0⟩
def F.MTR_MP_W_WRAP_H : Field := ⟨31, 16⟩
def F.MTR_MP_W_WRAP_L : Field := ⟨15, 0⟩
def F.MTR_MP_SW_WRAP_H : Field := ⟨31, 16⟩
def F.MTR_MP_SW_WRAP_L : Field := ⟨15, 0⟩
def F.SAFE_STAT_LOCKOUT : Field := ⟨7, 7⟩
def F.SAFE_STAT_MAINT : Field := ⟨6, 6⟩
def F.SAFE_STAT_CFGVALID : Field := ⟨5, 5⟩
def F.SAFE_STAT_STOPSIG : Field := ⟨4, 4⟩
def F.SAFE_STAT_STOP1 : Field := ⟨3, 3⟩
def F.SAFE_STAT_STO_B : Field := ⟨2, 2⟩
def F.SAFE_STAT_STO_A : Field := ⟨1, 1⟩
def F.SAFE_STAT_STO : Field := ⟨0, 0⟩
def F.SAFE_SI_FLT : Field := ⟨31, 16⟩
def F.SAFE_SI_REL : Field := ⟨15, 0⟩
def F.SAFE_FB_WAITRST : Field := ⟨31, 16⟩
def F.SAFE_FB_REL : Field := ⟨15, 0⟩
def F.SAFE_MUTE_MUTE : Field := ⟨15, 0⟩
def F.SAFE_OUT_STO_REL : Field := ⟨16, 16⟩
def F.SAFE_OUT_EDM : Field := ⟨15, 12⟩
def F.SAFE_OUT_OUTFLT : Field := ⟨11, 8⟩
def F.SAFE_OUT_EDMFLT : Field := ⟨7, 4⟩
def F.SAFE_OUT_ON : Field := ⟨3, 0⟩
def F.SAFE_TK_FAIL : Field := ⟨31, 16⟩
def F.SAFE_TK_RUN : Field := ⟨15, 0⟩
def F.SAFE_TK_CODE_CODE : Field := ⟨63, 0⟩
def F.SAFE_CFG_CRC_CRC : Field := ⟨31, 0⟩
def F.SAFE_CFG_SEQ_SEQ : Field := ⟨31, 0⟩
def F.SAFE_PW_PWSET : Field := ⟨20, 20⟩
def F.SAFE_PW_FAILS : Field := ⟨19, 16⟩
def F.SAFE_PW_LOCK_S : Field := ⟨9, 0⟩
def F.KEEP_STAT_PWR : Field := ⟨17, 17⟩
def F.KEEP_STAT_WAKE : Field := ⟨16, 16⟩
def F.KEEP_STAT_ABOVE : Field := ⟨12, 8⟩
def F.KEEP_STAT_BURST : Field := ⟨3, 3⟩
def F.KEEP_STAT_CAPBAD : Field := ⟨2, 2⟩
def F.KEEP_STAT_NOREC : Field := ⟨1, 1⟩
def F.KEEP_STAT_RTCV : Field := ⟨0, 0⟩
def F.KEEP_CFG_LPON : Field := ⟨17, 17⟩
def F.KEEP_CFG_XTAL : Field := ⟨16, 16⟩
def F.KEEP_CFG_KST_MAX : Field := ⟨9, 0⟩
def F.KEEP_KST_MV : Field := ⟨15, 0⟩
def F.KEEP_CAP_UF : Field := ⟨31, 0⟩
def F.KEEP_ERES_UJ : Field := ⟨31, 0⟩
def F.KEEP_EMEAS_D : Field := ⟨31, 24⟩
def F.KEEP_EMEAS_E : Field := ⟨23, 0⟩
def F.KEEP_EXMIT_D : Field := ⟨31, 24⟩
def F.KEEP_EXMIT_E : Field := ⟨23, 0⟩
def F.KEEP_EWAKE_D : Field := ⟨31, 24⟩
def F.KEEP_EWAKE_E : Field := ⟨23, 0⟩
def F.KEEP_LAMP_EN : Field := ⟨2, 2⟩
def F.KEEP_LAMP_BAUD : Field := ⟨1, 0⟩
def F.KEEP_WAKE_ACTION : Field := ⟨25, 24⟩
def F.KEEP_WAKE_INT : Field := ⟨23, 0⟩
def F.KEEP_BURST_END : Field := ⟨31, 28⟩
def F.KEEP_BURST_CLASS : Field := ⟨27, 26⟩
def F.KEEP_BURST_VEND : Field := ⟨15, 0⟩
def F.KEEP_DENIES_CNT : Field := ⟨31, 0⟩
def F.KEEP_ABORTS_CNT : Field := ⟨31, 0⟩
def F.KEEP_SAT_ABORTS_SAT : Field := ⟨1, 1⟩
def F.KEEP_SAT_DENIES_SAT : Field := ⟨0, 0⟩
def F.KEEP_RTC_SEC : Field := ⟨62, 15⟩
def F.KEEP_RTC_FRAC : Field := ⟨14, 0⟩
def F.KEEP_DARK_START_SEC : Field := ⟨62, 15⟩
def F.KEEP_DARK_START_FRAC : Field := ⟨14, 0⟩
def F.KEEP_DARK_END_SEC : Field := ⟨62, 15⟩
def F.KEEP_DARK_END_FRAC : Field := ⟨14, 0⟩
def F.KEEP_TMP_CNT_CNT : Field := ⟨31, 0⟩
def F.KEEP_KCMP_STAT_UNRES : Field := ⟨7, 4⟩
def F.KEEP_KCMP_STAT_OUT : Field := ⟨3, 0⟩
def F.KEEP_KCMP_CFG_EN : Field := ⟨31, 31⟩
def F.KEEP_KCMP_CFG_WIN : Field := ⟨30, 30⟩
def F.KEEP_KCMP_CFG_MODE : Field := ⟨29, 28⟩
def F.KEEP_KCMP_CFG_HYS : Field := ⟨27, 26⟩
def F.KEEP_KCMP_CFG_INV : Field := ⟨25, 25⟩
def F.KEEP_KCMP_CFG_INIT : Field := ⟨24, 24⟩
def F.KEEP_KCMP_CFG_WAKE : Field := ⟨23, 23⟩
def F.KEEP_KCMP_CFG_TAMP : Field := ⟨22, 22⟩
def F.KEEP_KCMP_CFG_EDGE : Field := ⟨5, 4⟩
def F.FLT_STAT_INC : Field := ⟨31, 16⟩
def F.FLT_STAT_OPEN : Field := ⟨15, 15⟩
def F.FLT_STAT_SEV : Field := ⟨14, 12⟩
def F.FLT_STAT_NSEC : Field := ⟨11, 8⟩
def F.FLT_STAT_LATCHED : Field := ⟨7, 7⟩
def F.FLT_STAT_FNSTOP : Field := ⟨6, 6⟩
def F.FLT_STAT_GLIM : Field := ⟨5, 5⟩
def F.FLT_CTRL_CLEAR : Field := ⟨31, 31⟩
def F.FLT_CTRL_CLRALL : Field := ⟨30, 30⟩
def F.FLT_CTRL_CLRCNT : Field := ⟨29, 29⟩
def F.FLT_CTRL_SAVE : Field := ⟨28, 28⟩
def F.FLT_CTRL_SRC : Field := ⟨7, 0⟩
def F.FLT_CFG_MAX_REC_G : Field := ⟨31, 24⟩
def F.FLT_CFG_REC_WINDOW_G : Field := ⟨16, 0⟩
def F.FLT_INC_CNT_CNT : Field := ⟨31, 0⟩
def F.FLT_REC_G_CNT : Field := ⟨31, 0⟩
def F.FLT_SAT_REC_G_SAT : Field := ⟨0, 0⟩
def F.FLT_REACT_STO : Field := ⟨6, 6⟩
def F.FLT_REACT_HALT : Field := ⟨5, 5⟩
def F.FLT_REACT_LINE : Field := ⟨4, 4⟩
def F.FLT_REACT_FNSTOP : Field := ⟨3, 3⟩
def F.FLT_REACT_ALARM : Field := ⟨2, 2⟩
def F.FLT_REACT_NOTIFY : Field := ⟨1, 1⟩
def F.FLT_REACT_LOG : Field := ⟨0, 0⟩
def F.SID_CFG_AUTO : Field := ⟨31, 31⟩
def F.SID_CFG_ENG_WARN : Field := ⟨15, 0⟩
def F.SID_CTRL_SUB : Field := ⟨31, 31⟩
def F.SID_CTRL_ABORT : Field := ⟨30, 30⟩
def F.SID_CTRL_UNIT : Field := ⟨7, 0⟩
def F.SID_STAT_STATE : Field := ⟨31, 28⟩
def F.SID_STAT_LAST : Field := ⟨27, 24⟩
def F.SID_STAT_UNIT : Field := ⟨23, 16⟩
def F.SID_STAT_RES : Field := ⟨15, 8⟩
def F.SID_MARK_A_ADC : Field := ⟨14, 10⟩
def F.SID_MARK_A_ENG : Field := ⟨9, 0⟩
def F.SID_MARK_L_PORT : Field := ⟨17, 0⟩
def F.SID_MARK_C_CMP : Field := ⟨27, 0⟩
def F.SID_MARK_G_GEN : Field := ⟨33, 0⟩
def F.SID_SUBS_CNT : Field := ⟨31, 0⟩
def F.SID_FAILS_CNT : Field := ⟨31, 0⟩
def F.SID_HL_MISS_CNT : Field := ⟨31, 0⟩
def F.SID_SAT_MISS_SAT : Field := ⟨2, 2⟩
def F.SID_SAT_FAILS_SAT : Field := ⟨1, 1⟩
def F.SID_SAT_SUBS_SAT : Field := ⟨0, 0⟩
def F.SID_PTSEL_SEL : Field := ⟨63, 0⟩
def F.SID_WEAR_PS : Field := ⟨15, 0⟩
def F.SID_HL_CFG_EN : Field := ⟨31, 31⟩
def F.SID_HL_CFG_WANT_LEAD : Field := ⟨30, 30⟩
def F.SID_HL_CFG_TAKE_HALT : Field := ⟨29, 29⟩
def F.SID_HL_STAT_ROLE : Field := ⟨31, 30⟩
def F.SID_HL_STAT_LANE1 : Field := ⟨29, 29⟩
def F.SID_HL_STAT_LANE0 : Field := ⟨28, 28⟩
def F.SID_HL_STAT_PEER_ACT : Field := ⟨27, 27⟩
def F.SID_HL_STAT_CODE : Field := ⟨23, 16⟩
def F.SID_HL_STAT_KIB : Field := ⟨15, 0⟩
def F.NVM_CMD_GO : Field := ⟨31, 31⟩
def F.NVM_CMD_CMD : Field := ⟨27, 24⟩
def F.NVM_CMD_BANK : Field := ⟨20, 20⟩
def F.NVM_CMD_ADDR : Field := ⟨16, 0⟩
def F.NVM_STAT_REVOKED : Field := ⟨23, 20⟩
def F.NVM_STAT_KEYS : Field := ⟨19, 16⟩
def F.NVM_STAT_RESULT : Field := ⟨15, 8⟩
def F.NVM_STAT_LOCK1 : Field := ⟨5, 5⟩
def F.NVM_STAT_LOCK0 : Field := ⟨4, 4⟩
def F.NVM_STAT_BUSY : Field := ⟨1, 1⟩
def F.NVM_STAT_ACTIVE : Field := ⟨0, 0⟩
def F.NVM_SPARE_BANK1 : Field := ⟨15, 8⟩
def F.NVM_SPARE_BANK0 : Field := ⟨7, 0⟩
def F.CAN_CTRL_SAVE : Field := ⟨0, 0⟩
def F.PWM_TT_EN : Field := ⟨31, 31⟩
def F.PWM_TT_SRC : Field := ⟨4, 0⟩
def F.PWM_MAP_SHADOW : Field := ⟨31, 31⟩
def F.PWM_MAP_PHYS : Field := ⟨5, 0⟩
def F.PWM_GRP_MEM_MEM : Field := ⟨31, 0⟩
def F.PWM_GRP_SVC_BOUND : Field := ⟨31, 31⟩
def F.PWM_GRP_SVC_SVC : Field := ⟨29, 28⟩
def F.PWM_GRP_SVC_MULT : Field := ⟨5, 0⟩
def F.PWM_CTRL_SAVE : Field := ⟨0, 0⟩
def F.MTR_PO_CFG_EN : Field := ⟨31, 31⟩
def F.MTR_PO_CFG_MP : Field := ⟨30, 29⟩
def F.MTR_PO_CFG_QTY : Field := ⟨28, 26⟩
def F.MTR_PO_CFG_PH : Field := ⟨25, 24⟩
def F.MTR_PO_CFG_WIDTH : Field := ⟨7, 0⟩
def F.MTR_PO_QUEUE_FULL : Field := ⟨16, 16⟩
def F.MTR_PO_QUEUE_PEND : Field := ⟨15, 0⟩
def F.MTR_PO_K_K : Field := ⟨63, 0⟩
def F.MTR_CORR_BAD : Field := ⟨9, 9⟩
def F.MTR_CORR_ACT : Field := ⟨8, 8⟩
def F.MTR_CORR_SEL : Field := ⟨0, 0⟩
def F.MTR_CTRL_SAVE : Field := ⟨0, 0⟩
def F.MTR_SAT_CLRCNT_SAT : Field := ⟨3, 0⟩
def F.KEEP_PI_CFG_EN : Field := ⟨31, 31⟩
def F.KEEP_PI_CFG_SUP : Field := ⟨30, 30⟩
def F.KEEP_PI_CFG_DIR : Field := ⟨29, 29⟩
def F.KEEP_PI_CFG_EDGE : Field := ⟨28, 28⟩
def F.KEEP_PI_CFG_DEB : Field := ⟨7, 0⟩
def F.KEEP_PI_CNT_CNT : Field := ⟨31, 0⟩
def F.KEEP_PI_STAT_DARK : Field := ⟨5, 5⟩
def F.KEEP_PI_STAT_WFLT : Field := ⟨4, 4⟩
def F.KEEP_PI_STAT_WRAP : Field := ⟨3, 3⟩
def F.KEEP_PI_STAT_SHORT : Field := ⟨2, 2⟩
def F.KEEP_PI_STAT_OPEN : Field := ⟨1, 1⟩
def F.KEEP_PI_STAT_LEVEL : Field := ⟨0, 0⟩

end Sys2Proof.Machine
end

