-- ==== Sys2Proof/Machine/RegTable.lean ====
section
/-! DEFINITION. RegTable.lean: one row per register of the spec's register tables: where it lies, how
many there are, its width, its reset value, the modes in which the host may write it, and its fields
with their access codes (R10). Bits that no field covers are reserved (R58). -/

namespace Sys2Proof.Machine

/-- The registers of R67 (03_host_and_registers.md). -/
def regsR67 : List RegDef := [
  ⟨0x0, 1, 0x0, 1, 0x0, false, .val 0x4d448016, .any, false,
   [⟨31, 16, .ro⟩, ⟨15, 0, .ro⟩]⟩,
  ⟨0x4, 1, 0x0, 1, 0x0, false, .val 0x43, .any, false,
   [⟨7, 0, .ro⟩]⟩,
  ⟨0x8, 1, 0x0, 1, 0x0, true, .uid, .any, false,
   [⟨63, 0, .ro⟩]⟩,
  ⟨0x10, 1, 0x0, 1, 0x0, false, .val 0x2, .any, false,
   [⟨19, 16, .ro⟩, ⟨12, 12, .ro⟩, ⟨11, 11, .ro⟩, ⟨10, 10, .ro⟩, ⟨9, 9, .ro⟩, ⟨8, 8, .ro⟩, ⟨7, 4, .ro⟩, ⟨3, 0, .ro⟩]⟩,
  ⟨0x14, 1, 0x0, 1, 0x0, false, .val 0x0, .modeReq, false,
   [⟨31, 16, .wo⟩, ⟨4, 4, .ro⟩, ⟨3, 0, .rb⟩]⟩,
  ⟨0x18, 1, 0x0, 1, 0x0, false, .val 0x0, .any, false,
   [⟨7, 0, .ro⟩]⟩,
  ⟨0x1c, 1, 0x0, 1, 0x0, false, .val 0x0, .any, false,
   [⟨15, 0, .ro⟩]⟩,
  ⟨0x20, 1, 0x0, 1, 0x0, false, .val 0x0, .any, false,
   [⟨31, 24, .ro⟩, ⟨23, 16, .ro⟩, ⟨15, 0, .ro⟩]⟩,
  ⟨0x24, 1, 0x0, 1, 0x0, false, .val 0x0, .any, false,
   [⟨13, 0, .ro⟩]⟩,
  ⟨0x28, 1, 0x0, 1, 0x0, false, .val 0x1f4003c, .haltDepotIfChanged, true,
   [⟨29, 16, .rt⟩, ⟨9, 0, .rt⟩]⟩,
  ⟨0x2c, 1, 0x0, 1, 0x0, false, .val 0x14000, .sysShunt, true,
   [⟨31, 31, .rt⟩, ⟨30, 30, .rt⟩, ⟨29, 29, .rw⟩, ⟨23, 16, .rt⟩, ⟨15, 8, .rt⟩]⟩,
  ⟨0x30, 1, 0x0, 1, 0x0, false, .val 0x0, .haltDepotIfChanged, true,
   [⟨31, 0, .rt⟩]⟩]

/-- The registers of R68 (03_host_and_registers.md). -/
def regsR68 : List RegDef := [
  ⟨0x10000, 1, 0x0, 1, 0x0, false, .val 0x0, .any, false,
   [⟨8, 8, .ro⟩, ⟨7, 4, .ro⟩, ⟨3, 0, .ro⟩]⟩,
  ⟨0x10004, 1, 0x0, 1, 0x0, false, .val 0x0, .any, false,
   [⟨7, 7, .w1c⟩, ⟨6, 6, .w1c⟩, ⟨5, 5, .w1c⟩, ⟨4, 4, .w1c⟩, ⟨3, 3, .w1c⟩, ⟨2, 2, .w1c⟩, ⟨1, 1, .w1c⟩, ⟨0, 0, .w1c⟩]⟩,
  ⟨0x10008, 1, 0x0, 1, 0x0, false, .val 0x0, .any, false,
   [⟨7, 7, .rw⟩, ⟨6, 6, .rw⟩, ⟨5, 5, .rw⟩, ⟨4, 4, .rw⟩, ⟨3, 3, .rw⟩, ⟨2, 2, .rw⟩, ⟨1, 1, .rw⟩, ⟨0, 0, .rw⟩]⟩,
  ⟨0x1000c, 1, 0x0, 1, 0x0, false, .val 0x0, .any, false,
   [⟨1, 1, .w1c⟩, ⟨0, 0, .w1c⟩]⟩,
  ⟨0x10010, 1, 0x0, 1, 0x0, false, .val 0x0, .any, false,
   [⟨31, 30, .ro⟩, ⟨27, 0, .ro⟩]⟩,
  ⟨0x10014, 1, 0x0, 1, 0x0, false, .val 0x0, .any, false,
   [⟨19, 17, .ro⟩, ⟨16, 16, .ro⟩, ⟨15, 12, .ro⟩, ⟨11, 8, .ro⟩, ⟨7, 0, .ro⟩]⟩,
  ⟨0x10018, 1, 0x0, 1, 0x0, true, .val 0x0, .any, false,
   [⟨63, 32, .ro⟩, ⟨31, 0, .ro⟩]⟩,
  ⟨0x10020, 1, 0x0, 1, 0x0, false, .val 0x0, .any, false,
   [⟨31, 0, .rw⟩]⟩,
  ⟨0x10024, 1, 0x0, 1, 0x0, false, .val 0x0, .any, false,
   [⟨31, 0, .rw⟩]⟩,
  ⟨0x10028, 1, 0x0, 1, 0x0, false, .val 0x0, .any, false,
   [⟨31, 0, .ro⟩]⟩,
  ⟨0x1002c, 1, 0x0, 1, 0x0, false, .val 0x0, .any, false,
   [⟨1, 1, .w1c⟩, ⟨0, 0, .w1c⟩]⟩]

/-- The registers of R97 (04_timetable.md). -/
def regsR97 : List RegDef := [
  ⟨0x20000, 1, 0x0, 1, 0x0, false, .val 0x0, .ttbArm, false,
   [⟨1, 1, .rw⟩, ⟨0, 0, .rw⟩]⟩,
  ⟨0x20004, 1, 0x0, 1, 0x0, false, .val 0x1ff0008, .any, false,
   [⟨24, 16, .ro⟩, ⟨15, 8, .ro⟩, ⟨3, 3, .ro⟩, ⟨2, 2, .ro⟩, ⟨1, 1, .ro⟩, ⟨0, 0, .ro⟩]⟩,
  ⟨0x20008, 1, 0x0, 1, 0x0, false, .val 0x0, .any, false,
   [⟨23, 16, .ro⟩, ⟨4, 4, .ro⟩, ⟨3, 0, .ro⟩]⟩,
  ⟨0x2000c, 1, 0x0, 1, 0x0, false, .val 0x4, .any, false,
   [⟨7, 0, .rtb⟩]⟩,
  ⟨0x20010, 1, 0x0, 1, 0x0, true, .val 0x0, .any, false,
   [⟨63, 0, .ro⟩]⟩,
  ⟨0x20018, 1, 0x0, 1, 0x0, false, .val 0x0, .any, false,
   [⟨31, 0, .rw⟩]⟩,
  ⟨0x2001c, 1, 0x0, 1, 0x0, false, .val 0x0, .any, false,
   [⟨14, 14, .w1c⟩, ⟨13, 8, .w1c⟩, ⟨7, 0, .w1c⟩]⟩,
  ⟨0x20020, 8, 0x4, 1, 0x0, false, .val 0x0, .any, false,
   [⟨31, 0, .rw⟩]⟩,
  ⟨0x20040, 8, 0x4, 1, 0x0, false, .val 0x2bc0000, .any, false,
   [⟨31, 16, .ro⟩, ⟨15, 0, .ro⟩]⟩,
  ⟨0x20060, 6, 0x4, 1, 0x0, false, .val 0x0, .any, false,
   [⟨31, 0, .rw⟩]⟩,
  ⟨0x20080, 4, 0x4, 1, 0x0, false, .val 0x0, .any, false,
   [⟨31, 0, .ro⟩]⟩,
  ⟨0x20090, 6, 0x4, 1, 0x0, false, .val 0x0, .any, false,
   [⟨31, 0, .ro⟩]⟩]

/-- The registers of R118 (05_engines.md). -/
def regsR118 : List RegDef := [
  ⟨0x30000, 10, 0x1000, 1, 0x0, false, .engStat, .any, false,
   [⟨19, 16, .ro⟩, ⟨11, 8, .ro⟩, ⟨6, 4, .ro⟩, ⟨3, 3, .ro⟩]⟩,
  ⟨0x30004, 10, 0x1000, 1, 0x0, false, .val 0x0, .any, false,
   [⟨31, 16, .rw⟩, ⟨15, 0, .ro⟩]⟩,
  ⟨0x30008, 10, 0x1000, 1, 0x0, false, .val 0x0, .any, false,
   [⟨23, 20, .ro⟩, ⟨19, 18, .ro⟩, ⟨17, 9, .ro⟩, ⟨8, 0, .ro⟩]⟩,
  ⟨0x3000c, 10, 0x1000, 1, 0x0, false, .val 0x0, .any, false,
   [⟨31, 30, .ro⟩, ⟨23, 0, .ro⟩]⟩,
  ⟨0x30010, 10, 0x1000, 1, 0x0, false, .val 0x0, .any, false,
   [⟨31, 0, .rw⟩]⟩,
  ⟨0x30014, 10, 0x1000, 1, 0x0, false, .val 0x0, .any, false,
   [⟨31, 0, .rw⟩]⟩,
  ⟨0x30018, 10, 0x1000, 1, 0x0, false, .val 0x0, .any, false,
   [⟨31, 0, .rw⟩]⟩,
  ⟨0x3001c, 10, 0x1000, 1, 0x0, false, .val 0x0, .any, false,
   [⟨31, 0, .rw⟩]⟩,
  ⟨0x30020, 10, 0x1000, 1, 0x0, false, .val 0x0, .any, false,
   [⟨15, 8, .ro⟩, ⟨7, 0, .ro⟩]⟩,
  ⟨0x30024, 10, 0x1000, 1, 0x0, false, .val 0x0, .any, false,
   [⟨3, 3, .w1c⟩, ⟨2, 2, .w1c⟩, ⟨1, 1, .w1c⟩, ⟨0, 0, .w1c⟩]⟩,
  ⟨0x30028, 10, 0x1000, 1, 0x0, true, .val 0x0, .any, false,
   [⟨63, 32, .ro⟩, ⟨31, 0, .ro⟩]⟩]

/-- The registers of R119 (05_engines.md). -/
def regsR119 : List RegDef := [
  ⟨0x3a000, 1, 0x0, 1, 0x0, false, .val 0x3e8, .any, false,
   [⟨15, 0, .rtb⟩]⟩,
  ⟨0x3a004, 1, 0x0, 1, 0x0, false, .val 0x0, .any, false,
   [⟨31, 0, .rw⟩]⟩,
  ⟨0x3a008, 1, 0x0, 1, 0x0, false, .val 0x0, .any, false,
   [⟨31, 28, .ro⟩, ⟨23, 0, .ro⟩]⟩,
  ⟨0x3a00c, 1, 0x0, 1, 0x0, false, .val 0x0, .any, false,
   [⟨0, 0, .w1c⟩]⟩,
  ⟨0x3a010, 16, 0x4, 1, 0x0, false, .val 0x0, .any, false,
   [⟨7, 0, .ro⟩]⟩]

/-- The registers of R171 (07_primitive_instructions.md). -/
def regsR171 : List RegDef := [
  ⟨0x50000, 1, 0x0, 1, 0x0, false, .val 0x0, .any, false,
   [⟨31, 0, .rw⟩]⟩,
  ⟨0x50004, 1, 0x0, 1, 0x0, false, .val 0x0, .any, false,
   [⟨11, 0, .ro⟩]⟩,
  ⟨0x50008, 1, 0x0, 1, 0x0, false, .val 0x0, .any, false,
   [⟨7, 0, .w1c⟩]⟩,
  ⟨0x5000c, 1, 0x0, 1, 0x0, false, .val 0x0, .any, false,
   [⟨31, 0, .rw⟩]⟩,
  ⟨0x50010, 1, 0x0, 1, 0x0, false, .val 0x0, .any, false,
   [⟨1, 1, .w1c⟩, ⟨0, 0, .w1c⟩]⟩]

/-- The registers of R185 (08_loop_units.md). -/
def regsR185 : List RegDef := [
  ⟨0x40000, 96, 0x100, 1, 0x0, false, .val 0x30, .luOpen, false,
   [⟨7, 6, .rt⟩, ⟨5, 5, .rt⟩, ⟨4, 4, .rt⟩, ⟨3, 3, .rt⟩, ⟨1, 0, .rt⟩]⟩,
  ⟨0x40004, 96, 0x100, 1, 0x0, false, .val 0x0, .any, false,
   [⟨2, 2, .rw⟩, ⟨1, 0, .rb⟩]⟩,
  ⟨0x40008, 96, 0x100, 1, 0x0, false, .val 0x1, .any, false,
   [⟨11, 11, .ro⟩, ⟨10, 10, .ro⟩, ⟨9, 9, .ro⟩, ⟨8, 8, .ro⟩, ⟨7, 7, .ro⟩, ⟨5, 5, .ro⟩, ⟨4, 4, .ro⟩, ⟨1, 0, .ro⟩]⟩,
  ⟨0x4000c, 96, 0x100, 1, 0x0, false, .val 0x0, .any, false,
   [⟨3, 3, .w1c⟩, ⟨2, 2, .w1c⟩, ⟨1, 1, .w1c⟩, ⟨0, 0, .w1c⟩]⟩,
  ⟨0x40010, 96, 0x100, 1, 0x0, false, .val 0xbf800000, .any, false,
   [⟨31, 0, .rtb⟩]⟩,
  ⟨0x40014, 96, 0x100, 1, 0x0, false, .val 0x3f800000, .any, false,
   [⟨31, 0, .rtb⟩]⟩,
  ⟨0x40018, 96, 0x100, 1, 0x0, false, .val 0x0, .any, false,
   [⟨31, 0, .rt⟩]⟩,
  ⟨0x4001c, 96, 0x100, 1, 0x0, false, .val 0x0, .any, false,
   [⟨31, 16, .rt⟩, ⟨15, 0, .rt⟩]⟩,
  ⟨0x40020, 96, 0x100, 8, 0x4, false, .val 0x0, .luOpen, false,
   [⟨31, 0, .rt⟩]⟩,
  ⟨0x40040, 96, 0x100, 1, 0x0, false, .val 0x0, .any, false,
   [⟨31, 0, .ro⟩]⟩,
  ⟨0x40044, 96, 0x100, 1, 0x0, false, .val 0x0, .any, false,
   [⟨31, 0, .ro⟩]⟩,
  ⟨0x40048, 96, 0x100, 4, 0x4, false, .val 0x0, .any, false,
   [⟨31, 0, .ro⟩]⟩,
  ⟨0x40058, 96, 0x100, 1, 0x0, false, .val 0x0, .any, false,
   [⟨31, 0, .ro⟩]⟩,
  ⟨0x4005c, 96, 0x100, 1, 0x0, false, .val 0x0, .any, false,
   [⟨31, 0, .rw⟩]⟩,
  ⟨0x40060, 96, 0x100, 1, 0x0, false, .val 0x0, .any, false,
   [⟨31, 0, .rw⟩]⟩,
  ⟨0x40064, 96, 0x100, 1, 0x0, false, .val 0x0, .any, false,
   [⟨31, 0, .rw⟩]⟩,
  ⟨0x40068, 96, 0x100, 1, 0x0, false, .val 0x0, .any, false,
   [⟨2, 2, .w1c⟩, ⟨1, 1, .w1c⟩, ⟨0, 0, .w1c⟩]⟩]

/-- The registers of R205 (09_station_clock.md). -/
def regsR205 : List RegDef := [
  ⟨0x60000, 1, 0x0, 1, 0x0, false, .val 0xfe00, .any, false,
   [⟨15, 15, .rt⟩, ⟨14, 10, .rtb⟩, ⟨9, 9, .rt⟩, ⟨8, 8, .rt⟩, ⟨7, 6, .rtb⟩, ⟨2, 0, .rtb⟩]⟩,
  ⟨0x60004, 1, 0x0, 1, 0x0, false, .val 0x0, .any, false,
   [⟨23, 23, .ro⟩, ⟨22, 20, .ro⟩, ⟨19, 19, .ro⟩, ⟨18, 18, .ro⟩, ⟨16, 16, .ro⟩, ⟨13, 8, .ro⟩, ⟨3, 0, .ro⟩]⟩,
  ⟨0x60008, 1, 0x0, 1, 0x0, false, .val 0x0, .any, false,
   [⟨3, 3, .rw⟩, ⟨2, 2, .rw⟩, ⟨1, 1, .rw⟩, ⟨0, 0, .rw⟩]⟩,
  ⟨0x6000c, 1, 0x0, 1, 0x0, false, .val 0x1000032, .any, false,
   [⟨31, 16, .rt⟩, ⟨8, 0, .rt⟩]⟩,
  ⟨0x60010, 1, 0x0, 1, 0x0, false, .val 0xa, .any, false,
   [⟨16, 16, .rt⟩, ⟨9, 0, .rt⟩]⟩,
  ⟨0x60014, 1, 0x0, 1, 0x0, false, .val 0x52, .haltDepot, false,
   [⟨7, 4, .rb⟩, ⟨3, 0, .rb⟩]⟩,
  ⟨0x60018, 1, 0x0, 1, 0x0, false, .val 0x1, .any, false,
   [⟨31, 0, .rt⟩]⟩,
  ⟨0x6001c, 1, 0x0, 1, 0x0, false, .val 0x140a0430, .any, false,
   [⟨31, 28, .rt⟩, ⟨27, 24, .rt⟩, ⟨23, 16, .rt⟩, ⟨15, 8, .rt⟩, ⟨7, 4, .rt⟩]⟩,
  ⟨0x60020, 1, 0x0, 1, 0x0, false, .val 0x5000, .any, false,
   [⟨15, 12, .ro⟩, ⟨11, 8, .ro⟩, ⟨7, 0, .rt⟩]⟩,
  ⟨0x60024, 1, 0x0, 1, 0x0, false, .val 0x0, .any, false,
   [⟨31, 0, .ro⟩]⟩,
  ⟨0x60028, 1, 0x0, 1, 0x0, true, .val 0x0, .any, false,
   [⟨63, 0, .ro⟩]⟩,
  ⟨0x60030, 1, 0x0, 1, 0x0, true, .val 0x0, .any, false,
   [⟨47, 0, .ro⟩]⟩,
  ⟨0x60038, 1, 0x0, 1, 0x0, false, .val 0x0, .any, false,
   [⟨31, 0, .ro⟩]⟩,
  ⟨0x6003c, 1, 0x0, 1, 0x0, false, .val 0x3e8, .any, false,
   [⟨31, 0, .rt⟩]⟩,
  ⟨0x60040, 1, 0x0, 1, 0x0, true, .val 0x0, .any, false,
   [⟨47, 0, .rw⟩]⟩,
  ⟨0x60048, 1, 0x0, 1, 0x0, false, .val 0x0, .any, false,
   [⟨31, 0, .rw⟩]⟩,
  ⟨0x6004c, 1, 0x0, 1, 0x0, false, .val 0x0, .any, false,
   [⟨31, 0, .ro⟩]⟩,
  ⟨0x60050, 1, 0x0, 1, 0x0, true, .val 0x0, .any, false,
   [⟨63, 0, .ro⟩]⟩,
  ⟨0x60058, 1, 0x0, 1, 0x0, false, .val 0x0, .any, false,
   [⟨15, 0, .ro⟩]⟩,
  ⟨0x6005c, 1, 0x0, 1, 0x0, false, .val 0x0, .any, false,
   [⟨31, 0, .rw⟩]⟩,
  ⟨0x60060, 1, 0x0, 1, 0x0, false, .val 0x0, .any, false,
   [⟨31, 0, .rw⟩]⟩,
  ⟨0x60064, 1, 0x0, 1, 0x0, false, .val 0x0, .any, false,
   [⟨31, 0, .rw⟩]⟩,
  ⟨0x60068, 1, 0x0, 1, 0x0, false, .val 0x0, .any, false,
   [⟨2, 2, .w1c⟩, ⟨1, 1, .w1c⟩, ⟨0, 0, .w1c⟩]⟩,
  ⟨0x60100, 64, 0x4, 1, 0x0, false, .band, .haltDepot, false,
   [⟨31, 31, .rw⟩, ⟨28, 16, .rw⟩, ⟨12, 0, .rw⟩]⟩]

/-- The registers of R232 (10_process_bus.md). -/
def regsR232 : List RegDef := [
  ⟨0x70000, 1, 0x0, 1, 0x0, false, .val 0xfc00, .pbCfg, false,
   [⟨15, 10, .rtb⟩, ⟨9, 9, .rtb⟩, ⟨7, 6, .rtb⟩, ⟨5, 4, .rtb⟩, ⟨3, 0, .rtb⟩]⟩,
  ⟨0x70004, 1, 0x0, 1, 0x0, false, .val 0x0, .any, false,
   [⟨8, 8, .ro⟩, ⟨7, 4, .ro⟩]⟩,
  ⟨0x70008, 1, 0x0, 1, 0x0, false, .val 0x0, .any, false,
   [⟨31, 31, .ro⟩, ⟨30, 30, .ro⟩, ⟨23, 23, .ro⟩, ⟨22, 22, .ro⟩, ⟨15, 15, .ro⟩, ⟨14, 14, .ro⟩, ⟨7, 7, .ro⟩, ⟨6, 6, .ro⟩]⟩,
  ⟨0x7000c, 1, 0x0, 1, 0x0, false, .val 0x0, .any, false,
   [⟨0, 0, .rw⟩]⟩,
  ⟨0x70010, 1, 0x0, 1, 0x0, false, .val 0x0, .any, false,
   [⟨31, 0, .rw⟩]⟩,
  ⟨0x70018, 1, 0x0, 1, 0x0, true, .val 0xffffffffffffffff, .any, false,
   [⟨63, 0, .ro⟩]⟩,
  ⟨0x70020, 1, 0x0, 1, 0x0, false, .val 0x0, .any, false,
   [⟨31, 0, .ro⟩]⟩,
  ⟨0x70024, 1, 0x0, 1, 0x0, false, .val 0x0, .any, false,
   [⟨7, 4, .w1c⟩, ⟨3, 0, .w1c⟩]⟩,
  ⟨0x70028, 1, 0x0, 1, 0x0, false, .val 0xffffffff, .any, false,
   [⟨31, 0, .ro⟩]⟩,
  ⟨0x70030, 4, 0x4, 1, 0x0, false, .val 0x0, .any, false,
   [⟨31, 0, .rw⟩]⟩,
  ⟨0x70040, 4, 0x4, 1, 0x0, false, .val 0x0, .any, false,
   [⟨31, 0, .rw⟩]⟩,
  ⟨0x70050, 4, 0x8, 1, 0x0, true, .mac, .any, false,
   [⟨47, 0, .ro⟩]⟩,
  ⟨0x70100, 32, 0x10, 1, 0x0, false, .val 0x80000000, .any, false,
   [⟨31, 31, .ro⟩, ⟨30, 30, .ro⟩, ⟨29, 29, .ro⟩, ⟨28, 28, .ro⟩, ⟨27, 24, .ro⟩, ⟨22, 22, .w1c⟩, ⟨21, 21, .w1c⟩, ⟨20, 20, .w1c⟩, ⟨15, 0, .ro⟩]⟩,
  ⟨0x70104, 32, 0x10, 1, 0x0, false, .val 0x0, .any, false,
   [⟨31, 0, .rw⟩]⟩,
  ⟨0x70108, 32, 0x10, 1, 0x0, false, .val 0x0, .any, false,
   [⟨31, 0, .rw⟩]⟩,
  ⟨0x7010c, 32, 0x10, 1, 0x0, false, .val 0x0, .any, false,
   [⟨31, 0, .rw⟩]⟩]

/-- The registers of R254 (11_analog_front_end.md). -/
def regsR254 : List RegDef := [
  ⟨0x80000, 1, 0x0, 1, 0x0, false, .val 0x0, .any, false,
   [⟨0, 0, .rtb⟩]⟩,
  ⟨0x80004, 1, 0x0, 1, 0x0, false, .val 0x0, .afeCtrl, false,
   [⟨2, 2, .rw⟩, ⟨1, 1, .rw⟩, ⟨0, 0, .rw⟩]⟩,
  ⟨0x80008, 1, 0x0, 1, 0x0, false, .val 0x0, .any, false,
   [⟨20, 16, .ro⟩, ⟨12, 8, .ro⟩, ⟨3, 3, .ro⟩, ⟨2, 2, .ro⟩, ⟨1, 1, .ro⟩, ⟨0, 0, .ro⟩]⟩,
  ⟨0x8000c, 1, 0x0, 1, 0x0, false, .val 0x0, .any, false,
   [⟨23, 0, .rw⟩]⟩,
  ⟨0x80010, 1, 0x0, 1, 0x0, false, .val 0x0, .any, false,
   [⟨23, 0, .ro⟩]⟩,
  ⟨0x80014, 1, 0x0, 1, 0x0, false, .val 0x0, .any, false,
   [⟨23, 0, .ro⟩]⟩,
  ⟨0x80018, 1, 0x0, 1, 0x0, false, .val 0x0, .any, false,
   [⟨23, 0, .ro⟩]⟩,
  ⟨0x8001c, 1, 0x0, 1, 0x0, false, .val 0x0, .any, false,
   [⟨27, 0, .ro⟩]⟩,
  ⟨0x80020, 8, 0x4, 1, 0x0, false, .val 0x0, .haltDepot, false,
   [⟨31, 31, .rtb⟩, ⟨5, 5, .rtb⟩, ⟨4, 0, .rtb⟩]⟩,
  ⟨0x80040, 4, 0x4, 1, 0x0, false, .val 0x0, .haltDepot, false,
   [⟨31, 31, .rtb⟩, ⟨10, 8, .rtb⟩, ⟨3, 0, .rtb⟩]⟩,
  ⟨0x80050, 4, 0x4, 1, 0x0, false, .val 0x0, .any, false,
   [⟨31, 0, .rw⟩]⟩,
  ⟨0x80060, 1, 0x0, 1, 0x0, false, .val 0x0, .any, false,
   [⟨3, 0, .w1c⟩]⟩,
  ⟨0x80100, 24, 0x4, 1, 0x0, false, .val 0x800010, .haltDepot, false,
   [⟨31, 31, .rt⟩, ⟨30, 30, .rt⟩, ⟨29, 28, .rt⟩, ⟨27, 26, .rt⟩, ⟨25, 25, .rt⟩, ⟨24, 24, .rt⟩, ⟨23, 23, .rt⟩, ⟨22, 22, .rt⟩, ⟨21, 21, .rt⟩, ⟨20, 16, .rt⟩, ⟨15, 15, .rt⟩, ⟨14, 11, .rt⟩, ⟨10, 10, .rt⟩, ⟨9, 6, .rt⟩, ⟨5, 4, .rt⟩]⟩]

/-- The registers of R281 (12_pwm.md). -/
def regsR281 : List RegDef := [
  ⟨0x95000, 16, 0x40, 1, 0x0, false, .val 0x4000000, .haltDepot, true,
   [⟨31, 31, .rt⟩, ⟨30, 30, .rt⟩, ⟨29, 28, .rt⟩, ⟨27, 26, .rt⟩, ⟨6, 0, .rt⟩]⟩,
  ⟨0x95004, 16, 0x40, 1, 0x0, false, .val 0x0, .any, false,
   [⟨0, 0, .rw⟩]⟩,
  ⟨0x95008, 16, 0x40, 1, 0x0, false, .val 0x0, .any, false,
   [⟨2, 2, .ro⟩, ⟨1, 1, .ro⟩, ⟨0, 0, .w1c⟩]⟩,
  ⟨0x9500c, 16, 0x40, 1, 0x0, false, .val 0x0, .any, false,
   [⟨31, 0, .ro⟩]⟩,
  ⟨0x95010, 16, 0x40, 1, 0x0, false, .val 0x0, .any, false,
   [⟨18, 0, .ro⟩]⟩,
  ⟨0x95014, 16, 0x40, 1, 0x0, false, .val 0x0, .any, false,
   [⟨31, 0, .ro⟩]⟩,
  ⟨0x95018, 16, 0x40, 1, 0x0, true, .val 0x0, .any, false,
   [⟨47, 0, .ro⟩]⟩,
  ⟨0x95020, 16, 0x40, 1, 0x0, false, .val 0x0, .any, false,
   [⟨31, 0, .rw⟩]⟩,
  ⟨0x95024, 16, 0x40, 1, 0x0, false, .val 0x0, .any, false,
   [⟨0, 0, .w1c⟩]⟩]

/-- The registers of R283 (12_pwm.md). -/
def regsR283 : List RegDef := [
  ⟨0x90000, 34, 0x200, 1, 0x0, false, .val 0x0, .haltDepot, true,
   [⟨31, 31, .rt⟩, ⟨30, 29, .rt⟩, ⟨28, 28, .rt⟩, ⟨27, 26, .rt⟩, ⟨25, 24, .rt⟩, ⟨23, 23, .rt⟩, ⟨22, 22, .rt⟩, ⟨21, 21, .rt⟩]⟩,
  ⟨0x90004, 34, 0x200, 1, 0x0, false, .val 0x1388, .pwmPeriod, false,
   [⟨23, 0, .rb⟩]⟩,
  ⟨0x90008, 34, 0x200, 1, 0x0, false, .val 0x0, .pwmPeriod, false,
   [⟨9, 4, .rb⟩, ⟨3, 0, .rb⟩]⟩,
  ⟨0x9000c, 34, 0x200, 1, 0x0, false, .val 0x0, .pwmConsist, false,
   [⟨31, 0, .rb⟩]⟩,
  ⟨0x90010, 34, 0x200, 1, 0x0, false, .val 0x0, .pwmConsist, false,
   [⟨31, 0, .rb⟩]⟩,
  ⟨0x90014, 34, 0x200, 1, 0x0, false, .val 0x0, .pwmConsist, false,
   [⟨31, 0, .rb⟩]⟩,
  ⟨0x90018, 34, 0x200, 1, 0x0, false, .val 0xc80, .pwmConsist, false,
   [⟨18, 0, .rb⟩]⟩,
  ⟨0x9001c, 34, 0x200, 1, 0x0, false, .val 0xc80, .pwmConsist, false,
   [⟨18, 0, .rb⟩]⟩,
  ⟨0x90020, 34, 0x200, 1, 0x0, false, .val 0xffffffff, .pwmConsist, false,
   [⟨31, 0, .rb⟩]⟩,
  ⟨0x90024, 34, 0x200, 1, 0x0, false, .val 0xffffffff, .pwmConsist, false,
   [⟨31, 0, .rb⟩]⟩,
  ⟨0x90028, 34, 0x200, 1, 0x0, false, .val 0xc80, .haltDepot, true,
   [⟨18, 0, .rt⟩]⟩,
  ⟨0x9002c, 34, 0x200, 1, 0x0, false, .val 0x0, .haltDepot, true,
   [⟨16, 0, .rt⟩]⟩,
  ⟨0x90030, 34, 0x200, 1, 0x0, false, .val 0x0, .pwmForce, false,
   [⟨3, 2, .rb⟩, ⟨1, 0, .rb⟩]⟩,
  ⟨0x90034, 34, 0x200, 1, 0x0, false, .val 0x0, .any, false,
   [⟨15, 15, .ro⟩, ⟨14, 14, .ro⟩, ⟨13, 12, .ro⟩, ⟨7, 7, .ro⟩, ⟨6, 6, .w1c⟩, ⟨5, 5, .w1c⟩, ⟨4, 4, .w1c⟩, ⟨3, 3, .w1c⟩, ⟨2, 2, .w1c⟩, ⟨1, 1, .w1c⟩]⟩,
  ⟨0x90038, 34, 0x200, 1, 0x0, false, .val 0x0, .any, false,
   [⟨31, 0, .rw⟩]⟩,
  ⟨0x9003c, 34, 0x200, 1, 0x0, false, .val 0x0, .any, false,
   [⟨31, 0, .rw⟩]⟩,
  ⟨0x90040, 34, 0x200, 1, 0x0, false, .val 0x0, .any, false,
   [⟨31, 0, .ro⟩]⟩,
  ⟨0x90044, 34, 0x200, 1, 0x0, false, .val 0x0, .any, false,
   [⟨31, 0, .ro⟩]⟩,
  ⟨0x90048, 34, 0x200, 1, 0x0, true, .val 0x0, .any, false,
   [⟨63, 0, .ro⟩]⟩,
  ⟨0x90050, 34, 0x200, 1, 0x0, false, .val 0x0, .any, false,
   [⟨1, 1, .w1c⟩, ⟨0, 0, .w1c⟩]⟩]

/-- The registers of R284 (12_pwm.md). -/
def regsR284 : List RegDef := [
  ⟨0x94400, 32, 0x10, 1, 0x0, false, .val 0xffffffff, .haltDepot, true,
   [⟨31, 0, .rt⟩]⟩,
  ⟨0x94404, 32, 0x10, 1, 0x0, false, .val 0x10, .haltDepot, true,
   [⟨4, 4, .rt⟩, ⟨2, 2, .rt⟩, ⟨1, 0, .rt⟩]⟩,
  ⟨0x94408, 32, 0x10, 1, 0x0, false, .val 0x0, .any, false,
   [⟨9, 2, .ro⟩, ⟨1, 1, .w1c⟩, ⟨0, 0, .ro⟩]⟩,
  ⟨0x9440c, 32, 0x10, 1, 0x0, false, .val 0x0, .any, false,
   [⟨31, 0, .rw⟩]⟩,
  ⟨0x94600, 1, 0x0, 1, 0x0, false, .val 0x0, .any, false,
   [⟨31, 0, .ro⟩]⟩,
  ⟨0x94604, 1, 0x0, 1, 0x0, false, .val 0x0, .any, false,
   [⟨31, 0, .rw⟩]⟩,
  ⟨0x94608, 1, 0x0, 1, 0x0, false, .val 0x1d1e, .haltDepot, true,
   [⟨12, 8, .rt⟩, ⟨4, 0, .rt⟩]⟩,
  ⟨0x9460c, 1, 0x0, 1, 0x0, false, .val 0xffffffff, .haltDepot, true,
   [⟨31, 0, .rt⟩]⟩,
  ⟨0x94610, 1, 0x0, 1, 0x0, false, .val 0x0, .any, false,
   [⟨31, 0, .w1c⟩]⟩]

/-- The registers of R302 (13_gate_drive.md). -/
def regsR302 : List RegDef := [
  ⟨0xa0000, 24, 0x20, 1, 0x0, false, .val 0x7723b906, .haltDepot, true,
   [⟨31, 28, .rt⟩, ⟨27, 24, .rt⟩, ⟨23, 19, .rt⟩, ⟨18, 15, .rt⟩, ⟨14, 11, .rt⟩, ⟨10, 6, .rt⟩, ⟨5, 2, .rt⟩, ⟨1, 1, .rt⟩]⟩,
  ⟨0xa0004, 24, 0x20, 1, 0x0, false, .val 0x99580064, .haltDepot, true,
   [⟨31, 31, .rt⟩, ⟨30, 30, .rt⟩, ⟨29, 26, .rt⟩, ⟨25, 22, .rt⟩, ⟨21, 20, .rt⟩, ⟨19, 19, .rt⟩, ⟨8, 0, .rt⟩]⟩,
  ⟨0xa0008, 24, 0x20, 1, 0x0, false, .val 0x0, .any, false,
   [⟨18, 18, .ro⟩, ⟨17, 17, .ro⟩, ⟨16, 16, .ro⟩, ⟨15, 15, .ro⟩, ⟨14, 12, .ro⟩, ⟨11, 11, .ro⟩, ⟨10, 10, .ro⟩, ⟨9, 9, .ro⟩, ⟨8, 8, .ro⟩, ⟨7, 7, .ro⟩, ⟨2, 2, .w1c⟩, ⟨1, 1, .w1c⟩, ⟨0, 0, .w1c⟩]⟩,
  ⟨0xa000c, 24, 0x20, 1, 0x0, false, .val 0x0, .any, false,
   [⟨31, 0, .rw⟩]⟩,
  ⟨0xa0010, 24, 0x20, 1, 0x0, true, .val 0x0, .any, false,
   [⟨63, 0, .ro⟩]⟩,
  ⟨0xa0400, 12, 0x4, 1, 0x0, false, .index 0x80000000, .haltDepot, true,
   [⟨31, 31, .rt⟩, ⟨4, 0, .rt⟩]⟩,
  ⟨0xa0500, 1, 0x0, 1, 0x0, false, .val 0x0, .any, false,
   [⟨23, 0, .rw⟩]⟩,
  ⟨0xa0504, 1, 0x0, 1, 0x0, false, .val 0x0, .any, false,
   [⟨23, 0, .ro⟩]⟩,
  ⟨0xa0508, 1, 0x0, 1, 0x0, false, .val 0x0, .any, false,
   [⟨5, 0, .ro⟩]⟩,
  ⟨0xa050c, 1, 0x0, 1, 0x0, false, .val 0x0, .any, false,
   [⟨31, 0, .rw⟩]⟩,
  ⟨0xa0510, 1, 0x0, 1, 0x0, false, .val 0x0, .any, false,
   [⟨0, 0, .rw⟩]⟩,
  ⟨0xa0514, 1, 0x0, 1, 0x0, false, .val 0x0, .any, false,
   [⟨24, 24, .w1c⟩, ⟨23, 0, .w1c⟩]⟩]

/-- The registers of R369 (16_dc_ports.md). -/
def regsR369 : List RegDef := [
  ⟨0x110000, 2, 0x100, 1, 0x0, false, .val 0x40000001, .haltDepot, true,
   [⟨31, 31, .rt⟩, ⟨30, 30, .rt⟩, ⟨7, 4, .rt⟩, ⟨1, 0, .rt⟩]⟩,
  ⟨0x110004, 2, 0x100, 1, 0x0, false, .val 0x0, .any, false,
   [⟨18, 18, .ro⟩, ⟨17, 17, .ro⟩, ⟨16, 16, .ro⟩, ⟨15, 8, .ro⟩, ⟨7, 0, .ro⟩]⟩,
  ⟨0x110008, 2, 0x100, 1, 0x0, false, .val 0x0, .any, false,
   [⟨31, 0, .ro⟩]⟩,
  ⟨0x11000c, 2, 0x100, 1, 0x0, false, .val 0x0, .any, false,
   [⟨31, 0, .ro⟩]⟩,
  ⟨0x110010, 2, 0x100, 1, 0x0, false, .val 0x0, .any, false,
   [⟨31, 0, .rw⟩]⟩,
  ⟨0x110014, 2, 0x100, 1, 0x0, false, .val 0x0, .any, false,
   [⟨31, 0, .rw⟩]⟩,
  ⟨0x110018, 2, 0x100, 1, 0x0, false, .val 0x0, .any, false,
   [⟨1, 1, .w1c⟩, ⟨0, 0, .w1c⟩]⟩,
  ⟨0x110200, 1, 0x0, 1, 0x0, false, .val 0x0, .any, false,
   [⟨0, 0, .rw⟩]⟩]

/-- The registers of R418 (18_cell_rings.md). -/
def regsR418 : List RegDef := [
  ⟨0xb0000, 16, 0x100, 1, 0x0, false, .val 0x4cc000, .haltDepot, false,
   [⟨31, 31, .rt⟩, ⟨30, 30, .rt⟩, ⟨29, 28, .rt⟩, ⟨27, 22, .rt⟩, ⟨21, 18, .rt⟩, ⟨17, 14, .rt⟩]⟩,
  ⟨0xb0004, 16, 0x100, 1, 0x0, false, .val 0x0, .haltDepot, false,
   [⟨27, 16, .rt⟩, ⟨9, 0, .rt⟩]⟩,
  ⟨0xb0008, 16, 0x100, 1, 0x0, false, .val 0x0, .haltDepot, false,
   [⟨31, 16, .rt⟩, ⟨15, 0, .rt⟩]⟩,
  ⟨0xb000c, 16, 0x100, 1, 0x0, false, .val 0x0, .haltDepot, true,
   [⟨31, 16, .ro⟩, ⟨15, 0, .rt⟩]⟩,
  ⟨0xb0010, 16, 0x100, 1, 0x0, false, .val 0xffffffff, .haltDepot, true,
   [⟨31, 0, .rt⟩]⟩,
  ⟨0xb0014, 16, 0x100, 1, 0x0, false, .val 0x0, .haltDepot, true,
   [⟨23, 12, .rt⟩]⟩,
  ⟨0xb0018, 16, 0x100, 1, 0x0, false, .val 0xfff0000, .haltDepot, true,
   [⟨31, 31, .rt⟩, ⟨27, 24, .rt⟩, ⟨23, 16, .rt⟩, ⟨15, 8, .rt⟩]⟩,
  ⟨0xb001c, 16, 0x100, 1, 0x0, false, .val 0x0, .lnTrain, false,
   [⟨0, 0, .rw⟩]⟩,
  ⟨0xb0020, 16, 0x100, 1, 0x0, false, .val 0x0, .any, false,
   [⟨31, 31, .ro⟩, ⟨30, 30, .ro⟩, ⟨29, 29, .ro⟩, ⟨28, 28, .ro⟩, ⟨27, 27, .w1c⟩, ⟨25, 16, .ro⟩, ⟨9, 0, .ro⟩]⟩,
  ⟨0xb0024, 16, 0x100, 1, 0x0, false, .val 0x1ff, .any, false,
   [⟨31, 28, .ro⟩, ⟨23, 16, .ro⟩, ⟨8, 0, .ro⟩]⟩,
  ⟨0xb0028, 16, 0x100, 1, 0x0, false, .val 0x0, .any, false,
   [⟨31, 0, .ro⟩]⟩,
  ⟨0xb002c, 16, 0x100, 1, 0x0, false, .val 0x0, .any, false,
   [⟨31, 31, .rw⟩, ⟨30, 30, .rw⟩, ⟨29, 29, .ro⟩, ⟨23, 16, .rw⟩, ⟨8, 0, .rw⟩]⟩,
  ⟨0xb0030, 16, 0x100, 1, 0x0, false, .val 0x0, .any, false,
   [⟨31, 0, .rw⟩]⟩,
  ⟨0xb0034, 16, 0x100, 1, 0x0, false, .val 0x0, .any, false,
   [⟨31, 0, .rw⟩]⟩,
  ⟨0xb0038, 16, 0x100, 1, 0x0, false, .val 0x0, .any, false,
   [⟨31, 0, .rw⟩]⟩,
  ⟨0xb003c, 16, 0x100, 1, 0x0, false, .val 0x0, .any, false,
   [⟨31, 0, .rw⟩]⟩,
  ⟨0xb0040, 16, 0x100, 1, 0x0, true, .val 0x0, .any, false,
   [⟨63, 0, .ro⟩]⟩,
  ⟨0xb0048, 16, 0x100, 1, 0x0, false, .val 0x0, .any, false,
   [⟨2, 2, .w1c⟩, ⟨1, 1, .w1c⟩, ⟨0, 0, .w1c⟩]⟩,
  ⟨0xb1000, 16, 0x4, 1, 0x0, false, .index 0x0, .any, false,
   [⟨31, 31, .ro⟩, ⟨4, 0, .ro⟩]⟩,
  ⟨0xb1040, 1, 0x0, 1, 0x0, false, .val 0x0, .any, false,
   [⟨0, 0, .rw⟩]⟩]

/-- The registers of R438 (19_metering.md). -/
def regsR438 : List RegDef := [
  ⟨0xc0000, 4, 0x400, 1, 0x0, false, .val 0x50f, .haltDepot, true,
   [⟨31, 31, .rt⟩, ⟨30, 30, .rt⟩, ⟨29, 29, .rt⟩, ⟨28, 28, .rt⟩, ⟨15, 8, .rt⟩, ⟨7, 0, .rt⟩]⟩,
  ⟨0xc0004, 4, 0x400, 1, 0x0, false, .val 0x3f800000, .haltDepot, true,
   [⟨31, 0, .rt⟩]⟩,
  ⟨0xc0008, 4, 0x400, 1, 0x0, false, .val 0x0, .mtrCtrl, false,
   [⟨31, 16, .wo⟩, ⟨1, 1, .rw⟩, ⟨0, 0, .rw⟩]⟩,
  ⟨0xc000c, 4, 0x400, 1, 0x0, false, .val 0x0, .any, false,
   [⟨8, 8, .w1c⟩, ⟨7, 7, .w1c⟩, ⟨6, 6, .w1c⟩, ⟨5, 5, .w1c⟩, ⟨4, 4, .ro⟩, ⟨3, 3, .ro⟩]⟩,
  ⟨0xc0010, 4, 0x400, 1, 0x0, true, .val 0x0, .any, false,
   [⟨63, 0, .ro⟩]⟩,
  ⟨0xc0018, 4, 0x400, 1, 0x0, true, .val 0x0, .any, false,
   [⟨63, 0, .ro⟩]⟩,
  ⟨0xc0020, 4, 0x400, 1, 0x0, false, .val 0x0, .any, false,
   [⟨31, 0, .ro⟩]⟩,
  ⟨0xc0024, 4, 0x400, 1, 0x0, false, .val 0x0, .any, false,
   [⟨31, 0, .ro⟩]⟩,
  ⟨0xc0028, 4, 0x400, 1, 0x0, false, .val 0x0, .any, false,
   [⟨31, 0, .ro⟩]⟩,
  ⟨0xc002c, 4, 0x400, 1, 0x0, false, .val 0x0, .any, false,
   [⟨31, 0, .ro⟩]⟩,
  ⟨0xc0030, 4, 0x400, 1, 0x0, true, .val 0x0, .any, false,
   [⟨63, 32, .ro⟩, ⟨31, 0, .ro⟩]⟩,
  ⟨0xc0038, 4, 0x400, 1, 0x0, true, .val 0x0, .any, false,
   [⟨63, 32, .ro⟩, ⟨31, 0, .ro⟩]⟩,
  ⟨0xc0100, 4, 0x400, 28, 0x8, true, .val 0x0, .any, false,
   [⟨63, 0, .ro⟩]⟩,
  ⟨0xc0200, 4, 0x400, 28, 0x8, true, .val 0x0, .any, false,
   [⟨63, 0, .ro⟩]⟩,
  ⟨0xc0300, 4, 0x400, 14, 0x4, false, .val 0x0, .any, false,
   [⟨31, 16, .ro⟩, ⟨15, 0, .ro⟩]⟩,
  ⟨0xc0340, 4, 0x400, 14, 0x4, false, .val 0x0, .any, false,
   [⟨31, 16, .ro⟩, ⟨15, 0, .ro⟩]⟩]

/-- The registers of R465 (20_interlocking.md). -/
def regsR465 : List RegDef := [
  ⟨0xd0000, 1, 0x0, 1, 0x0, false, .val 0x7, .any, false,
   [⟨7, 7, .ro⟩, ⟨6, 6, .ro⟩, ⟨5, 5, .ro⟩, ⟨4, 4, .ro⟩, ⟨3, 3, .ro⟩, ⟨2, 2, .ro⟩, ⟨1, 1, .ro⟩, ⟨0, 0, .ro⟩]⟩,
  ⟨0xd0004, 1, 0x0, 1, 0x0, false, .val 0x0, .any, false,
   [⟨31, 16, .ro⟩, ⟨15, 0, .ro⟩]⟩,
  ⟨0xd0008, 1, 0x0, 1, 0x0, false, .val 0x0, .any, false,
   [⟨31, 16, .ro⟩, ⟨15, 0, .ro⟩]⟩,
  ⟨0xd000c, 1, 0x0, 1, 0x0, false, .val 0x0, .any, false,
   [⟨15, 0, .ro⟩]⟩,
  ⟨0xd0010, 1, 0x0, 1, 0x0, false, .val 0x0, .any, false,
   [⟨16, 16, .ro⟩, ⟨15, 12, .ro⟩, ⟨11, 8, .ro⟩, ⟨7, 4, .ro⟩, ⟨3, 0, .ro⟩]⟩,
  ⟨0xd0014, 1, 0x0, 1, 0x0, false, .val 0x0, .any, false,
   [⟨31, 16, .ro⟩, ⟨15, 0, .ro⟩]⟩,
  ⟨0xd0018, 1, 0x0, 1, 0x0, true, .val 0x0, .any, false,
   [⟨63, 0, .ro⟩]⟩,
  ⟨0xd0020, 1, 0x0, 1, 0x0, false, .val 0x0, .any, false,
   [⟨31, 0, .ro⟩]⟩,
  ⟨0xd0024, 1, 0x0, 1, 0x0, false, .val 0x0, .any, false,
   [⟨31, 0, .ro⟩]⟩,
  ⟨0xd0028, 1, 0x0, 1, 0x0, false, .val 0x0, .any, false,
   [⟨20, 20, .ro⟩, ⟨19, 16, .ro⟩, ⟨9, 0, .ro⟩]⟩]

/-- The registers of R483 (21_keeper.md). -/
def regsR483 : List RegDef := [
  ⟨0xe0000, 1, 0x0, 1, 0x0, false, .val 0x4, .any, false,
   [⟨17, 17, .ro⟩, ⟨16, 16, .ro⟩, ⟨12, 8, .ro⟩, ⟨3, 3, .ro⟩, ⟨2, 2, .ro⟩, ⟨1, 1, .w1c⟩, ⟨0, 0, .ro⟩]⟩,
  ⟨0xe0004, 1, 0x0, 1, 0x0, false, .val 0x168, .haltDepot, false,
   [⟨17, 17, .rw⟩, ⟨16, 16, .rw⟩, ⟨9, 0, .rw⟩]⟩,
  ⟨0xe0008, 1, 0x0, 1, 0x0, false, .val 0x0, .any, false,
   [⟨15, 0, .ro⟩]⟩,
  ⟨0xe000c, 1, 0x0, 1, 0x0, false, .val 0x0, .haltDepot, false,
   [⟨31, 0, .rw⟩]⟩,
  ⟨0xe0010, 1, 0x0, 1, 0x0, false, .val 0x3e8, .haltDepot, false,
   [⟨31, 0, .rw⟩]⟩,
  ⟨0xe0014, 1, 0x0, 1, 0x0, false, .val 0x50000c8, .haltDepot, false,
   [⟨31, 24, .rw⟩, ⟨23, 0, .rw⟩]⟩,
  ⟨0xe0018, 1, 0x0, 1, 0x0, false, .val 0x3200c350, .haltDepot, false,
   [⟨31, 24, .rw⟩, ⟨23, 0, .rw⟩]⟩,
  ⟨0xe001c, 1, 0x0, 1, 0x0, false, .val 0x64001388, .haltDepot, false,
   [⟨31, 24, .rw⟩, ⟨23, 0, .rw⟩]⟩,
  ⟨0xe0020, 1, 0x0, 1, 0x0, false, .val 0x5, .haltDepot, false,
   [⟨2, 2, .rw⟩, ⟨1, 0, .rw⟩]⟩,
  ⟨0xe0024, 1, 0x0, 1, 0x0, false, .val 0x0, .haltDepot, false,
   [⟨25, 24, .rw⟩, ⟨23, 0, .rw⟩]⟩,
  ⟨0xe0028, 1, 0x0, 1, 0x0, false, .val 0x0, .any, false,
   [⟨31, 28, .ro⟩, ⟨27, 26, .ro⟩, ⟨15, 0, .ro⟩]⟩,
  ⟨0xe002c, 1, 0x0, 1, 0x0, false, .val 0x0, .any, false,
   [⟨31, 0, .rw⟩]⟩,
  ⟨0xe0030, 1, 0x0, 1, 0x0, false, .val 0x0, .any, false,
   [⟨31, 0, .rw⟩]⟩,
  ⟨0xe0034, 1, 0x0, 1, 0x0, false, .val 0x0, .any, false,
   [⟨1, 1, .w1c⟩, ⟨0, 0, .w1c⟩]⟩,
  ⟨0xe0038, 1, 0x0, 1, 0x0, true, .val 0x0, .any, false,
   [⟨62, 15, .ro⟩, ⟨14, 0, .ro⟩]⟩,
  ⟨0xe0040, 1, 0x0, 1, 0x0, true, .val 0x0, .any, false,
   [⟨62, 15, .ro⟩, ⟨14, 0, .ro⟩]⟩,
  ⟨0xe0048, 1, 0x0, 1, 0x0, true, .val 0x0, .any, false,
   [⟨62, 15, .ro⟩, ⟨14, 0, .ro⟩]⟩,
  ⟨0xe0050, 1, 0x0, 1, 0x0, false, .val 0x1111, .haltDepot, false,
   [⟨15, 15, .rw⟩, ⟨14, 14, .rw⟩, ⟨13, 12, .rw⟩, ⟨11, 11, .rw⟩, ⟨10, 10, .rw⟩, ⟨9, 8, .rw⟩, ⟨7, 7, .rw⟩, ⟨6, 6, .rw⟩, ⟨5, 4, .rw⟩, ⟨3, 3, .rw⟩, ⟨2, 2, .rw⟩, ⟨1, 0, .rw⟩]⟩,
  ⟨0xe0054, 1, 0x0, 1, 0x0, false, .val 0x0, .any, false,
   [⟨31, 0, .ro⟩]⟩,
  ⟨0xe0058, 1, 0x0, 1, 0x0, false, .val 0x0, .any, false,
   [⟨7, 4, .ro⟩, ⟨3, 0, .ro⟩]⟩,
  ⟨0xe0080, 4, 0x4, 1, 0x0, false, .val 0x30000010, .haltDepot, false,
   [⟨31, 31, .rw⟩, ⟨30, 30, .rw⟩, ⟨29, 28, .rw⟩, ⟨27, 26, .rw⟩, ⟨25, 25, .rw⟩, ⟨24, 24, .rw⟩, ⟨23, 23, .rw⟩, ⟨22, 22, .rw⟩, ⟨5, 4, .rw⟩]⟩]

/-- The registers of R500 (22_faults.md). -/
def regsR500 : List RegDef := [
  ⟨0xf0000, 1, 0x0, 1, 0x0, false, .val 0x0, .any, false,
   [⟨31, 16, .ro⟩, ⟨15, 15, .ro⟩, ⟨14, 12, .ro⟩, ⟨11, 8, .ro⟩, ⟨7, 7, .ro⟩, ⟨6, 6, .ro⟩, ⟨5, 5, .w1c⟩]⟩,
  ⟨0xf0004, 1, 0x0, 1, 0x0, false, .val 0x0, .any, false,
   [⟨31, 31, .rw⟩, ⟨30, 30, .rw⟩, ⟨29, 29, .rw⟩, ⟨28, 28, .rw⟩, ⟨7, 0, .rw⟩]⟩,
  ⟨0xf0008, 1, 0x0, 1, 0x0, false, .val 0x10000e10, .haltDepot, false,
   [⟨31, 24, .rt⟩, ⟨16, 0, .rt⟩]⟩,
  ⟨0xf000c, 1, 0x0, 1, 0x0, false, .val 0x0, .any, false,
   [⟨31, 0, .ro⟩]⟩,
  ⟨0xf0010, 1, 0x0, 1, 0x0, false, .val 0x0, .any, false,
   [⟨31, 0, .rw⟩]⟩,
  ⟨0xf0014, 1, 0x0, 1, 0x0, false, .val 0x0, .any, false,
   [⟨0, 0, .w1c⟩]⟩,
  ⟨0xf0020, 5, 0x4, 1, 0, false, .react 0, .haltDepot, false,
   [⟨6, 4, .ro⟩, ⟨3, 0, .rt⟩]⟩,
  ⟨0xf0034, 3, 0x4, 1, 0, false, .react 5, .any, false,
   [⟨6, 4, .ro⟩, ⟨3, 0, .ro⟩]⟩]

/-- The registers of R518 (23_sidings_live_service.md). -/
def regsR518 : List RegDef := [
  ⟨0x100000, 1, 0x0, 1, 0x0, false, .val 0x800001f4, .haltDepot, false,
   [⟨31, 31, .rt⟩, ⟨15, 0, .rt⟩]⟩,
  ⟨0x100004, 1, 0x0, 1, 0x0, false, .val 0x0, .any, false,
   [⟨31, 31, .rw⟩, ⟨30, 30, .rw⟩, ⟨7, 0, .rw⟩]⟩,
  ⟨0x100008, 1, 0x0, 1, 0x0, false, .val 0x0, .any, false,
   [⟨31, 28, .ro⟩, ⟨27, 24, .ro⟩, ⟨23, 16, .ro⟩, ⟨15, 8, .ro⟩]⟩,
  ⟨0x10000c, 1, 0x0, 1, 0x0, false, .val 0x0, .any, false,
   [⟨14, 10, .ro⟩, ⟨9, 0, .ro⟩]⟩,
  ⟨0x100010, 1, 0x0, 1, 0x0, false, .val 0x0, .any, false,
   [⟨17, 0, .ro⟩]⟩,
  ⟨0x100014, 1, 0x0, 1, 0x0, false, .val 0x0, .any, false,
   [⟨27, 0, .ro⟩]⟩,
  ⟨0x100018, 1, 0x0, 1, 0x0, true, .val 0x0, .any, false,
   [⟨33, 0, .ro⟩]⟩,
  ⟨0x100020, 1, 0x0, 1, 0x0, false, .val 0x0, .any, false,
   [⟨31, 0, .rw⟩]⟩,
  ⟨0x100024, 1, 0x0, 1, 0x0, false, .val 0x0, .any, false,
   [⟨31, 0, .rw⟩]⟩,
  ⟨0x100028, 1, 0x0, 1, 0x0, false, .val 0x0, .any, false,
   [⟨31, 0, .rw⟩]⟩,
  ⟨0x10002c, 1, 0x0, 1, 0x0, false, .val 0x0, .any, false,
   [⟨2, 2, .w1c⟩, ⟨1, 1, .w1c⟩, ⟨0, 0, .w1c⟩]⟩,
  ⟨0x100030, 1, 0x0, 1, 0x0, true, .val 0x0, .any, false,
   [⟨63, 0, .rb⟩]⟩,
  ⟨0x100040, 10, 0x4, 1, 0x0, false, .val 0x0, .any, false,
   [⟨15, 0, .ro⟩]⟩,
  ⟨0x100080, 1, 0x0, 1, 0x0, false, .val 0x20000000, .haltDepot, false,
   [⟨31, 31, .rt⟩, ⟨30, 30, .rt⟩, ⟨29, 29, .rt⟩]⟩,
  ⟨0x100084, 1, 0x0, 1, 0x0, false, .val 0x0, .any, false,
   [⟨31, 30, .ro⟩, ⟨29, 29, .ro⟩, ⟨28, 28, .ro⟩, ⟨27, 27, .ro⟩, ⟨23, 16, .ro⟩, ⟨15, 0, .ro⟩]⟩]

/-- The registers of R519 (23_sidings_live_service.md). -/
def regsR519 : List RegDef := [
  ⟨0x120000, 1, 0x0, 1, 0x0, false, .val 0x0, .any, false,
   [⟨31, 31, .rw⟩, ⟨27, 24, .rw⟩, ⟨20, 20, .rw⟩, ⟨16, 0, .rw⟩]⟩,
  ⟨0x120004, 1, 0x0, 1, 0x0, false, .val 0x10000, .any, false,
   [⟨23, 20, .ro⟩, ⟨19, 16, .ro⟩, ⟨15, 8, .ro⟩, ⟨5, 5, .ro⟩, ⟨4, 4, .ro⟩, ⟨1, 1, .ro⟩, ⟨0, 0, .ro⟩]⟩,
  ⟨0x120008, 1, 0x0, 1, 0x0, false, .val 0x0, .any, false,
   [⟨15, 8, .ro⟩, ⟨7, 0, .ro⟩]⟩]

/-- The registers of R285 (12_pwm.md). -/
def regsR285 : List RegDef := [
  ⟨0x94800, 32, 0x4, 1, 0x0, false, .index 0x80000000, .haltDepot, false,
   [⟨31, 31, .rtb⟩, ⟨4, 0, .rtb⟩]⟩,
  ⟨0x94880, 32, 0x4, 1, 0x0, false, .index 0x0, .any, false,
   [⟨31, 31, .ro⟩, ⟨5, 0, .ro⟩]⟩,
  ⟨0x94c00, 32, 0x8, 1, 0x0, false, .val 0x0, .haltDepot, true,
   [⟨31, 0, .rt⟩]⟩,
  ⟨0x94c04, 32, 0x8, 1, 0x0, false, .val 0x0, .any, false,
   [⟨31, 31, .ro⟩, ⟨29, 28, .ro⟩, ⟨5, 0, .ro⟩]⟩,
  ⟨0x94f00, 1, 0x0, 1, 0x0, false, .val 0x0, .any, false,
   [⟨0, 0, .rw⟩]⟩]

/-- The registers of R439 (19_metering.md). -/
def regsR439 : List RegDef := [
  ⟨0xc1000, 8, 0x10, 1, 0x0, false, .val 0x50, .haltDepot, true,
   [⟨31, 31, .rt⟩, ⟨30, 29, .rt⟩, ⟨28, 26, .rt⟩, ⟨25, 24, .rt⟩, ⟨7, 0, .rt⟩]⟩,
  ⟨0xc1004, 8, 0x10, 1, 0x0, false, .val 0x0, .any, false,
   [⟨16, 16, .ro⟩, ⟨15, 0, .ro⟩]⟩,
  ⟨0xc1008, 8, 0x10, 1, 0x0, true, .val 0xf4240, .haltDepot, true,
   [⟨63, 0, .rt⟩]⟩,
  ⟨0xc1100, 1, 0x0, 1, 0x0, false, .val 0x0, .any, false,
   [⟨9, 9, .w1c⟩, ⟨8, 8, .ro⟩, ⟨0, 0, .rb⟩]⟩,
  ⟨0xc1104, 1, 0x0, 1, 0x0, false, .val 0x0, .any, false,
   [⟨0, 0, .rw⟩]⟩,
  ⟨0xc1108, 1, 0x0, 1, 0x0, false, .val 0x0, .any, false,
   [⟨3, 0, .w1c⟩]⟩]

/-- The registers of R440 (19_metering.md). -/
def regsR440 : List RegDef := [
  ⟨0xe0100, 8, 0x10, 1, 0x0, false, .val 0x40000014, .haltDepot, false,
   [⟨31, 31, .rw⟩, ⟨30, 30, .rw⟩, ⟨29, 29, .rw⟩, ⟨28, 28, .rw⟩, ⟨7, 0, .rw⟩]⟩,
  ⟨0xe0104, 8, 0x10, 1, 0x0, false, .val 0x0, .any, false,
   [⟨31, 0, .ro⟩]⟩,
  ⟨0xe0108, 8, 0x10, 1, 0x0, false, .val 0x0, .any, false,
   [⟨5, 5, .w1c⟩, ⟨4, 4, .w1c⟩, ⟨3, 3, .w1c⟩, ⟨2, 2, .ro⟩, ⟨1, 1, .ro⟩, ⟨0, 0, .ro⟩]⟩]

/-- Every register of BAR0 (R66). -/
def regTable : List RegDef :=
  regsR67 ++
  regsR68 ++
  regsR97 ++
  regsR118 ++
  regsR119 ++
  regsR171 ++
  regsR185 ++
  regsR205 ++
  regsR232 ++
  regsR254 ++
  regsR281 ++
  regsR283 ++
  regsR284 ++
  regsR302 ++
  regsR369 ++
  regsR418 ++
  regsR438 ++
  regsR465 ++
  regsR483 ++
  regsR500 ++
  regsR518 ++
  regsR519 ++
  regsR285 ++
  regsR439 ++
  regsR440

end Sys2Proof.Machine
end

