-- ==== Sys2Proof/Machine/Sources.lean ====
section
/-! DEFINITION. Sources.lean: the fault sources, their numbers, default severities and floors (R484, R485,
and the source table of each chapter). -/

namespace Sys2Proof.Machine

abbrev FS.HOST_VIOL : Nat := 0
abbrev FS.VOTE_FIX : Nat := 1
abbrev FS.VOTE_FAIL : Nat := 2
abbrev FS.MODE_REFUSED : Nat := 3
abbrev FS.DEPART_TIMEOUT : Nat := 4
abbrev FS.CORE_SILENT : Nat := 5
abbrev FS.SYS_REMOVAL : Nat := 6
abbrev FS.FLT_REC_LIMIT : Nat := 7
abbrev FS.TT_OVERRUN : Nat := 16
abbrev FS.TT_SHED : Nat := 17
abbrev FS.TT_SPEED_LOW : Nat := 18
abbrev FS.TT_SWITCH_FAIL : Nat := 19
abbrev FS.TT_CORRUPT : Nat := 20
abbrev FS.ENG_DETECT : Nat := 24
abbrev FS.ENG_DETECT_REPEAT : Nat := 25
abbrev FS.ENG_DETECT_PERSIST : Nat := 26
abbrev FS.ENG_VIOL : Nat := 27
abbrev FS.ENG_BELOW_FLOOR : Nat := 28
abbrev FS.ENG_GAUGE_LOST : Nat := 29
abbrev FS.ENG_SPARE_OUT : Nat := 30
abbrev FS.ROW_RETIRED : Nat := 31
abbrev FS.YARD_DETECT : Nat := 32
abbrev FS.YARD_SPARE_OUT : Nat := 33
abbrev FS.LU_FOLLOW : Nat := 40
abbrev FS.LU_SAT : Nat := 41
abbrev FS.LU_NAN : Nat := 42
abbrev FS.LU_REFUSED : Nat := 43
abbrev FS.CLK_COAST : Nat := 48
abbrev FS.CLK_GATE : Nat := 49
abbrev FS.CLK_NO_BAND : Nat := 50
abbrev FS.CLK_GUARD : Nat := 51
abbrev FS.CLK_TERR : Nat := 52
abbrev FS.CLK_STEP : Nat := 53
abbrev FS.CLK_GM_CHANGE : Nat := 54
abbrev FS.PB_SV_LOST : Nat := 56
abbrev FS.PB_SV_CFG : Nat := 57
abbrev FS.PB_GOOSE_LOST : Nat := 58
abbrev FS.PB_GOOSE_CFG : Nat := 59
abbrev FS.PB_GOOSE_TRIP : Nat := 60
abbrev FS.PB_LINK_DOWN : Nat := 61
abbrev FS.PB_LAN_LOST : Nat := 62
abbrev FS.AFE_TRIG_OVR : Nat := 64
abbrev FS.AFE_DRIFT : Nat := 65
abbrev FS.AFE_OPEN : Nat := 66
abbrev FS.AFE_CMP_OFFSET : Nat := 67
abbrev FS.CMP_TRIP : Nat := 68
abbrev FS.CMP_EVENT : Nat := 69
abbrev FS.PWM_LATE : Nat := 72
abbrev FS.PWM_ILK : Nat := 73
abbrev FS.PWM_FL_HOST : Nat := 74
abbrev FS.GD_DESAT : Nat := 80
abbrev FS.GD_DIDT : Nat := 81
abbrev FS.GD_UVLO : Nat := 82
abbrev FS.GD_VN : Nat := 83
abbrev FS.GD_REV : Nat := 84
abbrev FS.GD_XCOND : Nat := 85
abbrev FS.GD_LINK : Nat := 86
abbrev FS.LN_TRAIN_FAIL : Nat := 88
abbrev FS.LN_CYCLE : Nat := 89
abbrev FS.LN_RING_DOWN : Nat := 90
abbrev FS.LN_RING_BREAK : Nat := 91
abbrev FS.LN_CRC : Nat := 92
abbrev FS.LN_CELL_LOST : Nat := 93
abbrev FS.LN_CELL_FAULT : Nat := 94
abbrev FS.LN_SLOW_FULL : Nat := 95
abbrev FS.MTR_GAP : Nat := 96
abbrev FS.MTR_CORR_BAD : Nat := 97
abbrev FS.MTR_CLEAR : Nat := 98
abbrev FS.MTR_PO_FULL : Nat := 99
abbrev FS.MTR_PI_WIRE : Nat := 100
abbrev FS.SAFE_DEMAND : Nat := 104
abbrev FS.SAFE_DISC : Nat := 105
abbrev FS.SAFE_WIRE : Nat := 106
abbrev FS.SAFE_EDM : Nat := 107
abbrev FS.SAFE_OUT : Nat := 108
abbrev FS.SAFE_TOKEN : Nat := 109
abbrev FS.SAFE_INTERNAL : Nat := 110
abbrev FS.SAFE_STOP1 : Nat := 111
abbrev FS.SAFE_CFG : Nat := 112
abbrev FS.SAFE_PW : Nat := 113
abbrev FS.KEEP_ABORT : Nat := 116
abbrev FS.KEEP_TAMPER : Nat := 117
abbrev FS.KEEP_DARK : Nat := 118
abbrev FS.CAN_BUSOFF : Nat := 120
abbrev FS.SID_WEAR : Nat := 124
abbrev FS.SID_SUB_DONE : Nat := 125
abbrev FS.SID_SUB_FAIL : Nat := 126
abbrev FS.SID_NO_RESERVE : Nat := 127
abbrev FS.NVM_SPARE_OUT : Nat := 128
abbrev FS.NVM_FAIL : Nat := 129
abbrev FS.HL_LANE : Nat := 130
abbrev FS.HL_LOST : Nat := 131
abbrev FS.HL_TAKEOVER : Nat := 132
abbrev FS.GC_PRECHARGE : Nat := 136
abbrev FS.GC_SYNC_LOST : Nat := 137
abbrev FS.GC_OVERCURRENT : Nat := 138
abbrev FS.GC_VDC : Nat := 139
abbrev FS.GC_SV_AGE : Nat := 140
abbrev FS.RT_TRIP : Nat := 141
abbrev FS.ISL_TRIP : Nat := 142
abbrev FS.GC_ISLAND : Nat := 143
abbrev FS.GC_RT_STATE : Nat := 144
abbrev FS.DP_OVERCURRENT : Nat := 148
abbrev FS.DP_OVERVOLTAGE : Nat := 149
abbrev FS.DP_BUS : Nat := 150
abbrev FS.DP_PHASE : Nat := 151
abbrev FS.DP_TEMP : Nat := 152
abbrev FS.DP_CMD_LOST : Nat := 153
abbrev FS.DP_IMBALANCE : Nat := 154
abbrev FS.MCH_OVERCURRENT : Nat := 156
abbrev FS.MCH_VDC : Nat := 157
abbrev FS.MCH_OVERSPEED : Nat := 158
abbrev FS.MCH_START_FAIL : Nat := 159
abbrev FS.MCH_LISTEN : Nat := 160
abbrev FS.MCH_OBS_LOST : Nat := 161
abbrev FS.MCH_REVERSE : Nat := 162
abbrev FS.MCH_ASC : Nat := 163
abbrev FS.MCH_FW : Nat := 164
/-- PRG_00 to PRG_31, for expert programs (R484). -/
abbrev FS.PRG (k : Nat) : Nat := 224 + k

/-- Default severity of a source, as its chapter gives it; none for a number that R484 does not assign. -/
def sourceSev : Nat → Option Nat
  | 0 => some 1
  | 1 => some 1
  | 2 => some 6
  | 3 => some 1
  | 4 => some 4
  | 5 => some 6
  | 6 => some 6
  | 7 => some 2
  | 16 => some 4
  | 17 => some 2
  | 18 => some 2
  | 19 => some 2
  | 20 => some 6
  | 24 => some 1
  | 25 => some 5
  | 26 => some 6
  | 27 => some 4
  | 28 => some 3
  | 29 => some 4
  | 30 => some 3
  | 31 => some 1
  | 32 => some 1
  | 33 => some 6
  | 40 => some 4
  | 41 => some 1
  | 42 => some 2
  | 43 => some 1
  | 48 => some 3
  | 49 => some 6
  | 50 => some 2
  | 51 => some 3
  | 52 => some 2
  | 53 => some 1
  | 54 => some 1
  | 56 => some 3
  | 57 => some 2
  | 58 => some 2
  | 59 => some 2
  | 60 => some 5
  | 61 => some 2
  | 62 => some 2
  | 64 => some 2
  | 65 => some 2
  | 66 => some 2
  | 67 => some 2
  | 68 => some 5
  | 69 => some 2
  | 72 => some 0
  | 73 => some 2
  | 74 => some 1
  | 80 => some 5
  | 81 => some 5
  | 82 => some 5
  | 83 => some 5
  | 84 => some 5
  | 85 => some 5
  | 86 => some 6
  | 88 => some 2
  | 89 => some 4
  | 90 => some 5
  | 91 => some 3
  | 92 => some 1
  | 93 => some 3
  | 94 => some 2
  | 95 => some 1
  | 96 => some 1
  | 97 => some 2
  | 98 => some 1
  | 99 => some 2
  | 100 => some 2
  | 104 => some 7
  | 105 => some 7
  | 106 => some 7
  | 107 => some 7
  | 108 => some 7
  | 109 => some 7
  | 110 => some 7
  | 111 => some 4
  | 112 => some 1
  | 113 => some 2
  | 116 => some 1
  | 117 => some 2
  | 118 => some 2
  | 120 => some 2
  | 124 => some 2
  | 125 => some 1
  | 126 => some 3
  | 127 => some 3
  | 128 => some 3
  | 129 => some 2
  | 130 => some 2
  | 131 => some 3
  | 132 => some 2
  | 136 => some 4
  | 137 => some 4
  | 138 => some 5
  | 139 => some 5
  | 140 => some 2
  | 141 => some 5
  | 142 => some 5
  | 143 => some 2
  | 144 => some 1
  | 148 => some 5
  | 149 => some 5
  | 150 => some 4
  | 151 => some 5
  | 152 => some 4
  | 153 => some 4
  | 154 => some 2
  | 156 => some 5
  | 157 => some 5
  | 158 => some 5
  | 159 => some 4
  | 160 => some 5
  | 161 => some 2
  | 162 => some 2
  | 163 => some 5
  | 164 => some 5
  | 224 => some 1
  | 225 => some 1
  | 226 => some 1
  | 227 => some 1
  | 228 => some 1
  | 229 => some 1
  | 230 => some 1
  | 231 => some 1
  | 232 => some 1
  | 233 => some 1
  | 234 => some 1
  | 235 => some 1
  | 236 => some 1
  | 237 => some 1
  | 238 => some 1
  | 239 => some 1
  | 240 => some 1
  | 241 => some 1
  | 242 => some 1
  | 243 => some 1
  | 244 => some 1
  | 245 => some 1
  | 246 => some 1
  | 247 => some 1
  | 248 => some 1
  | 249 => some 1
  | 250 => some 1
  | 251 => some 1
  | 252 => some 1
  | 253 => some 1
  | 254 => some 1
  | 255 => some 1
  | _ => none

/-- Severity floors (R485): no other source has one. -/
def sourceFloor (n : Nat) : Nat :=
  if n ∈ [FS.VOTE_FAIL, FS.CORE_SILENT, FS.SYS_REMOVAL, FS.TT_CORRUPT, FS.ENG_DETECT_PERSIST,
      FS.YARD_SPARE_OUT, FS.CLK_GATE, FS.GD_LINK] then 6
  else if n ∈ [FS.GD_DESAT, FS.GD_DIDT] then 5
  else if n ∈ [FS.SAFE_DEMAND, FS.SAFE_DISC, FS.SAFE_WIRE, FS.SAFE_EDM, FS.SAFE_OUT, FS.SAFE_TOKEN,
      FS.SAFE_INTERNAL] then 7
  else 0

/-- A source that the table of R484 assigns. -/
def sourceDefined (n : Nat) : Bool := (sourceSev n).isSome

/-- Raisable by programs (R484): the assigned sources among FS_136 to FS_165, and FS_224 to FS_255. -/
def sourceProgram (n : Nat) : Bool :=
  sourceDefined n && ((136 ≤ n && n ≤ 165) || (224 ≤ n && n ≤ 255))

end Sys2Proof.Machine
end

