-- ==== Sys2Proof/Machine/Ops.lean ====
section
/-! DEFINITION. Ops.lean: the named operations over the registers and memories, their reset contents, the
configuration in effect, time, and the reports of fault sources. Every read and write of a register or
of a byte of BAR2 goes through these. -/

namespace Sys2Proof.Machine

/-- The outcome of a command whose effect on the module is `f`; the queue stands as it is. -/
def State.run (s : State) (f : Module → Module) : Host.Outcome State Fault Refusal :=
  .next { s with mod := f s.mod }

/-- The module has its supply (R13, R29). -/
def Module.powered (m : Module) : Bool := m.sys.power == .on

/-- The module has its supply, and no hold-up sequence has shed its load (R13, R47). -/
def Module.live (m : Module) : Bool := m.powered && !m.sys.holdUp

/-- From the end of INSPECT in every mode up to RUN: the domains run and INSPECT does not. -/
def Module.up (m : Module) : Bool := m.live && !m.sys.inspecting

/-- The outcome of an event in a domain that loss of VMAIN stops (R13): without the supply nothing happens. -/
def State.runOn (s : State) (f : Module → Module) : Host.Outcome State Fault Refusal :=
  s.run (fun m => if m.powered then f m else m)

/-- The outcome of an event in a unit that INSPECT still tests and a hold-up sequence has shed (R13, R29, R47). -/
def State.runUp (s : State) (f : Module → Module) : Host.Outcome State Fault Refusal :=
  s.run (fun m => if m.up then f m else m)

/-! ### The register table -/

/-- How many bytes one register of the row takes (R58). -/
def RegDef.bytes (d : RegDef) : Nat := if d.wide then 8 else 4

/-- Where `addr` lies in a row: instance, sub-instance and byte offset. -/
def RegDef.locate (d : RegDef) (addr : Nat) : Option (Nat × Nat × Nat) :=
  if addr < d.base then none else
  let off := addr - d.base
  let i := if d.stride = 0 then 0 else off / d.stride
  let r := if d.stride = 0 then off else off % d.stride
  let j := if d.stride2 = 0 then 0 else r / d.stride2
  let b := if d.stride2 = 0 then r else r % d.stride2
  if i < d.count ∧ j < d.count2 ∧ b < d.bytes then some (i, j, b) else none

/-- A register found by address: its row, instance, sub-instance, and the byte offset within it. -/
structure Found where
  reg : RegDef
  inst : Nat
  sub : Nat
  byte : Nat

/-- The register that holds the byte at a normal address, if one is assigned (R66). -/
def findReg (addr : Nat) : List RegDef → Option Found
  | [] => none
  | d :: r =>
    match d.locate addr with
    | some (i, j, b) => some ⟨d, i, j, b⟩
    | none => findReg addr r

/-- The rows of FLT_REACT at reset (R490, R500). -/
def reactReset (s : Nat) : Nat := [0x00, 0x01, 0x03, 0x07, 0x0F, 0x1F, 0x3F, 0x7F].getD s 0

/-- The reset value a row gives its instance `i` (R67 to R519). -/
def ResetRule.value (i : Nat) : ResetRule → DWord
  | .val v => BitVec.ofNat 64 v
  | .index v => BitVec.ofNat 64 (v + i)
  | .engStat => BitVec.ofNat 64 (if i < 8 then i <<< 4 else 1 <<< 16)
  | .react f => BitVec.ofNat 64 (reactReset (f + i))
  | .uid => BitVec.ofNat 64 (Config.factoryUid.val + 1)
  | .band => (Config.factoryBand i).setWidth 64 &&& 0x9FFF1FFF#64
  | .mac => (Config.factoryMac i).setWidth 64

/-- What the register at a normal address reads at reset; an address with no register reads 0. -/
def regReset (addr : Nat) : DWord :=
  match findReg addr regTable with
  | some f => if f.byte = 0 then f.reg.reset.value f.inst else 0
  | none => 0

/-! ### Reset contents of the memories of BAR2 -/

/-- Word `w` of a fault source's entry in the source table at its defaults (R488). -/
def sourceDefault (src w : Nat) : Nat :=
  if !sourceDefined src then 0 else
  match w with
  | 0 =>
    (if sourceProgram src then 1 <<< 30 else 0) + ((sourceSev src).getD 0) <<< 27
      + sourceFloor src <<< 24
      + (if (16 ≤ src && src ≤ 47) || sourceProgram src then 1 <<< 23 else 0)
      + 28 <<< 18 + 1 <<< 17 + 3 <<< 8
  | 1 => 1000 <<< 10
  | 2 => 3600
  | _ => 0

/-- What a byte of BAR2 that nothing has written reads as: the source table of R488 at its defaults, both copies of
the metering correction tables all NaN as R421 gives them (the quiet NaN 0x7FC0_0000 of R129), and 0 elsewhere
(DESIGN CHOICE, log 5). -/
def memReset (a : Nat) : Byte :=
  if 0x018B0000 ≤ a ∧ a < 0x018B1000 then
    BitVec.ofNat 8 (sourceDefault ((a - 0x018B0000) / 16) ((a - 0x018B0000) % 16 / 4) >>> (8 * (a % 4)))
  else if (0x01890000 ≤ a ∧ a < 0x01891200) ∨ (0x01892000 ≤ a ∧ a < 0x01893200) then
    BitVec.ofNat 8 (0x7FC00000 >>> (8 * (a % 4)))
  else 0

/-! ### Registers -/

/-- The value a register holds. -/
def Module.rd (m : Module) (a : Nat) : DWord := SMap.get regReset m.regs a

/-- Give a register a value. -/
def Module.wr (m : Module) (a : Nat) (v : DWord) : Module :=
  { m with regs := SMap.put regReset m.regs a v }

/-- A field of a register, as a number. -/
def Module.rf (m : Module) (a : Nat) (f : Field) : Nat := fget (m.rd a) f

/-- Give a field of a register a value. -/
def Module.wf (m : Module) (a : Nat) (f : Field) (n : Nat) : Module := m.wr a (fset (m.rd a) f n)

/-- A one-bit field, as a truth value. -/
def Module.flag (m : Module) (a : Nat) (f : Field) : Bool := m.rf a f != 0

/-- Set or clear a one-bit field. -/
def Module.setFlag (m : Module) (a : Nat) (f : Field) (b : Bool) : Module := m.wf a f (if b then 1 else 0)

/-- Bit `i` of a register. -/
def Module.bit (m : Module) (a i : Nat) : Bool := m.flag a ⟨i, i⟩

/-- Set or clear bit `i` of a register. -/
def Module.setBit (m : Module) (a i : Nat) (b : Bool) : Module := m.setFlag a ⟨i, i⟩ b

/-- A register as a number. -/
def Module.rn (m : Module) (a : Nat) : Nat := (m.rd a).toNat

/-- Give a register a number, modulo 2^64. -/
def Module.wn (m : Module) (a : Nat) (n : Nat) : Module := m.wr a (BitVec.ofNat 64 n)

/-- The value a configuration register acts with: the old value while a write to it waits for its
frame boundary (R67, R279, R302, R369, R418, R438). -/
def Module.rdE (m : Module) (a : Nat) : DWord :=
  match m.held.find? (fun h => h.addr == a) with
  | some h => h.old
  | none => m.rd a

/-- A field of a configuration register, as it acts. -/
def Module.cf (m : Module) (a : Nat) (f : Field) : Nat := fget (m.rdE a) f

/-- A one-bit field of a configuration register, as it acts. -/
def Module.cflag (m : Module) (a : Nat) (f : Field) : Bool := m.cf a f != 0

/-- A value with pending writes of register `a` laid over it. -/
def layPends (a : Nat) (v : DWord) (ps : List PendField) : DWord :=
  ps.foldl (fun v p => if p.addr = a then (v &&& ~~~ p.mask) ||| (p.val &&& p.mask) else v) v

/-- What pending writes of a register lie over: its value, or in CLK_DIV a divider pair that waits for its compare edge
(R198). -/
def Module.pendBase (m : Module) (a : Nat) : DWord :=
  match m.clk.divDue with
  | some v => if a = R.CLK_DIV then BitVec.ofNat 64 v else m.rd a
  | none => m.rd a

/-- The value of a register's rb and rtb fields with its pending writes laid over it (R55, R56). -/
def Module.rdP (m : Module) (a : Nat) : DWord := layPends a (m.pendBase a) m.pendF

/-- A write sets all three copies of the fields in `mask` (R62). -/
def Module.dropUpsets (m : Module) (a : Nat) (mask : DWord) : Module :=
  { m with upsets := m.upsets.filter (fun u => !(u.addr.toNat == a && mask.getLsbD u.lo)) }

/-! ### Memories -/

/-- One byte of BAR2. -/
def Module.mb (m : Module) (a : Nat) : Byte := SMap.get memReset m.mem a

/-- Write one byte of BAR2: the word it lies in gets its parity afresh (R111). -/
def Module.setMb (m : Module) (a : Nat) (b : Byte) : Module :=
  { m with
    mem := SMap.put memReset m.mem a b
    eng := { m.eng with failing := m.eng.failing.filter (· ≠ a / 4 * 4) } }

/-- One byte of a configuration table as it acts: the old byte while a write waits (R211, R239, R488). -/
def Module.mbE (m : Module) (a : Nat) : Byte :=
  match m.heldMem.find? (fun h => h.addr == a) with
  | some h => h.old
  | none => m.mb a

/-- A little-endian number of `n` bytes (R9). -/
def leNat : List Byte → Nat
  | [] => 0
  | b :: r => b.toNat + 256 * leNat r

/-- The low `n` bytes of a number, little-endian (R9). -/
def leBytes : Nat → Nat → List Byte
  | 0, _ => []
  | n + 1, v => BitVec.ofNat 8 v :: leBytes n (v / 256)

/-- `n` bytes of BAR2 from `a`. -/
def Module.mbytes (m : Module) (a : Nat) : Nat → List Byte
  | 0 => []
  | n + 1 => m.mb a :: m.mbytes (a + 1) n

/-- The same of a configuration table as it acts. -/
def Module.mbytesE (m : Module) (a : Nat) : Nat → List Byte
  | 0 => []
  | n + 1 => m.mbE a :: m.mbytesE (a + 1) n

/-- Write a byte string to BAR2 from `a`. -/
def Module.setBytes (m : Module) (a : Nat) : List Byte → Module
  | [] => m
  | b :: r => (m.setMb a b).setBytes (a + 1) r

/-- `n` bytes of BAR2 as a little-endian number. -/
def Module.mn (m : Module) (a n : Nat) : Nat := leNat (m.mbytes a n)

/-- The same of a configuration table as it acts. -/
def Module.mnE (m : Module) (a n : Nat) : Nat := leNat (m.mbytesE a n)

/-- Write a little-endian number of `n` bytes. -/
def Module.setMn (m : Module) (a n v : Nat) : Module := m.setBytes a (leBytes n v)

/-- A 32-bit word of BAR2. -/
def Module.mw (m : Module) (a : Nat) : Word := BitVec.ofNat 32 (m.mn a 4)

/-- A 32-bit word of a configuration table as it acts. -/
def Module.mwE (m : Module) (a : Nat) : Word := BitVec.ofNat 32 (m.mnE a 4)

/-- Write a 32-bit word of BAR2. -/
def Module.setMw (m : Module) (a : Nat) (w : Word) : Module := m.setMn a 4 w.toNat

/-! ### Time -/

/-- Advance the time of day by `n` ns, less than a second (R203). -/
def Module.todAdd (m : Module) (n : Nat) : Module :=
  if m.todNs + n < 1000000000 then { m with todNs := m.todNs + n }
  else { m with todNs := m.todNs + n - 1000000000, todSec := (m.todSec + 1) % 2 ^ 48 }

/-- Advance the time of day by one tick of 2 ns; the seconds are 48 bits (R203). -/
def Module.tickTod (m : Module) : Module := m.todAdd 2

/-- The time of day in nanoseconds. -/
def Module.todNanos (m : Module) : Nat := m.todSec * 1000000000 + m.todNs

/-- 1 µs in ticks: the guard of R61 before a frame boundary. -/
def frameGuard : Nat := 500

/-- 64 ns in ticks: the guard of R18 and R61 before a reload. -/
def reloadGuard : Nat := 32

/-! ### Mode -/

/-- The mode a code of R29 names; codes the table does not use name none of the powered modes. -/
def Mode.ofCode : Nat → Mode
  | 0 => .dark
  | 1 => .watch
  | 2 => .inspect
  | 3 => .halt
  | 4 => .depot
  | 5 => .shunt
  | 6 => .depart
  | _ => .run

/-- The code of a mode (R29). -/
def Mode.code : Mode → Nat
  | .dark => 0
  | .watch => 1
  | .inspect => 2
  | .halt => 3
  | .depot => 4
  | .shunt => 5
  | .depart => 6
  | .run => 7

/-! ### Reports -/

/-- Send a report to the collector (R486). -/
def Module.raise (m : Module) (src : Nat) (info : Nat) (owner : Owner) : Module :=
  { m with reports := m.reports ++ [⟨src, BitVec.ofNat 32 info, owner, m.now, m.todSec, m.todNs⟩] }

/-! ### Free values -/

/-- Draw a free 32-bit value. -/
def Module.free (m : Module) : Word × Module :=
  (Config.freeWord m.freeCtr, { m with freeCtr := m.freeCtr + 1 })

/-- Send a report whose information word the spec does not state: a free value. -/
def Module.raiseFree (m : Module) (src : Nat) (owner : Owner) : Module :=
  let w := m.free
  w.2.raise src w.1.toNat owner

end Sys2Proof.Machine
end

