-- ==== Sys2Proof/Machine/Flags.lean ====
section
/-! DEFINITION. Flags.lean: counters with their saturation flags, and the status and interrupt flags of the
host block. -/

namespace Sys2Proof.Machine

/-- An event counter takes one event (R65): it saturates, and its SAT flag (bit `i` of the register at
`sat`) is set by an increment that reaches or finds the largest value. -/
def Module.bump (m : Module) (a sat i : Nat) : Module :=
  let v := m.rn a
  let m1 := if v < 0xFFFFFFFF then m.wn a (v + 1) else m
  if 0xFFFFFFFE ≤ v then m1.setBit sat i true else m1

/-- Several events at once. -/
def Module.bumpN (m : Module) (a sat i : Nat) : Nat → Module
  | 0 => m
  | n + 1 => (m.bump a sat i).bumpN a sat i n

/-- A 32-bit accumulator wraps (R65). -/
def Module.accum32 (m : Module) (a n : Nat) : Module := m.wn a ((m.rn a + n) % 2 ^ 32)

/-- A 64-bit accumulator wraps (R65). -/
def Module.accum64 (m : Module) (a n : Nat) : Module := m.wn a ((m.rn a + n) % 2 ^ 64)

/-- An interrupt message for bit `n` (R51): vector n, or the single MSI vector 0 when MSI-X is off. -/
def Module.message (m : Module) (n : Nat) : Module :=
  { m with host := { m.host with msi := m.host.msi ++ [if m.host.msix then n else 0] } }

/-- Set a bit of HOST_IRQ_STAT; a message goes when the bit AND its enable changes from 0 to 1 (R51). -/
def Module.irq (m : Module) (n : Nat) : Module :=
  let was := m.bit R.HOST_IRQ_STAT n
  let m1 := m.setBit R.HOST_IRQ_STAT n true
  if !was && m.bit R.HOST_IRQ_EN n then m1.message n else m1

/-- Bits of HOST_IRQ_STAT (R68). -/
abbrev Irq.NOTIFY : Nat := 0
abbrev Irq.MBX : Nat := 1
abbrev Irq.MODE : Nat := 2
abbrev Irq.VIOL : Nat := 3
abbrev Irq.PWERR : Nat := 4
abbrev Irq.REFUSE : Nat := 5
abbrev Irq.INSPECT_DONE : Nat := 6
abbrev Irq.VOTE : Nat := 7

end Sys2Proof.Machine
end

