-- ==== Sys2Proof/Machine/Float.lean ====
section
/-! DEFINITION. Float.lean: binary32 arithmetic as R129 to R131 give it: round to nearest, ties to even,
full subnormals, one canonical NaN, tininess after rounding, and the five sticky exception flags. Every
result is computed exactly over the integers and rounded once. -/

namespace Sys2Proof.Machine.Fp

/-- The FPX flags of R129: bit 4 invalid, 3 divide by zero, 2 overflow, 1 underflow, 0 inexact. -/
abbrev Flags := Nat
abbrev invalid : Flags := 16
abbrev divZero : Flags := 8
abbrev overflow : Flags := 4
abbrev underflow : Flags := 2
abbrev inexact : Flags := 1

/-- A result and the flags it sets. -/
abbrev Res := Word × Flags

/-- The canonical quiet NaN. -/
abbrev qNaN : Word := 0x7FC00000#32
abbrev pZero : Word := 0#32
abbrev pInf : Word := 0x7F800000#32
abbrev one : Word := 0x3F800000#32

def sign (w : Word) : Bool := w.msb
def expo (w : Word) : Nat := (w.toNat >>> 23) % 256
def frac (w : Word) : Nat := w.toNat % 2 ^ 23
def isNaN (w : Word) : Bool := expo w == 255 && frac w != 0
def isSNaN (w : Word) : Bool := isNaN w && frac w < 2 ^ 22
def isInf (w : Word) : Bool := expo w == 255 && frac w == 0
def isZero (w : Word) : Bool := expo w == 0 && frac w == 0
def isFinite (w : Word) : Bool := expo w != 255

/-- Of a finite number: its significand and exponent, so that |w| = mant · 2^exp2. -/
def mant (w : Word) : Nat := if expo w = 0 then frac w else frac w + 2 ^ 23
def exp2 (w : Word) : Int := if expo w = 0 then -149 else (expo w : Int) - 150

/-- Put a sign on the bits of a magnitude. -/
def withSign (s : Bool) (n : Nat) : Word := BitVec.ofNat 32 (n % 2 ^ 31 + if s then 2 ^ 31 else 0)

def neg (w : Word) : Word := w ^^^ 0x80000000#32
def abs (w : Word) : Word := w &&& 0x7FFFFFFF#32
def infOf (s : Bool) : Word := withSign s 0x7F800000
def zeroOf (s : Bool) : Word := withSign s 0

/-- `m` shifted right by `k`, rounded to nearest, ties to even; and whether anything was lost. -/
def shiftRne (m k : Nat) : Nat × Bool :=
  let q := m >>> k
  let r := m % 2 ^ k
  let up := 2 * r > 2 ^ k || (2 * r == 2 ^ k && q % 2 == 1)
  (if up then q + 1 else q, r != 0)

/-- Round ±m·2^e to binary32 (R129). A sticky last bit of `m` stands for any lower part. -/
def round (s : Bool) (m : Nat) (e : Int) : Res :=
  if m = 0 then (zeroOf s, 0) else
  let top : Int := (Nat.log2 m : Int) + e
  let q : Int := max (top - 23) (-149)
  let (r, lost) :=
    if q ≤ e then (m <<< (e - q).toNat, false) else shiftRne m (q - e).toNat
  let (r, q) := if r = 2 ^ 24 then (2 ^ 23, q + 1) else (r, q)
  let tiny := top < -126 && !(top == -127 &&
    (let p := (shiftRne m ((top - 23 - e).toNat)).1
     (top - 23 > e) && p == 2 ^ 24))
  let fl := (if lost then inexact else 0) ||| (if tiny && lost then underflow else 0)
  if r < 2 ^ 23 then (withSign s r, fl)
  else if q + 150 ≥ 255 then (infOf s, overflow ||| inexact)
  else (withSign s (((q + 150).toNat <<< 23) + (r - 2 ^ 23)), fl)

/-- Round a signed integer times a power of two; an exact zero is +0. -/
def roundInt (n : Int) (e : Int) : Res := round (n < 0) n.natAbs e

/-- The signed significand of a finite number. -/
def sMant (w : Word) : Int := if sign w then -(mant w : Int) else (mant w : Int)

/-- Invalid when an operand is a signalling NaN. -/
def snan2 (a b : Word) : Flags := if isSNaN a || isSNaN b then invalid else 0

/-- ±m1·2^e1 + ±m2·2^e2, exactly, then rounded; an exact zero takes `zs`. -/
def addExact (n1 : Int) (e1 : Int) (n2 : Int) (e2 : Int) (zs : Bool) : Res :=
  let e := min e1 e2
  let n := n1 * 2 ^ (e1 - e).toNat + n2 * 2 ^ (e2 - e).toNat
  if n = 0 then (zeroOf zs, 0) else roundInt n e

/-- fadd (R130). -/
def add (a b : Word) : Res :=
  if isNaN a || isNaN b then (qNaN, snan2 a b)
  else if isInf a then (if isInf b && sign a != sign b then (qNaN, invalid) else (a, 0))
  else if isInf b then (b, 0)
  else addExact (sMant a) (exp2 a) (sMant b) (exp2 b) (sign a && sign b)

/-- fsub (R130): the addition of the operand with its sign inverted. -/
def sub (a b : Word) : Res := if isNaN b then (qNaN, snan2 a b) else add a (neg b)

/-- fmul (R130). -/
def mul (a b : Word) : Res :=
  let s := sign a != sign b
  if isNaN a || isNaN b then (qNaN, snan2 a b)
  else if isInf a || isInf b then (if isZero a || isZero b then (qNaN, invalid) else (infOf s, 0))
  else round s (mant a * mant b) (exp2 a + exp2 b)

/-- fdiv (R130): the quotient to 32 bits beyond the significands, with a sticky last bit. -/
def div (a b : Word) : Res :=
  let s := sign a != sign b
  if isNaN a || isNaN b then (qNaN, snan2 a b)
  else if isInf a then (if isInf b then (qNaN, invalid) else (infOf s, 0))
  else if isInf b then (zeroOf s, 0)
  else if isZero b then (if isZero a then (qNaN, invalid) else (infOf s, divZero))
  else
    let n := mant a <<< 64
    let q := n / mant b
    let st := if n % mant b = 0 then 0 else 1
    round s (2 * q + st) (exp2 a - exp2 b - 65)

/-- The integer square root, bit by bit from bit `k - 1`. -/
def isqrtFrom (n : Nat) : Nat → Nat → Nat
  | 0, r => r
  | k + 1, r =>
    let t := r + 2 ^ k
    isqrtFrom n k (if t * t ≤ n then t else r)

/-- The integer square root of a number below 2^512. -/
def isqrt (n : Nat) : Nat := isqrtFrom n ((Nat.log2 n) / 2 + 1) 0

/-- fsqrt (R130). -/
def sqrt (a : Word) : Res :=
  if isNaN a then (qNaN, snan2 a a)
  else if isZero a then (a, 0)
  else if sign a then (qNaN, invalid)
  else if isInf a then (a, 0)
  else
    let e := exp2 a - 64
    let (n, e) := if e % 2 = 0 then (mant a <<< 64, e) else (mant a <<< 65, e - 1)
    let r := isqrt n
    let st := if r * r = n then 0 else 1
    round false (2 * r + st) (e / 2 - 1)

/-- A × B + C with the product's sign inverted when `np`, and C's when `nc`; rounded once (R129). -/
def fmaG (np nc : Bool) (a b c : Word) : Res :=
  let ps := (sign a != sign b) != np
  let cs := sign c != nc
  let prodInvalid := (isInf a && isZero b) || (isZero a && isInf b)
  let sn := isSNaN a || isSNaN b || isSNaN c
  if !isNaN a && !isNaN b && prodInvalid then (qNaN, invalid)
  else if isNaN a || isNaN b || isNaN c then (qNaN, if sn then invalid else 0)
  else if isInf a || isInf b then
    (if isInf c && cs != ps then (qNaN, invalid) else (infOf ps, 0))
  else if isInf c then (infOf cs, 0)
  else
    let p : Int := (mant a * mant b : Nat)
    let k : Int := (mant c : Nat)
    addExact (if ps then -p else p) (exp2 a + exp2 b) (if cs then -k else k) (exp2 c) (ps && cs)

def fma (a b c : Word) : Res := fmaG false false a b c
def fms (a b c : Word) : Res := fmaG false true a b c
def fnma (a b c : Word) : Res := fmaG true false a b c

/-- A total order on the bits of numbers that are no NaN: −0 below +0 (R130). -/
def key (w : Word) : Int := if sign w then -((w.toNat % 2 ^ 31 : Nat) : Int) - 1 else (w.toNat : Int)

/-- fmin (R130): −0 below +0; one NaN gives the other operand; two give the canonical NaN. -/
def min' (a b : Word) : Res :=
  let fl := snan2 a b
  if isNaN a && isNaN b then (qNaN, fl)
  else if isNaN a then (b, fl)
  else if isNaN b then (a, fl)
  else (if key a ≤ key b then a else b, fl)

/-- fmax (R130). -/
def max' (a b : Word) : Res :=
  let fl := snan2 a b
  if isNaN a && isNaN b then (qNaN, fl)
  else if isNaN a then (b, fl)
  else if isNaN b then (a, fl)
  else (if key a ≤ key b then b else a, fl)

/-- fclamp (R129, R130): fmin(fmax(A, B), C); invalid when any operand is a signalling NaN. -/
def clamp (a b c : Word) : Res :=
  ((min' (max' a b).1 c).1, if isSNaN a || isSNaN b || isSNaN c then invalid else 0)

/-- Order of two numbers that are no NaN, −0 equal to +0: −1, 0 or 1. -/
def cmpNum (a b : Word) : Int :=
  let ka := if isZero a then 0 else if sign a then -((w32 a : Nat) : Int) else (w32 a : Int)
  let kb := if isZero b then 0 else if sign b then -((w32 b : Nat) : Int) else (w32 b : Int)
  if ka < kb then -1 else if ka = kb then 0 else 1
where
  /-- The magnitude bits. -/
  w32 (w : Word) : Nat := w.toNat % 2 ^ 31

def unordered (a b : Word) : Bool := isNaN a || isNaN b
def eq (a b : Word) : Bool := !unordered a b && cmpNum a b == 0
def lt (a b : Word) : Bool := !unordered a b && cmpNum a b == -1
def le (a b : Word) : Bool := !unordered a b && cmpNum a b != 1
def gt (a b : Word) : Bool := lt b a
def ge (a b : Word) : Bool := le b a

/-- The condition CC of `fcmp` (R128). -/
def cond (cc : Nat) (a b : Word) : Bool :=
  match cc with
  | 0 => eq a b
  | 1 => !eq a b
  | 2 => lt a b
  | 3 => le a b
  | 4 => gt a b
  | 5 => ge a b
  | 6 => unordered a b
  | _ => !unordered a b

/-- fcvt.s.w (R130). -/
def ofInt (w : Word) : Res := roundInt w.toInt 0

/-- fcvt.s.wu (R130). -/
def ofUInt (w : Word) : Res := round false w.toNat 0

/-- An integer rounded to binary32, without flags. -/
def ofNat (n : Nat) : Word := (round false n 0).1

/-- ±m·2^e rounded to an integer, ties to even; and whether anything was lost. -/
def toIntRne (w : Word) : Int × Bool :=
  let e := exp2 w
  let (n, lost) := if 0 ≤ e then (mant w <<< e.toNat, false) else shiftRne (mant w) (-e).toNat
  (if sign w then -(n : Int) else (n : Int), lost)

/-- fcvt.w.s (R131). -/
def toInt (w : Word) : Res :=
  if isNaN w then (0, invalid)
  else if isInf w then (if sign w then (0x80000000, invalid) else (0x7FFFFFFF, invalid))
  else
    let (n, lost) := toIntRne w
    if n > 0x7FFFFFFF then (0x7FFFFFFF, invalid)
    else if n < -0x80000000 then (0x80000000, invalid)
    else (BitVec.ofInt 32 n, if lost then inexact else 0)

/-! Values without flags, for the units and library programs. -/
def addV (a b : Word) : Word := (add a b).1
def subV (a b : Word) : Word := (sub a b).1
def mulV (a b : Word) : Word := (mul a b).1
def divV (a b : Word) : Word := (div a b).1
def sqrtV (a : Word) : Word := (sqrt a).1
def fmaV (a b c : Word) : Word := (fma a b c).1
def minV (a b : Word) : Word := (min' a b).1
def maxV (a b : Word) : Word := (max' a b).1
def clampV (a b c : Word) : Word := (clamp a b c).1
def ofIntV (n : Int) : Word := (roundInt n 0).1

/-- The floor of a finite number. -/
def floorInt (w : Word) : Int := (sMant w * 2 ^ (exp2 w).toNat) / (2 ^ (-(exp2 w)).toNat : Nat)

/-- A decimal constant n/d rounded to nearest. -/
def ratio (n : Int) (d : Nat) : Word :=
  let q := (n.natAbs <<< 80) / d
  let st := if (n.natAbs <<< 80) % d = 0 then 0 else 1
  (round (n < 0) (2 * q + st) (-81)).1

end Sys2Proof.Machine.Fp
end

