-- ==== Sys2Proof/Machine/LoopUnit.lean ====
section
/-! DEFINITION. LoopUnit.lean: what a loop unit computes (R172 to R178), and its committed state. -/

namespace Sys2Proof.Machine

open Fp in
/-- The candidate values of one step (R174): the core output and the next S0–S3. -/
structure LuCand where
  yc : Word
  s0 : Word
  s1 : Word
  s2 : Word
  deriving DecidableEq, Repr

/-- The part of a loop unit that no register shows, at reset. -/
def LuCore.init : LuCore := ⟨0, 0, 0, 0, 0, 0⟩

def Module.luCore (m : Module) (u : Nat) : LuCore := SMap.getD LuCore.init m.lu u

def Module.setLuCore (m : Module) (u : Nat) (c : LuCore) : Module :=
  { m with lu := SMap.setD LuCore.init m.lu u c }

/-- The committed working values of unit `u`. -/
def Module.luState (m : Module) (u : Nat) : LuState :=
  let c := m.luCore u
  let st (f : Field) := m.flag (R.LU_STAT u) f
  ⟨c.s0, c.s1, c.s2, c.s3, BitVec.ofNat 32 (m.rn (R.LU_OUT u)), st F.LU_STAT_PRIMED, st F.LU_STAT_TRK,
    st F.LU_STAT_NAN, st F.LU_STAT_SAT_LO, st F.LU_STAT_SAT_HI, c.feRun, c.satRun, 0, 0, 0, false, false⟩

/-- A coefficient (R173, R185). -/
def Module.luK (m : Module) (u k : Nat) : Word := BitVec.ofNat 32 (m.rn (R.LU_K u k))
def Module.luLo (m : Module) (u : Nat) : Word := BitVec.ofNat 32 (m.rn (R.LU_LO u))
def Module.luHi (m : Module) (u : Nat) : Word := BitVec.ofNat 32 (m.rn (R.LU_HI u))
def Module.luForm (m : Module) (u : Nat) : Nat := m.rf (R.LU_CFG u) F.LU_CFG_FORM

/-- STAT.STATE: 1 OPEN, 2 HELD, 3 CLOSED (R185). -/
def Module.luMode (m : Module) (u : Nat) : Nat := m.rf (R.LU_STAT u) F.LU_STAT_STATE

/-- The candidates of R174, each operation rounded once in the order written. -/
def luCand (form : Nat) (k : Nat → Word) (x : LuState) (e : Word) : LuCand :=
  let fm := Fp.fmaV
  match form with
  | 0 =>
    let d := Fp.mulV (k 3) x.s1
    let d := if x.primed then fm (k 2) (Fp.subV e x.s2) d else d
    let p := Fp.mulV (k 0) e
    let ic := fm (k 1) e x.s0
    ⟨Fp.addV (Fp.addV p ic) d, ic, d, e⟩
  | 1 =>
    let yc := fm (k 0) e x.s0
    ⟨yc, Fp.subV (fm (k 1) e x.s1) (Fp.mulV (k 3) yc),
      Fp.subV (Fp.mulV (k 2) e) (Fp.mulV (k 4) yc), x.s2⟩
  | 2 =>
    let yc := fm (k 0) e x.s0
    ⟨yc, Fp.subV (fm (k 1) e x.s1) (Fp.mulV (k 4) yc), Fp.subV (fm (k 2) e x.s2) (Fp.mulV (k 5) yc),
      Fp.subV (Fp.mulV (k 3) e) (Fp.mulV (k 6) yc)⟩
  | _ =>
    let uc := fm (k 0) e (Fp.mulV (k 3) (Fp.subV (Fp.mulV (k 1) x.s0) (Fp.mulV (k 2) x.s1)))
    let vc := Fp.mulV (k 3) (fm (k 2) x.s0 (Fp.mulV (k 1) x.s1))
    ⟨fm (k 4) uc (Fp.mulV (k 5) vc), uc, vc, x.s2⟩

/-- The integration stop of R174. -/
def luStop (istop negg : Bool) (satHi satLo : Bool) (e : Word) : Bool :=
  let se := if negg then Fp.neg e else e
  istop && ((satHi && Fp.gt se 0) || (satLo && Fp.lt se 0))

/-- One STEP of a CLOSED unit on error `e` with feed-forward `ff` (R174 to R176, R182): the output and the
unit's next working values. A number of 0 disables its run counter, which then stays at 0. -/
def Module.luStep (m : Module) (u : Nat) (x : LuState) (e ff : Word) : Word × LuState :=
  let c := luCand (m.luForm u) (m.luK u) x e
  let yr := Fp.addV c.yc ff
  let lo := m.luLo u
  let hi := m.luHi u
  let satHi := Fp.gt yr hi
  let satLo := Fp.lt yr lo
  let sat := satHi || satLo
  let satSteps := x.satSteps + if sat then 1 else 0
  if !Fp.isFinite e || !Fp.isFinite ff || !Fp.isFinite yr then
    (x.out, { x with nan := true, satHi := satHi, satLo := satLo, steps := x.steps + 1, satSteps := satSteps,
                     nanSteps := x.nanSteps + 1 })
  else
    let y := Fp.clampV yr lo hi
    let stop := luStop (m.flag (R.LU_CFG u) F.LU_CFG_ISTOP) (m.flag (R.LU_CFG u) F.LU_CFG_NEGG) satHi satLo e
    let lim := BitVec.ofNat 32 (m.rn (R.LU_FE_LIM u))
    let lim := if Fp.lt lim 0 then 0 else lim
    let feN := m.rf (R.LU_SUP u) F.LU_SUP_FE_N
    let satN := m.rf (R.LU_SUP u) F.LU_SUP_SAT_N
    let feRun := if feN ≠ 0 ∧ Fp.gt (Fp.abs e) lim then x.feRun + 1 else 0
    let satRun := if satN ≠ 0 ∧ sat then x.satRun + 1 else 0
    let x' := { x with out := y, nan := false, satHi := satHi, satLo := satLo, feRun := feRun, satRun := satRun,
                       feHit := x.feHit || (feN != 0 && decide (feN ≤ feRun)),
                       satHit := x.satHit || (satN != 0 && decide (satN ≤ satRun)),
                       steps := x.steps + 1, satSteps := satSteps }
    if m.luForm u = 0 then
      (y, { x' with s0 := if stop then x.s0 else c.s0, s1 := c.s1, s2 := c.s2, primed := true })
    else if stop then (y, x')
    else (y, { x' with s0 := c.s0, s1 := c.s1, s2 := c.s2 })

/-- TRACK (R178): the output forced to `a`, the state recomputed for a bumpless reclose, the runs cleared. -/
def Module.luTrack (m : Module) (u : Nat) (x : LuState) (a ff : Word) : Word × LuState :=
  let y := Fp.clampV a (m.luLo u) (m.luHi u)
  let v := Fp.subV y ff
  let k := m.luK u
  let x := { x with out := y, trk := true, feRun := 0, satRun := 0 }
  match m.luForm u with
  | 0 => (y, { x with s0 := v, s1 := 0, s2 := 0, primed := false })
  | 1 => (y, { x with s0 := v, s1 := Fp.mulV (Fp.neg (k 4)) v })
  | 2 => (y, { x with s0 := v, s1 := Fp.mulV (Fp.neg (Fp.addV (k 5) (k 6))) v,
                      s2 := Fp.mulV (Fp.neg (k 6)) v })
  | _ => (y, { x with s0 := 0, s1 := 0 })

/-- The status word of unit `u` with working values `x` (R185). -/
def Module.luStatus (m : Module) (u : Nat) (x : LuState) : Word :=
  let b (i : Nat) (v : Bool) : Nat := if v then 1 <<< i else 0
  let r := m.rn (R.LU_STAT u)
  BitVec.ofNat 32 ((r &&& 0x23 ||| r &&& 0x10) + b 11 x.trk + b 10 x.nan + b 9 x.satLo + b 8 x.satHi + b 7 x.primed)

/-- Move a unit to STATE `st` (R177, R182): leaving CLOSED resets the supervision runs, entering OPEN clears
TRK (R180). -/
def Module.luSetMode (m : Module) (u st : Nat) : Module :=
  let m := m.wf (R.LU_STAT u) F.LU_STAT_STATE st
  let m := if st = 3 then m else m.setLuCore u { m.luCore u with feRun := 0, satRun := 0 }
  if st = 1 then m.setFlag (R.LU_STAT u) F.LU_STAT_TRK false else m

/-- The working values a block staged become the unit's committed state (R148, R152). -/
def Module.luStore (m : Module) (u : Nat) (x : LuState) : Module :=
  let m := m.setLuCore u ⟨x.s0, x.s1, x.s2, x.s3, x.feRun, x.satRun⟩
  let m := m.wn (R.LU_OUT u) x.out.toNat
  let m := m.wn (R.LU_STAT u) (m.luStatus u x).toNat
  let m := m.accum32 (R.LU_STEPS u) x.steps
  let m := m.bumpN (R.LU_SATCNT u) (R.LU_SAT u) 0 x.satSteps
  m.bumpN (R.LU_NANCNT u) (R.LU_SAT u) 2 x.nanSteps

/-- A request pends in REQ (R179, R185): the value written last is one of a state. -/
def Module.luPending (m : Module) (u : Nat) : Bool := fget (layPends (R.LU_CTRL u) 0 m.pendF) F.LU_CTRL_REQ != 0

/-- Supervision at the commit point of a block in which a run of the unit reached its number (R182, R183): `o` is the block's
owner. -/
def Module.luSupervise (m : Module) (u : Nat) (o : Owner) (feHit satHit : Bool) : Module :=
  if m.luMode u ≠ 3 then m else
  let m :=
    if satHit then
      let m := m.setFlag (R.LU_FLAG u) F.LU_FLAG_SAT true
      let m := m.raise FS.LU_SAT u o
      m.setLuCore u { m.luCore u with satRun := 0 }
    else m
  if feHit then
    let m := m.setFlag (R.LU_FLAG u) F.LU_FLAG_FERR true
    let m := m.bump (R.LU_FECNT u) (R.LU_SAT u) 1
    let m := m.raise FS.LU_FOLLOW u o
    let m := m.setLuCore u { m.luCore u with feRun := 0 }
    let act := m.rf (R.LU_CFG u) F.LU_CFG_FEACT
    if act = 1 ∨ act = 2 then
      let m := m.luSetMode u (if act = 1 then 2 else 1)
      if m.luPending u then
        let m := m.setFlag (R.LU_STAT u) F.LU_STAT_PEND false
        let m := { m with pendF := m.pendF.filter (fun p => p.addr ≠ R.LU_CTRL u) }
        let m := m.wf (R.LU_CTRL u) F.LU_CTRL_REQ 0
        m.setFlag (R.LU_FLAG u) F.LU_FLAG_CANCEL true
      else m
    else m
  else m

end Sys2Proof.Machine
end

