-- ==== Sys2Proof/Machine/Violations.lean ====
section
/-! DEFINITION. Violations.lean: the violation registers and the violation log (R59, R60, R116, R499). -/

namespace Sys2Proof.Machine

/-- Hand a record to the log writer (R494, R499); a newer record for the same place replaces a waiting one. -/
def Module.logRecord (m : Module) (addr : Nat) (bs : List Byte) : Module :=
  { m with logq := m.logq.filter (fun r => r.1 ≠ addr) ++ [(addr, bs)] }

/-- A record with its CRC-32C behind it. -/
def sealed (bs : List Byte) : List Byte := bs ++ leBytes 4 (crc32c bs)

/-- The log entry of R499. -/
def ViolEntry.bytes (v : ViolEntry) : List Byte :=
  sealed (leBytes 8 v.sec ++ leBytes 4 v.ns ++ leBytes 4 v.addr.toNat ++ leBytes 4 v.info.toNat
    ++ leBytes 2 v.rep ++ leBytes 2 v.owner ++ leBytes 4 v.seq)

/-- Where an entry stands in the ring of 64 (R499): sequence number 1 in the first place. -/
def ViolEntry.place (v : ViolEntry) : Nat := 0x06638000 + 32 * ((v.seq + 63) % 64)

/-- The same address, initiator and reason, within 1 ms of the first occurrence (R60). -/
def ViolEntry.repeats (v : ViolEntry) (addr info : Word) (now : Nat) : Bool :=
  v.addr == addr && v.info.toNat &&& 0xFFF == info.toNat &&& 0xFFF && decide (now < v.first + 500000)

/-- Write the three violation registers, set HOST_IRQ_STAT.VIOL and enter the violation in the log, a repeat
as a count on the newest entry (R59, R60, R116). `owner` is the half-word of R499. -/
def Module.logViolation (m : Module) (addr info : Word) (owner : Nat) : Module :=
  let m := m.wn R.HOST_VIOL_ADDR addr.toNat
  let m := m.wn R.HOST_VIOL_INFO info.toNat
  let m := m.wn R.HOST_VIOL_TIME ((m.todSec % 2 ^ 32) <<< 32 + m.todNs)
  let m := m.irq Irq.VIOL
  let fresh (q : Nat) : ViolEntry := ⟨addr, info, m.now, m.todSec, m.todNs, 0, owner, q⟩
  let v := match m.host.viol with
    | some v => if v.repeats addr info m.now then { v with rep := min 0xFFFF (v.rep + 1) } else fresh (v.seq + 1)
    | none => fresh 1
  let m := { m with host := { m.host with viol := some v } }
  m.logRecord v.place v.bytes

/-- The code of an initiator (R68). -/
def Initiator.code : Initiator → Nat
  | .pcie => 0
  | .spi => 1
  | .uart => 2
  | .program => 3

/-- HOST_VIOL_INFO (R68). -/
def violInfo (window : Nat) (write : Bool) (width : Nat) (ini : Initiator) (reason : Nat) : Word :=
  BitVec.ofNat 32 (window <<< 17 + (if write then 1 <<< 16 else 0) + width <<< 12 + ini.code <<< 8 + reason)

/-- HOST_VIOL_ADDR (R68). OFFSET is the offset in BAR0 or BAR2 as the initiator gave it, a window's base included, in its 28 bits
(an SPI address is cut to them); R68 says only that it is the offset of the last violation (DESIGN CHOICE, log 83). -/
def violAddr (space offset : Nat) : Word := BitVec.ofNat 32 (space <<< 30 + offset % 2 ^ 28)

/-- A host violation (R59): logged, counted, and reported as HOST_VIOL at the collector. The spec
states no information word for HOST_VIOL, so it is a free value (log 9). -/
def Module.hostViolation (m : Module) (addr info : Word) : Module :=
  let m := m.logViolation addr info 0
  let m := m.bump R.HOST_VIOL_CNT R.HOST_SAT 0
  m.raiseFree FS.HOST_VIOL .none

end Sys2Proof.Machine
end

