-- ==== Sys2Proof/Machine/Engine.lean ====
section
/-! DEFINITION. Engine.lean: an engine's registers, journal and staging buffer, the issue of an instruction,
and what stops a block: a detection (R108 to R110), a program violation (R116), a shape fault (R141). -/

namespace Sys2Proof.Machine

/-! ### Registers (R122) -/

def RegFile.zero : RegFile := ⟨[], [], [], 0⟩

/-- g0 reads 0. -/
def RegFile.rg (r : RegFile) (n : Nat) : Word := if n = 0 then 0 else SMap.getD 0 r.g n
/-- A write to g0 has no effect. -/
def RegFile.setG (r : RegFile) (n : Nat) (v : Word) : RegFile :=
  if n = 0 then r else { r with g := SMap.setD 0 r.g n v }
def RegFile.rF (r : RegFile) (n : Nat) : Word := SMap.getD 0 r.f n
def RegFile.setF (r : RegFile) (n : Nat) (v : Word) : RegFile := { r with f := SMap.setD 0 r.f n v }
/-- c7 reads 1. -/
def RegFile.rc (r : RegFile) (n : Nat) : Bool := n == 7 || SMap.getD false r.c n
/-- A write to c7 has no effect. -/
def RegFile.setC (r : RegFile) (n : Nat) (v : Bool) : RegFile :=
  if n = 7 then r else { r with c := SMap.setD false r.c n v }
/-- OR bits into the FPX sticky flags (R129). -/
def RegFile.orX (r : RegFile) (fl : Nat) : RegFile := { r with fpx := r.fpx ||| fl }

/-! ### Engines, tasks and the active copy -/

def Staged.empty : Staged := ⟨[], [], [], [], [], [], [], [], [], [], [], none⟩

/-- The physical engine that serves logical engine `e` (R69, R505). -/
def Module.phys (m : Module) (e : Nat) : Nat := SMap.get id m.engMap e

/-- The block open on logical engine `e`. -/
def Module.blk (m : Module) (e : Nat) : Option Blk := SMap.getD none m.eng.blks e

def Module.setBlk (m : Module) (e : Nat) (b : Option Blk) : Module :=
  { m with eng := { m.eng with blks := SMap.setD none m.eng.blks e b } }

/-- The task `t` as loaded for logical engine `e` from the active copy (R99). -/
def Module.taskInfo (m : Module) (e t : Nat) : Option TaskInfo := SMap.getD none m.eng.tasks (e * 512 + t)

/-- The active copy: 0 A, 1 B, none before the first activation (R74, R97). -/
def Module.activeCopy (m : Module) : Option Nat :=
  if m.flag R.TTB_STAT F.TTB_STAT_NONE then none else some (m.rf R.TTB_STAT F.TTB_STAT_ACTIVE)

/-- Where a copy lies (R74). -/
def ttBase (copy : Nat) : Nat := 0x01830000 + 0x4000 * copy

/-- Word `w` of entry `i` of a copy (R76). -/
def Module.ttEntry (m : Module) (copy i w : Nat) : Nat := m.mn (ttBase copy + 0x100 + 16 * i + 4 * w) 4

/-- The SVC_n word of a copy (R75). -/
def Module.ttSvc (m : Module) (copy n : Nat) : Nat := m.mn (ttBase copy + 0x10 + 4 * n) 4

/-- The minor period of service `n` of the active copy, in ticks (R75). -/
def Module.svcPeriod (m : Module) (n : Nat) : Nat :=
  match m.activeCopy with
  | some c => bitsN (m.ttSvc c n) 18 0
  | none => 0

/-- The start tick of the present minor period of a service (R69), counted from the frame's first tick. -/
def Module.periodStart (m : Module) (svc : Nat) : Nat :=
  let p := m.svcPeriod svc
  if p = 0 then m.sys.frameTick else m.sys.frameTick + (m.now - m.sys.frameTick) / p * p

/-- A byte of an engine's IM, by its offset within the 128 KiB (R57, R98). -/
def Module.imAddr (m : Module) (e off : Nat) : Nat := 0x01000000 + 0x80000 * m.phys e + off

/-- Where the IM half in use of an engine begins (R98, R99). -/
def Module.imHalf (m : Module) (e : Nat) : Nat := 0x10000 * m.rf (R.ENG_STAT (m.phys e)) F.ENG_STAT_IMH

/-- A byte of an engine's DM (R57, R98). -/
def Module.dmAddr (m : Module) (e off : Nat) : Nat := 0x01020000 + 0x80000 * m.phys e + off

/-- The owner of a block's reports (R486). -/
def Blk.owner (b : Blk) : Owner := .task b.task

/-! ### Snapshot and restore (R104, R105, R121) -/

/-- The registers at block start (R121). -/
def startRegs (frameWord periodIdx dmBase : Nat) : RegFile :=
  ((RegFile.zero.setG 1 (BitVec.ofNat 32 frameWord)).setG 2 (BitVec.ofNat 32 periodIdx)).setG 3
    (BitVec.ofNat 32 dmBase)

/-- Write a journal back, newest entry first (R105). -/
def Module.unjournal (m : Module) (e : Nat) : List (Nat × Word) → Module
  | [] => m
  | (a, w) :: r => (m.setMw (m.dmAddr e a) w).unjournal e r

/-- Restore the snapshot: registers from the shadow, DM from the journal, everything staged withdrawn. -/
def Module.restore (m : Module) (e : Nat) (b : Blk) : Module × Blk :=
  (m.unjournal e b.journal,
    { b with regs := b.shadow, journal := [], st := Staged.empty, calls := [], reps := [], wait := none, pc := 0 })

/-- ENG_nn_STAT.STATE of the engine that serves `e` (R118). -/
def Module.engState (m : Module) (e st : Nat) : Module := m.wf (R.ENG_STAT (m.phys e)) F.ENG_STAT_STATE st

/-- Stop a block: the snapshot restored, nothing to commit (R88, R107, R116). -/
def Module.stopBlk (m : Module) (e : Nat) (b : Blk) : Module :=
  let (m, b) := m.restore e b
  (m.setBlk e (some { b with state := .stopped })).engState e 0

/-- Entry into HALT stops every block under way without a commit (R35, R107). -/
def Module.stopBlocks (m : Module) : Module :=
  (List.range 8).foldl (fun m e => match m.blk e with
    | some b => if b.state = .stopped then m else m.stopBlk e b
    | none => m) m

/-! ### Rows and repeats (R109 to R111) -/

/-- The low 32 bits of TTB_FRAMES. -/
def Module.frameNo (m : Module) : Nat := m.rn R.TTB_FRAMES

/-- A spare row is left in the row's memory (R111). -/
def Module.spareLeft (m : Module) : Row → Bool
  | .yard row => decide (m.rf (R.YARD_SPARE (row / 1024)) F.YARD_SPARE_USED < 128)
  | .dm p _ => decide (m.rf (R.ENG_SPARE p) F.ENG_SPARE_DM < 16)
  | .im p _ => decide (m.rf (R.ENG_SPARE p) F.ENG_SPARE_IM < 8)

/-- Mark a row for retirement at the next frame boundary (R111). -/
def Module.retireRow (m : Module) (r : Row) : Module :=
  if r ∈ m.eng.retireNext ∨ r ∈ m.eng.retiring ∨ !m.spareLeft r then m
  else { m with eng := { m.eng with retireNext := m.eng.retireNext ++ [r] } }

/-- A detection in a row: two within ROW_WIN frames retire it (R111). -/
def Module.rowHit (m : Module) (r : Row) : Module :=
  let win := max 1 (m.rf R.YARD_CFG F.YARD_CFG_ROW_WIN)
  let recent := m.eng.hits.filter (fun h => m.frameNo < h.2 + win)
  let m' := { m with eng := { m.eng with hits := recent ++ [(r, m.frameNo)] } }
  if recent.any (fun h => h.1 == r) then m'.retireRow r else m'

/-- The row that a detection lies in, if it lies in a memory (R108, R111). -/
def Module.detRow (m : Module) (e : Nat) (d : Detection) : Option Row :=
  match d.src.val with
  | 0 => some (.im (m.phys e) (d.addr.toNat / 1024))
  | 1 => some (.dm (m.phys e) (d.addr.toNat / 1024))
  | 2 => some (.yard (d.addr.toNat / 1024))
  | _ => none

/-- The word of BAR2 that a detection lies in, if it lies in DM, the yard or a table (R108). -/
def Module.detWord (m : Module) (e : Nat) (d : Detection) : Option Nat :=
  let a := d.addr.toNat / 4 * 4
  match d.src.val with
  | 1 => some (m.dmAddr e a)
  | 2 => some a
  | 8 => some (0x01800000 + a)
  | _ => none

/-- A word whose stored parity fails goes on failing until it is rewritten (R111). -/
def Module.failWord (m : Module) (a : Nat) : Module :=
  if m.eng.failing.contains a then m else { m with eng := { m.eng with failing := m.eng.failing ++ [a] } }

/-- A yard or table detection by any reader (R112, R119). YARD_LAST.OFFSET is the offset in the yard; of a table word, which
lies in no yard, it is the offset from BAR2 0x0180_0000, as in ENG_nn_DET_ADDR (DESIGN CHOICE, log 83). -/
def Module.yardDetect (m : Module) (reader off : Nat) : Module :=
  let m := m.bump R.YARD_DETECT R.YARD_SAT 0
  m.wn R.YARD_LAST (reader <<< 28 + off % 2 ^ 24)

/-- ENG_DETECT_REPEAT and what follows it (R110, R111): a DM area to reinitialise, an IM line to rewrite, a
row to retire, and ENG_DETECT_PERSIST at 3 of any 8 consecutive frames. -/
def Module.detectRepeat (m : Module) (e : Nat) (b : Blk) (d : Detection) : Module :=
  let p := m.phys e
  let m := m.bump (R.ENG_REPEAT p) (R.ENG_SAT p) 2
  let m := m.raiseFree FS.ENG_DETECT_REPEAT b.owner
  let m := match d.src.val with
    | 0 => { m with eng := { m.eng with badLines := m.eng.badLines ++ [(e, d.addr.toNat / 64)] } }
    | 1 => { m with eng := { m.eng with reinit := m.eng.reinit ++ [(e, b.task)] } }
    | _ => m
  let m := match m.detRow e d with
    | some r => m.retireRow r
    | none => m
  let fs : List Nat :=
    ((SMap.getD [] m.eng.repeats p).filter (fun f => m.frameNo < f + 8 ∧ f ≠ m.frameNo)) ++ [m.frameNo]
  let m := { m with eng := { m.eng with repeats := SMap.setD [] m.eng.repeats p fs } }
  if 3 ≤ fs.length then m.raiseFree FS.ENG_DETECT_PERSIST (.engine e) else m

/-- ENG_nn_DET_ADDR.SPACE of a detector (R118). -/
def detSpace (src : Nat) : Nat :=
  match src with
  | 1 => 1
  | 2 => 2
  | 8 => 3
  | _ => 0

/-- A detector stops the block (R108, R109). -/
def Module.detect (m : Module) (e : Nat) (b : Blk) (d : Detection) : Module :=
  let p := m.phys e
  let m := m.bump (R.ENG_DETECT p) (R.ENG_SAT p) 0
  let m := m.raiseFree FS.ENG_DETECT b.owner
  let m := match m.detWord e d with
    | some a => if d.stays then m.failWord a else m
    | none => m
  let m := if d.src.val = 2 ∨ d.src.val = 8 then m.yardDetect p d.addr.toNat else m
  let m := match m.detRow e d with
    | some r => m.rowHit r
    | none => m
  let ps := m.periodStart b.svc
  let first := SMap.getD 0 m.eng.detAt (e * 4 + b.svc) ≠ ps + 1
  let m := { m with eng := { m.eng with detAt := SMap.setD 0 m.eng.detAt (e * 4 + b.svc) (ps + 1) } }
  let rerun := first && !b.rerun && b.firm && b.prot
  let out := if rerun then 0 else if first && !b.rerun then 1 else 2
  let m := m.wn (R.ENG_LAST_DET p) (d.src.val <<< 20 + out <<< 18 + b.task <<< 9 + b.entry)
  let m := m.wn (R.ENG_DET_ADDR p) (detSpace d.src.val <<< 30 + d.addr.toNat)
  let m := m.wn (R.ENG_DET_TIME p) ((m.todSec % 2 ^ 32) <<< 32 + m.todNs)
  if rerun then
    let m := m.bump (R.ENG_RECOMP p) (R.ENG_SAT p) 1
    let (m, b) := m.restore e b
    (m.setBlk e (some { b with rerun := true })).engState e 3
  else
    let m := m.stopBlk e b
    if out = 2 then m.detectRepeat e b d else m

/-- A block of the engine under substitution ends at danger or by a violation: its shadow frame is inconclusive (R507). -/
def Module.subDanger (m : Module) (p : Nat) : Module :=
  if m.rf R.SID_STAT F.SID_STAT_STATE = 2 ∧ m.rf R.SID_STAT F.SID_STAT_UNIT = p then
    { m with sid := { m.sid with danger := true } }
  else m

/-- A program violation (R116): the task stops, its snapshot is restored, and the violation is logged. `space`
and `off` are those of HOST_VIOL_ADDR. -/
def Module.violate (m : Module) (e : Nat) (b : Blk) (reason space off : Nat) (write : Bool) : Module :=
  let p := m.phys e
  let m := (m.stopBlk e b).subDanger p
  let m := m.bump (R.ENG_VIOL p) (R.ENG_SAT p) 3
  let m := m.raiseFree FS.ENG_VIOL b.owner
  m.logViolation (violAddr space off) (violInfo (if space = 1 then 5 else 0) write 4 .program reason)
    (e <<< 12 + b.task)

/-! ### Issue -/

/-- What keeps an instruction from completing: a violation with its reason and the address it names
(HOST_VIOL_ADDR.SPACE and OFFSET), a shape fault (R141), a word that fails its parity (R108), or a wait for a drain
(R106, R107), after which the instruction issues again. -/
inductive Stop where
  | violation (reason space off : Nat) (write : Bool)
  | shape
  | bad (d : Detection)
  | wait
  deriving DecidableEq, Repr

/-- Close the `rep` bodies that end at word `pc` (R138): iterate the innermost, or drop it and look at the
next. A body that ends inside an instruction is a shape fault. -/
def closeBody (depth : Nat) : List Rep → Nat → Option (Nat × List Rep)
  | [], pc => some (pc, [])
  | r :: rs, pc =>
    if r.depth ≠ depth then some (pc, r :: rs)
    else if pc < r.stop then some (pc, r :: rs)
    else if pc = r.stop then
      if 1 < r.left then some (r.start, { r with left := r.left - 1 } :: rs) else closeBody depth rs pc
    else none

/-- Continue at word `pc`, closing the bodies that end there. -/
def Blk.goto (b : Blk) (pc : Nat) : Except Stop Blk :=
  match closeBody b.calls.length b.reps pc with
  | some (pc, reps) => .ok { b with pc := pc, reps := reps }
  | none => .error .shape

/-- The words of the block's task (R143); a fetch at or beyond them is violation 0x45. -/
def Module.codeWords (m : Module) (e : Nat) (b : Blk) : Nat :=
  match m.taskInfo e b.task with
  | some t => t.codeWords
  | none => 0

/-- The certificate of the block's task. -/
def Module.cert (m : Module) (e : Nat) (b : Blk) : Option TaskInfo := m.taskInfo e b.task

/-- The byte offset within the 128 KiB of IM of word `pc` of the block's task (R98, R116, R118). -/
def Module.imOff (m : Module) (e : Nat) (b : Blk) (pc : Nat) : Nat :=
  m.imHalf e + ((m.taskInfo e b.task).map (·.codeBase)).getD 0 + 4 * pc

/-- The detection that meets the instruction: a line whose rewrite is not complete fails at its fetch (R110); else the one
that the command names. -/
def Module.fetchDet (m : Module) (x : Issue) (b : Blk) : Option Detection :=
  let a := m.imOff x.le b b.pc
  if m.eng.badLines.contains (x.le.val, a / 64) then some ⟨0, BitVec.ofNat 24 (a / 64 * 64), false⟩ else x.det

/-- Issue one instruction (R73, R108, R116, R120, R141): with no block open, or a wait under way, the engine
executes nothing; a detection, a fetch outside the code, a violation and a shape fault stop the block before
any effect of the instruction. -/
def Module.issueRaw (m : Module) (x : Issue) (sem : Module → Blk → Except Stop (Module × Blk)) : Module :=
  match m.blk x.le with
  | none => m
  | some b =>
    if b.state ≠ .running ∨ b.wait.isSome then m else
    match m.fetchDet x b with
    | some d => m.detect x.le b d
    | none =>
      if m.codeWords x.le b ≤ b.pc then m.violate x.le b 0x45 3 (m.imOff x.le b b.pc) false
      else match sem m b with
        | .ok (m', b') => m'.setBlk x.le (some b')
        | .error (.violation r sp off w) => m.violate x.le b r sp off w
        | .error .shape => m.detect x.le b ⟨0, BitVec.ofNat 24 (m.imOff x.le b b.pc), false⟩
        | .error (.bad d) => m.detect x.le b d
        | .error .wait => m

/-- Issue an instruction of `len` words that goes on to the next. -/
def Module.issue (m : Module) (x : Issue) (len : Nat)
    (sem : Module → Blk → Except Stop (Module × Blk)) : Module :=
  m.issueRaw x (fun m b => do
    let (m', b') ← sem m b
    let b'' ← b'.goto (b.pc + len)
    pure (m', b''))

/-- Issue an instruction that acts on the engine's registers alone. -/
def Module.issueRegs (m : Module) (x : Issue) (len : Nat) (f : RegFile → RegFile) : Module :=
  m.issue x len (fun m b => .ok (m, { b with regs := f b.regs }))

end Sys2Proof.Machine
end

