-- ==== Sys2Proof/Machine/Image.lean ====
section
/-! DEFINITION. Image.lean: signed images in a NOR bank: directory, verification and certificate (R123 to R125, R143 to
R146, R508). -/

namespace Sys2Proof.Machine

/-! ### Code -/

/-- The code from word `pc` on, of `n` words (R146 step 5): every encoding defined, every target inside the code, no
long form across a line. -/
def codeOk (word : Nat → Nat) (n : Nat) : Nat → Nat → Bool
  | 0, pc => decide (n ≤ pc)
  | fuel + 1, pc =>
    if n ≤ pc then true
    else
      let w := word pc
      let op := w >>> 26
      wordDefined w && (
        if op = 0x28 then decide (pc + bitsN w 21 0 < n) && codeOk word n fuel (pc + 1)
        else if op = 0x2B then decide (bitsN w 13 0 < n) && codeOk word n fuel (pc + 1)
        else if op = 0x2D then
          let k := bitsN w 20 15 + 1
          decide (pc + k < n)
            && (List.range k).all (fun i => decide (word (pc + 1 + i) < 0x10000 ∧ pc + 1 + k + word (pc + 1 + i) < n))
            && codeOk word n fuel (pc + 1 + k)
        else if op = 0x3E then decide (pc % 16 ≠ 15 ∧ pc + 1 < n) && codeOk word n fuel (pc + 2)
        else codeOk word n fuel (pc + 1))

/-! ### Banks and keys -/

/-- The window of a NOR bank (R57). -/
def norBase (bank : Nat) : Nat := 0x02000000 + 0x02000000 * bank

/-- The active bank (R508, R519). -/
def Module.activeBank (m : Module) : Nat := m.rf R.NVM_STAT F.NVM_STAT_ACTIVE

/-- The directory's CRC-32C (R508): the header's last word, over the directory with that word left out. -/
def Module.dirCrcOk (m : Module) (bank : Nat) : Bool :=
  let b := norBase bank
  m.mn b 4 == 0x52494451 &&
    m.mn (b + 12) 4 == crc32c (m.mbytes b 12 ++ m.mbytes (b + 16) 4096)

/-- The directory entry of a task: offset and length, none where it is 0 (R508). -/
def Module.dirEntry (m : Module) (bank task : Nat) : Option (Nat × Nat) :=
  let a := norBase bank + 16 + 8 * task
  if m.mn a 4 = 0 ∧ m.mn (a + 4) 4 = 0 then none else some (norBase bank + m.mn a 4, m.mn (a + 4) 4)

/-- The key of a slot, if it is enrolled and not revoked (R145). -/
def Module.slotKey (m : Module) (slot : Nat) : Option (List Byte) :=
  if (m.rf R.NVM_STAT F.NVM_STAT_KEYS).testBit slot && !(m.rf R.NVM_STAT F.NVM_STAT_REVOKED).testBit slot then
    some (if slot = 0 then Config.factoryKey else SMap.getD [] m.nvm.keys slot)
  else none

/-! ### Verification (R146 steps 1 to 5) -/

/-- Step 1: MAGIC, FORMAT, reserved bytes, offsets and lengths inside the image, sections apart, as R143 lays them out; the image
and its signature within the `len` bytes that the directory gives it (R508). -/
def Module.imageShape (m : Module) (a len : Nat) : Bool :=
  let w (o : Nat) := m.mn (a + o) 4
  let total := w 0x24
  let codeEnd := w 0x0C + (w 0x10 + 63) / 64 * 64
  let dataEnd := w 0x14 + w 0x18
  let certEnd := w 0x1C + w 0x20
  let apart (s e s' e' : Nat) : Bool := decide (e ≤ s' ∨ e' ≤ s)
  w 0 == 0x315A4E52 && m.mn (a + 4) 2 == 1 && m.mn (a + 6) 1 ≤ 3
    && m.mn (a + 7) 1 == 0 && m.mn (a + 0x0A) 2 == 0 && m.mn (a + 0x2C) 20 == 0 && total + 64 ≤ len
    && w 0x0C % 64 == 0 && w 0x14 % 64 == 0 && w 0x1C % 64 == 0
    && w 0x10 % 4 == 0 && w 0x10 ≤ 0x10000
    && 64 ≤ w 0x0C && 64 ≤ w 0x14 && 64 ≤ w 0x1C
    && codeEnd ≤ total && dataEnd ≤ total && certEnd ≤ total
    && apart (w 0x0C) codeEnd (w 0x14) dataEnd && apart (w 0x0C) codeEnd (w 0x1C) certEnd
    && apart (w 0x14) dataEnd (w 0x1C) certEnd

/-- Step 5: the task's code decodes, and the padding behind it is 0. -/
def Module.imageCode (m : Module) (a : Nat) : Bool :=
  let off := a + m.mn (a + 0x0C) 4
  let n := m.mn (a + 0x10) 4 / 4
  codeOk (fun i => m.mn (off + 4 * i) 4) n (n + 1) 0
    && (List.range ((n + 15) / 16 * 16 - n)).all (fun i => m.mn (off + 4 * (n + i)) 4 == 0)

/-- The image of `len` bytes at `a` verifies (R146 steps 1 to 5): SHA-256 over TOTAL_LEN bytes, Ed25519 over the digest. -/
def Module.imageVerified (m : Module) (a len : Nat) : Bool :=
  m.imageShape a len &&
    match m.slotKey (m.mn (a + 6) 1) with
    | none => false
    | some key =>
      let total := m.mn (a + 0x24) 4
      Config.ed25519 key (Config.sha256 (m.mbytes a total)) (m.mbytes (a + total) 64) && m.imageCode a

/-! ### The certificate (R144) -/

/-- A table item of the certificate at `a`. -/
def Module.certItem (m : Module) (a : Nat) : TblItem :=
  let r := m.mn (a + 7) 1
  ⟨m.mn a 4, m.mn (a + 4) 2, m.mn (a + 6) 1, m.mn (a + 8) 4, if r.testBit 7 then some (r % 64) else none⟩

/-- The task an image at `a` describes, its code to stand at `codeBase` of IM. -/
def Module.imageTask (m : Module) (a codeBase : Nat) : TaskInfo :=
  let c := a + m.mn (a + 0x1C) 4
  let nOut := m.mn (c + 0x22) 2
  let nFunc := m.mn (c + 0x24) 2
  let nTbl := m.mn (c + 0x26) 2
  let f := c + 0x28 + 4 * nOut
  let t := f + 2 * nFunc
  { task := m.mn (a + 8) 2
    img := a
    codeBase := codeBase
    codeWords := m.mn (a + 0x10) 4 / 4
    dataOff := a + m.mn (a + 0x14) 4
    dmBase := m.mn (c + 0x0C) 4
    dmSize := m.mn (c + 0x10) 4
    hcBase := m.mn c 4
    jMax := m.mn (c + 4) 2
    stageMax := m.mn (c + 6) 2
    beats := m.mn (c + 8) 4
    luMap := m.mn (c + 0x14) 12
    xsMap := m.mn (c + 0x20) 1
    noOut := (m.mn (c + 0x21) 1).testBit 0
    outs := (List.range nOut).map (fun i =>
      let w := m.mn (c + 0x28 + 4 * i) 4
      (bitsN w 31 24, bitsN w 23 16))
    funcs := (List.range nFunc).map (fun i => m.mn (f + 2 * i) 2)
    tbl := (List.range nTbl).map (fun i => m.certItem (t + 16 * i))
    waitHc := m.mn (t + 16 * nTbl) 4 }

/-- The bytes of code a task takes in IM: its code section (R143). -/
def TaskInfo.codeBytes (t : TaskInfo) : Nat := (4 * t.codeWords + 63) / 64 * 64

/-- The signature of an image, which tells two images apart (R100). -/
def Module.imageSig (m : Module) (a : Nat) : List Byte := m.mbytes (a + m.mn (a + 0x24) 4) 64

end Sys2Proof.Machine
end

