-- ==== Sys2Proof/Machine/Budget.lean ====
section
/-! DEFINITION. Budget.lean: the yard budgets of the bus masters (R90 to R93). -/

namespace Sys2Proof.Machine

/-- The bus masters by their BUD index (R75). -/
abbrev Bus.host : Nat := 0
abbrev Bus.pb : Nat := 1
abbrev Bus.ring : Nat := 2
abbrev Bus.metering : Nat := 3
abbrev Bus.log : Nat := 4
abbrev Bus.reserve : Nat := 5

/-- Beats of 16 bytes that an access touches (R80). -/
def beatsOf (off bytes : Nat) : Nat := (off + bytes + 15) / 16 - off / 16

/-- Beats master `b` has used in its present period. -/
def Module.used (m : Module) (b : Nat) : Nat := SMap.getD 0 m.eng.budgetUsed b

/-- The masters in the order in which they share what no copy grants (R93). -/
def busOrder : List Nat := [Bus.host, Bus.log, Bus.metering, Bus.pb, Bus.ring, Bus.reserve]

/-- Beats that accesses of master `b` still wait for (R91). -/
def Module.waitingBeats (m : Module) (b : Nat) : Nat :=
  ((m.eng.busWait.filter (fun w => w.1 == b)).map (fun w => w.2.1)).sum

/-- What other masters hold of the 6,400 beats of 10 µs (R93): the host its 512, every other what it has used, and those before
`b` in the order what they wait for. -/
def Module.heldBeats (m : Module) (b : Nat) : Nat :=
  512 + ((busOrder.drop 1).map (fun k => if k = b then 0 else m.used k)).sum
    + (((busOrder.drop 1).takeWhile (· ≠ b)).map m.waitingBeats).sum

/-- A master's budget of its present period (R75, R93): its BUD word; with no copy active 512 beats for the host, and
for the others what is left of 6,400 in 10 µs. -/
def Module.budget (m : Module) (b : Nat) : Nat :=
  match m.activeCopy with
  | some c => m.mn (ttBase c + 0x20 + 4 * b) 4 % 2 ^ 24
  | none => if b = Bus.host then 512 else 6400 - m.heldBeats b

/-- Charge `n` beats to master `b`. -/
def Module.charge (m : Module) (b n : Nat) : Module :=
  { m with eng := { m.eng with budgetUsed := SMap.setD 0 m.eng.budgetUsed b (m.used b + n) } }

/-- Master `b` is delayed in its present period (R91). -/
def Module.delay (m : Module) (b : Nat) : Module :=
  if m.eng.delayed.contains b then m else { m with eng := { m.eng with delayed := m.eng.delayed ++ [b] } }

/-- Charge `n` beats to master `b`, if its budget allows; else the master is delayed (R91). -/
def Module.grant (m : Module) (b n : Nat) : Bool × Module :=
  if m.used b + n ≤ m.budget b then (true, m.charge b n) else (false, m.delay b)

/-- Master `b` asks for an access of `n` beats (R91): `run` is what the access does where its budget has them; else it takes what
is left of this period, and waits behind its earlier accesses as `op` for the rest. -/
def Module.busAsk (m : Module) (b n : Nat) (op : BusOp) (run : Module → Module) : Module :=
  let free := if m.eng.busWait.any (fun w => w.1 == b) then 0 else m.budget b - m.used b
  if n ≤ free then run (m.charge b n)
  else
    let m := (m.charge b free).delay b
    { m with eng := { m.eng with busWait := m.eng.busWait ++ [(b, n - free, op)] } }

/-- A bus master reads bytes of the yard or of a table (R112): a word among them that fails parity is a detection by `reader`;
the master goes on with what the word holds (DESIGN CHOICE, log 83). -/
def Module.masterRead (m : Module) (reader a n : Nat) : Module :=
  match m.eng.failing.find? (fun w => decide (a < w + 4 ∧ w < a + n)) with
  | none => m
  | some w =>
    let m := (m.yardDetect reader (w % 0x01800000)).raiseFree FS.YARD_DETECT .none
    if w < 0x01000000 then m.rowHit (.yard (w / 1024)) else m

/-- The yard byte is in a region that grants bus master `b` (R75, R114: bit m − 1 of MASTERS). -/
def Module.masterGranted (m : Module) (b a : Nat) : Bool :=
  match m.activeCopy with
  | none => false
  | some c => (List.range 64).any (fun i =>
      let w := m.mn (0x01838000 + 0x400 * c + 16 * i) 4
      let base := bitsN w 11 0 * 4096
      w.testBit 31 && decide (base ≤ a ∧ a < base + bitsN w 28 16 * 4096)
        && (m.mn (0x01838000 + 0x400 * c + 16 * i + 4) 4).testBit (8 + (b - 1)))

/-- Write words to the yard for a bus master: a word outside its regions is not written. -/
def Module.masterWrite (m : Module) (b a : Nat) : List Word → Module
  | [] => m
  | w :: ws =>
    (if a < 0x01000000 ∧ m.masterGranted b a then m.setMw a w else m).masterWrite b (a + 4) ws

end Sys2Proof.Machine
end

