-- ==== Sys2Proof/Machine/Marks.lean ====
section
/-! DEFINITION. Marks.lean: the mark of a unit for substitution (R503), and the logical view of units that have
reserves. -/

namespace Sys2Proof.Machine

/-- The kinds of unit that have a reserve and a mark (R503, R518). -/
inductive UnitKind where
  | engine | generator | port | core | comparator
  deriving DecidableEq, Repr

/-- A unit code of R518. -/
def unitCode (k : UnitKind) (n : Nat) : Nat :=
  match k with
  | .engine => n
  | .generator => 0x10 + n
  | .port => 0x40 + n
  | .core => 0x60 + n
  | .comparator => 0x70 + n

/-- The unit a code names (R518). -/
def unitOf (c : Nat) : Option (UnitKind × Nat) :=
  if c ≤ 0x09 then some (.engine, c)
  else if 0x10 ≤ c ∧ c ≤ 0x31 then some (.generator, c - 0x10)
  else if 0x40 ≤ c ∧ c ≤ 0x51 then some (.port, c - 0x40)
  else if 0x60 ≤ c ∧ c ≤ 0x64 then some (.core, c - 0x60)
  else if 0x70 ≤ c ∧ c ≤ 0x8B then some (.comparator, c - 0x70)
  else none

/-- The register and bit of a unit's mark (R518). -/
def markBit (k : UnitKind) (n : Nat) : Nat × Nat :=
  match k with
  | .engine => (R.SID_MARK_A, n)
  | .core => (R.SID_MARK_A, 10 + n)
  | .generator => (R.SID_MARK_G, n)
  | .port => (R.SID_MARK_L, n)
  | .comparator => (R.SID_MARK_C, n)

/-- The unit is marked. -/
def Module.marked (m : Module) (k : UnitKind) (n : Nat) : Bool := m.bit (markBit k n).1 (markBit k n).2

/-- Mark a unit and raise SID_WEAR (R503). -/
def Module.markUnit (m : Module) (k : UnitKind) (n : Nat) : Module :=
  if m.marked k n then m
  else (m.setBit (markBit k n).1 (markBit k n).2 true).raise FS.SID_WEAR (unitCode k n) .none

/-- The physical core that serves a logical core (R235). -/
def Module.coreOf (m : Module) (c : Nat) : Nat := SMap.get id m.sid.coreOf c

/-- The physical comparator that serves a pin pair (R246). -/
def Module.pairOf (m : Module) (n : Nat) : Nat := SMap.get id m.sid.pairOf n


/-- Volts at the input that a code stands for, times 2^40 (R233, R241, R242): the code by its LSB of 5.0 V / 65,536, and the
factory trim, whose part lies within ±1.25 mV (DEDUCED, log 84). -/
def afeVolts (core input : Nat) (code : BitVec 16) : Int :=
  code.toInt * (5 * 2 ^ 24) + max (-1374389534) (min 1374389534 (Config.afeTrim core input code))

/-- The side of its hysteresis band on which P − N, in µV, lies (R247): above it, below it, or within it (none). With H = 0 the
band is empty (R250), and the output is high only where P exceeds N (R246). -/
def bandSide (hys : Nat) (pn : Int) : Option Bool :=
  let h : Int := [0, 5000, 15000, 40000].getD hys 0
  if h < 2 * pn then some true else if 2 * pn < -h ∨ h = 0 then some false else none

/-- The frame number plus one, for what happens at most once per frame. -/
def Module.frameStamp (m : Module) : Nat := m.rn R.TTB_FRAMES + 1

end Sys2Proof.Machine
end

