-- ==== Sys2Proof/Machine/Lines.lean ====
section
/-! DEFINITION. Lines.lean: fault lines, the mode hold, and the actions they put on the generators
(R273 to R278). A request acts at once; nothing here waits for the collector (R22). -/

namespace Sys2Proof.Machine

/-- A plan that places nothing. -/
def Plan.idle : Plan := ⟨5120000, [], [], false, 0, false⟩

/-- A generator that has not started. -/
def Gen.init : Gen :=
  ⟨false, 0, 0, 0, 0, 0, Plan.idle, none, false, none, .inactive, .inactive, false, [], none, 0, 0, 0⟩

/-- The working state of logical generator `g`. -/
def Module.gen (m : Module) (g : Nat) : Gen := SMap.getD Gen.init m.pwm.gens g

/-- Replace the working state of logical generator `g`. -/
def Module.setGen (m : Module) (g : Nat) (x : Gen) : Module :=
  { m with pwm := { m.pwm with gens := SMap.setD Gen.init m.pwm.gens g x } }

/-- The requests that stand on a line. -/
def Module.lineReqs (m : Module) (l : Nat) : List Req := SMap.getD [] m.pwm.reqs l

/-- The bit of PWM_FL_nn_STAT.REQ that shows a request (R284). -/
def Req.bitNo : Req → Nat
  | .host => 0
  | .cmp _ => 1
  | .gd _ _ => 2
  | .goose _ => 3
  | .coll _ => 4
  | .safe => 5
  | .removal | .silent => 6
  | .clk => 7

/-- STAT.REQ of a list of requests. -/
def reqBits (rs : List Req) : Nat := rs.foldl (fun n r => n ||| 1 <<< r.bitNo) 0

/-- The line is active (R273). -/
def Module.lineActive (m : Module) (l : Nat) : Bool := m.bit R.PWM_FL_ACT l

/-- An action's code, as CFG.ACT codes it (R274). -/
def Act.code : Act → Nat
  | .off => 0
  | .lowOn => 1
  | .hold => 2
  | .gateHiz => 3

/-- The action a code names (R274). -/
def Act.ofCode : Nat → Act
  | 0 => .off
  | 1 => .lowOn
  | 2 => .hold
  | _ => .gateHiz

/-- The lines that act on every generator with OFF, whatever their MASK and CFG (R276). -/
def Module.lineAlwaysOff (m : Module) (l : Nat) : Bool :=
  l == m.rf R.CLK_CFG F.CLK_CFG_FLINE || l == m.cf R.PWM_FL_SYS F.PWM_FL_SYS_REM
    || l == m.cf R.PWM_FL_SYS F.PWM_FL_SYS_STO

/-- The action that line `l`, while active, puts on generator `g` (R274, R276). -/
def Module.lineAct (m : Module) (l g : Nat) : Option Act :=
  if m.lineAlwaysOff l then some .off
  else if bitN (m.cf (R.PWM_FL_MASK l) F.PWM_FL_MASK_MASK) g = 1 then
    if m.cflag (R.PWM_FL_CFG l) F.PWM_FL_CFG_FORCED then
      some (Act.ofCode (m.cf (R.PWM_FL_CFG l) F.PWM_FL_CFG_ACT))
    else some (Act.ofCode (m.cf (R.PWM_CFG g) F.PWM_CFG_ACT))
  else none

/-- The first action in the order OFF, GATE_HIZ, LOW_ON, HOLD (R275). -/
def firstAct (as : List Act) : Option Act :=
  if .off ∈ as then some .off
  else if .gateHiz ∈ as then some .gateHiz
  else if .lowOn ∈ as then some .lowOn
  else if .hold ∈ as then some .hold
  else none

/-- The actions of the active lines on generator `g`. -/
def Module.lineActs (m : Module) (g : Nat) : List Act :=
  (List.range 32).filterMap (fun l => if m.lineActive l then m.lineAct l g else none)

/-- The action that governs generator `g`: its lines, the mode hold as OFF (R275, R278), and the heading
hold as GATE_HIZ (R515). -/
def Module.actFor (m : Module) (g : Nat) : Option Act :=
  firstAct ((if m.sys.modeHold then [.off] else []) ++ (if m.hl.hold then [.gateHiz] else []) ++ m.lineActs g)

/-- The levels an action gives a generator's outputs; HOLD keeps what they had (R274). -/
def Act.levels : Act → Level × Level → Level × Level
  | .off, _ => (.inactive, .inactive)
  | .lowOn, _ => (.inactive, .active)
  | .gateHiz, _ => (.hiz, .hiz)
  | .hold, l => l

/-- Clear a generator's carries, as a starting action does (R269). -/
def Module.clearCarries (m : Module) (g : Nat) : Module :=
  (m.wr (R.PWM_CARRYA g) 0).wr (R.PWM_CARRYB g) 0

/-- How far generator `g` is in its period at the end of the present tick, in units of 1/1,024 tick (R257, R259). -/
def Module.genPos (m : Module) (g : Nat) : Nat :=
  let x := m.gen g
  (m.now + 1 - x.start) * 1024 - x.frac - 1

/-- The instant of a generator's period start, in units of 1/1,024 tick (R259). -/
def Gen.origin (x : Gen) : Nat := x.start * 1024 + x.frac

/-- A dead time as it acts, in units of 1/1,024 tick, and whether DTMIN clamped it (R266, R267). -/
def Module.deadTime (m : Module) (g addr : Nat) : Nat × Bool :=
  let v := min 512000 (m.rn addr % 2 ^ 19)
  let d := min 512000 (m.cf (R.PWM_DTMIN g) F.PWM_DTMIN_FS)
  (max v d * 16, decide (v < d))

/-- When B may rise under LOW_ON that begins now, in units of 1/1,024 tick (R274): DTF after A fell, at the latest now where an
action has kept A from being active. -/
def Module.lowRise (m : Module) (g : Nat) : Nat :=
  let x := m.gen g
  let t := m.genPos g
  let d := (m.deadTime g (R.PWM_DTF g)).1
  if x.act.isSome then (if x.heldA = .active then m.now * 1024 + d else m.now * 1024)
  else if !x.running then m.now * 1024
  else if x.plan.outA.any (fun i => decide (i.1 ≤ t ∧ t < i.2)) then m.now * 1024 + d
  else d + (x.plan.outA.foldl (fun f i => if i.2 ≤ t then x.origin + i.2 else f) x.lastFall)

/-- Bring generator `g` under the action that now governs it (R274, R275, R277). -/
def Module.refreshGen (m : Module) (g : Nat) : Module :=
  let x := m.gen g
  let acts := m.lineActs g
  let m := m.setFlag (R.PWM_STAT g) F.PWM_STAT_MHOLD m.sys.modeHold
  let m := m.setFlag (R.PWM_STAT g) F.PWM_STAT_FLINE (!acts.isEmpty)
  let m := m.wf (R.PWM_STAT g) F.PWM_STAT_FACT (((m.actFor g).map Act.code).getD 0)
  match m.actFor g, x.act with
  | none, none => m.setGen g { x with holdWait := false }
  | none, some _ =>
    if x.released.isSome then m else m.setGen g { x with released := some m.now, holdWait := false }
  | some .hold, none => (m.clearCarries g).setGen g { x with holdWait := true }
  | some a, o =>
    let l := a.levels (x.heldA, x.heldB)
    let rise := if a = .lowOn ∧ o ≠ some .lowOn then m.lowRise g else x.riseAt
    let m := if o.isNone then m.clearCarries g else m
    m.setGen g { x with act := some a, holdWait := false, released := none, heldA := l.1, heldB := l.2, riseAt := rise }

/-- A port that has never trained. -/
def RingPort.init : RingPort :=
  ⟨⟨false, false, 0, 0, 0, 0, 0, 0, 0, 0⟩, 0, [], [], [], none, 0, 0, 0, 0, some 0, none, [], 0, 0, 0, 0, [], 0, 0⟩

/-- The working state of ring port `p`. -/
def Module.port (m : Module) (p : Nat) : RingPort := SMap.getD RingPort.init m.rings p

/-- Replace the working state of ring port `p`. -/
def Module.setPort (m : Module) (p : Nat) (x : RingPort) : Module :=
  { m with rings := SMap.setD RingPort.init m.rings p x }

/-- Ring port `p` is to block (R33, R411): the mode hold, SHUNT with RINGRUN = 0, a line of its FLMASK, or a line
of R276. -/
def Module.portBlocked (m : Module) (p : Nat) : Bool :=
  m.sys.modeHold || (m.rf R.SYS_MODE F.SYS_MODE_MODE == 5 && !m.cflag R.SYS_SHUNT F.SYS_SHUNT_RINGRUN) || (List.range 32).any (fun l => m.lineActive l &&
    (m.lineAlwaysOff l || bitN (m.cf (R.LN_FLMASK p) F.LN_FLMASK_MASK) l == 1))

/-- Note the instant at which a ring port's blocking begins or ends (R411). -/
def Module.refreshPort (m : Module) (p : Nat) : Module :=
  let x := m.port p
  match m.portBlocked p, x.blockAt with
  | true, none => m.setPort p { x with blockAt := some m.now, freeAt := none }
  | false, some _ => m.setPort p { x with blockAt := none, freeAt := some m.now }
  | _, _ => m

/-! ### Output levels, and the gate channels under them (R256, R270, R279, R288, R299) -/

/-- The level of generator `g`'s output after stage 8, `t` units into its period (R270); under LOW_ON output B rises once its
dead time is over (R274). -/
def Module.genLevel (m : Module) (g t : Nat) (b : Bool) : Level :=
  let x := m.gen g
  if !x.running then .inactive
  else match x.act with
    | some _ => if b then (if x.origin + t < x.riseAt then .inactive else x.heldB) else x.heldA
    | none => if (if b then x.plan.outB else x.plan.outA).any (fun i => decide (i.1 ≤ t ∧ t < i.2)) then .active
              else .inactive

/-- The level of a pin of destination `d` (R256, R271, R279): INV acts on logic pins only. -/
def Module.pinLevel (m : Module) (d t : Nat) (b : Bool) : Level :=
  if !m.flag (R.PWM_TT d) F.PWM_TT_EN then .inactive
  else
    let g := m.rf (R.PWM_TT d) F.PWM_TT_SRC
    let l := m.genLevel g t b
    let inv := m.cflag (R.PWM_CFG g) (if b then F.PWM_CFG_INVB else F.PWM_CFG_INVA)
    if 12 ≤ d ∧ inv then
      (match l with
      | .inactive => .active
      | .active => .inactive
      | .hiz => .hiz)
    else l

/-- The command that the turntable puts on a gate channel in the present tick (R256): channel 2k takes output A of
destination k, channel 2k + 1 its output B. -/
def Module.gateLevel (m : Module) (ch : Nat) : Bool :=
  m.pinLevel (ch / 2) (m.genPos (m.rf (R.PWM_TT (ch / 2)) F.PWM_TT_SRC)) (ch % 2 == 1) == .active

/-- The other one of two that go together, 2k and 2k + 1: the channels of a half-bridge, the ports of a pair. -/
def partner (ch : Nat) : Nat := if ch % 2 = 0 then ch + 1 else ch - 1

/-- A flag of GD_nn_STAT. -/
def Module.gd (m : Module) (ch : Nat) (f : Field) : Bool := m.flag (R.GD_STAT ch) f

/-- Set or clear a flag of GD_nn_STAT. -/
def Module.setGd (m : Module) (ch : Nat) (f : Field) (b : Bool) : Module := m.setFlag (R.GD_STAT ch) f b

/-- A current step of R288 in mA. -/
def Module.gdStep (m : Module) (ch unit : Nat) (f : Field) : Nat := unit * (m.cf (R.GD_EDGE ch) f + 1)

/-- The turn-on edge of a channel (R288). -/
def Module.onEdge (m : Module) (ch : Nat) : GdEdge :=
  ⟨true, m.gdStep ch 250 F.GD_EDGE_SRC1, some (m.gdStep ch 20 F.GD_EDGE_TON1), m.gdStep ch 250 F.GD_EDGE_SRC2⟩

/-- Its turn-off edge. -/
def Module.offEdge (m : Module) (ch : Nat) : GdEdge :=
  ⟨false, m.gdStep ch 500 F.GD_EDGE_SNK1, some (m.gdStep ch 20 F.GD_EDGE_TOFF1), m.gdStep ch 500 F.GD_EDGE_SNK2⟩

/-- Its soft turn-off: the SOFT step until OUT is low or 10 µs have passed, then SNK2 (R288, R292, R299). -/
def Module.softEdge (m : Module) (ch : Nat) : GdEdge :=
  ⟨false, m.gdStep ch 500 F.GD_EDGE_SOFT, none, m.gdStep ch 500 F.GD_EDGE_SNK2⟩

/-- The channel drives an edge. -/
def Module.gdDrive (m : Module) (ch : Nat) (e : GdEdge) : Module :=
  { m with gate := { m.gate with drive := SMap.setD none m.gate.drive ch (some e) } }

/-- OUT is below COM + 2 V: the Miller clamp engages where it is enabled (R289). -/
def Module.gdClamp (m : Module) (ch : Nat) : Module :=
  m.setGd ch F.GD_STAT_CLAMPON (m.cflag (R.GD_EDGE ch) F.GD_EDGE_CLAMP)

/-- A channel turns off with its normal profile (R288). -/
def Module.gdOff (m : Module) (ch : Nat) : Module :=
  if m.gd ch F.GD_STAT_ON then ((m.setGd ch F.GD_STAT_ON false).gdDrive ch (m.offEdge ch)).gdClamp ch else m

/-- A channel turns off with the SOFT step (R292, R299, R300). -/
def Module.gdSoftOff (m : Module) (ch : Nat) : Module :=
  if m.gd ch F.GD_STAT_ON then
    ((m.setGd ch F.GD_STAT_ON false).gdDrive ch (m.softEdge ch)).setGd ch F.GD_STAT_SOFT true
  else m

/-- The half-bridge is under GATE_HIZ (R299). -/
def Module.hbHiz (m : Module) (hb : Nat) : Bool :=
  m.flag (R.PWM_TT hb) F.PWM_TT_EN && (m.gen (m.rf (R.PWM_TT hb) F.PWM_TT_SRC)).act == some .gateHiz

/-- A channel's command goes inactive (R291, R299): it turns off, softly under GATE_HIZ. -/
def Module.gdFall (m : Module) (ch : Nat) : Module :=
  let m := m.setGd ch F.GD_STAT_CMD false
  let m := if m.hbHiz (ch / 2) then m.gdSoftOff ch else m.gdOff ch
  { m with gate := { m.gate with waitRise := m.gate.waitRise.filter (· ≠ ch),
                                 fellAt := SMap.setD 0 m.gate.fellAt ch (m.now + 1) } }

/-- The commands that an action, the mode hold or a stopped generator ends, at once (R30, R35, R256, R299). -/
def Module.dropGates (m : Module) : Module :=
  (List.range 24).foldl (fun m ch =>
    if m.gd ch F.GD_STAT_CMD && !m.gateLevel ch then m.gdFall ch else m) m

/-- Bring every generator under the action that now governs it, the gate channels under their commands, and every ring
port under its blocking. -/
def Module.refreshGens (m : Module) : Module :=
  (List.range 16).foldl Module.refreshPort ((List.range 34).foldl Module.refreshGen m).dropGates

/-- Show a line's requests in its STAT (R284). -/
def Module.showReqs (m : Module) (l : Nat) : Module :=
  m.wf (R.PWM_FL_STAT l) F.PWM_FL_STAT_REQ (reqBits (m.lineReqs l))

/-- Make a line active, or release it, and let the generators follow (R273, R274). -/
def Module.setLine (m : Module) (l : Nat) (b : Bool) : Module :=
  let m := m.setFlag (R.PWM_FL_STAT l) F.PWM_FL_STAT_ACTIVE b
  let m := { m with pwm := { m.pwm with lineAt := SMap.setD 0 m.pwm.lineAt l (m.now + 1) } }
  (m.setBit R.PWM_FL_ACT l b).refreshGens

/-- Replace the requests of a line. -/
def Module.setReqs (m : Module) (l : Nat) (rs : List Req) : Module :=
  ({ m with pwm := { m.pwm with reqs := SMap.setD [] m.pwm.reqs l rs } } : Module).showReqs l


/-- A line with no request left and no latch releases (R273, R277). -/
def Module.settleLine (m : Module) (l : Nat) : Module :=
  if (m.lineReqs l).isEmpty && m.lineActive l then
    if m.flag (R.PWM_FL_STAT l) F.PWM_FL_STAT_LATCHED then m
    else if m.cflag (R.PWM_FL_CFG l) F.PWM_FL_CFG_LATCH then
      m.setFlag (R.PWM_FL_STAT l) F.PWM_FL_STAT_LATCHED true
    else m.setLine l false
  else m

/-- A request is withdrawn from fault line `l` (R273). -/
def Module.withdrawLine (m : Module) (l : Nat) (r : Req) : Module :=
  if r ∈ m.lineReqs l then (m.setReqs l ((m.lineReqs l).filter (· ≠ r))).settleLine l else m

/-- A both-on refusal's request is withdrawn once both commands of its half-bridge are inactive together (R298). -/
def Module.settleXc (m : Module) : Module :=
  m.gate.episode.foldl (fun m hb =>
    if m.gd (2 * hb) F.GD_STAT_CMD || m.gd (2 * hb + 1) F.GD_STAT_CMD then m
    else (List.range 32).foldl (fun (m : Module) l => m.withdrawLine l (.gd hb 2)) m) m

/-- A request reaches fault line `l` (R273, R274). The change from released to active is counted. -/
def Module.requestLine (m : Module) (l : Nat) (r : Req) : Module :=
  let rs := m.lineReqs l
  let m := m.setReqs l (if r ∈ rs then rs else rs ++ [r])
  let m := if m.cflag (R.PWM_FL_CFG l) F.PWM_FL_CFG_LATCH then
      m.setFlag (R.PWM_FL_STAT l) F.PWM_FL_STAT_LATCHED true else m
  if m.lineActive l then m
  else ((m.bump (R.PWM_FL_CNT l) R.PWM_FL_SAT l).setLine l true).settleXc

/-- The host clears LATCHED: while a request stands LATCHED stays set (R63, R273); else the line releases. -/
def Module.clearLatch (m : Module) (l : Nat) : Module :=
  if !(m.lineReqs l).isEmpty then m
  else
    let m := m.setFlag (R.PWM_FL_STAT l) F.PWM_FL_STAT_LATCHED false
    if m.lineActive l then m.setLine l false else m

/-- Apply or end the mode hold (R30, R278). -/
def Module.setHold (m : Module) (b : Bool) : Module :=
  (({ m with sys := { m.sys with modeHold := b } } : Module).refreshGens).settleXc

/-- The removal line (R276). -/
def Module.removalLine (m : Module) : Nat := m.cf R.PWM_FL_SYS F.PWM_FL_SYS_REM

/-- The Interlocking's line (R276). -/
def Module.stoLine (m : Module) : Nat := m.cf R.PWM_FL_SYS F.PWM_FL_SYS_STO

/-- The lines that core silence requests (R276). -/
def Module.silentLines (m : Module) : List Nat :=
  (List.range 32).filter (fun l => bitN (m.cf R.PWM_FL_SILENT F.PWM_FL_SILENT_MASK) l = 1)

end Sys2Proof.Machine
end

