-- ==== Sys2Proof/Machine/Capture.lean ====
section
/-! DEFINITION. Capture.lean: events that `wait` can take (R167), whether the clock delivers ticks (R190), and
the capture units (R280). -/

namespace Sys2Proof.Machine

/-- The station clock delivers ticks (R13, R190, R194): with the supply, LOCKED, HOLDOVER, REACQUIRE and SLEWING, but for the
time after GATED until the tick resumes. -/
def Module.ticking (m : Module) : Bool :=
  let st := m.rf R.CLK_STAT F.CLK_STAT_STATE
  m.powered && (st == 3 || st == 4 || st == 5 || st == 6) && !m.clk.tickHold

/-- An event of kind `ev` and instance `n` occurs (R167). -/
def Module.latchEvent (m : Module) (ev n : Nat) : Module :=
  { m with eng := { m.eng with events := SMap.setD 0 m.eng.events (16 * ev + n) (m.now + 1) } }

/-- The tick of the last event of a kind and instance. -/
def Module.lastEvent (m : Module) (ev n : Nat) : Option Nat :=
  match SMap.getD 0 m.eng.events (16 * ev + n) with
  | 0 => none
  | t + 1 => some t

/-- A capture unit is armed: always in continuous mode (R280). -/
def Module.capArmed (m : Module) (u : Nat) : Bool :=
  m.cflag (R.CAP_CFG u) F.CAP_CFG_MODE || m.flag (R.CAP_STAT u) F.CAP_STAT_ARMED

/-- Arm a capture unit (R280): a unit with EN = 0 ignores it; a continuous unit stays armed. -/
def Module.armCapture (m : Module) (u : Nat) : Module :=
  if m.cflag (R.CAP_CFG u) F.CAP_CFG_EN && !m.cflag (R.CAP_CFG u) F.CAP_CFG_MODE then
    m.setFlag (R.CAP_STAT u) F.CAP_STAT_ARMED true
  else m

/-- An edge reaches capture unit `u` (R280): with the unit enabled and armed and the tick running, one capture
a tick. -/
def Module.capture (m : Module) (u : Nat) : Module :=
  if !m.cflag (R.CAP_CFG u) F.CAP_CFG_EN || !m.capArmed u || !m.ticking || m.lastEvent 3 u == some m.now then m
  else
    let svc := m.cf (R.CAP_CFG u) F.CAP_CFG_SVC
    let m := if m.flag (R.CAP_STAT u) F.CAP_STAT_NEW then m.bump (R.CAP_OVR u) (R.CAP_SAT u) 0 else m
    let m := m.wn (R.CAP_TICK u) ((m.now - m.periodStart svc) % 2 ^ 19)
    let m := m.wn (R.CAP_NS u) m.todNs
    let m := m.wn (R.CAP_SEC u) m.todSec
    let m := m.accum32 (R.CAP_SEQ u) 1
    let m := m.setFlag (R.CAP_STAT u) F.CAP_STAT_NEW true
    let m := m.setFlag (R.CAP_STAT u) F.CAP_STAT_ARMED (m.cflag (R.CAP_CFG u) F.CAP_CFG_MODE)
    let m := m.setFlag (R.CAP_CTRL u) F.CAP_CTRL_ARM false
    m.latchEvent 3 u

/-- The internal source of a unit exists and takes an edge of this direction (R280). -/
def Module.capSource (m : Module) (u : Nat) (rising : Bool) : Bool :=
  let src := m.cf (R.CAP_CFG u) F.CAP_CFG_SRC
  let edge := m.cf (R.CAP_CFG u) F.CAP_CFG_EDGE
  ((1 ≤ src && src ≤ 0x21) || (0x40 ≤ src && src ≤ 0x7F)) && (if rising then edge.testBit 0 else edge.testBit 1)

/-- A SRC code that names no source and is not 0 (R280). -/
def capBadSrc (src : Nat) : Bool := 0x22 ≤ src && src ≤ 0x3F

/-- The configuration of the units in force shows in STAT (R280, R281): BADCFG by SRC, and an enabled continuous unit is armed;
one that leaves continuous mode has to be armed again (DEDUCED: a one-shot unit is armed by ARM or `wait` alone). -/
def Module.capConfigured (m old : Module) : Module :=
  (List.range 16).foldl (fun m u =>
    let m := m.setFlag (R.CAP_STAT u) F.CAP_STAT_BADCFG (capBadSrc (m.cf (R.CAP_CFG u) F.CAP_CFG_SRC))
    if m.cflag (R.CAP_CFG u) F.CAP_CFG_MODE then
      m.setFlag (R.CAP_STAT u) F.CAP_STAT_ARMED (m.cflag (R.CAP_CFG u) F.CAP_CFG_EN)
    else if old.cflag (R.CAP_CFG u) F.CAP_CFG_MODE then m.setFlag (R.CAP_STAT u) F.CAP_STAT_ARMED false
    else m) m

/-- A generator's output changes to `rising` in the present tick (R280), seen at the ends of this tick and the one before. -/
def Module.outEdge (m : Module) (g : Nat) (b rising : Bool) : Bool :=
  let t := m.genPos g
  let level (t : Nat) : Bool := m.genLevel g t b == .active
  level t == rising && (t < 1024 || level (t - 1024) != rising)

/-- The edge is one that the unit's source has in the present tick (R280): of a fault line, of a generator's output; those of
PPS_IN come from outside. -/
def Module.capEdge (m : Module) (u : Nat) (rising : Bool) : Bool :=
  let src := m.cf (R.CAP_CFG u) F.CAP_CFG_SRC
  if 0x40 ≤ src then m.outEdge (src % 32) (0x60 ≤ src) rising
  else if 2 ≤ src then m.lineActive (src - 2) == rising && SMap.getD 0 m.pwm.lineAt (src - 2) == m.now + 1
  else true

/-- An edge of the unit's internal source (R280); a comparator's edges arrive with its crossing (R249). -/
def execCaptureEdge (u : Fin 16) (rising : Bool) (s : State) :=
  s.runOn (fun m => if m.capSource u rising && m.capEdge u rising then m.capture u else m)

/-- The edge of PPS_IN at a pulse's start reaches the units that take it (R280). -/
def Module.ppsEdge (m : Module) : Module :=
  (List.range 16).foldl (fun m u =>
    if m.cf (R.CAP_CFG u) F.CAP_CFG_SRC = 1 ∧ m.capSource u true then m.capture u else m) m

/-- The go bit ARM (R280): it stays set until the capture, and clears at once for a continuous or a disabled
unit. -/
def Module.goCapArm (m : Module) (u : Nat) : Module :=
  if m.cflag (R.CAP_CFG u) F.CAP_CFG_EN && !m.cflag (R.CAP_CFG u) F.CAP_CFG_MODE then
    (m.armCapture u).setFlag (R.CAP_CTRL u) F.CAP_CTRL_ARM true
  else m.setFlag (R.CAP_CTRL u) F.CAP_CTRL_ARM false

end Sys2Proof.Machine
end

