-- ==== Sys2Proof/Machine/Operands.lean ====
section
/-! DEFINITION. Operands.lean: the operand forms of the Ranzor instructions (R123): three registers, a
register and an immediate, a flag and two sources, and addresses with the checks of R132. -/

namespace Sys2Proof.Machine

/-- Format R on g registers: gD := op gA gB. -/
def gRR (d a b : Nat) (op : Word → Word → Word) (r : RegFile) : RegFile := r.setG d (op (r.rg a) (r.rg b))

/-- gD := op gA. -/
def gR (d a : Nat) (op : Word → Word) (r : RegFile) : RegFile := r.setG d (op (r.rg a))

/-- c[CD] := a condition of the registers. -/
def cOf (cd : Nat) (p : RegFile → Bool) (r : RegFile) : RegFile := r.setC cd (p r)

/-- Format R on f registers with flags: fD := op fA fB. -/
def fRR (d a b : Nat) (op : Word → Word → Fp.Res) (r : RegFile) : RegFile :=
  let v := op (r.rF a) (r.rF b)
  (r.setF d v.1).orX v.2

/-- fD := op fA. -/
def fR (d a : Nat) (op : Word → Fp.Res) (r : RegFile) : RegFile :=
  let v := op (r.rF a)
  (r.setF d v.1).orX v.2

/-- fD := op fA fB fC. -/
def fRRR (d a b c : Nat) (op : Word → Word → Word → Fp.Res) (r : RegFile) : RegFile :=
  let v := op (r.rF a) (r.rF b) (r.rF c)
  (r.setF d v.1).orX v.2

/-- A sign-extended immediate (R126, R132). -/
def sx {w : Nat} (imm : BitVec w) : Word := imm.signExtend 32

/-- A zero-extended immediate (R126). -/
def zx {w : Nat} (imm : BitVec w) : Word := imm.setWidth 32

/-- The effective address of format M: gA plus the sign-extended offset, modulo 2^32 (R132). -/
def effAddr (r : RegFile) (a : Nat) (imm : BitVec 16) : Nat := (r.rg a + sx imm).toNat

/-- Saturation of a signed result (R126). -/
def satInt (n : Int) : Word :=
  if n > 0x7FFFFFFF then 0x7FFFFFFF else if n < -0x80000000 then 0x80000000 else BitVec.ofInt 32 n

end Sys2Proof.Machine
end

