-- ==== Sys2Proof/Machine/EngineMem.lean ====
section
/-! DEFINITION. EngineMem.lean: loads, stores and block moves (R132 to R136). Yard and table writes are staged
until the commit point (R106); DM stores are journalled (R104). -/

namespace Sys2Proof.Machine

/-- Entry `i`, word `w` of the active copy's region table (R113, R114). -/
def Module.region (m : Module) (copy i w : Nat) : Nat := m.mn (0x01838000 + 0x400 * copy + 16 * i + 4 * w) 4

/-- The yard byte `a` lies in region `i` of copy `c` (R114). -/
def Module.inRegion (m : Module) (c i a : Nat) : Bool :=
  let w := m.region c i 0
  let base := bitsN w 11 0 * 4096
  w.testBit 31 && decide (base ≤ a ∧ a < base + bitsN w 28 16 * 4096)

/-- Some region holds the byte and its word 1 satisfies `p`. -/
def Module.regionGrants (m : Module) (a : Nat) (p : Nat → Bool) : Bool :=
  match m.activeCopy with
  | none => false
  | some c => (List.range 64).any (fun i => m.inRegion c i a && p (m.region c i 1))

/-- The engine may read the yard byte (R114, R132). -/
def Module.yardReadable (m : Module) (e a : Nat) : Bool :=
  decide (a < 0x01000000) && m.regionGrants a (fun w => w.testBit (24 + e))

/-- The engine may write the yard byte (R114, R132). -/
def Module.yardWritable (m : Module) (e a : Nat) : Bool :=
  decide (a < 0x01000000) && m.regionGrants a (fun w => w.testBit (16 + e))

/-- What a block reads at a BAR2 word: its own staged value first (R106, R134). -/
def Module.stagedRead (m : Module) (b : Blk) (a : Nat) : Word :=
  match b.st.words.find? (fun p => p.1 == a) with
  | some p => p.2
  | none => m.mw a

/-- Words of the staging buffer that earlier blocks of the engine still drain (R106, R107). -/
def Module.drainCount (m : Module) (e : Nat) : Nat :=
  ((m.eng.draining.filter (fun d => d.1 == e)).map (fun d => d.2.length)).sum

/-- A block of another engine drains the word: a read waits (R107). -/
def Module.drains (m : Module) (e a : Nat) : Bool := m.eng.draining.any (fun d => d.1 != e && d.2.contains a)

/-- A read of a yard or table word waits for a drain (R107) and checks parity (R108): SRC `src`, offset from `base`. -/
def Module.readCheck (m : Module) (e a src base : Nat) : Except Stop Unit :=
  if m.drains e a then .error .wait
  else if m.eng.failing.contains a then .error (.bad ⟨Fin.ofNat 9 src, BitVec.ofNat 24 (a - base), true⟩)
  else .ok ()

/-- Stage a yard or table word (R106, R134): a word staged before is replaced; a 1,025th is violation 0x48; a write that
finds the buffer of 2,048 words full waits. -/
def Module.stageWord (m : Module) (e : Nat) (b : Blk) (a : Nat) (w : Word) : Except Stop Blk :=
  let old := b.st.words.any (fun p => p.1 == a)
  if !old && 1024 ≤ b.st.words.length then .error (.violation 0x48 1 a true)
  else if !old && 2048 ≤ m.drainCount e + b.st.words.length then .error .wait
  else .ok { b with st := { b.st with words := (a, w) :: b.st.words.filter (fun p => p.1 ≠ a) } }

/-- The DM checks of R132. -/
def dmCheck (t : TaskInfo) (a : Nat) (write : Bool) : Except Stop Unit :=
  if a % 4 ≠ 0 then .error (.violation 0x44 3 (2 ^ 27 + a % 2 ^ 27) write)
  else if a < t.dmBase ∨ t.dmBase + t.dmSize ≤ a then .error (.violation 0x40 3 (2 ^ 27 + a % 2 ^ 27) write)
  else .ok ()

/-- The yard checks of R132. -/
def Module.yardCheck (m : Module) (e a : Nat) (write : Bool) : Except Stop Unit :=
  if a % 4 ≠ 0 then .error (.violation 0x44 1 a write)
  else if write then (if m.yardWritable e a then .ok () else .error (.violation 0x42 1 a true))
  else (if m.yardReadable e a then .ok () else .error (.violation 0x41 1 a false))

/-- The task of the block; a block without one fetches outside its code (R143). -/
def Module.certE (m : Module) (e : Nat) (b : Blk) : Except Stop TaskInfo :=
  match m.cert e b with
  | some t => .ok t
  | none => .error (.violation 0x45 3 (m.imOff e b b.pc) false)

/-- A DM load (R133). -/
def Module.dmLoad (m : Module) (e : Nat) (b : Blk) (a : Nat) : Except Stop Word := do
  let t ← m.certE e b
  dmCheck t a false
  if m.eng.failing.contains (m.dmAddr e a) then .error (.bad ⟨1, BitVec.ofNat 24 a, true⟩)
  else pure (m.mw (m.dmAddr e a))

/-- A journalled DM store (R104, R133); the 2,049th in a block is violation 0x4B. -/
def Module.dmStore (m : Module) (e : Nat) (b : Blk) (a : Nat) (w : Word) : Except Stop (Module × Blk) := do
  let t ← m.certE e b
  dmCheck t a true
  if 2048 ≤ b.journal.length then .error (.violation 0x4B 3 (2 ^ 27 + a) true)
  else
    pure (m.setMw (m.dmAddr e a) w, { b with journal := (a, m.mw (m.dmAddr e a)) :: b.journal })

/-- The block has staged the word itself (R106). -/
def Blk.staged (b : Blk) (a : Nat) : Bool := b.st.words.any (fun p => p.1 == a)

/-- A yard load (R133). -/
def Module.yardLoad (m : Module) (e : Nat) (b : Blk) (a : Nat) : Except Stop Word := do
  m.yardCheck e a false
  if b.staged a then pure (m.stagedRead b a)
  else
    m.readCheck e a 2 0
    pure (m.stagedRead b a)

/-- A staged yard write (R133). -/
def Module.yardStore (m : Module) (e : Nat) (b : Blk) (a : Nat) (w : Word) : Except Stop (Module × Blk) := do
  m.yardCheck e a true
  let b ← m.stageWord e b a w
  pure (m, b)

/-- The address of word `word` of entry `idx` of a table item. Of a double-buffered table engines use the copy that
SID_PTSEL names; copy 1 lies directly after copy 0 (R512). -/
def Module.tblAddr (m : Module) (i : TblItem) (idx word : Nat) : Nat :=
  let second := match i.dbl with
    | some p => m.bit R.SID_PTSEL p
    | none => false
  i.base + (if second then 4 * i.size * i.count else 0) + 4 * (idx * i.size + word)

/-- The table checks of R132 and the address of word WORD of entry `idx` of item `tbl`. A violation 0x43 forms no address:
HOST_VIOL_ADDR.OFFSET is then 0 where TBL names no item, and the item's base elsewhere (DESIGN CHOICE, log 83). -/
def Module.tblCheck (m : Module) (e : Nat) (b : Blk) (tbl idx word : Nat) (write : Bool) : Except Stop Nat := do
  let t ← m.certE e b
  match t.tbl[tbl]? with
  | none => .error (.violation 0x43 1 0 write)
  | some i =>
    if i.count ≤ idx ∨ i.size ≤ word then .error (.violation 0x43 1 i.base write)
    else if m.tblAddr i idx word % 4 ≠ 0 then .error (.violation 0x44 1 (m.tblAddr i idx word) write)
    else if write && i.access ≠ 2 then .error (.violation 0x42 1 (m.tblAddr i idx word) true)
    else pure (m.tblAddr i idx word)

/-- The arm of cell-table entry `i` (R405). -/
def Module.cellArm (m : Module) (i : Nat) : Nat := bitsN (m.mnE (0x01800000 + 48 * i + 4) 4) 15 12

/-- A word of the selection result table (R156) with the arms this block selected laid over it. -/
def Module.selWord (m : Module) (b : Blk) (a : Nat) : Word :=
  let off := a - 0x0183A000
  if off < 0x30 then
    match b.st.sel.find? (fun s => s.1 == off / 4) with
    | some s => BitVec.ofNat 32 (s.2.1.length + if s.2.2 then 0x10000 else 0)
    | none => m.mw a
  else if off < 0x40 then m.mw a
  else
    let w0 := (off - 0x40) / 4 * 32
    BitVec.ofNat 32 ((List.range 32).foldl (fun n k =>
      match b.st.sel.find? (fun s => s.1 == m.cellArm (w0 + k)) with
      | some s => setBitN n k (s.2.1.contains (w0 + k))
      | none => n) (m.mn a 4))

/-- What a block reads at a table word (R134): its own staged value first; the words of the GOOSE rows, of
the CAN rows and of the function-stop table as they stood at its start tick (R149, R224, R365, R491); its own staged selection
(R156). -/
def Module.tblRead (m : Module) (b : Blk) (a : Nat) : Word :=
  match b.st.words.find? (fun p => p.1 == a) with
  | some p => p.2
  | none =>
    if (0x018B2200 ≤ a ∧ a < 0x018B2A00) ∨ (0x01850000 ≤ a ∧ a < 0x01860000)
        ∨ (0x01880000 ≤ a ∧ a < 0x01880400) then
      { m with mem := b.viewMem }.mw a
    else if 0x01871000 ≤ a ∧ a < 0x01871400 then
      match b.viewAfe.find? (fun v => v.1 == (a - 0x01871000) / 256) with
      | some v => BitVec.ofNat 32 (leNat ((v.2.drop ((a - 0x01871000) % 256)).take 4))
      | none => m.mw a
    else if 0x0183A000 ≤ a ∧ a < 0x0183A240 then m.selWord b a
    else m.mw a

/-- A checked read of a table word (R107, R108, R134): of a parameter table in the yard, or of a hardware table. -/
def Module.tblGet (m : Module) (e : Nat) (b : Blk) (a : Nat) : Except Stop Word :=
  if b.staged a then .ok (m.tblRead b a)
  else (m.readCheck e a (if a < 0x01000000 then 2 else 8) (if a < 0x01000000 then 0 else 0x01800000)).map
    (fun _ => m.tblRead b a)

/-- The first read of an entry of the sample table in a block freezes that entry for the block (R240). -/
def Module.seeAfe (m : Module) (b : Blk) (a : Nat) : Blk :=
  let c := (a - 0x01871000) / 256
  if 0x01871000 ≤ a ∧ a < 0x01871400 ∧ !b.viewAfe.any (fun v => v.1 == c) then
    { b with viewAfe := (c, m.mbytes (0x01871000 + 256 * c) 256) :: b.viewAfe }
  else b

/-- Move `n` yard words at `y` to DM at `dm`, each journalled (R133). -/
def Module.copyIn (m : Module) (e : Nat) (b : Blk) (dm y : Nat) : Nat → Except Stop (Module × Blk)
  | 0 => .ok (m, b)
  | n + 1 => do
    let w ← m.yardLoad e b y
    let (m, b) ← m.dmStore e b dm w
    m.copyIn e b (dm + 4) (y + 4) n

/-- Stage `n` DM words at `dm` as yard writes at `y` (R133). -/
def Module.copyOut (m : Module) (e : Nat) (b : Blk) (dm y : Nat) : Nat → Except Stop (Module × Blk)
  | 0 => .ok (m, b)
  | n + 1 => do
    let w ← m.dmLoad e b dm
    let (m, b) ← m.yardStore e b y w
    m.copyOut e b (dm + 4) (y + 4) n

/-- Every word of both ranges is checked before any word moves (R133): the yard range first. -/
def Module.blockCheck (m : Module) (e : Nat) (b : Blk) (dm y n : Nat) (toYard : Bool) : Except Stop Unit := do
  let t ← m.certE e b
  (List.range n).forM (fun k => m.yardCheck e (y + 4 * k) toYard)
  (List.range n).forM (fun k => dmCheck t (dm + 4 * k) (!toYard))

/-- A load into a g or f register. -/
def Module.loadInto (m : Module) (x : Issue) (len : Nat) (set : RegFile → Word → RegFile)
    (ld : Module → Blk → Except Stop Word) : Module :=
  m.issue x len (fun m b => do
    let w ← ld m b
    pure (m, { b with regs := set b.regs w }))

/-- A table load into a g or f register (R133). -/
def Module.tblLoad (m : Module) (x : Issue) (a tbl word : Nat) (set : RegFile → Word → RegFile) : Module :=
  m.issue x 1 (fun m b => do
    let p ← m.tblCheck x.le b tbl (b.regs.rg a).toNat word false
    let w ← m.tblGet x.le (m.seeAfe b p) p
    pure (m, { m.seeAfe b p with regs := set b.regs w }))

/-- Load from DM into gD (R133). -/
def execLd (x : Issue) (d a : Fin 32) (imm : BitVec 16) (s : State) :=
  s.run (·.loadInto x 1 (·.setG d) (fun m b => m.dmLoad x.le b (effAddr b.regs a imm)))
/-- Load from DM into fD (R133). -/
def execLdf (x : Issue) (d a : Fin 32) (imm : BitVec 16) (s : State) :=
  s.run (·.loadInto x 1 (·.setF d) (fun m b => m.dmLoad x.le b (effAddr b.regs a imm)))
/-- Journalled store of gD to DM (R104, R133). -/
def execSt (x : Issue) (d a : Fin 32) (imm : BitVec 16) (s : State) :=
  s.run (·.issue x 1 (fun m b => m.dmStore x.le b (effAddr b.regs a imm) (b.regs.rg d)))
/-- Journalled store of fD to DM (R104, R133). -/
def execStf (x : Issue) (d a : Fin 32) (imm : BitVec 16) (s : State) :=
  s.run (·.issue x 1 (fun m b => m.dmStore x.le b (effAddr b.regs a imm) (b.regs.rF d)))
/-- Load from the yard into gD (R133). -/
def execLdy (x : Issue) (d a : Fin 32) (imm : BitVec 16) (s : State) :=
  s.run (·.loadInto x 1 (·.setG d) (fun m b => m.yardLoad x.le b (effAddr b.regs a imm)))
/-- Load from the yard into fD (R133). -/
def execLdyf (x : Issue) (d a : Fin 32) (imm : BitVec 16) (s : State) :=
  s.run (·.loadInto x 1 (·.setF d) (fun m b => m.yardLoad x.le b (effAddr b.regs a imm)))
/-- Stage a yard write of gD (R133). -/
def execSty (x : Issue) (d a : Fin 32) (imm : BitVec 16) (s : State) :=
  s.run (·.issue x 1 (fun m b => m.yardStore x.le b (effAddr b.regs a imm) (b.regs.rg d)))
/-- Stage a yard write of fD (R133). -/
def execStyf (x : Issue) (d a : Fin 32) (imm : BitVec 16) (s : State) :=
  s.run (·.issue x 1 (fun m b => m.yardStore x.le b (effAddr b.regs a imm) (b.regs.rF d)))
/-- Load word WORD of entry gA of table item TBL into gD (R133). -/
def execLdt (x : Issue) (d a : Fin 32) (tbl : Fin 64) (word : Fin 1024) (s : State) :=
  s.run (·.tblLoad x a tbl word (·.setG d))
/-- Load a table word into fD (R133). -/
def execLdtf (x : Issue) (d a : Fin 32) (tbl : Fin 64) (word : Fin 1024) (s : State) :=
  s.run (·.tblLoad x a tbl word (·.setF d))
/-- Stage a table write of gD (R133). -/
def execStt (x : Issue) (d a : Fin 32) (tbl : Fin 64) (word : Fin 1024) (s : State) :=
  s.run (·.issue x 1 (fun m b => do
    let p ← m.tblCheck x.le b tbl (b.regs.rg a).toNat word true
    let b ← m.stageWord x.le b p (b.regs.rg d)
    pure (m, b)))
/-- Stage a table write of fD (R133). -/
def execSttf (x : Issue) (d a : Fin 32) (tbl : Fin 64) (word : Fin 1024) (s : State) :=
  s.run (·.issue x 1 (fun m b => do
    let p ← m.tblCheck x.le b tbl (b.regs.rg a).toNat word true
    let b ← m.stageWord x.le b p (b.regs.rF d)
    pure (m, b)))
/-- Copy NM1 + 1 yard words at gA into DM at gD, each journalled (R133). -/
def execLdyb (x : Issue) (d a : Fin 32) (nm1 : Fin 64) (s : State) :=
  s.run (·.issue x 1 (fun m b => do
    m.blockCheck x.le b (b.regs.rg d).toNat (b.regs.rg a).toNat (nm1 + 1) false
    m.copyIn x.le b (b.regs.rg d).toNat (b.regs.rg a).toNat (nm1 + 1)))
/-- Stage NM1 + 1 DM words at gD as yard writes at gA (R133). -/
def execStyb (x : Issue) (d a : Fin 32) (nm1 : Fin 64) (s : State) :=
  s.run (·.issue x 1 (fun m b => do
    m.blockCheck x.le b (b.regs.rg d).toNat (b.regs.rg a).toNat (nm1 + 1) true
    m.copyOut x.le b (b.regs.rg d).toNat (b.regs.rg a).toNat (nm1 + 1)))
/-- Long form: yard load into gD at IMM32 (R133). -/
def execLdyAbs (x : Issue) (d : Fin 32) (imm : BitVec 32) (s : State) :=
  s.run (·.loadInto x 2 (·.setG d) (fun m b => m.yardLoad x.le b imm.toNat))
/-- Long form: yard load into fD at IMM32 (R133). -/
def execLdyfAbs (x : Issue) (d : Fin 32) (imm : BitVec 32) (s : State) :=
  s.run (·.loadInto x 2 (·.setF d) (fun m b => m.yardLoad x.le b imm.toNat))
/-- Long form: stage a yard write of gD at IMM32 (R133). -/
def execStyAbs (x : Issue) (d : Fin 32) (imm : BitVec 32) (s : State) :=
  s.run (·.issue x 2 (fun m b => m.yardStore x.le b imm.toNat (b.regs.rg d)))
/-- Long form: stage a yard write of fD at IMM32 (R133). -/
def execStyfAbs (x : Issue) (d : Fin 32) (imm : BitVec 32) (s : State) :=
  s.run (·.issue x 2 (fun m b => m.yardStore x.le b imm.toNat (b.regs.rF d)))

end Sys2Proof.Machine
end

