-- ==== Sys2Proof/Machine/Trig.lean ====
section
/-! DEFINITION. Trig.lean: the transform unit's functions (R153, R154). Each output has an exact reference,
computed in fixed point far below the bound of R154. The unit's own answer is a free function of the
inputs (Config.xfmRaw), taken where it lies within the bound; the reference rounded once stands in where it
does not. WRAP is correctly rounded, so it has no free part. -/

namespace Sys2Proof.Machine.Xfm

open Sys2Proof.Machine

/-- Fixed-point scale of values: 2^-320. -/
abbrev S : Nat := 320

/-- Fixed-point scale of trigonometric work: 2^-160. -/
abbrev T : Nat := 160

/-- π · 2^320, rounded down. -/
def piS : Int := 0x3243f6a8885a308d313198a2e03707344a4093822299f31d0082efa98ec4e6c89452821e638d01377

/-- A finite binary32 number, exactly, in units of 2^-320. -/
def fix (w : Word) : Int := Fp.sMant w * 2 ^ (Fp.exp2 w + S).toNat

/-- Round a fixed-point number to binary32. -/
def unfix (n : Int) : Word := (Fp.roundInt n (-(S : Int))).1

/-- One unit in the last place of a finite number, in units of 2^-320. -/
def ulp (w : Word) : Int := 2 ^ (Fp.exp2 w + S).toNat

/-- The ulp of the largest input magnitude. -/
def ulpMax (ws : List Word) : Int := ws.foldl (fun u w => max u (ulp w)) 0

/-- x reduced to (−π, π] (R153), in units of 2^-320. -/
def wrapFix (x : Int) : Int :=
  let r := x % (2 * piS)
  if r > piS then r - 2 * piS else r

/-- The tail of a Taylor series: the terms t, −t·x²/((j+1)(j+2)), … -/
def series (x2 : Int) : Nat → Nat → Int → Int
  | 0, _, _ => 0
  | n + 1, j, t => t + series x2 n (j + 2) (-(t * x2 / 2 ^ T) / ((j + 1) * (j + 2) : Nat))

/-- sin and cos of a reduced angle, in units of 2^-160. -/
def sinCos (r : Int) : Int × Int :=
  let x := r / 2 ^ (S - T)
  let x2 := x * x / 2 ^ T
  (series x2 40 1 x, series x2 40 0 (2 ^ T))

/-- The terms u^j/j of an arctangent. -/
def atanSeries (u2 : Int) : Nat → Nat → Int → Int
  | 0, _, _ => 0
  | n + 1, j, t => t / (j : Int) + atanSeries u2 n (j + 2) (-(t * u2 / 2 ^ T))

/-- u with atan t = 2 · atan u. -/
def atanHalf (t : Int) : Int :=
  (t * 2 ^ T) / (2 ^ T + (Fp.isqrt ((2 : Int) ^ (2 * T) + t * t).toNat : Nat))

/-- atan of t in [0, 1], both in units of 2^-160. -/
def atan01 (t : Int) : Int :=
  let u := atanHalf (atanHalf t)
  4 * atanSeries (u * u / 2 ^ T) 48 1 u

/-- The angle of (x, y) in (−π, π], in units of 2^-320. -/
def atan2Fix (x y : Int) : Int :=
  if x = 0 ∧ y = 0 then 0 else
  let ax := |x|
  let ay := |y|
  let a : Int :=
    if ay ≤ ax then atan01 (ay * 2 ^ T / ax) * 2 ^ (S - T)
    else piS / 2 - atan01 (ax * 2 ^ T / ay) * 2 ^ (S - T)
  let a := if x < 0 then piS - a else a
  if y < 0 then -a else a

/-- The unit's answer `c`, kept where it is finite and within `b` of the exact value `r`. -/
def pick (r b : Int) (c : Word) : Word :=
  if Fp.isFinite c && decide (|fix c - r| ≤ b) then c else unfix r

/-- √3 in units of 2^-160. -/
def sqrt3 : Int := (Fp.isqrt (3 * 2 ^ (2 * T)) : Nat)

/-- The exact outputs of a function and their bounds (R153, R154); the last input of a Park-like function
is the angle. -/
def exact (fn : Nat) (ws : List Word) : List (Int × Int) :=
  let v (k : Nat) : Int := fix (ws.getD k 0)
  let u2 := 2 * ulpMax ws
  let clarke (a b c : Int) : Int × Int × Int :=
    ((2 * a - b - c) / 3, (b - c) * 2 ^ T / sqrt3, (a + b + c) / 3)
  let iclarke (al be ga : Int) : Int × Int × Int :=
    (al + ga, -al / 2 + be * sqrt3 / 2 ^ (T + 1) + ga, -al / 2 - be * sqrt3 / 2 ^ (T + 1) + ga)
  let rot (th x y : Int) : Int × Int :=
    let (s, c) := sinCos (wrapFix th)
    ((x * c + y * s) / 2 ^ T, (y * c - x * s) / 2 ^ T)
  let ab := fun (k : Nat) => 4 * ulpMax (ws.take k)
  match fn with
  | 0 => let (x, y, z) := clarke (v 0) (v 1) (v 2); [(x, u2), (y, u2), (z, u2)]
  | 1 => let (x, y, z) := iclarke (v 0) (v 1) (v 2); [(x, u2), (y, u2), (z, u2)]
  | 2 => let (d, q) := rot (v 2) (v 0) (v 1); [(d, ab 2), (q, ab 2)]
  | 3 => let (d, q) := rot (-(v 2)) (v 0) (v 1); [(d, ab 2), (q, ab 2)]
  | 4 =>
    let (x, y, z) := clarke (v 0) (v 1) (v 2)
    let (d, q) := rot (v 3) x y
    [(d, ab 3), (q, ab 3), (z, ab 3)]
  | 5 =>
    let (x, y) := rot (-(v 3)) (v 0) (v 1)
    let (a, b, c) := iclarke x y (v 2)
    [(a, ab 3), (b, ab 3), (c, ab 3)]
  | 6 =>
    let (s, c) := sinCos (wrapFix (v 0))
    [(s * 2 ^ (S - T), 2 ^ (S - 22)), (c * 2 ^ (S - T), 2 ^ (S - 22))]
  | 7 =>
    let m : Int := (Fp.isqrt ((v 0) * (v 0) + (v 1) * (v 1)).toNat : Nat)
    [(atan2Fix (v 0) (v 1), 2 ^ (S - 21)), (m, 2 * ulp (unfix m))]
  | 8 =>
    [((v 0 - v 3) / 2, u2), ((v 2 + v 1) / 2, u2), ((v 0 + v 3) / 2, u2), ((v 1 - v 2) / 2, u2)]
  | _ => [(wrapFix (v 0), 0)]

/-- How many outputs a function has (R153). -/
def outputs : Nat → Nat
  | 2 | 3 | 6 | 7 => 2
  | 8 => 4
  | 9 => 1
  | _ => 3

/-- How many consecutive inputs from fA a function reads, and whether it reads an angle from fB (R153). -/
def inputs : Nat → Nat × Bool
  | 0 | 1 => (3, false)
  | 2 | 3 => (2, true)
  | 4 | 5 => (3, true)
  | 6 => (0, true)
  | 7 => (2, false)
  | 8 => (4, false)
  | _ => (1, false)

/-- The outputs of `xfm` and its FPX flags: a NaN or an infinity gives canonical NaNs and invalid (R154). -/
def run (fn : Nat) (ws : List Word) : List Word × Fp.Flags :=
  if ws.any (fun w => !Fp.isFinite w) then (List.replicate (outputs fn) Fp.qNaN, Fp.invalid)
  else if fn = 7 && ws.all Fp.isZero then ([Fp.pZero, Fp.pZero], 0)
  else if fn = 9 then ([if (wrapFix (fix (ws.getD 0 0)) = fix (ws.getD 0 0)) then ws.getD 0 0
      else unfix (wrapFix (fix (ws.getD 0 0)))], 0)
  else
    let ex := exact fn ws
    ((List.range ex.length).map (fun k =>
      pick (ex.getD k (0, 0)).1 (ex.getD k (0, 0)).2 (Config.xfmRaw fn ws k)), 0)

end Sys2Proof.Machine.Xfm
end

