-- ==== Sys2Proof/Machine/Prims.lean ====
section
/-! DEFINITION. Prims.lean: the primitive instructions (R147 to R171). A register result is written at once;
every other effect is staged in the block and takes effect at its commit point (R148). -/

namespace Sys2Proof.Machine

/-- A violation at the instruction itself: it names the instruction's place in IM. -/
def Module.violHere (m : Module) (e : Nat) (b : Blk) (reason : Nat) : Stop :=
  .violation reason 3 (m.imOff e b b.pc) false

/-- The checks of R151 in their order: 0x49 for `pwst` and `lnx` in a monitoring task, 0x4A for a unit not
booked, 0x51 for a register range (first, count) past register 31, 0x52 for an output (type, instance) that
the certificate does not list. -/
def Module.primCheck (m : Module) (e : Nat) (b : Blk) (noMon : Bool) (booked : TaskInfo → Bool)
    (ranges : List (Nat × Nat)) (outs : List (Nat × Nat)) : Except Stop Unit := do
  let t ← m.certE e b
  if noMon && b.mon then .error (m.violHere e b 0x49)
  else if !booked t then .error (m.violHere e b 0x4A)
  else if ranges.any (fun r => decide (32 < r.1 + r.2)) then .error (m.violHere e b 0x51)
  else if outs.any (fun o => !t.outs.contains o) then .error (m.violHere e b 0x52)
  else .ok ()

/-! ### `loop` (R152, R174 to R178) -/

/-- The unit's working values in the block: as staged, else as committed. -/
def Module.luNow (m : Module) (b : Blk) (u : Nat) : LuState :=
  (SMap.getD none b.st.lu u).getD (m.luState u)

/-- Issue `loop` on unit `u`: 96 to 127 are undefined encodings (R147). -/
def Module.loopOp (m : Module) (x : Issue) (u : Nat) (f : Module → Blk → LuState → Blk) : Module :=
  m.issue x 1 (fun m b =>
    if 96 ≤ u then .error .shape
    else do
      m.primCheck x.le b false (fun t => t.luMap.testBit u) [] []
      pure (m, f m b (m.luNow b u)))

/-- STEP: OPEN and HELD answer OUT and compute nothing (R177). -/
def Module.luApply (m : Module) (u d : Nat) (e ff : Word) (b : Blk) (l : LuState) : Blk :=
  if m.luMode u = 3 then
    let r := m.luStep u l e ff
    { b with regs := b.regs.setF d r.1, st := { b.st with lu := SMap.setD none b.st.lu u (some r.2) } }
  else { b with regs := b.regs.setF d l.out }

/-- STEP (R152). -/
def execLoopStep (x : Issue) (d a b : Fin 32) (u : Fin 128) (s : State) :=
  s.run (·.loopOp x u (fun m k l => m.luApply u d (k.regs.rF a) (k.regs.rF b) k l))
/-- STEP_DIFF: fA − fB rounded once, feed-forward 0 (R152). -/
def execLoopStepDiff (x : Issue) (d a b : Fin 32) (u : Fin 128) (s : State) :=
  s.run (·.loopOp x u (fun m k l => m.luApply u d (Fp.subV (k.regs.rF a) (k.regs.rF b)) 0 k l))
/-- TRACK, in all three states alike (R178). -/
def execLoopTrack (x : Issue) (d a b : Fin 32) (u : Fin 128) (s : State) :=
  s.run (·.loopOp x u (fun m k l =>
    let r := m.luTrack u l (k.regs.rF a) (k.regs.rF b)
    { k with regs := k.regs.setF d r.1, st := { k.st with lu := SMap.setD none k.st.lu u (some r.2) } }))
/-- PEEK (R152). -/
def execLoopPeek (x : Issue) (d : Fin 32) (u : Fin 128) (s : State) :=
  s.run (·.loopOp x u (fun _ k l => { k with regs := k.regs.setF d l.out }))
/-- STATUS (R152). -/
def execLoopStatus (x : Issue) (d : Fin 32) (u : Fin 128) (s : State) :=
  s.run (·.loopOp x u (fun m k l => { k with regs := k.regs.setG d (m.luStatus u l) }))

/-! ### `xfm` (R153, R154) -/

/-- Write a list of f registers from `d` on. -/
def RegFile.setFs (r : RegFile) (d : Nat) : List Word → RegFile
  | [] => r
  | w :: ws => (r.setF d w).setFs (d + 1) ws

/-- The inputs of a function: consecutive registers from fA, then the angle in fB where it has one. -/
def xfmInputs (fn a b : Nat) (r : RegFile) : List Word :=
  (List.range (Xfm.inputs fn).1).map (fun k => r.rF (a + k)) ++ if (Xfm.inputs fn).2 then [r.rF b] else []

/-- Issue `xfm` function `fn` on unit `u`: every input is read before any output is written. -/
def Module.xfm (m : Module) (x : Issue) (fn d a b u : Nat) : Module :=
  m.issue x 1 (fun m k => do
    m.primCheck x.le k false (fun t => t.xsMap.testBit u)
      [(d, Xfm.outputs fn), (a, (Xfm.inputs fn).1)] []
    let o := Xfm.run fn (xfmInputs fn a b k.regs)
    pure (m, { k with regs := (k.regs.setFs d o.1).orX o.2 }))

/-- CLARKE. -/
def execXfmClarke (x : Issue) (d a b : Fin 32) (u : Fin 4) (s : State) := s.run (·.xfm x 0 d a b u)
/-- ICLARKE. -/
def execXfmIclarke (x : Issue) (d a b : Fin 32) (u : Fin 4) (s : State) := s.run (·.xfm x 1 d a b u)
/-- PARK. -/
def execXfmPark (x : Issue) (d a b : Fin 32) (u : Fin 4) (s : State) := s.run (·.xfm x 2 d a b u)
/-- IPARK. -/
def execXfmIpark (x : Issue) (d a b : Fin 32) (u : Fin 4) (s : State) := s.run (·.xfm x 3 d a b u)
/-- ABC2DQ. -/
def execXfmAbc2dq (x : Issue) (d a b : Fin 32) (u : Fin 4) (s : State) := s.run (·.xfm x 4 d a b u)
/-- DQ2ABC. -/
def execXfmDq2abc (x : Issue) (d a b : Fin 32) (u : Fin 4) (s : State) := s.run (·.xfm x 5 d a b u)
/-- SINCOS. -/
def execXfmSincos (x : Issue) (d a b : Fin 32) (u : Fin 4) (s : State) := s.run (·.xfm x 6 d a b u)
/-- ATAN2. -/
def execXfmAtan2 (x : Issue) (d a b : Fin 32) (u : Fin 4) (s : State) := s.run (·.xfm x 7 d a b u)
/-- SEQ. -/
def execXfmSeq (x : Issue) (d a b : Fin 32) (u : Fin 4) (s : State) := s.run (·.xfm x 8 d a b u)
/-- WRAP. -/
def execXfmWrap (x : Issue) (d a b : Fin 32) (u : Fin 4) (s : State) := s.run (·.xfm x 9 d a b u)

/-! ### `sel` (R155, R156) -/

/-- Insert into a list kept in order of `le`. -/
def insertBy {α : Type} (le : α → α → Bool) (v : α) : List α → List α
  | [] => [v]
  | w :: r => if le v w then v :: w :: r else w :: insertBy le v r

/-- A list in order of `le`. -/
def sortBy {α : Type} (le : α → α → Bool) (l : List α) : List α := l.foldr (insertBy le) []

/-- The cells of arm `k` in a view: enumerated entries whose arm field is k. -/
def Module.armCells (m : Module) (k : Nat) : List Nat :=
  (List.range 4096).filter (fun i => (m.mn (0x01800000 + 48 * i) 4).testBit 31 && m.cellArm i == k)

/-- Cell-table STATE of entry `i` (R407). -/
def Module.cellState (m : Module) (i : Nat) : Nat := bitsN (m.mn (0x01800000 + 48 * i + 4) 4) 3 0

/-- Bit `i` of the committed insertion map (R156). -/
def Module.inserted (m : Module) (i : Nat) : Bool :=
  (m.mn (0x0183A040 + i / 8) 1).testBit (i % 8)

/-- The key of a candidate (R155): its VCAP, moved by BAND in its favour where it is inserted; saturating. -/
def Module.selKey (m : Module) (dir : Bool) (band i : Nat) : Nat :=
  let v := m.mn (0x01800000 + 48 * i + 0x12) 2
  if !m.inserted i then v
  else if dir then v - band else min 0xFFFF (v + band)

/-- The selection of one arm on a view: the cells to insert, and whether the arm is short (R155). -/
def Module.selArm (m : Module) (k : Nat) (req : Nat) : List Nat × Bool :=
  let dir := req.testBit 15
  let n := bitsN req 10 0
  let c := ((m.armCells k).filter (fun i => m.cellState i == 1)).map (fun i => (m.selKey dir (bitsN req 31 16) i, i))
  let le (p q : Nat × Nat) : Bool :=
    if p.1 = q.1 then decide (p.2 ≤ q.2) else if dir then decide (p.1 < q.1) else decide (q.1 < p.1)
  (((sortBy le c).take n).map (·.2), decide (c.length < n))

/-- The view frozen at the block's start tick (R149). -/
def Module.view (m : Module) (b : Blk) : Module := { m with mem := b.viewMem, pb := { m.pb with sv := b.viewSv } }

/-- `sel` (R155): S of 0 or above 16 is an undefined encoding. -/
def execSelSelection (x : Issue) (d a b : Fin 32) (n : Fin 32) (s : State) :=
  s.run (·.issue x 1 (fun m k =>
    if n.val = 0 ∨ 16 < n.val then .error .shape
    else do
      m.primCheck x.le k false (fun t => t.xsMap.testBit 4) [] []
      let arms := (List.range 12).filter (fun i => (k.regs.rg a).toNat.testBit i)
      let reqs ← arms.mapM (fun i => do
        let w ← m.dmLoad x.le k ((k.regs.rg b).toNat + 4 * i)
        pure (i, w.toNat))
      let v := m.view k
      let cells := (arms.map (fun i => (v.armCells i).length)).sum
      if 256 * n.val < cells ∨ reqs.any (fun r => decide (1024 < bitsN r.2 10 0)) then
        .error (m.violHere x.le k 0x56)
      else
        let res := reqs.map (fun r => (r.1, v.selArm r.1 r.2))
        let short := res.foldl (fun w r => if r.2.2 then w ||| 1 <<< r.1 else w) 0
        let kept := k.st.sel.filter (fun p => !arms.contains p.1)
        pure (m, { k with regs := k.regs.setG d (BitVec.ofNat 32 short),
                          st := { k.st with sel := kept ++ res } })))

/-! ### `pwst` (R157, R158) -/

/-- The register of a consist field of generator `g` (R157). -/
def consistReg (field g : Nat) : Nat :=
  match field with
  | 0 => R.PWM_PERIOD g
  | 1 => R.PWM_PHASE g
  | 2 => R.PWM_CMPA g
  | 3 => R.PWM_CMPB g
  | 4 => R.PWM_DTR g
  | 5 => R.PWM_DTF g
  | 6 => R.PWM_TRIG0 g
  | _ => R.PWM_TRIG1 g

/-- Bits of a consist field (R283). -/
def consistWidth (field : Nat) : Nat :=
  match field with
  | 0 => 24
  | 4 | 5 => 19
  | _ => 32

/-- The fields that take a fraction (R157). -/
def consistFrac (field : Nat) : Bool := field == 1 || field == 2 || field == 3 || field == 6 || field == 7

/-- Members of group `g` (R263). -/
def Module.groupMembers (m : Module) (g : Nat) : List Nat :=
  (List.range 32).filter (fun n => bitN (m.cf (R.PWM_GRP_MEM g) F.PWM_GRP_MEM_MEM) n = 1)

/-- The group a generator belongs to. -/
def Module.groupOf (m : Module) (n : Nat) : Option Nat :=
  (List.range 32).find? (fun g => bitN (m.cf (R.PWM_GRP_MEM g) F.PWM_GRP_MEM_MEM) n = 1)

/-- Group `g` is bound to a service of the active copy (R263). -/
def Module.groupBound (m : Module) (g : Nat) : Bool := m.flag (R.PWM_GRP_SVC g) F.PWM_GRP_SVC_BOUND

/-- A PERIOD write to generator `n` is ignored (R263): by a single write to any member, by any write in a bound
group. -/
def Module.periodIgnored (m : Module) (byGroup : Bool) (n : Nat) : Bool :=
  match m.groupOf n with
  | some g => !byGroup || m.groupBound g
  | none => false

/-- What a consist field of generator `g` holds in its shadow register: the active value with the commits made
in time for the next reload laid over it (R157, R264). -/
def Module.shadow (m : Module) (g addr : Nat) : Word :=
  let x := m.gen g
  let due := x.start + (x.frac + x.plan.period + 1023) / 1024
  (x.commits.filter (fun c => c.addr == addr && (!x.running || decide (c.at' + reloadGuard ≤ due)))).foldl
    (fun _ c => c.val) (BitVec.ofNat 32 (m.rn addr))

/-- Round num/2^k to an integer, ties to even. -/
def rneShift (n k : Nat) : Nat := (Fp.shiftRne n k).1

/-- x·P·1,024 rounded once, ties to even, of a positive finite x. -/
def fracTimes (x : Word) (p : Nat) : Nat :=
  let n := Fp.mant x * p * 1024
  if 0 ≤ Fp.exp2 x then n <<< (Fp.exp2 x).toNat else rneShift n (-(Fp.exp2 x)).toNat

/-- A compare fraction (R157). -/
def cmpFrac (x : Word) (p : Nat) : Word :=
  if Fp.isNaN x || Fp.le x 0 then 0
  else if Fp.ge x Fp.one then 0xFFFFFFFF
  else
    let n := fracTimes x p
    if n = 0 then 0 else if p * 1024 ≤ n then 0xFFFFFFFF else BitVec.ofNat 32 n

/-- A position fraction, reduced modulo 1 exactly (R157). -/
def posFrac (x : Word) (p : Nat) : Word :=
  if !Fp.isFinite x then 0
  else
    let k := (-(Fp.exp2 x)).toNat
    let m : Int := Fp.sMant x % (2 ^ k : Nat)
    let n := if 0 ≤ Fp.exp2 x then 0 else rneShift (m.toNat * p * 1024) k
    if n = p * 1024 then 0 else BitVec.ofNat 32 n

/-- The PERIOD a fraction uses: staged earlier in the block for the generator, else its shadow PERIOD (R157). -/
def Module.fracPeriod (m : Module) (b : Blk) (g : Nat) : Nat :=
  match b.st.fields.find? (fun f => f.inst == g && f.field == 0 && !m.periodIgnored f.group g) with
  | some f => f.val.toNat
  | none => (m.shadow g (R.PWM_PERIOD g)).toNat

/-- The value `pwst` stages for generator `g`, or violation 0x53 (R157, R259). -/
def Module.pwstVal (m : Module) (e : Nat) (b : Blk) (frac : Bool) (a field g : Nat) : Except Stop Word :=
  if frac then
    let p := m.fracPeriod b g
    if !consistFrac field ∨ 4194304 ≤ p then .error (m.violHere e b 0x53)
    else .ok (if field = 2 ∨ field = 3 then cmpFrac (b.regs.rF a) p else posFrac (b.regs.rF a) p)
  else if 2 ^ consistWidth field ≤ (b.regs.rg a).toNat then .error (m.violHere e b 0x53)
  else .ok (b.regs.rg a)

/-- Stage one field; a second write to it in the block replaces the first (R158). -/
def stageField (b : Blk) (f : StagedField) : Blk :=
  let same (o : StagedField) : Bool := o.inst == f.inst && o.field == f.field && o.group == f.group
  { b with st := { b.st with fields := f :: b.st.fields.filter (fun o => !same o) } }

/-- `pwst` (R157): fields 0x08 to 0x1F are undefined; a group write stages the field on every member. -/
def execPwst (x : Issue) (grp frac : Bool) (a inst field : Fin 32) (s : State) :=
  s.run (·.issue x 1 (fun m b =>
    if 8 ≤ field.val then .error .shape
    else do
      let gens := if grp then m.groupMembers inst else [inst.val]
      m.primCheck x.le b true (fun _ => true) [] (gens.map (fun g => (1, g)))
      let fs ← gens.mapM (fun g => do
        let v ← m.pwstVal x.le b frac a field g
        pure (⟨grp, g, field, v⟩ : StagedField))
      pure (m, fs.foldl stageField b)))

/-! ### `svrd` (R159) -/

/-- Word `w` of SV subscription entry `n`, as it acts (R211, R212). -/
def Module.svEntry (m : Module) (n w : Nat) : Nat := m.mnE (0x01840000 + 64 * n + 4 * w) 4

/-- An SV subscription is enabled and valid (R212). -/
def Module.svEnabled (m : Module) (n : Nat) : Bool :=
  let w := m.svEntry n 0
  w.testBit 31 && bitsN w 25 23 ≤ 4 && 1 ≤ bitsN w 20 16 && bitsN w 20 16 ≤ 24 && bitsN w 22 21 != 3

/-- The time of a sample in nanoseconds. -/
def SvSample.nanos (x : SvSample) : Nat := x.sec * 1000000000 + x.ns

/-- The samples of a platform. -/
def Platform.samples (p : Platform) : List SvSample := p.slots.filterMap (·.2)

/-- The sample with the latest time at or before `t`. -/
def Platform.before (p : Platform) (t : Int) : Option SvSample :=
  (p.samples.filter (fun x => decide ((x.nanos : Int) ≤ t))).foldl
    (fun o x => match o with
      | none => some x
      | some y => if y.nanos ≤ x.nanos then some x else some y) none

/-- The earliest sample after `t`. -/
def Platform.after (p : Platform) (t : Int) : Option SvSample :=
  (p.samples.filter (fun x => decide (t < (x.nanos : Int)))).foldl
    (fun o x => match o with
      | none => some x
      | some y => if x.nanos ≤ y.nanos then some x else some y) none

/-- A platform's content before anything arrives: lost (R217). -/
def Platform.init : Platform := ⟨[], true⟩

/-- The platform of subscription `n`. -/
def Module.platform (m : Module) (n : Nat) : Platform := SMap.getD Platform.init m.pb.sv n

/-- The divisor of a channel's unit: 1 mA per bit for a current, 10 mV for a voltage (R159, R212). -/
def Module.svScale (m : Module) (n chan : Nat) : Nat := if (m.svEntry n 6).testBit chan then 100 else 1000

/-- A channel's INT32 in a sample. -/
def SvSample.val (x : SvSample) (chan : Nat) : Int := (x.vals.getD chan 0).toInt

/-- The flags 5 to 1 of gQ for the samples used. -/
def svFlags (chan : Nat) (xs : List SvSample) : Nat :=
  let f (b : Bool) (n : Nat) := if b then n else 0
  f (xs.any (fun x => x.synch == 0)) 32 + f (xs.any (·.sim)) 16
    + f (xs.any (fun x => (x.quals.getD chan 0).toNat % 4 != 0)) 8
    + f (xs.any (·.marked)) 4 + f (xs.any (·.filled)) 2

/-- gQ (R159): VALID is 1 when bits 8, 6, 5, 4, 3 and 2 are all 0. -/
def svStatus (age : Nat) (old future lost : Bool) (fl : Nat) : Word :=
  let f (b : Bool) (n : Nat) := if b then n else 0
  let q := age <<< 16 + f old 256 + f future 128 + f lost 64 + fl
  BitVec.ofNat 32 (q + if q &&& 0x17C = 0 then 1 else 0)

/-- Channel `chan` of a stream at time `t` in ns of the time of day (R159): the value, gQ, and the machine after any draw of
a free value. With no sample at or before it AGE is a value the spec does not state: a free value. -/
def Module.svReading (m : Module) (b : Blk) (interp : Bool) (t : Int) (n chan : Nat) : Module × Word × Word :=
  let p := (m.view b).platform n
  match p.before t with
  | none =>
    let f := m.free
    (f.2, Fp.qNaN, svStatus (f.1.toNat % 0x10000) true (interp && (p.after t).isNone) p.lost 0)
  | some s0 =>
    let age := min 0xFFFF ((t - s0.nanos).toNat / 100)
    let k := m.svScale n chan
    match (if interp then p.after t else none) with
    | some s1 =>
      let num := s0.val chan * (s1.nanos - t) + s1.val chan * (t - s0.nanos)
      let v := if s0.marked || s1.marked then Fp.qNaN else Fp.ratio num (k * (s1.nanos - s0.nanos))
      (m, v, svStatus age false false p.lost (svFlags chan [s0, s1]))
    | none =>
      let v := if s0.marked then Fp.qNaN else Fp.ratio (s0.val chan) k
      (m, v, svStatus age false interp p.lost (svFlags chan [s0]))

/-- A stream and channel that `svrd` may not name: violation 0x54 (R159). -/
def Module.svUnread (m : Module) (n chan : Nat) : Bool :=
  !m.svEnabled n || decide (bitsN (m.svEntry n 0) 20 16 ≤ chan)

/-- The start of the present minor period in ns of the time of day. -/
def Module.periodNanos (m : Module) (b : Blk) : Int := (m.todNanos : Int) - 2 * ((m.now : Int) - b.periodStart)

/-- `svrd` (R159): the instant is signed ns from the start of the present minor period, in time of day. -/
def Module.svrd (m : Module) (x : Issue) (interp : Bool) (d a q n chan : Nat) : Module :=
  m.issue x 1 (fun m b =>
    if m.svUnread n chan then .error (m.violHere x.le b 0x54)
    else
      let r := m.svReading b interp (m.periodNanos b + (b.regs.rg a).toInt) n chan
      .ok (r.1, { b with regs := (b.regs.setF d r.2.1).setG q r.2.2 }))

/-- NEAREST (R159). -/
def execSvrdNearest (x : Issue) (d a q stream chan : Fin 32) (s : State) :=
  s.run (·.svrd x false d a q stream chan)
/-- INTERP (R159). -/
def execSvrdInterp (x : Issue) (d a q stream chan : Fin 32) (s : State) :=
  s.run (·.svrd x true d a q stream chan)

/-! ### `lnx` (R160, R161) -/

/-- The port can be named (R160): configured, and not the odd port of a double line. -/
def Module.portNamed (m : Module) (p : Nat) : Bool :=
  (m.port p).cfg.en && !(p % 2 == 1 && (m.port (p - 1)).cfg.double)

/-- The checks of `lnx` that come after those of R151: 0x55 for the port and the cell index. -/
def Module.lnxCheck (m : Module) (e : Nat) (b : Blk) (p : Nat) (cell : Option Nat) : Except Stop Unit :=
  if !m.portNamed p ∨ cell.any (fun c => decide ((m.port p).cfg.count ≤ c)) then .error (m.violHere e b 0x55)
  else .ok ()

/-- The table entry of cell `c` of port `p` (R405). -/
def Module.cellEntry (m : Module) (p c : Nat) : Nat := 0x01800000 + 48 * ((m.port p).cfg.base + c)

/-- Stage a command for a cell; a second one in the block replaces the first (R160). -/
def stageCmd (p : Nat) (b : Blk) (c : Nat) (bytes : List Byte) : Blk :=
  { b with st := { b.st with cmds := b.st.cmds.filter (fun o => !(o.1 == p && o.2.1 == c)) ++ [(p, c, bytes)] } }

/-- The 8 bytes of a register pair. -/
def pairBytes (r : RegFile) (n : Nat) : List Byte := leBytes 4 (r.rg n).toNat ++ leBytes 4 (r.rg (n + 1)).toNat

/-- CMD (R160). -/
def execLnxCmd (x : Issue) (a b : Fin 32) (port : Fin 16) (s : State) :=
  s.run (·.issue x 1 (fun m k => do
    m.primCheck x.le k true (fun _ => true) [(b, 2)] [(2, port)]
    m.lnxCheck x.le k port (some (k.regs.rg a).toNat)
    pure (m, stageCmd port k (k.regs.rg a).toNat (pairBytes k.regs b))))

/-- RESP (R160): the last valid fast response in the frozen view. -/
def execLnxResp (x : Issue) (d a : Fin 32) (port : Fin 16) (s : State) :=
  s.run (·.issue x 1 (fun m k => do
    m.primCheck x.le k true (fun _ => true) [(d, 2)] []
    m.lnxCheck x.le k port (some (k.regs.rg a).toNat)
    let p := m.cellEntry port (k.regs.rg a).toNat + 0x10
    let v := m.view k
    pure (m, { k with regs := (k.regs.setG d (v.mw p)).setG (d + 1) (v.mw (p + 4)) })))

/-- RSTAT (R160): cycles since the last response; with none ever, bit 31 and a count the spec does not state. -/
def execLnxRstat (x : Issue) (d a : Fin 32) (port : Fin 16) (s : State) :=
  s.run (·.issue x 1 (fun m k => do
    m.primCheck x.le k true (fun _ => true) [] []
    m.lnxCheck x.le k port (some (k.regs.rg a).toNat)
    let p := m.cellEntry port (k.regs.rg a).toNat
    let v := m.view k
    if (v.mn (p + 0x10) 1).testBit 7 then
      let since := (k.viewCyc.getD port 0 + 2 ^ 32 - v.mn (p + 0x20) 4) % 2 ^ 32
      pure (m, { k with regs := k.regs.setG d (BitVec.ofNat 32 (min 0xFFFF since)) })
    else
      let f := m.free
      pure (f.2, { k with regs := k.regs.setG d (BitVec.ofNat 32 (2 ^ 31 + f.1.toNat % 0x10000)) })))

/-- APPLY (R160): an offset above 0xFFFF is violation 0x53, after 0x55. -/
def execLnxApply (x : Issue) (b : Fin 32) (port : Fin 16) (s : State) :=
  s.run (·.issue x 1 (fun m k => do
    m.primCheck x.le k true (fun _ => true) [] [(2, port)]
    m.lnxCheck x.le k port none
    if 0xFFFF < (k.regs.rg b).toNat then .error (m.violHere x.le k 0x53)
    else
      let others := k.st.apply.filter (fun o => o.1 ≠ port.val)
      pure (m, { k with st := { k.st with apply := others ++ [(port.val, (k.regs.rg b).toNat)] } })))

/-- Whether the selection in force in the block inserts cell-table entry `i` of arm `arm` (R160): the block's
staged result, else the committed one. -/
def Module.armInserts (m : Module) (b : Blk) (arm i : Nat) : Bool :=
  match b.st.sel.find? (fun s => s.1 == arm) with
  | some s => s.2.1.contains i
  | none => m.inserted i

/-- The template with its insert bit (R395: bit 2 of byte 0). -/
def withIns (t : List Byte) (ins : Bool) : List Byte :=
  match t with
  | [] => []
  | b :: r => (if ins then b ||| 4 else b &&& 0xFB) :: r

/-- ARM (R160): the template for every cell of the arm on the port. -/
def execLnxArm (x : Issue) (a b : Fin 32) (port : Fin 16) (s : State) :=
  s.run (·.issue x 1 (fun m k => do
    m.primCheck x.le k true (fun _ => true) [(b, 2)] [(2, port)]
    m.lnxCheck x.le k port none
    let arm := (k.regs.rg a).toNat
    let base := (m.port port).cfg.base
    let cells := (List.range (m.port port).cfg.count).filter (fun c => (m.view k).cellArm (base + c) == arm)
    pure (m, cells.foldl (fun k c =>
      stageCmd port k c (withIns (pairBytes k.regs b) (m.armInserts k arm (base + c)))) k)))

/-- SLOW (R160, R416): a READ whose range passes point 255 is violation 0x53. -/
def execLnxSlow (x : Issue) (a b : Fin 32) (port : Fin 16) (s : State) :=
  s.run (·.issue x 1 (fun m k => do
    m.primCheck x.le k true (fun _ => true) [] [(2, port)]
    m.lnxCheck x.le k port (some (k.regs.rg a).toNat)
    let w := (k.regs.rg b).toNat
    if !w.testBit 31 ∧ 255 < bitsN w 23 16 + bitsN w 27 24 then .error (m.violHere x.le k 0x53)
    else pure (m, { k with st := { k.st with
      slow := k.st.slow ++ [(port.val, (k.regs.rg a).toNat, k.regs.rg b)] } })))

/-! ### `macc`, `evt`, `hpost` (R162 to R165) -/

/-- `macc` (R162, R165): duration 1 to 10,000,000 ns; at most 4 sets a point. -/
def execMacc (x : Issue) (mp : Fin 4) (a b : Fin 32) (s : State) :=
  s.run (·.issue x 1 (fun m k => do
    m.primCheck x.le k false (fun _ => true) [(a, 12)] [(3, mp)]
    let dur := (k.regs.rg b).toNat
    if dur = 0 ∨ 10000000 < dur then .error (m.violHere x.le k 0x57)
    else if 4 ≤ (k.st.sets.filter (fun o => o.mp == mp.val)).length then .error (m.violHere x.le k 0x59)
    else
      let set : StagedSet := ⟨mp, (List.range 12).map (fun i => k.regs.rF (a + i)), dur⟩
      pure (m, { k with st := { k.st with sets := k.st.sets ++ [set] } })))

/-- Stage an `evt` entry (R163, R165): one already staged for the source or event is replaced; a 17th entry is
violation 0x59. -/
def Module.stageEvt (m : Module) (e : Nat) (k : Blk) (kind code : Nat) (w : Word) : Except Stop Blk :=
  let same (o : Nat × Nat × Word) : Bool := o.1 == kind && o.2.1 == code
  if k.st.evts.any same then
    .ok { k with st := { k.st with evts := k.st.evts.map (fun o => if same o then (kind, code, w) else o) } }
  else if 16 ≤ k.st.evts.length then .error (m.violHere e k 0x59)
  else .ok { k with st := { k.st with evts := k.st.evts ++ [(kind, code, w)] } }

/-- The source is marked as raisable by programs in the source table (R163, R488). -/
def Module.raisable (_m : Module) (src : Nat) : Bool := sourceProgram src

/-- `evt` KIND 0 (R163): a source not raisable by programs is violation 0x58. -/
def execEvtFault (x : Issue) (code : BitVec 8) (a : Fin 32) (s : State) :=
  s.run (·.issue x 1 (fun m k => do
    if !m.raisable code.toNat then .error (m.violHere x.le k 0x58)
    else
      let k' ← m.stageEvt x.le k 0 code.toNat (k.regs.rg a)
      pure (m, k')))
/-- `evt` READY (R163). -/
def execEvtReady (x : Issue) (a : Fin 32) (s : State) :=
  s.run (·.issue x 1 (fun m k => do
    let k' ← m.stageEvt x.le k 1 0 (k.regs.rg a)
    pure (m, k')))
/-- `evt` STOPPED (R163). -/
def execEvtStopped (x : Issue) (a : Fin 32) (s : State) :=
  s.run (·.issue x 1 (fun m k => do
    let k' ← m.stageEvt x.le k 1 1 (k.regs.rg a)
    pure (m, k')))

/-- `hpost` (R164, R165): a later post to the same mailbox in the block replaces the earlier one. -/
def execHpost (x : Issue) (mbx : Fin 8) (a b : Fin 32) (s : State) :=
  s.run (·.issue x 1 (fun m k =>
    let others := k.st.posts.filter (fun o => o.1 ≠ mbx.val)
    .ok (m, { k with st := { k.st with posts := others ++ [(mbx.val, k.regs.rg a, k.regs.rg b)] } })))

/-! ### `wait` (R167, R168) -/

/-- The last instance of an event kind (R167). -/
def waitMax (ev : Nat) : Nat :=
  match ev with
  | 0 => 0
  | 1 | 4 => 3
  | _ => 15

/-- Issue `wait` (R167, R168): an instance outside its range and a bound of 0 are undefined encodings; an elastic
block is violation 0x50. EV 0x2 arms its capture unit. -/
def Module.wait (m : Module) (x : Issue) (ev d n w : Nat) : Module :=
  m.issueRaw x (fun m b =>
    if w = 0 ∨ waitMax ev < n then .error .shape
    else if !b.firm then .error (m.violHere x.le b 0x50)
    else .ok (if ev = 2 then m.armCapture n else m, { b with wait := some ⟨ev, n, w, m.now, d⟩ }))

/-- DELAY. -/
def execWaitDelay (x : Issue) (d : Fin 32) (n : Fin 16) (w : BitVec 13) (s : State) := s.run (·.wait x 0 d n w.toNat)
/-- ADC sequence readable. -/
def execWaitAdc (x : Issue) (d : Fin 32) (n : Fin 16) (w : BitVec 13) (s : State) := s.run (·.wait x 1 d n w.toNat)
/-- Arm a capture unit, then its capture. -/
def execWaitArmCapture (x : Issue) (d : Fin 32) (n : Fin 16) (w : BitVec 13) (s : State) :=
  s.run (·.wait x 2 d n w.toNat)
/-- A capture armed elsewhere. -/
def execWaitCapture (x : Issue) (d : Fin 32) (n : Fin 16) (w : BitVec 13) (s : State) :=
  s.run (·.wait x 3 d n w.toNat)
/-- A reload of a service's PWM group. -/
def execWaitReload (x : Issue) (d : Fin 32) (n : Fin 16) (w : BitVec 13) (s : State) :=
  s.run (·.wait x 4 d n w.toNat)
/-- A comparator event route. -/
def execWaitComparator (x : Issue) (d : Fin 32) (n : Fin 16) (w : BitVec 13) (s : State) :=
  s.run (·.wait x 5 d n w.toNat)
/-- A ring port's cycle complete. -/
def execWaitRingCycle (x : Issue) (d : Fin 32) (n : Fin 16) (w : BitVec 13) (s : State) :=
  s.run (·.wait x 6 d n w.toNat)

/-- The tick of the event that releases a wait, if one has occurred (R167, R280): since the start of the present
minor period for a latched event, since the arming for EV 0x2; never for DELAY; not after the bound. -/
def Module.waitEvent (m : Module) (b : Blk) (w : WaitFor) : Option Nat :=
  let ev := if w.ev = 2 then 3 else w.ev
  let since := if w.ev = 2 then w.from' else b.periodStart
  if w.ev = 0 then none
  else match m.lastEvent ev w.inst with
    | some t => if since ≤ t ∧ t ≤ w.from' + w.bound then some t else none
    | none => none

/-- A wait releases on its event or its bound (R167): bit 0 is 1 for an event; bits 31:8 hold the release tick from
the period start, or for a capture the tick of the capture. Before either nothing happens. -/
def Module.waitRelease (m : Module) (e : Nat) : Module :=
  match m.blk e with
  | none => m
  | some b =>
    match b.wait with
    | none => m
    | some w =>
      if b.state ≠ .running then m else
      let fin (tick bit : Nat) : Module :=
        let v := ((tick - b.periodStart) % 2 ^ 24) <<< 8 + bit
        let b1 := { b with wait := none, regs := b.regs.setG w.dest (BitVec.ofNat 32 v) }
        match b1.goto (b1.pc + 1) with
        | .ok b2 => m.setBlk e (some b2)
        | .error _ => m.detect e b1 ⟨0, BitVec.ofNat 24 (m.imOff e b b.pc), false⟩
      match m.waitEvent b w with
      | some t => fin (if w.ev = 2 ∨ w.ev = 3 then t else m.now) 1
      | none => if w.from' + w.bound ≤ m.now then fin m.now 0 else m

/-- WAIT_RELEASE (R167). -/
def execWaitRelease (le : Fin 8) (s : State) := s.run (·.waitRelease le)

end Sys2Proof.Machine
end

