-- ==== Sys2Proof/Machine/Pwm.lean ====
section
/-! DEFINITION. Pwm.lean: what a generator does at its period start (R257 to R272), its pins, and the commands
of the fault lines and generators (R264, R273 to R278). -/

namespace Sys2Proof.Machine

/-! ### Intervals within one period, in units of 1/1,024 tick -/

/-- Intervals, each (from, to). -/
abbrev Spans := List (Nat × Nat)

/-- Drop what is empty. -/
def Spans.clean (l : Spans) : Spans := l.filter (fun i => decide (i.1 < i.2))

/-- What is left of [from, P) when spans in rising order are taken out. -/
def Spans.compl (p : Nat) : Nat → Spans → Spans
  | at', [] => Spans.clean [(at', p)]
  | at', (s, e) :: r => Spans.clean [(at', min s p)] ++ Spans.compl p (max at' e) r

/-- The common part of two span lists. -/
def Spans.inter (a b : Spans) : Spans :=
  Spans.clean (a.flatMap (fun i => b.map (fun j => (max i.1 j.1, min i.2 j.2))))

/-- Delay each rise by `d`; a span that begins at 0 and continues the period before has already run `since`. -/
def Spans.delay (d : Nat) (cont : Bool) (since : Nat) (l : Spans) : Spans :=
  Spans.clean (l.map (fun i => if i.1 = 0 ∧ cont then (d - since, i.2) else (i.1 + d, i.2)))

/-- Cut the active time to `n`, from its end (R33). -/
def Spans.cut : Nat → Spans → Spans
  | _, [] => []
  | n, (s, e) :: r => if e - s ≤ n then (s, e) :: Spans.cut (n - (e - s)) r else Spans.clean [(s, s + n)]

/-- Take the spans `c` out of `l`; a span that resumes where one of `c` ends waits `d` more (R272). -/
def Spans.without (p d : Nat) (l c : Spans) : Spans :=
  Spans.clean ((Spans.inter l (Spans.compl p 0 c)).map (fun i =>
    if c.any (fun j => j.2 == i.1) then (i.1 + d, i.2) else i))

/-- Total active time. -/
def Spans.total (l : Spans) : Nat := (l.map (fun i => i.2 - i.1)).sum

/-! ### Placement (R257, R258) -/

/-- The 4-bit index read in reverse. -/
def bitRev4 (i : Nat) : Nat := bitN i 0 * 8 + bitN i 1 * 4 + bitN i 2 * 2 + bitN i 3

/-- An edge at its fine step, one step later where the dither calls for it (R258). -/
def placeEdge (idx e : Nat) : Nat := e / 16 * 16 + if bitRev4 idx < e % 16 then 16 else 0

/-! ### One period -/

/-- A compare value: nothing, the whole period, or a width; and whether it was clipped (R261). -/
def compareWidth (p v : Nat) : Nat × Bool :=
  if v = 0 then (0, false)
  else if v = 0xFFFFFFFF then (p, false)
  else if p ≤ v then (p, true)
  else (v, false)

/-- The start of a window of width `w` (R260). -/
def windowStart (mode p phase w : Nat) : Nat :=
  if w = p then 0
  else match mode with
    | 1 => (p - w) / 2
    | 2 => phase % p
    | _ => 0

/-- The width of a SHIFT window that begins inside the one before: its start moves to that one's end, its end
stays (R260). Answers start and width. -/
def shiftClip (mode tail start w : Nat) : Nat × Nat :=
  if mode = 2 ∧ start < tail ∧ w ≠ 0 then (tail, start + w - tail) else (start, w)

/-- A width is short (R268). -/
def isShort (p d m w : Nat) : Bool := w != 0 && w != p && (decide (w ≤ d) || decide (w - d < m))

/-- What a short pulse becomes (R269): its new width and carry. `full` is the width that stands for no pulse. -/
def shortTo (policy d m w none' stretched : Nat) (carryOk : Bool) : Nat × Nat :=
  match policy with
  | 1 => (if m = 0 then none' else stretched, 0)
  | 2 => (none', if carryOk then w else 0)
  | _ => let _ := d; (none', 0)

/-- A generator's configuration of one period, read once. -/
structure PerCfg where
  mode : Nat
  indep : Bool
  policy : Nat
  swap : Bool
  p : Nat
  phase : Nat
  cmpA : Nat
  cmpB : Nat
  dtr : Nat
  dtf : Nat
  minp : Nat
  carryA : Nat
  carryB : Nat
  carryOk : Bool
  fa : Nat
  fb : Nat
  limit : Option Nat
  stopped : Bool

/-- The windows of one period: start and width of A and B, short pulses handled, and the carries left. -/
structure Windows where
  aStart : Nat
  aWidth : Nat
  bStart : Nat
  bWidth : Nat
  shorts : Nat
  carryA : Nat
  carryB : Nat
  clip : Bool

/-- Windows of a complementary pair (R260, R261, R268, R269). -/
def pairWindows (c : PerCfg) (tailA : Nat) : Windows :=
  let (w0, clip) := compareWidth c.p c.cmpA
  let extreme := w0 = 0 ∨ w0 = c.p
  let w1 := if extreme then w0 else min c.p (w0 + c.carryA - c.carryB)
  let (s1, w2) := shiftClip c.mode tailA (windowStart c.mode c.p c.phase w1) w1
  let a := isShort c.p c.dtr c.minp w2
  let ra := if a then shortTo c.policy c.dtr c.minp w2 0 (min c.p (c.dtr + c.minp)) c.carryOk else (w2, 0)
  let wB := c.p - ra.1
  let b := isShort c.p c.dtf c.minp wB
  let rb := if b then shortTo c.policy c.dtf c.minp wB c.p (c.p - (c.dtf + c.minp)) c.carryOk else (ra.1, 0)
  let rb := if b && isShort c.p c.dtr c.minp rb.1 then (c.p, 0) else rb
  let start := if rb.1 = w2 then s1 else windowStart c.mode c.p c.phase rb.1
  ⟨start, rb.1, 0, 0, (if a then 1 else 0) + (if b then 1 else 0), ra.2, rb.2, clip⟩

/-- One window of an independent pair: start, width, short, carry, clip. -/
def soloWindow (c : PerCfg) (cmp carry tail : Nat) : Nat × Nat × Bool × Nat × Bool :=
  let (w0, clip) := compareWidth c.p cmp
  let w1 := if w0 = 0 ∨ w0 = c.p then w0 else min c.p (w0 + carry)
  let (s1, w2) := shiftClip c.mode tail (windowStart c.mode c.p c.phase w1) w1
  let sh := isShort c.p 0 c.minp w2
  let r := if sh then shortTo c.policy 0 c.minp w2 0 (min c.p c.minp) c.carryOk else (w2, 0)
  (if r.1 = w2 then s1 else windowStart c.mode c.p c.phase r.1, r.1, sh, r.2, clip)

/-- Windows of either kind of pair. -/
def periodWindows (c : PerCfg) (tailA tailB : Nat) : Windows :=
  if c.indep then
    let (sa, wa, ha, ca, xa) := soloWindow c c.cmpA c.carryA tailA
    let (sb, wb, hb, cb, xb) := soloWindow c c.cmpB c.carryB tailB
    ⟨sa, wa, sb, wb, (if ha then 1 else 0) + (if hb then 1 else 0), ca, cb, xa || xb⟩
  else pairWindows c tailA

/-- The spans of a window in its period, behind the tail of the one before, edges placed. -/
def windowSpans (p idx tail start width : Nat) : Spans :=
  let s := if width = p then 0 else placeEdge idx start
  let e := if width = p then p else placeEdge idx (start + width)
  if width = 0 then Spans.clean [(0, min tail p)]
  else if s ≤ tail then Spans.clean [(0, min (max tail e) p)]
  else Spans.clean [(0, min tail p), (s, min e p)]

/-- A forced output (R271). -/
def forced (p f : Nat) (l : Spans) : Spans :=
  match f with
  | 1 => []
  | 2 => [(0, p)]
  | _ => l

/-- Stages 1 to 7 of R270 over one period. -/
def makePlan (c : PerCfg) (w : Windows) (idx tailA tailB : Nat) (prev : Plan) : Plan :=
  let rawA := windowSpans c.p idx tailA w.aStart w.aWidth
  let rawB := if c.indep then windowSpans c.p idx tailB w.bStart w.bWidth else Spans.compl c.p 0 rawA
  let a := if c.indep then rawA else Spans.delay c.dtr prev.endA prev.since rawA
  let b := if c.indep then rawB else Spans.delay c.dtf (!prev.endA) prev.since rawB
  let (a, b) := if c.swap then (b, a) else (a, b)
  let (da, db) := if c.swap then (c.dtf, c.dtr) else (c.dtr, c.dtf)
  let a := forced c.p c.fa a
  let b := forced c.p c.fb b
  let (a, b) := match c.limit with
    | some d => (Spans.cut (c.p * d / 256) a, Spans.cut (c.p * d / 256) b)
    | none => (a, b)
  let (a, b) := if c.stopped then ([], []) else (a, b)
  let x := if c.indep then [] else Spans.inter a b
  let last := rawA.getLast?
  let endA := last.any (fun i => i.2 == c.p)
  let since := match last with
    | none => if prev.endA then c.p else prev.since + c.p
    | some i =>
      if endA then (if i.1 = 0 ∧ prev.endA then prev.since + c.p else c.p - i.1)
      else c.p - i.2
  ⟨c.p, Spans.without c.p da a x, Spans.without c.p db b x, endA, since, !x.isEmpty⟩

/-! ### The reload -/

/-- SHUNT limits apply to logical generator `g` (R33). -/
def Module.shuntLimited (m : Module) (g : Nat) : Bool :=
  decide (g < 32) && m.rf R.SYS_MODE F.SYS_MODE_MODE == 5 && bitN (m.cf R.SYS_SHUNT_EX F.SYS_SHUNT_EX_EX) g == 0

/-- A write of the consist waits for this reload no longer (R264). -/
def ConsistWrite.due (c : ConsistWrite) (now : Nat) : Bool := decide (c.at' + reloadGuard ≤ now)

/-- Apply to the consist registers the writes made at least 64 ns before this reload (R264, R265), and keep the
rest. -/
def Module.applyConsist (m : Module) (g : Nat) : Module :=
  let x := m.gen g
  let due := x.commits.filter (·.due m.now)
  let rest := x.commits.filter (fun c => !c.due m.now)
  let m := due.foldl (fun m c => m.wr c.addr (c.val.setWidth 64)) m
  m.setGen g { m.gen g with commits := rest }

/-- A consist that a block committed too late for this reload, the first that follows it (R264): after the guard, and not on
the reload's own tick. -/
def Module.noteLate (m : Module) (g : Nat) : Module :=
  let late := (m.gen g).commits.any (fun c => c.block && !c.due m.now && decide (c.at' < m.now))
  if late then
    let m := m.setFlag (R.PWM_STAT g) F.PWM_STAT_CONSIST_LATE true
    let m := m.bump (R.PWM_LATE g) (R.PWM_SAT g) 0
    m.raise FS.PWM_LATE g .none
  else m

/-- The present configuration of generator `g`'s next period. -/
def Module.perCfg (m : Module) (g : Nat) : PerCfg :=
  let ticks := max 32 (m.rf (R.PWM_PERIOD g) F.PWM_PERIOD_TICKS)
  let x := m.gen g
  let lim := m.shuntLimited g
  let step := m.cflag R.SYS_SHUNT F.SYS_SHUNT_STEP
  { mode := m.cf (R.PWM_CFG g) F.PWM_CFG_MODE
    indep := m.cflag (R.PWM_CFG g) F.PWM_CFG_INDEP
    policy := m.cf (R.PWM_CFG g) F.PWM_CFG_POLICY
    swap := m.cflag (R.PWM_CFG g) F.PWM_CFG_SWAP
    p := ticks * 1024 + m.rn (R.PWM_PERFR g) % 1024
    phase := m.rn (R.PWM_PHASE g)
    cmpA := m.rn (R.PWM_CMPA g)
    cmpB := m.rn (R.PWM_CMPB g)
    dtr := (m.deadTime g (R.PWM_DTR g)).1
    dtf := (m.deadTime g (R.PWM_DTF g)).1
    minp := min 128000 (m.cf (R.PWM_MINP g) F.PWM_MINP_FS) * 16
    carryA := m.rn (R.PWM_CARRYA g)
    carryB := m.rn (R.PWM_CARRYB g)
    carryOk := x.act.isNone
    fa := m.rf (R.PWM_FORCE g) F.PWM_FORCE_FA
    fb := m.rf (R.PWM_FORCE g) F.PWM_FORCE_FB
    limit := if lim then some (max 1 (m.cf R.SYS_SHUNT F.SYS_SHUNT_DUTY)) else none
    stopped := lim && step && x.stepLeft == 0 }

/-- Single step at a reload (R33): the N periods count from the first reload at least 64 ns after GO. -/
def Module.stepReload (m : Module) (g : Nat) : Module :=
  let x := m.gen g
  match x.stepWait with
  | some t =>
    if t + reloadGuard ≤ m.now then
      m.setGen g { x with stepWait := none, stepLeft := max 1 (m.cf R.SYS_SHUNT F.SYS_SHUNT_N) }
    else m.setGen g { x with stepLeft := x.stepLeft - 1 }
  | none => m.setGen g { x with stepLeft := x.stepLeft - 1 }

/-- The level an output has at the end of its period. -/
def endLevel (p : Nat) (l : Spans) : Level := if l.any (fun i => i.2 == p) then .active else .inactive

/-- A waiting HOLD takes the levels of the period's end; a released action ends at the first reload at least 64 ns
later (R274, R277). -/
def Module.actReload (m : Module) (g : Nat) : Module :=
  let x := m.gen g
  if x.holdWait ∧ x.act.isNone then
    m.setGen g { x with act := some .hold, holdWait := false,
                        heldA := endLevel x.plan.period x.plan.outA, heldB := endLevel x.plan.period x.plan.outB }
  else match x.act, x.released with
    | some _, some t => if t + reloadGuard ≤ m.now then m.setGen g { x with act := none, released := none } else m
    | _, _ => m

/-- STAT marks of the period's configuration (R259 to R267, R269). -/
def Module.periodMarks (m : Module) (g : Nat) (c : PerCfg) (w : Windows) : Module :=
  let st := R.PWM_STAT g
  let clip := w.clip || decide (m.rf (R.PWM_PERIOD g) F.PWM_PERIOD_TICKS < 32)
  let clamp := !c.indep && ((m.deadTime g (R.PWM_DTR g)).2 || (m.deadTime g (R.PWM_DTF g)).2)
  let m := m.setFlag st F.PWM_STAT_BADCFG (c.mode == 3 || c.policy == 3)
  let m := if clip then m.setFlag st F.PWM_STAT_CLIP true else m
  let m := if clamp then m.setFlag st F.PWM_STAT_DT_CLAMP true else m
  let m := if w.shorts = 0 then m else m.setFlag st F.PWM_STAT_SHORT true
  let m := m.bumpN (R.PWM_SHORT g) (R.PWM_SAT g) 1 w.shorts
  (m.wn (R.PWM_CARRYA g) (min w.carryA c.p)).wn (R.PWM_CARRYB g) (min w.carryB c.p)

/-- An interlock conflict (R272): STAT.ILK, and PWM_ILK at most once a frame. -/
def Module.ilkMark (m : Module) (g : Nat) (p : Plan) : Module :=
  if p.conflict then
    let m := m.setFlag (R.PWM_STAT g) F.PWM_STAT_ILK true
    if (m.gen g).ilkRaised then m
    else (m.setGen g { m.gen g with ilkRaised := true }).raise FS.PWM_ILK g .none
  else m

/-- Place the period that begins now. The end of a SHIFT window that runs on into the next period is placed by the index of its
own (R258, R260). `first`: a new first period (R259), which continues nothing. -/
def Module.beginPeriod (m : Module) (g : Nat) (first : Bool) : Module :=
  let m := m.stepReload g
  let x := m.gen g
  let c := m.perCfg g
  let prev := if first then { Plan.idle with since := 2 ^ 32 } else x.plan
  let tailA := if first then 0 else x.tailA
  let tailB := if first then 0 else x.tailB
  let w := periodWindows c tailA tailB
  let plan := makePlan c w x.idx tailA tailB prev
  let m := m.periodMarks g c w
  let next := x.origin + x.plan.period
  let fall := match x.plan.outA.getLast? with
    | some i => x.origin + i.2
    | none => x.lastFall
  let m := m.setGen g { x with
    running := true
    idx := if first then x.idx else (x.idx + 1) % 16
    start := if first then m.now else next / 1024
    frac := if first then 0 else next % 1024
    lastFall := if x.running then fall else x.lastFall
    tailA := if c.mode = 2 ∧ w.aWidth ≠ c.p then placeEdge x.idx (w.aStart + w.aWidth) - c.p else 0
    tailB := if c.mode = 2 ∧ c.indep ∧ w.bWidth ≠ c.p then placeEdge x.idx (w.bStart + w.bWidth) - c.p else 0
    plan := plan }
  m.ilkMark g plan

/-- A reload of one generator (R264). -/
def Module.reloadGen (m : Module) (g : Nat) (first : Bool) : Module :=
  let m := m.noteLate g
  let m := m.applyConsist g
  let m := m.actReload g
  let m := m.beginPeriod g first
  if first then m else m.accum64 (R.PWM_PERIODS g) 1

/-- Start a generator's first period (R259). -/
def Module.startGen (m : Module) (g : Nat) : Module := m.reloadGen g true

/-- The generators that reload with `g`: its group's, or itself. -/
def Module.reloadSet (m : Module) (g : Nat) : List Nat :=
  match m.groupOf g with
  | some k => m.groupMembers k
  | none => [g]

/-- An enabled generator. -/
def Module.genEnabled (m : Module) (g : Nat) : Bool := m.cflag (R.PWM_CFG g) F.PWM_CFG_EN

/-- GO clears once every limited generator that runs has run its N periods (R33). -/
def Module.stepDone (m : Module) : Module :=
  if m.cflag R.SYS_SHUNT F.SYS_SHUNT_STEP && (List.range 32).any (fun g =>
      m.shuntLimited g && (m.gen g).running && ((m.gen g).stepWait.isSome || (m.gen g).stepLeft != 0)) then m
  else m.setFlag R.SYS_SHUNT F.SYS_SHUNT_GO false

/-- The period of generator `g` is over (R259): its next start lies one full period after the last. -/
def Module.reloadDue (m : Module) (g : Nat) : Bool :=
  decide (((m.gen g).origin + (m.gen g).plan.period) / 1024 ≤ m.now)

/-- A period start (R264): every running member of the group reloads together, and an enabled member that waits for
its group starts (R259). The event of R167 occurs for the service the group is bound to. -/
def Module.pwmReload (m : Module) (g : Nat) : Module :=
  if !m.ticking || !(m.gen g).running || !m.reloadDue g then m else
  let m := (m.reloadSet g).foldl (fun m k =>
    if (m.gen k).running then m.reloadGen k false else if m.genEnabled k then m.startGen k else m) m
  let m := if m.flag R.SYS_SHUNT F.SYS_SHUNT_GO then m.stepDone else m
  match m.groupOf g with
  | some k =>
    if m.groupBound k then m.latchEvent 4 (m.rf (R.PWM_GRP_SVC k) F.PWM_GRP_SVC_SVC) else m
  | none => m

/-- PWM_RELOAD (R264). -/
def execPwmReload (g : Fin 34) (s : State) := s.runOn (·.pwmReload g)

/-! ### Fault lines -/

/-- A request reaches a fault line (R273, R274). -/
def execFaultLineRequest (l : Fin 32) (r : Req) (s : State) := s.runOn (·.requestLine l r)

/-- A request is withdrawn; the line releases with its last one unless it is latched (R277). -/
def execFaultLineRelease (l : Fin 32) (r : Req) (s : State) := s.runOn (·.withdrawLine l r)

/-- A released generator resumes at its first reload at least 64 ns later (R277), with its shadow consist: that
reload. Before it, or with no action released, nothing happens. -/
def execGeneratorResume (g : Fin 34) (s : State) :=
  s.runOn (fun m =>
    match (m.gen g).act, (m.gen g).released with
    | some _, some t => if t + reloadGuard ≤ m.now then m.pwmReload g else m
    | _, _ => m)

/-- Bits of PWM_FL_HOST that a write changes (R273): a 1 requests its line and raises PWM_FL_HOST once, a 0 withdraws
the request. -/
def Module.flHost (m : Module) (v : Nat) : Module :=
  let old := m.rn R.PWM_FL_HOST
  let m := m.wn R.PWM_FL_HOST (v % 2 ^ 32)
  (List.range 32).foldl (fun m l =>
    match old.testBit l, v.testBit l with
    | false, true => (m.requestLine l .host).raise FS.PWM_FL_HOST l .none
    | true, false => m.withdrawLine l .host
    | _, _ => m) m

/-- Stop every generator: no tick reaches it (R190, R194, R259), and its gate commands end. -/
def Module.stopGens (m : Module) : Module :=
  ((List.range 34).foldl (fun m g => m.setGen g { m.gen g with running := false }) m).dropGates

end Sys2Proof.Machine
end

