-- ==== Sys2Proof/Machine/Rings.lean ====
section
/-! DEFINITION. Rings.lean: the cell rings (R389 to R418): fast cycles, the cell table, training, breaks and the slow
channel. -/

namespace Sys2Proof.Machine

/-! ### Configuration and cells -/

/-- A port's configuration registers, as training takes them (R418). -/
def Module.portConfig (m : Module) (p : Nat) : PortCfg :=
  let c := R.LN_CFG p
  { en := m.flag c F.LN_CFG_EN
    double := m.flag c F.LN_CFG_DOUBLE && p % 2 == 0
    svc := m.rf c F.LN_CFG_SVC
    div := max 1 (m.rf c F.LN_CFG_DIV)
    wd := max 2 (m.rf c F.LN_CFG_CELL_WD)
    lostN := if m.rf c F.LN_CFG_LOST_N = 0 then 3 else m.rf c F.LN_CFG_LOST_N
    base := m.rf (R.LN_CELLS p) F.LN_CELLS_BASE
    count := m.rf (R.LN_CELLS p) F.LN_CELLS_COUNT
    ringId := m.rf (R.LN_RING p) F.LN_RING_RINGID
    retHop := m.rf (R.LN_RING p) F.LN_RING_RETHOP }

/-- The information word of R417. -/
def lnInfo (p pos : Nat) : Nat := p + pos <<< 8

/-- No position. -/
abbrev noPos : Nat := 0x1FF

/-- The port runs fast cycles: trained, and not stopped by R400. -/
def Module.portRuns (m : Module) (p : Nat) : Bool :=
  m.rf (R.LN_TRAIN p) F.LN_TRAIN_STATE == 5 && !m.flag (R.LN_STAT p) F.LN_STAT_BADCYC

/-- STATE of a cell (R407), from its entry. -/
def Module.cellEval (m : Module) (e lostN : Nat) : Nat :=
  let w0 := m.mn e 4
  let w1 := m.mnE (e + 4) 4
  if !w0.testBit 31 then 0
  else if (m.mn (e + 0x2C) 4).testBit 31 then 2
  else if lostN ≤ m.mn (e + 0x24) 1 then 4
  else if m.mn (e + 0x15) 1 ≠ 0 then 3
  else if m.mn (e + 0x10) 1 % 4 = 2 then 5
  else if 11 < bitsN w1 15 12 then 6
  else 1

/-- Write STATE into an entry. -/
def Module.setCellState (m : Module) (e st : Nat) : Module :=
  m.setMn (e + 4) 4 (m.mn (e + 4) 4 / 16 * 16 + st)

/-! ### Cycle start -/

/-- The commands and the apply offset of the cycle that starts now (R161, R399): what was committed at least 1 µs ago
reaches its delivery cycle; a cell with nothing new carries its previous command again. -/
def Module.deliver (m : Module) (p : Nat) : Module × Nat :=
  let x := m.port p
  let due (t : Nat) : Bool := decide (t + frameGuard ≤ m.now)
  let cmds := (x.waiting.filter (fun w => due w.1)).foldl (fun c w => SMap.setD [] c w.2.1 w.2.2) x.cmds
  let apply := match (x.applies.filter (fun a => due a.1)).getLast? with
    | some a => a.2
    | none => m.cf (R.LN_APPLY p) F.LN_APPLY_DEF
  (m.setPort p { x with cmds := cmds, waiting := x.waiting.filter (fun w => !due w.1),
                        applies := x.applies.filter (fun a => !due a.1) }, apply)

/-- The effective apply offset (R399). -/
def effApply (apply min' cyc : Nat) : Nat := min (max apply min') (cyc - 8)

/-- A cycle-start tick of a port (R399): the first of a minor period is the period's start tick, and minor periods divide the
frame, so the ticks follow at the cycle length from the frame boundary on. -/
def Module.cycleTick (m : Module) (p : Nat) : Bool := (m.now - m.sys.frameTick) % (m.port p).cycLen == 0

/-- A cycle start (R394, R399, R409, R411): with the port in RUN and the tick delivered, the fast frame leaves. -/
def Module.cycleStart (m : Module) (p : Nat) : Module :=
  if !m.portRuns p || !m.ticking || m.sys.coreSilent || m.hl.hold || !m.cycleTick p then m else
  let m := m.accum64 (R.LN_CYCLES p) 1
  let (m, apply) := m.deliver p
  let x := m.port p
  let eff := effApply apply (m.rf (R.LN_APPLY p) F.LN_APPLY_MIN) x.cycLen
  let m := if eff = apply then m else m.setFlag (R.LN_STAT p) F.LN_STAT_CLAMP true
  let full := if m.flag (R.LN_STAT p) F.LN_STAT_BREAK then decide (x.changedAt + frameGuard ≤ m.now)
    else m.flag (R.LN_STAT p) F.LN_STAT_FULL && !decide (x.changedAt + frameGuard ≤ m.now)
  let m := m.setFlag (R.LN_STAT p) F.LN_STAT_FULL (full || m.flag (R.LN_STAT p) F.LN_STAT_BREAK)
  let staged := x.blockAt.isNone && (match x.freeAt with
    | some t => decide (t + frameGuard ≤ m.now)
    | none => true)
  m.setPort p { x with cycAt := m.now, flight := some ⟨m.rn (R.LN_CYCLES p) % 2 ^ 32, m.now, eff, full, staged, x.cmds⟩ }

/-- RING_CYCLE_START (R399). -/
def execRingCycleStart (p : Fin 16) (s : State) := s.runUp (·.cycleStart p)

/-- The 8 bytes that leave in slot `k` of the cycle's frame for position `pos` (R395, R411): BLOCK with bytes 1 to 7
clear where the cycle is blocked, or where blocking began at least 100 ns before the slot leaves. A coded byte
lasts 1.6 ticks, and the slot follows 17 of them. -/
def slotBytes (x : RingPort) (f : Flight) (k pos : Nat) : List Byte :=
  let late := match x.blockAt with
    | some t => decide (5 * (t + 50) ≤ 5 * f.start + 8 * (17 + 8 * k))
    | none => false
  if !f.staged || late then List.replicate 8 0
  else match SMap.getD [] f.cmds pos with
    | [] => List.replicate 8 0
    | b :: r => (b &&& 0x0F) :: r

/-! ### Cycle complete -/

/-- The slot number of position `pos` in the frames of a cycle (R394, R409). -/
def slotOf (c : PortCfg) (full : Bool) (pos : Nat) : Nat :=
  let half := (c.count + 1) / 2
  if !c.double || full || pos < half then pos else c.count - 1 - pos

/-- The response of a cell: from the first good frame whose slot for it has RSP = 1 (R401). -/
def responseOf (frames : List RingFrame) (pos : Nat) : Option Nat :=
  frames.findSome? (fun f =>
    if f.good then
      (f.slots.find? (fun s => s.1.val == pos && s.2.toNat.testBit 7)).map (fun s => s.2.toNat)
    else none)

/-- A frame with a good CRC came back with a slot for position `pos`. -/
def carried (frames : List RingFrame) (pos : Nat) : Bool := frames.any (fun f => f.good && f.slots.any (fun s => s.1.val == pos))

/-- Add one, saturating. -/
def satAdd (n top : Nat) : Nat := if n < top then n + 1 else top

/-- One cell's entry at cycle complete (R405, R407): the module, and the state before and after. -/
def Module.cellComplete (m : Module) (x : RingPort) (f : Flight) (frames : List RingFrame) (pos : Nat) :
    Module × Nat × Nat :=
  let e := 0x01800000 + 48 * (x.cfg.base + pos)
  let was := bitsN (m.mn (e + 4) 4) 3 0
  let m := if carried frames pos then m.setBytes (e + 0x18) (slotBytes x f (slotOf x.cfg f.full pos) pos) else m
  let m := match responseOf frames pos with
    | some r =>
      let m := m.setMn (e + 0x10) 8 r
      let m := m.setMn (e + 0x20) 4 f.cycle
      let m := m.setMn (e + 0x24) 1 0
      if r.testBit 5 then m.setMn (e + 0x2A) 2 (satAdd (m.mn (e + 0x2A) 2) 0xFFFF) else m
    | none => m.setMn (e + 0x24) 1 (satAdd (m.mn (e + 0x24) 1) 0xFF)
  let st := m.cellEval e x.cfg.lostN
  let m := m.setCellState e st
  let m := if st = 4 ∧ was ≠ 4 then m.setMn (e + 0x2C) 2 (satAdd (m.mn (e + 0x2C) 2) 0xFFFF) else m
  (m, was, st)

/-- Every cell's entry, and the lowest positions that became FAULTED and SILENT (R406, R407). -/
def Module.cellsComplete (m : Module) (x : RingPort) (f : Flight) (frames : List RingFrame) :
    Module × Option Nat × Option Nat :=
  (List.range x.cfg.count).foldl (fun (m, fl, si) pos =>
    let (m, was, st) := m.cellComplete x f frames pos
    (m, if fl.isNone ∧ st = 3 ∧ was ≠ 3 then some pos else fl,
      if si.isNone ∧ st = 4 ∧ was ≠ 4 then some pos else si)) (m, none, none)

/-- A CRC error of port `p`: more than 16 within 10 s while every cell's ERRS stays unchanged mark the port engine (R503). -/
def Module.portWear (m : Module) (p : Nat) : Module :=
  let c := (m.port p).cfg
  let errs := ((List.range c.count).map (fun i => m.mn (0x01800000 + 48 * (c.base + i) + 0x2A) 2)).sum
  let hits := (SMap.getD [] m.sid.crcHits p).filter (fun h => decide (m.now < h.1 + 5000000000)) ++ [(m.now, errs)]
  let m := { m with sid := { m.sid with crcHits := SMap.setD [] m.sid.crcHits p hits } }
  if 16 < hits.length && hits.all (fun h => h.2 == errs) then m.markUnit .port (m.rf (R.LN_MAP p) F.LN_MAP_PHYS) else m

/-- A frame of either kind failed its CRC at the port's receiver (R418). -/
def Module.crcError (m : Module) (p : Nat) : Module := (m.bump (R.LN_CRCERR p) (R.LN_SAT p) 0).portWear p

/-- Count a frame that was lost or failed its CRC at the port whose lane it is (R401, R417). -/
def Module.laneCount (m : Module) (p : Nat) (f : Option RingFrame) : Module :=
  match f with
  | none => m.bump (R.LN_LOSTFR p) (R.LN_SAT p) 1
  | some f =>
    if f.good then m
    else
      let m := m.crcError p
      if (m.port p).crcSec = m.todSec + 1 then m
      else (m.setPort p { m.port p with crcSec := m.todSec + 1 }).raise FS.LN_CRC (lnInfo p noPos) .none

/-- Breaks of a double line (R408, R409). -/
def Module.breakCheck (m : Module) (p : Nat) (fa fb : Option RingFrame) : Module :=
  let x := m.port p
  if !x.cfg.double then m else
  let good (f : Option RingFrame) := f.any (·.good)
  let wrapped := fa.any (·.wrapped) || fb.any (·.wrapped)
  let st := R.LN_STAT p
  let whole (f : Option RingFrame) := f.any (fun f => f.good && !f.wrapped && f.hops.toNat == x.cfg.count)
  if m.flag st F.LN_STAT_BREAK then
    let run := if whole fa && whole fb then x.healRun + 1 else 0
    if 16 ≤ run then
      (m.setFlag st F.LN_STAT_BREAK false).setPort p { x with healRun := 0, changedAt := m.now }
    else m.setPort p { x with healRun := run }
  else if wrapped || good fa != good fb then
    let m := m.setFlag st F.LN_STAT_BREAK true
    let m := m.setFlag st F.LN_STAT_FULL true
    let m := m.setPort p { x with healRun := 0, changedAt := m.now }
    m.raise FS.LN_RING_BREAK (lnInfo p noPos) .none
  else m

/-- Up and down (R410). -/
def Module.downCheck (m : Module) (p : Nat) (ok : Bool) : Module :=
  let x := m.port p
  let st := R.LN_STAT p
  if ok then (m.setFlag st F.LN_STAT_UP true).setPort p { x with downRun := 0 }
  else
    let run := x.downRun + 1
    let m := m.setPort p { x with downRun := run }
    if run = x.cfg.lostN then
      (m.setFlag st F.LN_STAT_UP false).raise FS.LN_RING_DOWN (lnInfo p noPos) .none
    else m

/-- A cycle is complete (R401, R406): responses, the cell table, counters, breaks, and EV 0x6. `fa` is what port p
received, `fb` what port p + 1 of a double line did; none is a frame that has not returned. The cycle ends with its last frame,
and at the latest 0.5 µs before its length is over: until then a frame that is missing is waited for, and one that comes
after that counts as lost. -/
def Module.cycleComplete (m : Module) (p : Nat) (fa fb : Option RingFrame) : Module :=
  let x := m.port p
  match x.flight with
  | none => m
  | some f =>
    let fb := if x.cfg.double then fb else none
    let last := f.start + x.cycLen - 250
    if m.now < last ∧ (fa.isNone ∨ (x.cfg.double = true ∧ fb.isNone)) then m else
    let fa := if last < m.now then none else fa
    let fb := if last < m.now then none else fb
    let m := m.laneCount p fa
    let m := if x.cfg.double then m.laneCount (p + 1) fb else m
    let (m, faulted, silent) := m.cellsComplete x f ((fa.toList ++ fb.toList))
    let m := match faulted with
      | some pos => m.raise FS.LN_CELL_FAULT (lnInfo p pos) .none
      | none => m
    let m := match silent with
      | some pos => m.raise FS.LN_CELL_LOST (lnInfo p pos) .none
      | none => m
    let m := match fa with
      | some a => m.wf (R.LN_STAT p) F.LN_STAT_REACH_A a.hops.toNat
      | none => m
    let m := match fb with
      | some b =>
        let m := m.wf (R.LN_STAT p) F.LN_STAT_REACH_B b.hops.toNat
        (m.wf (R.LN_STAT (p + 1)) F.LN_STAT_REACH_B b.hops.toNat)
      | none => m
    let m := m.breakCheck p fa fb
    let m := m.downCheck p (fa.any (·.good) || fb.any (·.good))
    let m := if x.cfg.double then m.setFlag (R.LN_STAT (p + 1)) F.LN_STAT_UP (fb.any (·.good)) else m
    let m := m.setPort p { m.port p with flight := none, done := f.cycle }
    m.latchEvent 6 p

/-- CYCLE_COMPLETE (R401). -/
def execCycleComplete (p : Fin 16) (fa fb : Option RingFrame) (s : State) := s.runUp (·.cycleComplete p fa fb)

/-! ### Training -/

/-- Training fails (R404). -/
def Module.trainFail (m : Module) (p code pos : Nat) : Module :=
  let t := R.LN_TRAIN p
  let m := m.wf t F.LN_TRAIN_STATE 6
  let m := m.wf t F.LN_TRAIN_CODE code
  let m := m.wf t F.LN_TRAIN_POS pos
  let m := m.setFlag (R.LN_PORT_CTRL p) F.LN_PORT_CTRL_TRAIN false
  m.raise FS.LN_TRAIN_FAIL (lnInfo p pos) .none

/-- The entries of a port's cells are no longer those of the last training (R405): VALID clears. -/
def Module.dropCells (m : Module) (c : PortCfg) : Module :=
  (List.range c.count).foldl (fun m i =>
    let e := 0x01800000 + 48 * (c.base + i)
    (m.setMn e 4 (m.mn e 4 % 2 ^ 31)).setCellState e 0) m

/-- Start the training of a port (R402): the port stops, and its configuration is taken. -/
def Module.startTraining (m : Module) (p : Nat) : Module :=
  let m := m.dropCells (m.port p).cfg
  let t := R.LN_TRAIN p
  let m := m.wf t F.LN_TRAIN_STATE 1
  let m := m.wf t F.LN_TRAIN_CODE 0
  let m := m.wf t F.LN_TRAIN_POS noPos
  let st := R.LN_STAT p
  let m := m.setFlag st F.LN_STAT_UP false
  let m := m.setFlag st F.LN_STAT_BREAK false
  let m := m.setFlag st F.LN_STAT_FULL false
  let m := m.setFlag st F.LN_STAT_BADCYC false
  let m := m.setFlag (R.LN_PORT_CTRL p) F.LN_PORT_CTRL_TRAIN true
  m.setPort p { m.port p with cfg := m.portConfig p, flight := none, downRun := 0, healRun := 0 }

/-- Cycle length in ticks from the active copy (R399): whole ticks, a multiple of 8, 5 to 100 µs, in a minor period
that is a multiple of 8. -/
def Module.cycleLength (m : Module) (c : PortCfg) : Option Nat :=
  let p := m.svcPeriod c.svc
  if p = 0 ∨ p % c.div ≠ 0 ∨ p % 8 ≠ 0 then none
  else
    let l := p / c.div
    if l % 8 = 0 ∧ 2500 ≤ l ∧ l ≤ 50000 then some l else none

/-- HOP_0 to HOP_n in ps (R403). -/
def Module.hops (m : Module) (c : PortCfg) : List Nat :=
  (List.range c.count).map (fun i => 100 * m.mn (0x01800000 + 48 * (c.base + i) + 0x28) 2) ++ [100 * c.retHop]

/-- The largest cell delay d in ps, as a fraction of n + 1 (R403). -/
def maxDelay (hops : List Nat) (n w : Nat) (double : Bool) : Nat :=
  if hops.all (· == 0) then n * w + (n - 1) * 40000 * (n + 1)
  else
    let dA := (hops.take n).sum + (n - 1) * 40000
    let dB := (hops.drop 1).sum + (n - 1) * 40000
    (if double then max dA dB else dA) * (n + 1)

/-- LN_nn_APPLY.MIN (R399). -/
def applyMin (n dmax : Nat) : Nat :=
  (((22 + 8 * n) * 3200 + 200000) * (n + 1) + dmax + 2000 * (n + 1) - 1) / (2000 * (n + 1))

/-- The shortest cycle in ps (R400). -/
def tMin (n w : Nat) (double : Bool) : Nat :=
  (22 + 8 * n) * 3200 + (if double then 2 else 1) * (n * 40000 + w) + 2500000

/-- Entry ranges overlap, run past 4,096, or the enabled ports' cells number more (R390, R404). -/
def Module.rangeBad (m : Module) (p : Nat) (c : PortCfg) : Bool :=
  let cfgs := (List.range 16).filterMap (fun q =>
    let d := m.portConfig q
    if q ≠ p ∧ d.en ∧ !(q % 2 == 1 && (m.portConfig (q - 1)).double) then some d else none)
  decide (4096 < c.base + c.count)
    || cfgs.any (fun d => decide (c.base < d.base + d.count ∧ d.base < c.base + c.count))
    || decide (4096 < c.count + (cfgs.map (·.count)).sum)

/-- Enter the cells found in the cell table (R405). -/
def Module.enterCells (m : Module) (p : Nat) (c : PortCfg) (cells : List CellId) : Module :=
  (List.range c.count).foldl (fun m i =>
    match cells[i]? with
    | none => m
    | some k =>
      let e := 0x01800000 + 48 * (c.base + i)
      let m := m.setMn e 4 (2 ^ 31 + p <<< 16 + i)
      let m := m.setMn (e + 4) 4 (k.type.toNat <<< 24 + k.version.toNat <<< 16 + m.mn (e + 4) 4 % 0x10000)
      let m := m.setMn (e + 8) 8 k.serial.toNat
      let m := m.setMn (e + 0x24) 1 0
      m.setCellState e (m.cellEval e c.lostN)) m

/-- Training has measured what it can (R402 to R404): the port enters RUN, or fails with the first code that applies. -/
def Module.trainingComplete (m : Module) (p : Nat) (r : TrainResult) : Module :=
  let st := m.rf (R.LN_TRAIN p) F.LN_TRAIN_STATE
  if st = 0 ∨ 5 ≤ st then m else
  match r with
  | .failed code pos => m.trainFail p (if code.val = 0 then 0x0A else code) (if code.val = 0 then noPos else pos)
  | .found cells rtt =>
    let x := m.port p
    let c := x.cfg
    let n := c.count
    let bad (f : CellId → Bool) := cells.findIdx? f
    let hops := m.hops c
    let m := m.wn (R.LN_RTT p) rtt.toNat
    if (bad (·.swapped)).isSome then m.trainFail p 3 ((bad (·.swapped)).getD noPos)
    else if cells.length ≠ n then m.trainFail p 4 noPos
    else if (bad (fun k => k.version != 1)).isSome then m.trainFail p 9 ((bad (fun k => k.version != 1)).getD noPos)
    else if m.rangeBad p c then m.trainFail p 8 noPos
    else
      let w := rtt.toNat - n * 40000
      if !hops.all (· == 0) ∧ (hops.sum + 10000 < w ∨ w + 10000 < hops.sum) then m.trainFail p 6 noPos
      else match m.cycleLength c with
        | none => m.trainFail p 7 noPos
        | some l =>
          if l * 2000 < tMin n w c.double then m.trainFail p 7 noPos
          else
            let m := m.enterCells p c cells
            let m := m.wf (R.LN_APPLY p) F.LN_APPLY_MIN (applyMin n (maxDelay hops n w c.double))
            let m := m.wf (R.LN_TRAIN p) F.LN_TRAIN_STATE 5
            let m := m.setFlag (R.LN_PORT_CTRL p) F.LN_PORT_CTRL_TRAIN false
            m.setPort p { m.port p with cycLen := l }

/-- TRAINING_COMPLETE (R402). -/
def execTrainingComplete (p : Fin 16) (r : TrainResult) (s : State) := s.runUp (·.trainingComplete p r)

/-- A training step overruns its time (R404). -/
def execTrainingStepTimeout (p : Fin 16) (s : State) :=
  s.runUp (fun m =>
    let st := m.rf (R.LN_TRAIN p) F.LN_TRAIN_STATE
    if st = 0 ∨ 5 ≤ st then m else m.trainFail p 0x0A noPos)

/-- At a frame boundary a port whose cycle length no longer fits stops (R400). -/
def Module.portBoundary (m : Module) (p : Nat) : Module :=
  if !m.portRuns p then m else
  let x := m.port p
  let n := x.cfg.count
  let w := m.rn (R.LN_RTT p) - n * 40000
  if m.cycleLength x.cfg = some x.cycLen ∧ tMin n w x.cfg.double ≤ x.cycLen * 2000 then m
  else
    let m := m.setFlag (R.LN_STAT p) F.LN_STAT_BADCYC true
    m.raise FS.LN_CYCLE (lnInfo p noPos) .none

/-! ### Slow channel -/

/-- Write a READ's points to the point mirror, if the ring exchange budget allows and no earlier result waits; else the result
waits (R91, R415). -/
def Module.pointsToYard (m : Module) (p a : Nat) (ws : List Word) : Module :=
  let (ok, m) := if (m.port p).results.isEmpty then m.grant Bus.ring (beatsOf a (4 * ws.length)) else (false, m.delay Bus.ring)
  if ok then m.masterWrite Bus.ring a ws
  else m.setPort p { m.port p with results := (m.port p).results ++ [(a, ws)] }

/-- Where a point of a position stands in the mirror (R415). -/
def Module.pointAddr (m : Module) (p pos point : Nat) : Nat :=
  m.cf (R.LN_PTBASE p) F.LN_PTBASE_PAGE * 4096 + 1024 * pos + 4 * point

/-- TEMP1 to TEMP3 of a cell, when a READ brought point 0x03 (R405, R414). -/
def Module.takeTemps (m : Module) (p pos first : Nat) (ws : List Word) : Module :=
  if first ≤ 3 ∧ 3 < first + ws.length then
    m.setMn (m.cellEntry p pos + 0x25) 3 ((ws.getD (3 - first) 0).toNat % 2 ^ 24)
  else m

/-- A READ's result (R415). -/
def Module.readResult (m : Module) (p pos first : Nat) (ws : List Word) : Module :=
  (m.takeTemps p pos first ws).pointsToYard p (m.pointAddr p pos first) ws

/-- The frame came back good, done and without error. -/
def SlowFrame.ok (f : SlowFrame) : Bool := f.good && f.done

/-- The head of the program's queue is finished or tried again, up to 3 times (R413). It first leaves in its delivery cycle, the
first that starts at least 1 µs after its commit (R161, R169). -/
def Module.slowProgram (m : Module) (p : Nat) (f : Option SlowFrame) : Module :=
  let x := m.port p
  match x.slow with
  | [] => m
  | r :: rs =>
    if x.cycAt < r.at' + frameGuard then m else
    match f with
    | some f =>
      if f.ok then
        let m := m.setPort p { x with slow := rs }
        if r.word.msb ∨ f.err then m
        else m.readResult p r.pos (bitsN r.word.toNat 23 16) (f.words.take (bitsN r.word.toNat 27 24 + 1))
      else if r.tries < 3 then m.setPort p { x with slow := { r with tries := r.tries + 1 } :: rs }
      else m.setPort p { x with slow := rs }
    | none =>
      if r.tries < 3 then m.setPort p { x with slow := { r with tries := r.tries + 1 } :: rs }
      else m.setPort p { x with slow := rs }

/-- The host's request ends (R413, R415). -/
def Module.slowHost (m : Module) (p : Nat) (f : Option SlowFrame) : Module :=
  let h := R.LN_HREQ p
  if !m.flag h F.LN_HREQ_GO then m else
  let x := m.port p
  let fin (m : Module) (err : Bool) : Module :=
    ((m.setFlag h F.LN_HREQ_GO false).setFlag h F.LN_HREQ_ERR err).setPort p { m.port p with hostTries := 0 }
  match f.filter SlowFrame.ok with
  | some f =>
    let m := if m.flag h F.LN_HREQ_WR || f.err then m else m.wn (R.LN_HDATA p) (f.words.getD 0 0).toNat
    fin m f.err
  | none =>
    if x.hostTries < 3 then m.setPort p { x with hostTries := x.hostTries + 1 } else fin m true

/-- The next poll (R415): points FIRST to LAST of one cell, then the next cell. -/
def Module.pollNext (m : Module) (p : Nat) : Module :=
  let x := m.port p
  let first := m.cf (R.LN_POLL p) F.LN_POLL_FIRST
  let last := max first (m.cf (R.LN_POLL p) F.LN_POLL_LAST)
  let pt := max first x.pollPoint + m.cf (R.LN_POLL p) F.LN_POLL_NM1 + 1
  if pt ≤ last then m.setPort p { x with pollPoint := pt, pollTries := 0 }
  else m.setPort p { x with pollPoint := first, pollPos := if x.pollPos + 1 < x.cfg.count then x.pollPos + 1 else 0,
                            pollTries := 0 }

/-- A poll's frame returns (R413, R415): none is sent while 64 results wait for the budget. -/
def Module.slowPoll (m : Module) (p : Nat) (f : Option SlowFrame) : Module :=
  let x := m.port p
  if !m.cflag (R.LN_POLL p) F.LN_POLL_EN || 64 ≤ x.results.length then m else
  let first := max (m.cf (R.LN_POLL p) F.LN_POLL_FIRST) x.pollPoint
  match f.filter SlowFrame.ok with
  | some f =>
    let m := if f.err then m
      else m.readResult p x.pollPos first (f.words.take (m.cf (R.LN_POLL p) F.LN_POLL_NM1 + 1))
    m.pollNext p
  | none => if x.pollTries < 3 then m.setPort p { x with pollTries := x.pollTries + 1 } else m.pollNext p

/-- Results that waited for the budget are written first in the next period (R91, R415). -/
def Module.serveRing (m : Module) : Module :=
  (List.range 16).foldl (fun m p =>
    let rs := (m.port p).results
    rs.foldl (fun m r => m.pointsToYard p r.1 r.2) (m.setPort p { m.port p with results := [] })) m

/-- A committed `lnx` SLOW request (R416): a full queue discards it. -/
def Module.queueSlow (m : Module) (p pos : Nat) (w : Word) : Module :=
  let x := m.port p
  if 64 ≤ x.slow.length then
    (m.bump (R.LN_QFULL p) (R.LN_SAT p) 2).raise FS.LN_SLOW_FULL (lnInfo p pos) .none
  else m.setPort p { x with slow := x.slow ++ [⟨pos, w, 0, m.now⟩] }

end Sys2Proof.Machine
end

