-- ==== Sys2Proof/Machine/Admission.lean ====
section
/-! DEFINITION. Admission.lean: the booking office: arming a copy, its checks in their order, loading (R74 to R81, R94,
R95, R99, R100, R113 to R115, R136). -/

namespace Sys2Proof.Machine

/-- A block entry of a copy (R76). -/
structure Entry where
  idx : Nat
  engine : Nat
  svc : Nat
  firm : Bool
  prot : Bool
  mon : Bool
  prio : Nat
  task : Nat
  yb : Nat
  offset : Nat
  length : Nat
  hc : Nat
  deriving DecidableEq, Repr

/-- Entry `i` of a copy, if it is VALID. -/
def Module.entry (m : Module) (copy i : Nat) : Option Entry :=
  let w (k : Nat) := m.ttEntry copy i k
  if !(w 0).testBit 31 then none
  else some
    { idx := i
      engine := bitsN (w 0) 30 28
      svc := bitsN (w 0) 27 26
      firm := !(w 0).testBit 25
      prot := (w 0).testBit 24 && !(w 0).testBit 25
      mon := (w 0).testBit 23
      prio := bitsN (w 0) 22 19
      task := bitsN (w 0) 8 0
      yb := bitsN (w 1) 31 19
      offset := bitsN (w 1) 18 0
      length := bitsN (w 2) 18 0
      hc := w 3 }

/-- The entries of a copy in their order. -/
def Module.entries (m : Module) (copy : Nat) : List Entry := (List.range 512).filterMap (m.entry copy)

/-- A service of a copy is enabled, and its period (R75). -/
def Module.svcEn (m : Module) (copy n : Nat) : Bool := (m.ttSvc copy n).testBit 31
def Module.svcTicks (m : Module) (copy n : Nat) : Nat := bitsN (m.ttSvc copy n) 18 0

/-- CRC-32C of a copy (R75): the header up to its CRC word, and all entries. -/
def Module.copyCrc (m : Module) (copy : Nat) : Nat :=
  crc32c (m.mbytes (ttBase copy) 0xFC ++ m.mbytes (ttBase copy + 0x100) 0x2000)

/-- A word of a copy's header. -/
def Module.hdr (m : Module) (copy off : Nat) : Nat := m.mn (ttBase copy + off) 4

/-! ### The checks of R81, each answering the failing entry -/

/-- No single entry (R81). -/
abbrev noEntry : Nat := 0x1FF

/-- 0x02 (R69, R75). -/
def Module.badFrame (m : Module) (c : Nat) : Bool :=
  let f := m.hdr c 0 % 2 ^ 23
  f < 50000 || 5000000 < f
    || (List.range 4).any (fun n => m.svcEn c n && m.svcTicks c n != 0 && f % m.svcTicks c n != 0)
    || (m.mbytes (ttBase c + 8) 8).any (· != 0) || (m.mbytes (ttBase c + 0x38) 0xC4).any (· != 0)

/-- 0x03 (R69, R70). -/
def Module.badService (m : Module) (c : Nat) : Bool :=
  (List.range 4).any (fun n => m.svcEn c n &&
    (let p := m.svcTicks c n
     let k := bitsN (m.ttSvc c n) 29 24
     p < 2500 || 500000 < p || k == 0 || p % k != 0))

/-- 0x04 (R71). -/
def Module.badBlock (m : Module) (c : Nat) (e : Entry) : Bool :=
  !m.svcEn c e.svc || e.length < 128 || m.svcTicks c e.svc < e.offset + e.length

/-- Two blocks are open at some common instant of the frame (R72): their periods start together at the frame's first
tick, so their starts differ by every multiple of the periods' common divisor. -/
def Module.overlap (m : Module) (c : Nat) (a b : Entry) : Bool :=
  let g := Nat.gcd (m.svcTicks c a.svc) (m.svcTicks c b.svc)
  let d := ((b.offset : Int) - a.offset) % g
  let d' := ((a.offset : Int) - b.offset) % g
  decide (d < a.length) || decide (d' < b.length)

/-- The first entry that stands in relation `r` to an earlier one. Of the two entries of a failed pair check, 0x05, 0x08 or 0x09,
ENTRY so names the later: R81 says the failing entry, and both are (DESIGN CHOICE, log 83). -/
def firstPair (r : Entry → Entry → Bool) : List Entry → List Entry → Option Nat
  | _, [] => none
  | seen, e :: es => if seen.any (fun s => r s e) then some e.idx else firstPair r (seen ++ [e]) es

/-- The recompute reserve of an engine and service in ps (R77). -/
def reserveOf (es : List Entry) (e : Entry) : Nat :=
  (es.filter (fun b => b.engine == e.engine && b.svc == e.svc && b.prot)).foldl (fun n b => max n (b.hc * 700)) 0

/-- 0x06 (R78), in ps. -/
def badFirm (es : List Entry) (e : Entry) : Bool :=
  e.firm && decide (e.length * 2000 < 14000 + e.hc * 700 + if e.prot then reserveOf es e else 0)

/-- A region of a region table given as words 0 and 1 (R114): its first byte and the byte after its last. -/
def regionSpan (w : Nat) : Nat × Nat := (bitsN w 11 0 * 4096, bitsN w 11 0 * 4096 + bitsN w 28 16 * 4096)

/-- Regions overlap, have two writers, or pass the yard's end (R115). -/
def badRegions (rs : List (Nat × Nat)) : Bool :=
  let v := rs.filter (fun r => r.1.testBit 31)
  let spans := v.map (fun r => regionSpan r.1)
  spans.any (fun s => decide (0x01000000 < s.2))
    || v.any (fun r => decide (1 < ((List.range 8).filter (fun k => (bitsN r.2 23 16).testBit k)).length))
    || (List.range v.length).any (fun i => (List.range i).any (fun j =>
        let a := spans.getD i (0, 0)
        let b := spans.getD j (0, 0)
        decide (a.1 < b.2 ∧ b.1 < a.2)))

/-- The hardware tables that a task may write (R134, R136): none of those that their chapters keep from engines. -/
def tableReadOnly (base : Nat) : Bool := base < 0x01830000 || (0x01850000 ≤ base && base < 0x01860000)

/-- The hardware tables, first offset and the offset after the last (R57, R74, R113, R156, R164, R211, R239, R240, R365, R421,
R458 to R460, R488 to R491, R500, R509). -/
def hwTables : List (Nat × Nat) :=
  [(0x01800000, 0x01830000), (0x01830000, 0x01832100), (0x01834000, 0x01836100), (0x01838000, 0x01838400),
    (0x01838400, 0x01838800), (0x01839000, 0x01839080), (0x0183A000, 0x0183A240), (0x01840000, 0x01840800),
    (0x01840800, 0x01840C00), (0x01840C00, 0x01840D80), (0x01840E00, 0x01841000), (0x01844000, 0x01848000)]
  ++ [(0x01848000, 0x0184A000), (0x01850000, 0x01860000), (0x01860000, 0x01864000), (0x01870000, 0x01870400),
    (0x01871000, 0x01871400), (0x01880000, 0x01880400), (0x01890000, 0x01891200), (0x01892000, 0x01893200),
    (0x01894000, 0x01894060), (0x018A0000, 0x018A1000), (0x018A1000, 0x018A1100), (0x018A2000, 0x018A2384)]
  ++ [(0x018A3000, 0x018A3800), (0x018A3800, 0x018A4000), (0x018B0000, 0x018B1000), (0x018B1000, 0x018B2000),
    (0x018B2000, 0x018B2200), (0x018B2200, 0x018B2A00), (0x018C0000, 0x018C0100)]

/-- The yard bytes `[a, a + n)` lie in regions that each satisfy `p`: at most 64 regions cover them one after another. -/
def covered (rs : List (Nat × Nat)) (p : Nat × Nat → Bool) : Nat → Nat → Nat → Bool
  | 0, _, n => n == 0
  | fuel + 1, a, n =>
    n == 0 || match rs.find? (fun r => p r && decide ((regionSpan r.1).1 ≤ a ∧ a < (regionSpan r.1).2)) with
      | none => false
      | some r => covered rs p fuel (regionSpan r.1).2 (n - ((regionSpan r.1).2 - a))

/-- A table item is acceptable for a task of logical engine `e` (R132, R136, R227, R405): word aligned, a hardware item within
one table, a yard item within regions that grant the access. -/
def Module.itemOk (m : Module) (rs : List (Nat × Nat)) (e : Nat) (i : TblItem) : Bool :=
  let bytes := 4 * i.size * i.count * if i.dbl.isSome then 2 else 1
  let ok (r : Nat × Nat) : Bool :=
    r.1.testBit 31 && r.2.testBit (24 + e) && (i.access == 1 || r.2.testBit (16 + e))
  let goose : Bool := 0x01860000 ≤ i.base && i.base < 0x01864000
  let rows := (List.range 32).filter (fun n => 0x01860000 + 512 * n < i.base + bytes && i.base < 0x01860200 + 512 * n)
  1 ≤ i.size && i.size ≤ 1024 && (i.access == 1 || i.access == 2) && i.base % 4 == 0 &&
    (if i.base < 0x01000000 then covered rs ok 64 i.base bytes
     else hwTables.any (fun t => decide (t.1 ≤ i.base ∧ i.base + bytes ≤ t.2))
       && !(i.access == 2 && tableReadOnly i.base)
       && !(goose && i.access == 2 && rows.any (fun n => (m.mn (0x01848000 + 256 * n) 4).testBit 30)))

/-- The image of an entry's task (R81 0x07): present in the active bank, verified, and in agreement with the entry
(R44, R76, R144). -/
def Module.entryImageOk (m : Module) (rs : List (Nat × Nat)) (e : Entry) : Bool :=
  match m.dirEntry m.activeBank e.task with
  | none => false
  | some (a, n) =>
    let t := m.imageTask a 0
    m.imageVerified a n && m.mn (a + 0x18) 4 == t.dmSize && t.task == e.task
      && e.hc == t.hcBase + (if e.prot then 8 + 2 * t.jMax else 0)
      && e.yb == (t.beats + 15) / 16
      && (!e.mon || t.noOut)
      && t.jMax ≤ 2048 && t.stageMax ≤ 1024
      && t.tbl.length ≤ 64 && t.tbl.all (m.itemOk rs e.engine)

/-- The tasks booked on logical engine `e`, each once, in the order of their first entries. -/
def tasksOn (es : List Entry) (e : Nat) : List Nat :=
  (es.filter (fun b => b.engine == e)).foldl (fun ts b => if ts.contains b.task then ts else ts ++ [b.task]) []

/-- The tasks of logical engine `e` as they will be loaded: code areas follow one another (R99). -/
def Module.placeTasks (m : Module) (es : List Entry) (e : Nat) : List TaskInfo :=
  ((tasksOn es e).foldl (fun (acc : List TaskInfo × Nat) t =>
    match m.dirEntry m.activeBank t with
    | none => acc
    | some (a, _) =>
      let i := m.imageTask a acc.2
      (acc.1 ++ [i], acc.2 + i.codeBytes)) ([], 0)).1

/-- A task keeps its DM area across the switch: it is in the active copy on this engine with the same image (R100). -/
def Module.keeps (m : Module) (e : Nat) (t : TaskInfo) : Bool :=
  match m.taskInfo e t.task with
  | some o => m.imageSig o.img == m.imageSig t.img
  | none => false

/-- DM areas of the active copy's tasks on logical engine `e`. -/
def Module.activeTasks (m : Module) (e : Nat) : List TaskInfo := (List.range 512).filterMap (m.taskInfo e)

/-- Two DM areas overlap. -/
def dmOverlap (a b : TaskInfo) : Bool := decide (a.dmBase < b.dmBase + b.dmSize ∧ b.dmBase < a.dmBase + a.dmSize)

/-- The tasks of an engine do not fit (R99, R100): code beyond one half, DM areas beyond DM, over one another, or a new
task's over one that the active copy uses. -/
def Module.badLoad (m : Module) (es : List Entry) (e : Nat) : Bool :=
  let ts := m.placeTasks es e
  decide (0x10000 < (ts.map TaskInfo.codeBytes).sum)
    || ts.any (fun t => decide (0x40000 < t.dmBase + t.dmSize))
    || (List.range ts.length).any (fun i => (List.range i).any (fun j =>
        match ts[i]?, ts[j]? with
        | some a, some b => dmOverlap a b
        | _, _ => false))
    || ts.any (fun t => !m.keeps e t && (m.activeTasks e).any (fun o => dmOverlap t o))

/-- The certificate of an entry's task in the active bank. -/
def Module.entryTask (m : Module) (e : Entry) : Option TaskInfo :=
  (m.dirEntry m.activeBank e.task).map (fun a => m.imageTask a.1 0)

/-- 0x08: a unit booked by two engines in overlapping blocks (R25). -/
def Module.unitClash (m : Module) (c : Nat) (a b : Entry) : Bool :=
  a.engine != b.engine && m.overlap c a b &&
    match m.entryTask a, m.entryTask b with
    | some s, some t => (s.luMap &&& t.luMap) != 0 || (s.xsMap &&& t.xsMap) % 32 != 0
    | _, _ => false

/-- 0x09: an output resource with two writers (R5). -/
def Module.outClash (m : Module) (a b : Entry) : Bool :=
  a.task != b.task &&
    match m.entryTask a, m.entryTask b with
    | some s, some t => s.outs.any (fun o => t.outs.contains o)
    | _, _ => false

/-- A sum of fractions, as numerator and denominator. -/
def addFrac (a b : Nat × Nat) : Nat × Nat := (a.1 * b.2 + b.1 * a.2, a.2 * b.2)

/-- 0x0A: beats per tick above 1.28, which is 640 per µs (R80). The period of a bus master whose BUD word names a service that is
not enabled is that service's PERIOD field all the same, and beats over a period of 0 are refused (DESIGN CHOICE, log 83). -/
def Module.badYard (m : Module) (c : Nat) (es : List Entry) : Bool :=
  let per (b : Nat) : Nat :=
    if b = 0 then m.hdr c 4 % 2 ^ 19 else m.svcTicks c (bitsN (m.hdr c (0x20 + 4 * b)) 31 30)
  let bus := (List.range 6).map (fun b => (m.hdr c (0x20 + 4 * b) % 2 ^ 24, per b))
  let eng := (List.range 8).map (fun e =>
    (es.filter (fun b => b.engine == e)).foldl (fun (n : Nat × Nat) b =>
      if n.1 * b.length < b.yb * 16 * n.2 then (b.yb * 16, b.length) else n) (0, 1))
  let all := (bus ++ eng).filter (fun f => f.1 != 0)
  let s : Nat × Nat := all.foldl addFrac (0, 1)
  all.any (fun f => f.2 == 0) || decide (128 * s.2 < 100 * s.1)

/-- The output resources that a copy's entries write. -/
def Module.copyOuts (m : Module) (es : List Entry) : List (Nat × Nat) :=
  es.flatMap (fun e => match m.entryTask e with
    | some t => t.outs
    | none => [])

/-- Output resources of the active copy's tasks. -/
def Module.activeOuts (m : Module) : List (Nat × Nat) :=
  (List.range 8).flatMap (fun e => (m.activeTasks e).flatMap (·.outs))

/-- Modes in which the module switches: SHUNT, DEPART and RUN. -/
def Module.switching (m : Module) : Bool := 5 ≤ m.rf R.SYS_MODE F.SYS_MODE_MODE

/-- RESULT and ENTRY of an admission (R81): the first check that fails. -/
def Module.admission (m : Module) (c : Nat) (rs : List (Nat × Nat)) : Nat × Nat :=
  let es := m.entries c
  let find (p : Entry → Bool) : Option Nat := (es.find? p).map (·.idx)
  if m.hdr c 0xFC ≠ m.copyCrc c then (1, noEntry)
  else if m.badFrame c then (2, noEntry)
  else if m.badService c then (3, noEntry)
  else match find (m.badBlock c) with
  | some i => (4, i)
  | none => match firstPair (fun a b => a.engine == b.engine && m.overlap c a b) [] es with
  | some i => (5, i)
  | none => match find (badFirm es) with
  | some i => (6, i)
  | none => match find (fun e => !m.entryImageOk rs e) with
  | some i => (7, i)
  | none =>
    if badRegions rs || (List.range 8).any (m.badLoad es) then (7, noEntry)
    else match firstPair (m.unitClash c) [] es with
    | some i => (8, i)
    | none => match firstPair m.outClash [] es with
    | some i => (9, i)
    | none =>
      if m.badYard c es then (0xA, noEntry)
      else if m.switching && m.activeOuts.any (fun o => !(m.copyOuts es).contains o) then (0xB, noEntry)
      else if m.hdr c 0x20 % 2 ^ 24 < 16 then (0xC, noEntry)
      else (0, noEntry)

/-! ### Arming -/

/-- The copy that ARM admits (R94): the one that is not active; copy A while none is. -/
def Module.copyToArm (m : Module) : Nat :=
  match m.activeCopy with
  | some 0 => 1
  | _ => 0

/-- TTB_CTRL.ARM (R94): admission of the inactive copy starts; the first activation only in HALT and DEPOT. -/
def Module.goArm (m : Module) : Module :=
  let mode := m.rf R.SYS_MODE F.SYS_MODE_MODE
  if m.flag R.TTB_STAT F.TTB_STAT_BUSY || m.flag R.TTB_STAT F.TTB_STAT_ARMED || mode < 3
      || (m.activeCopy.isNone && 4 < mode) then m.setFlag R.TTB_CTRL F.TTB_CTRL_ARM false
  else
    let m := m.setFlag R.TTB_CTRL F.TTB_CTRL_ARM true
    let m := m.setFlag R.TTB_STAT F.TTB_STAT_BUSY true
    { m with eng := { m.eng with armCopy := some m.copyToArm } }

/-- RESULT and ENTRY in TTB_STAT. -/
def Module.ttResult (m : Module) (r e : Nat) : Module :=
  (m.wf R.TTB_STAT F.TTB_STAT_RESULT r).wf R.TTB_STAT F.TTB_STAT_ENTRY e

/-- End an admission or an armed switch without a switch. -/
def Module.dropArm (m : Module) : Module :=
  let m := m.setFlag R.TTB_STAT F.TTB_STAT_BUSY false
  let m := m.setFlag R.TTB_STAT F.TTB_STAT_ARMED false
  let m := m.setFlag R.TTB_CTRL F.TTB_CTRL_ARM false
  { m with eng := { m.eng with armCopy := none, armedTasks := [] } }

/-- TTB_CTRL.CANCEL (R95): no TT_SWITCH_FAIL, which is the report of RESULT 0x0D (DEDUCED, log 83). -/
def Module.goCancel (m : Module) : Module :=
  let m := if m.eng.armCopy.isSome then (m.dropArm).ttResult 0xFF noEntry else m
  m.setFlag R.TTB_CTRL F.TTB_CTRL_CANCEL false

/-- The region table of a copy becomes the one of the signed set (R113). -/
def Module.loadRegions (m : Module) (c : Nat) (rs : List (Nat × Nat)) : Module :=
  (List.range 64).foldl (fun m i =>
    let r := rs.getD i (0, 0)
    let a := 0x01838000 + 0x400 * c + 16 * i
    ((m.setMn a 4 r.1).setMn (a + 4) 4 r.2).setMn (a + 8) 8 0) m

/-- Load one task for logical engine `e` (R99, R100): its code into the other IM half; a new task's initial data. -/
def Module.loadTask (m : Module) (e : Nat) (t : TaskInfo) : Module :=
  let p := m.phys e
  let half := 1 - m.rf (R.ENG_STAT p) F.ENG_STAT_IMH
  let code := m.mbytes (t.img + m.mn (t.img + 0x0C) 4) t.codeBytes
  let new := !m.keeps e t
  let m := m.setBytes (0x01000000 + 0x80000 * p + 0x10000 * half + t.codeBase) code
  let m := if new then m.setBytes (m.dmAddr e t.dmBase) (m.mbytes t.dataOff t.dmSize) else m
  let lo := 0x10000 * half + t.codeBase
  let lines := m.eng.badLines.filter (fun l => ¬(l.1 = e ∧ lo ≤ 64 * l.2 ∧ 64 * l.2 < lo + t.codeBytes))
  { m with eng := { m.eng with badLines := lines, armedTasks := SMap.setD none m.eng.armedTasks (e * 512 + t.task) (some t) } }

/-- ADMISSION_DONE (R81, R94): admission ends; a passing copy is loaded and armed. `regions` is the region table that the
signed set holds for the copy, words 0 and 1 of each entry. BUSY clears here, as admission has run (R97); R94 has it clear
at the latest with ARMED (DESIGN CHOICE, log 83). -/
def Module.admissionDone (m : Module) (regions : List (Nat × Nat)) : Module :=
  match m.eng.armCopy with
  | none => m
  | some c =>
    if !m.flag R.TTB_STAT F.TTB_STAT_BUSY then m else
    let r := m.admission c (regions.take 64)
    if r.1 ≠ 0 then (m.dropArm).ttResult r.1 r.2
    else
      let es := m.entries c
      let m := (List.range 8).foldl (fun m e => (m.placeTasks es e).foldl (fun m t => m.loadTask e t) m) m
      let m := m.loadRegions c (regions.take 64)
      let m := m.ttResult 0 noEntry
      let m := m.setFlag R.TTB_STAT F.TTB_STAT_BUSY false
      let m := m.setFlag R.TTB_STAT F.TTB_STAT_ARMED true
      let m := m.setFlag R.TTB_CTRL F.TTB_CTRL_ARM false
      { m with eng := { m.eng with armTick := m.now, armedCrc := m.copyCrc c, armedBank := m.activeBank } }

/-- ADMISSION_DONE (R81). -/
def execAdmissionDone (regions : List (BitVec 32 × BitVec 32)) (s : State) :=
  s.runOn (·.admissionDone (regions.map (fun r => (r.1.toNat, r.2.toNat))))

/-! ### Switching (R94 to R96) -/

/-- Bind a service's group and set its period (R70, R263). -/
def Module.bindService (m : Module) (c n : Nat) : Module :=
  let w := m.ttSvc c n
  if !w.testBit 31 then m else
  let g := bitsN w 23 19
  let mult := bitsN w 29 24
  let m := m.wn (R.PWM_GRP_SVC g) (2 ^ 31 + n <<< 28 + mult)
  (m.groupMembers g).foldl (fun m k =>
    let m := m.wn (R.PWM_PERIOD k) (bitsN w 18 0 / mult)
    let m := m.wn (R.PWM_PERFR k) 0
    let keep := (m.gen k).commits.filter (fun x => x.addr ≠ R.PWM_PERIOD k ∧ x.addr ≠ R.PWM_PERFR k)
    m.setGen k { m.gen k with commits := keep }) m

/-- Mirror a copy's service and budget words (R97). -/
def Module.mirrorCopy (m : Module) (c : Nat) : Module :=
  let m := (List.range 4).foldl (fun m n => m.wn (R.TTB_SVC n) (m.ttSvc c n)) m
  (List.range 6).foldl (fun m b => m.wn (R.TTB_BUD b) (m.hdr c (0x20 + 4 * b))) m

/-- Make copy `c` active (R70, R94, R99). -/
def Module.switchTo (m : Module) (c : Nat) : Module :=
  let m := (List.range 8).foldl (fun m e =>
    let p := m.phys e
    m.wf (R.ENG_STAT p) F.ENG_STAT_IMH (1 - m.rf (R.ENG_STAT p) F.ENG_STAT_IMH)) m
  let m := (List.range 32).foldl (fun m g => m.wn (R.PWM_GRP_SVC g) 0) m
  let m := { m with eng := { m.eng with
    libs := m.eng.libs.filter (fun p => (SMap.getD none m.eng.armedTasks p.1).any (m.keeps (p.1 / 512))),
    tasks := m.eng.armedTasks, activeCrc := m.eng.armedCrc,
    bankOf := SMap.setD 0 m.eng.bankOf c m.eng.armedBank } }
  let m := m.dropArm
  let m := m.wf R.TTB_STAT F.TTB_STAT_ACTIVE c
  let m := m.setFlag R.TTB_STAT F.TTB_STAT_NONE false
  let m := m.mirrorCopy c
  (List.range 4).foldl (fun m n => m.bindService c n) m

/-- The image of a loaded task is still present in its bank, and verifies (R95, R146). -/
def Module.bankImageOk (m : Module) (bank : Nat) (t : TaskInfo) : Bool :=
  match m.dirEntry bank t.task with
  | some (a, n) => a == t.img && m.imageVerified a n
  | none => false

/-- Every image an armed copy names is still present and verified (R95). -/
def Module.armedImagesOk (m : Module) : Bool :=
  m.eng.armedTasks.all (fun p => match p.2 with
    | some t => m.bankImageOk m.eng.armedBank t
    | none => true)

/-- Step 2 of R86: an armed copy becomes active at the first boundary at least 1 µs after it was armed, unless its CRC or
an image has changed (R94, R95). -/
def Module.armedSwitch (m : Module) : Module :=
  match m.eng.armCopy with
  | none => m
  | some c =>
    if !m.flag R.TTB_STAT F.TTB_STAT_ARMED || decide (m.now < m.eng.armTick + frameGuard) then m
    else if m.copyCrc c ≠ m.eng.armedCrc || !m.armedImagesOk then
      ((m.dropArm).ttResult 0xD noEntry).raiseFree FS.TT_SWITCH_FAIL .none
    else m.switchTo c

/-! ### Gauges, rows and IM lines (R101 to R103, R110, R111) -/

/-- Logical engine that a physical engine serves, if any. -/
def Module.servedBy (m : Module) (p : Nat) : Option Nat := (List.range 8).find? (fun e => m.phys e == p)

/-- The owner of a report of physical engine `p` (R486): the logical engine it serves. -/
def Module.engOwner (m : Module) (p : Nat) : Owner :=
  match m.servedBy p with
  | some e => .engine e
  | none => .none

/-- Mark an engine for substitution (R102, R503): ROLE 0x4 while it serves, SID_MARK_A, SID_WEAR. -/
def Module.markEngine (m : Module) (p : Nat) : Module :=
  if m.marked .engine p then m
  else
    let m := if m.rf (R.ENG_STAT p) F.ENG_STAT_ROLE = 0 then m.wf (R.ENG_STAT p) F.ENG_STAT_ROLE 4 else m
    (m.setBit (markBit .engine p).1 (markBit .engine p).2 true).raise FS.SID_WEAR (unitCode .engine p) (m.engOwner p)

/-- The wear figure of an engine (R503): the mean of the normalised readings of the last hour. -/
def Module.engineWear (m : Module) (p v : Nat) : Module :=
  let norm := (Config.gaugeNorm p v m.freeCtr).toNat
  let m := { m with freeCtr := m.freeCtr + 1 }
  let hour := (SMap.getD [] m.sid.gauge p).filter (fun g => decide (m.now < g.1 + 1800000000000)) ++ [(m.now, norm)]
  let m := { m with sid := { m.sid with gauge := SMap.setD [] m.sid.gauge p hour } }
  let mean : Nat := (hour.map (fun g : Nat × Nat => g.2)).sum / hour.length
  let m := m.wf (R.SID_WEAR p) F.SID_WEAR_PS mean
  if m.rf R.SID_CFG F.SID_CFG_ENG_WARN < mean then m.markEngine p else m

/-- A gauge reading, or its absence (R85, R101 to R103). -/
def Module.gaugeReading (m : Module) (p : Nat) (r : Option Nat) : Module :=
  match r with
  | none =>
    let n := SMap.getD 0 m.eng.gaugeMiss p + 1
    let m := { m with eng := { m.eng with gaugeMiss := SMap.setD 0 m.eng.gaugeMiss p n } }
    if n = 3 then m.raiseFree FS.ENG_GAUGE_LOST (m.engOwner p) else m
  | some v =>
    let g := R.ENG_GAUGE p
    let m := { m with eng := { m.eng with
      gaugeMiss := SMap.setD 0 m.eng.gaugeMiss p 0,
      gaugeN := SMap.setD 0 m.eng.gaugeN p (SMap.getD 0 m.eng.gaugeN p + 1),
      gaugeMax := SMap.setD 0 m.eng.gaugeMax p (max (SMap.getD 0 m.eng.gaugeMax p) v) } }
    let m := m.wf g F.ENG_GAUGE_LAST v
    let m := m.wf g F.ENG_GAUGE_MAX (if m.eng.maxFresh.contains p then v else max v (m.rf g F.ENG_GAUGE_MAX))
    let m := { m with eng := { m.eng with maxFresh := m.eng.maxFresh.filter (· ≠ p) } }
    let m := m.engineWear p v
    let m := if 700 < v then (m.raiseFree FS.ENG_BELOW_FLOOR (m.engOwner p)).markEngine p else m
    match m.servedBy p with
    | some e =>
      if m.rf (R.TTB_GAUGE e) F.TTB_GAUGE_ADM < v then m.raiseFree FS.TT_SPEED_LOW (m.engOwner p) else m
    | none => m

/-- GAUGE_READING (R101). -/
def execGaugeReading (p : Fin 10) (r : Option (BitVec 16)) (s : State) :=
  s.runOn (·.gaugeReading p (r.map BitVec.toNat))

/-- The loader has rewritten a failing IM line from the bank the active copy was loaded from (R110, R510). -/
def Module.imRewrite (m : Module) (e line : Nat) : Module :=
  if !m.eng.badLines.contains (e, line) then m else
  let bank := match m.activeCopy with
    | some c => SMap.getD 0 m.eng.bankOf c
    | none => m.activeBank
  let off := 64 * line - m.imHalf e
  let owner := (m.activeTasks e).find? (fun t =>
    decide (m.imHalf e ≤ 64 * line ∧ t.codeBase ≤ off ∧ off < t.codeBase + t.codeBytes))
  let m := match owner with
    | some t =>
      let src := norBase bank + t.img % 0x02000000
      m.setBytes (m.imAddr e (64 * line)) (m.mbytes (src + m.mn (src + 0x0C) 4 + (off - t.codeBase)) 64)
    | none => m
  { m with eng := { m.eng with badLines := m.eng.badLines.filter (· ≠ (e, line)) } }

/-- IM_LINE_REWRITE (R110). -/
def execImLineRewrite (le : Fin 8) (line : Fin 2048) (s : State) := s.runOn (·.imRewrite le line)

/-- The spare rows of a row's memory are counted in, and what follows when none is left (R111). -/
def Module.retireCount (m : Module) (r : Row) : Module :=
  match r with
  | .yard row =>
    let k := row / 1024
    let m := m.wf (R.YARD_SPARE k) F.YARD_SPARE_USED (min 128 (m.rf (R.YARD_SPARE k) F.YARD_SPARE_USED + 1))
    if m.rf (R.YARD_SPARE k) F.YARD_SPARE_USED = 128 then m.raiseFree FS.YARD_SPARE_OUT .none else m
  | .dm p _ =>
    let m := m.wf (R.ENG_SPARE p) F.ENG_SPARE_DM (min 16 (m.rf (R.ENG_SPARE p) F.ENG_SPARE_DM + 1))
    if m.rf (R.ENG_SPARE p) F.ENG_SPARE_DM = 16 then (m.raiseFree FS.ENG_SPARE_OUT (m.engOwner p)).markEngine p else m
  | .im p _ =>
    let m := m.wf (R.ENG_SPARE p) F.ENG_SPARE_IM (min 8 (m.rf (R.ENG_SPARE p) F.ENG_SPARE_IM + 1))
    if m.rf (R.ENG_SPARE p) F.ENG_SPARE_IM = 8 then (m.raiseFree FS.ENG_SPARE_OUT (m.engOwner p)).markEngine p else m

/-- ROW_RETIRE_COPY_DONE (R111): the spare replaces the row in one step; data and parity stand as they are, and the detections
that the old row had are not the spare's. With no spare left the row stays. -/
def Module.retireDone (m : Module) : Module :=
  match m.eng.retiring with
  | [] => m
  | r :: rs =>
    let m := { m with eng := { m.eng with retiring := rs } }
    if !m.spareLeft r then m
    else
      let m := { m with eng := { m.eng with hits := m.eng.hits.filter (fun h => h.1 ≠ r) } }
      (m.retireCount r).raiseFree FS.ROW_RETIRED .none

/-- ROW_RETIRE_COPY_DONE (R111). -/
def execRowRetireCopyDone (s : State) := s.runOn (·.retireDone)

end Sys2Proof.Machine
end

