-- ==== Sys2Proof/Machine/Afe.lean ====
section
/-! DEFINITION. Afe.lean: triggers, sequences, the open-wire and offset tests, low-power mode and the comparators
(R233 to R254). -/

namespace Sys2Proof.Machine

/-! ### Conversions (R233, R234, R241) -/

/-- GAIN × volts + OFFSET with one rounding (R241); a non-finite GAIN or OFFSET makes the value NaN. -/
def afeScaled (gain offset : Word) (trim : Int) : Word :=
  if !Fp.isFinite gain || !Fp.isFinite offset then Fp.qNaN
  else (Fp.addExact (Fp.sMant gain * trim) (Fp.exp2 gain - 40) (Fp.sMant offset) (Fp.exp2 offset)
    (Fp.sign offset)).1

/-- Word `w` of slot `j` of the sequence configuration of core `c`, as it acts (R239). -/
def Module.seqSlot (m : Module) (c j w : Nat) : Word := m.mwE (0x01870000 + 256 * c + 16 * j + 4 * w)

/-- The input a slot selects (R234). -/
def Module.slotInput (m : Module) (c j : Nat) : Nat := (m.seqSlot c j 0).toNat % 32

/-- The FP32 value of an internal channel (R234): volts before the fixed ×0.5 divider, for VMAIN/5 times 5, with one rounding
(R241); or °C. -/
def internalValue (core input : Nat) (code : BitVec 16) : Word :=
  let v := 2 * afeVolts core input code
  if 0x1C ≤ input ∧ input ≤ 0x1E then Config.afeCelsius core input code
  else (Fp.roundInt (if input = 0x19 then 5 * v else v) (-40)).1

/-- The FP32 value of slot `j` (R234). -/
def Module.slotValue (m : Module) (c j : Nat) (code : BitVec 16) : Word :=
  let i := m.slotInput c j
  let core := m.coreOf c
  if i < 24 then afeScaled (m.seqSlot c j 1) (m.seqSlot c j 2) (afeVolts core i code)
  else internalValue core i code

/-- Entry `c` of the sample table (R240). -/
def afeEntry (c : Nat) : Nat := 0x01871000 + 256 * c

/-- The FLAGS of an entry. -/
def Module.afeFlag (m : Module) (c bit : Nat) (b : Bool) : Module :=
  m.setMn (afeEntry c + 140) 4 (setBitN (m.mn (afeEntry c + 140) 4) bit b)

/-! ### Triggers and sequences (R236 to R238) -/

/-- Low-power mode is active (R245). -/
def Module.lpActive (m : Module) : Bool := m.flag R.AFE_STAT F.AFE_STAT_LPACT

/-- Slots of the sequence of logical core `c`. -/
def Module.seqLen (m : Module) (c : Nat) : Nat := m.rf (R.AFE_SEQ c) F.AFE_SEQ_LENM1 + 1

/-- A trigger reaches logical core `c`: its sequence starts, or the trigger is refused while one runs (R237, R238). -/
def Module.triggerCore (m : Module) (c : Nat) : Module :=
  if SMap.getD 0 m.afe.busyTo c > m.now then
    let m := m.bump (R.AFE_OVR c) R.AFE_SAT c
    let first := SMap.getD 0 m.afe.ovrFrame c != m.frameStamp
    let m := { m with afe := { m.afe with
      refused := if c ∈ m.afe.refused then m.afe.refused else c :: m.afe.refused,
      ovrFrame := SMap.setD 0 m.afe.ovrFrame c m.frameStamp } }
    if first then m.raise FS.AFE_TRIG_OVR c .none else m
  else
    let r : SeqRun := ⟨m.now, m.todSec, m.todNs, m.seqLen c, 100, m.flag R.AFE_STAT F.AFE_STAT_SETTLING,
      m.afe.refused.contains c⟩
    { m with afe := { m.afe with
      runs := SMap.setD [] m.afe.runs c (SMap.getD [] m.afe.runs c ++ [r]),
      busyTo := SMap.setD 0 m.afe.busyTo c (m.now + 100 * m.seqLen c),
      refused := m.afe.refused.filter (· ≠ c) } }

/-- The cores that trigger line `t` starts (R237). -/
def Module.triggerCores (m : Module) (t : Nat) : List Nat :=
  (List.range 4).filter (fun c => m.flag (R.AFE_SEQ c) F.AFE_SEQ_EN && m.rf (R.AFE_SEQ c) F.AFE_SEQ_TRG == t)

/-- The tick at which trigger line `t` fires in the present period of its generator (R236, R262): the one whose interval
contains the value of the field that SEL names; none where the generator does not count, the trigger is disabled, or the
value lies at or beyond the period. -/
def Module.trigTick (m : Module) (t : Nat) : Option Nat :=
  let g := m.rf (R.AFE_TRIG t) F.AFE_TRIG_GEN
  let x := m.gen g
  let v := m.rn (if m.flag (R.AFE_TRIG t) F.AFE_TRIG_SEL then R.PWM_TRIG1 g else R.PWM_TRIG0 g)
  if !x.running ∨ v = 0xFFFFFFFF ∨ x.plan.period ≤ v then none else some (x.start + (x.frac + v) / 1024)

/-- A trigger line fires (R236): at its tick, not while no ticks are delivered; ignored during the open-wire test (R244) and
in low-power mode (R245). -/
def Module.triggerFire (m : Module) (t : Nat) : Module :=
  if !m.flag (R.AFE_TRIG t) F.AFE_TRIG_EN || !m.ticking || m.flag R.AFE_STAT F.AFE_STAT_OWBUSY || m.lpActive
      || m.trigTick t != some m.now then m
  else (m.triggerCores t).foldl Module.triggerCore m

/-- TRIGGER_FIRE (R236). -/
def execTriggerFire (t : Fin 8) (s : State) := s.runOn (·.triggerFire t)

/-- Keep a conversion for SV publication (R220): those of the last 2.5 ms, and the one before. -/
def Module.keepConversion (m : Module) (input tick : Nat) (core code : Nat) : Module :=
  let old := SMap.getD [] m.afe.hist input
  let recent := old.filter (fun h => decide (m.now < h.1 + 1250000))
  let kept := if recent.isEmpty then old.drop (old.length - 1) else recent
  { m with afe := { m.afe with hist := SMap.setD [] m.afe.hist input (kept ++ [(tick, core, code)]) } }

/-- The sequence of core `c` becomes readable (R237, R240): its values and codes, SEQ, the trigger tick and FLAGS. -/
def Module.publishSequence (m : Module) (c : Nat) (r : SeqRun) (codes : List (BitVec 16)) : Module :=
  let code (j : Nat) : BitVec 16 := codes.getD j 0
  let clip := (List.range r.len).foldl
    (fun n j => if code j = 0x7FFF#16 ∨ code j = 0x8000#16 then n + 1 <<< j else n) 0
  let e := afeEntry c
  let m := (List.range 16).foldl (fun m j =>
    let m := m.setMw (e + 4 * j) (if j < r.len then m.slotValue c j (code j) else 0)
    m.setMw (e + 64 + 4 * j) (if j < r.len then (code j).signExtend 32 else 0)) m
  let m := m.setMn (e + 128) 4 (m.mn (e + 128) 4 + 1)
  let m := (m.setMn (e + 132) 4 r.ns).setMn (e + 136) 4 r.sec
  let m := m.setMn (e + 140) 4 (clip + (if r.settle then 1 <<< 16 else 0) + if r.ovr then 1 <<< 19 else 0)
  let m := (List.range r.len).foldl (fun m j =>
    if m.slotInput c j < 24 then m.keepConversion (m.slotInput c j) (r.start + r.slot * j) (m.coreOf c) (code j).toNat
    else m) m
  m.latchEvent 1 c

/-- The start of a low-power sequence that ends now: 10 µs a slot (R245). -/
def Module.lpRun (m : Module) : SeqRun :=
  let back := 10000 * m.seqLen 0
  let t := m.todNanos - back
  ⟨m.now - back / 2, t / 1000000000, t % 1000000000, m.seqLen 0, 5000, false, false⟩

/-- A sequence completes (R237): the oldest under way; in low-power mode core 0 runs from its own timer (R245). During the
open-wire test none runs (R244). -/
def Module.sequenceComplete (m : Module) (c : Nat) (codes : List (BitVec 16)) : Module :=
  if m.flag R.AFE_STAT F.AFE_STAT_OWBUSY then m
  else if m.lpActive then
    if c = 0 ∧ m.flag (R.AFE_SEQ 0) F.AFE_SEQ_EN then m.publishSequence 0 m.lpRun codes else m
  else
    match SMap.getD [] m.afe.runs c with
    | [] => m
    | r :: rs =>
      ({ m with afe := { m.afe with runs := SMap.setD [] m.afe.runs c rs } } : Module).publishSequence c r codes

/-- SEQUENCE_COMPLETE (R237): with the codes of its slots. -/
def execSequenceComplete (c : Fin 4) (codes : List (BitVec 16)) (s : State) := s.runOn (·.sequenceComplete c codes)

/-! ### Checks and tests (R243, R244) -/

/-- The drift check of a physical core (R243): the departure of VREF from its OTP value in µV; none where no gap
occurred within 10 s. -/
def Module.driftCheck (m : Module) (core : Nat) (dev : Option Int) : Module :=
  match dev with
  | none => m.setBit R.AFE_STAT (16 + core) true
  | some d =>
    let m := m.setBit R.AFE_STAT (16 + core) false
    if 500 < d.natAbs then
      ((m.setBit R.AFE_STAT (8 + core) true).raise FS.AFE_DRIFT core .none).markUnit .core core
    else m.setBit R.AFE_STAT (8 + core) false

/-- DRIFT_CHECK (R243). -/
def execDriftCheck (core : Fin 5) (dev : Option (BitVec 32)) (s : State) :=
  s.runOn (·.driftCheck core (dev.map BitVec.toInt))

/-- AFE_CTRL.OWTEST (R244): the cores suspend their sequences, and entries carry FLAGS.TEST. -/
def Module.goOwtest (m : Module) : Module :=
  let m := m.setFlag R.AFE_STAT F.AFE_STAT_OWBUSY true
  let m := { m with afe := { m.afe with runs := [], busyTo := [] } }
  (List.range 4).foldl (fun m c => m.afeFlag c 17 true) m

/-- The open-wire test ends (R244), with a reading in µV per input: above 1.0 V is open. -/
def Module.openWireDone (m : Module) (rs : List (Nat × Int)) : Module :=
  if !m.flag R.AFE_STAT F.AFE_STAT_OWBUSY then m
  else
    let sel := m.rn R.AFE_OW_SEL
    let res := (List.range 24).foldl (fun n i =>
      if sel.testBit i ∧ rs.any (fun r => r.1 == i && decide (1000000 < r.2)) then n + 1 <<< i else n) 0
    let m := m.wn R.AFE_OW_RES res
    let m := m.setFlag R.AFE_STAT F.AFE_STAT_OWBUSY false
    let m := m.setFlag R.AFE_CTRL F.AFE_CTRL_OWTEST false
    match (List.range 24).find? (fun i => res.testBit i) with
    | some i => m.raise FS.AFE_OPEN i .none
    | none => m

/-- OPEN_WIRE_DONE (R244). -/
def execOpenWireDone (readings : List (Fin 24 × BitVec 32)) (s : State) :=
  s.runOn (·.openWireDone (readings.map (fun r => (r.1.val, r.2.toInt))))

/-! ### Low-power mode (R245) -/

/-- AFE_REFERENCE_SETTLED (R245). -/
def execAfeReferenceSettled (s : State) := s.runOn (·.setFlag R.AFE_STAT F.AFE_STAT_SETTLING false)

/-- AFE_CFG.LP takes effect at a frame boundary (R245). -/
def Module.afeBoundary (m : Module) : Module :=
  let lp := m.flag R.AFE_CFG F.AFE_CFG_LP
  if lp == m.lpActive then m
  else
    let m := m.setFlag R.AFE_STAT F.AFE_STAT_LPACT lp
    let m := { m with afe := { m.afe with runs := [], busyTo := [] } }
    if lp then [1, 2, 3].foldl (fun m c => m.afeFlag c 18 true) (m.setFlag R.AFE_STAT F.AFE_STAT_SETTLING false)
    else m.setFlag R.AFE_STAT F.AFE_STAT_SETTLING true

/-! ### Comparators (R246 to R251) -/

/-- A flag of AFE_CMP_nn_CFG. -/
def Module.cmpCfg (m : Module) (n : Nat) (f : Field) : Bool := m.flag (R.AFE_CMP_CFG n) f

/-- The comparator of pair `n` is enabled. -/
def Module.cmpEn (m : Module) (n : Nat) : Bool := n < 24 && m.cmpCfg n F.AFE_CMP_CFG_EN

/-- Pair `n` is unresolved (R250). -/
def Module.cmpUnres (m : Module) (n : Nat) : Bool := m.bit R.AFE_CMP_UNRES n

/-- The output of pair `n`, inverted by INV; while unresolved the output is INIT (R246, R250). -/
def Module.cmpOut (m : Module) (n : Nat) : Bool :=
  let o := if m.cmpUnres n then m.cmpCfg n F.AFE_CMP_CFG_INIT else m.afe.out.contains n
  m.cmpEn n && o != m.cmpCfg n F.AFE_CMP_CFG_INV

/-- The asserted state of pair `n` as its fault-line route and a window see it: unresolved with UA = 1 counts as
asserted (R250). -/
def Module.cmpAlone (m : Module) (n : Nat) : Bool :=
  m.cmpEn n && ((m.cmpUnres n && m.cmpCfg n F.AFE_CMP_CFG_UA) || m.cmpOut n)

/-- Pair `n` is the even pair of a window (R248). -/
def Module.cmpWin (m : Module) (n : Nat) : Bool := n % 2 == 0 && m.cmpCfg n F.AFE_CMP_CFG_WIN

/-- The asserted state that the fault-line route of pair `n` sees, with windows applied (R248). -/
def Module.cmpLine (m : Module) (n : Nat) : Bool :=
  m.cmpEn n && (m.cmpAlone n || (m.cmpWin n && m.cmpAlone (n + 1)))

/-- The asserted state that the capture, event and NTF routes of pair `n` see (R248, R250). -/
def Module.cmpEdge (m : Module) (n : Nat) : Bool :=
  m.cmpEn n && (m.cmpOut n || (m.cmpWin n && m.cmpOut (n + 1)))

/-- Pair `n`, or the partner in its window, is unresolved and counts as asserted (R250). -/
def Module.cmpByUa (m : Module) (n : Nat) : Bool :=
  let ua (k : Nat) : Bool := m.cmpEn k && m.cmpUnres k && m.cmpCfg k F.AFE_CMP_CFG_UA
  ua n || (m.cmpWin n && ua (n + 1))

/-- Raise CMP_TRIP, at most once per frame per pin pair (R249); bit 8 marks an unresolved comparator (R250). -/
def Module.cmpTrip (m : Module) (n : Nat) : Module :=
  if SMap.getD 0 m.afe.tripFrame n = m.frameStamp then m
  else
    let m := { m with afe := { m.afe with tripFrame := SMap.setD 0 m.afe.tripFrame n m.frameStamp } }
    m.raise FS.CMP_TRIP (n + if m.cmpByUa n then 256 else 0) .none

/-- The fault-line route of pair `n` (R249): the request stands while the pair is asserted. -/
def Module.cmpFl (m : Module) (n : Nat) : Module :=
  let want := m.up && m.cmpCfg n F.AFE_CMP_CFG_FLEN && m.cmpLine n
  let fl := m.rf (R.AFE_CMP_CFG n) F.AFE_CMP_CFG_FL
  let m := (List.range 32).foldl (fun m l =>
    if want && l == fl then m else m.withdrawLine l (.cmp n)) m
  if want && !(m.lineReqs fl).contains (.cmp n) then (m.requestLine fl (.cmp n)).cmpTrip n else m

/-- The capture, event and NTF routes of pair `n` at a change of its asserted state from `was` (R249). -/
def Module.cmpRoutes (m : Module) (n : Nat) (was : Bool) : Module :=
  let is := m.cmpEdge n
  if !m.up || is == was then m
  else
    let edge := m.rf (R.AFE_CMP_CFG n) F.AFE_CMP_CFG_EDGE
    let sees := if is then edge.testBit 0 else edge.testBit 1
    let m := if sees && m.cmpCfg n F.AFE_CMP_CFG_CAPEN then m.capture (m.rf (R.AFE_CMP_CFG n) F.AFE_CMP_CFG_CAP) else m
    let m := if sees && m.cmpCfg n F.AFE_CMP_CFG_EVEN then
        m.latchEvent 5 (m.rf (R.AFE_CMP_CFG n) F.AFE_CMP_CFG_EVR) else m
    if is && m.cmpCfg n F.AFE_CMP_CFG_NTF then m.raise FS.CMP_EVENT n .none else m

/-- Show pair `n` in AFE_CMP_STAT, with windows applied. -/
def Module.cmpShow (m : Module) (n : Nat) : Module :=
  m.setBit R.AFE_CMP_STAT n (if m.cmpWin n then m.cmpLine n else m.cmpEdge n)

/-- Let the routes follow a change from `old`. -/
def Module.cmpFollow (m old : Module) : Module :=
  (List.range 24).foldl (fun m n => ((m.cmpFl n).cmpRoutes n (old.cmpEdge n)).cmpShow n) m

/-- Pair `n` resolves to a side of its band (R250). -/
def Module.cmpResolve (m : Module) (n : Nat) (above : Bool) : Module :=
  let m := m.setBit R.AFE_CMP_UNRES n false
  let rest := m.afe.out.filter (· ≠ n)
  { m with afe := { m.afe with out := if above then n :: rest else rest } }

/-- The side of its band on which the input of pair `n` lies (R247). -/
def Module.cmpSide (m : Module) (n : Nat) : Option Bool :=
  bandSide (m.rf (R.AFE_CMP_CFG n) F.AFE_CMP_CFG_HYS) (SMap.getD 0 m.afe.pn n)

/-- Pair `n` is enabled or powered, or its MODE, HYS or INV changed (R250): outside the band it resolves, inside it is
unresolved. -/
def Module.cmpStart (m : Module) (n : Nat) : Module :=
  if !m.cmpEn n then
    (m.setBit R.AFE_CMP_UNRES n false).cmpResolve n false
  else match m.cmpSide n with
    | some above => m.cmpResolve n above
    | none => m.setBit R.AFE_CMP_UNRES n true

/-- Pair `n` decides by its input: a side of the band resolves it, within the band its output stays (R249, R250). -/
def Module.cmpDecide (m : Module) (n : Nat) : Module :=
  match m.cmpSide n with
  | none => m
  | some above => m.cmpResolve n above

/-- P − N of a pin pair, in µV, crosses an edge of its band (R247, R249, R250). During the offset test the pins are disconnected
(R251). -/
def Module.crossing (m : Module) (n : Nat) (pn : Int) : Module :=
  let m := { m with afe := { m.afe with pn := SMap.setD 0 m.afe.pn n pn } }
  if m.flag R.AFE_STAT F.AFE_STAT_CMPBUSY || !m.cmpEn n || !m.up then m else (m.cmpDecide n).cmpFollow m

/-- COMPARATOR_CROSSING (R249). -/
def execComparatorCrossing (n : Fin 24) (pn : BitVec 32) (s : State) := s.runOn (·.crossing n pn.toInt)

/-- AFE_CTRL.CMPTEST (R251). -/
def Module.goCmptest (m : Module) : Module := m.setFlag R.AFE_STAT F.AFE_STAT_CMPBUSY true

/-- The offset test ends (R251), with an offset in µV per physical comparator; the pins are connected again, and outputs and
routes follow what they show. -/
def Module.cmpTestDone (m : Module) (rs : List (Nat × Int)) : Module :=
  if !m.flag R.AFE_STAT F.AFE_STAT_CMPBUSY then m
  else
    let bad := (List.range 28).filter (fun n => rs.any (fun r => r.1 == n && decide (3000 < r.2.natAbs)))
    let m := m.wn R.AFE_CMP_OFSFAIL (bad.foldl (fun v n => v + 1 <<< n) 0)
    let m := m.setFlag R.AFE_STAT F.AFE_STAT_CMPBUSY false
    let m := m.setFlag R.AFE_CTRL F.AFE_CTRL_CMPTEST false
    let m := bad.foldl (fun m n => (m.raise FS.AFE_CMP_OFFSET n .none).markUnit .comparator n) m
    if !m.up then m
    else ((List.range 24).foldl (fun m n => if m.cmpEn n then m.cmpDecide n else m) m).cmpFollow m

/-- CMP_TEST_DONE (R251). -/
def execCmpTestDone (offsets : List (Fin 28 × BitVec 32)) (s : State) :=
  s.runOn (·.cmpTestDone (offsets.map (fun r => (r.1.val, r.2.toInt))))

/-- A write changed AFE_CMP_nn_CFG of pair `n` (R250). -/
def Module.cmpConfigured (m old : Module) (n : Nat) : Module :=
  let same (f : Field) : Bool := m.rf (R.AFE_CMP_CFG n) f == old.rf (R.AFE_CMP_CFG n) f
  let still := same F.AFE_CMP_CFG_EN && same F.AFE_CMP_CFG_MODE && same F.AFE_CMP_CFG_HYS && same F.AFE_CMP_CFG_INV
  let m := if still then m else m.cmpStart n
  m.cmpFollow old

/-- At the end of INSPECT every comparator starts (R249, R250). -/
def Module.cmpPowered (m : Module) : Module :=
  ((List.range 24).foldl Module.cmpStart m).cmpFollow { m with afe := { m.afe with out := [] } }

end Sys2Proof.Machine
end

