-- ==== Sys2Proof/Machine/Can.lean ====
section
/-! DEFINITION. Can.lean: the CAN FD controllers and the CAN rows (R364, R365, R369). -/

namespace Sys2Proof.Machine

/-- A controller takes part in bus traffic: enabled and not bus-off (R364). -/
def Module.canOn (m : Module) (c : Nat) : Bool :=
  m.up && m.cflag (R.CAN_CFG c) F.CAN_CFG_EN && !m.flag (R.CAN_STAT c) F.CAN_STAT_BUSOFF

/-- The row of a port's message (R365): VCMD at +0x00, BMS at +0x20. -/
def canRow (port off : Nat) : Nat := 0x01880000 + 256 * port + off

/-- A VCMD or BMS frame is written to its row (R365), with UPD counted before and after (R224); a frame that is not 16
bytes long is none of the message set. -/
def Module.canReceive (m : Module) (c port off : Nat) (data : List Byte) : Module :=
  if !m.canOn c then m
  else if data.length ≠ 16 then m.bump (R.CAN_DISC c) (R.CAN_SAT c) 0
  else
    let a := canRow port off
    let m := m.accum32 (R.CAN_RXCNT c) 1
    let m := m.setMn a 4 (m.mn a 4 + 1)
    let m := m.setMn (a + 4) 4 m.todNs
    let m := m.setBytes (a + 8) data
    m.setMn a 4 (m.mn a 4 + 1)

/-- CAN_VCMD_RECEIVED (R365): on controller `c`, for the port whose CAN_ID the identifier names. -/
def execCanVcmdReceived (c : Fin 2) (port : Fin 4) (data : List (BitVec 8)) (s : State) :=
  s.runUp (·.canReceive c port 0 data)
/-- CAN_BMS_RECEIVED (R365). -/
def execCanBmsReceived (c : Fin 2) (port : Fin 4) (data : List (BitVec 8)) (s : State) :=
  s.runUp (·.canReceive c port 0x20 data)

/-- CAN_FRAME_DISCARD (R364). -/
def execCanFrameDiscard (c : Fin 2) (s : State) :=
  s.runUp (fun m => if m.canOn c then m.bump (R.CAN_DISC c) (R.CAN_SAT c) 0 else m)

/-- The transmit rows (R365): message M, where it stands in the port's row, and its length. The manual gives the area
+0x40 to +0xFF and no layout within it (DESIGN CHOICE, log 21): an ACK for each of the two received rows. -/
def canTx : List (Nat × Nat × Nat) := [(8, 0x40, 8), (8, 0x48, 8), (9, 0x80, 24), (10, 0xC0, 16)]

/-- Messages staged in a block are queued at its commit point (R365). -/
def Module.canCommit (m : Module) (words : List Nat) : Module :=
  (List.range 4).foldl (fun m port => canTx.foldl (fun m t =>
    let a := canRow port t.2.1
    if words.any (fun w => decide (a ≤ w ∧ w < a + t.2.2)) then
      { m with can := { m.can with queue := m.can.queue ++ [(port, t.1, m.mbytes a t.2.2)] } }
    else m) m) m

/-- The oldest queued message `msg` of a port is sent. -/
def Module.canSend (m : Module) (c port msg : Nat) : Module :=
  if !m.canOn c then m
  else match m.can.queue.find? (fun q => q.1 == port && q.2.1 == msg) with
    | none => m
    | some q =>
      let m := m.accum32 (R.CAN_TXCNT c) 1
      { m with can := { m.can with queue := m.can.queue.erase q, sent := SMap.setD [] m.can.sent (16 * port + msg) q.2.2 } }

/-- CAN_ACK_SEND (R365). -/
def execCanAckSend (c : Fin 2) (port : Fin 4) (s : State) := s.runUp (·.canSend c port 8)
/-- CAN_STATUS_SEND (R365). -/
def execCanStatusSend (c : Fin 2) (port : Fin 4) (s : State) := s.runUp (·.canSend c port 9)
/-- CAN_FAULT_SEND (R365). -/
def execCanFaultSend (c : Fin 2) (port : Fin 4) (s : State) := s.runUp (·.canSend c port 10)

/-- A controller enters bus-off (R364, R369): its transmit counter, past 255, reads 0xFF. -/
def Module.busOff (m : Module) (c : Nat) : Module :=
  if !m.canOn c then m
  else
    let m := m.setFlag (R.CAN_STAT c) F.CAN_STAT_BUSOFF true
    let m := m.wf (R.CAN_STAT c) F.CAN_STAT_TEC 0xFF
    let m := m.setFlag (R.CAN_STAT c) F.CAN_STAT_EWARN true
    let m := m.bump (R.CAN_BUSOFF c) (R.CAN_SAT c) 1
    m.raise FS.CAN_BUSOFF c .none

/-- CAN_BUS_OFF (R364). -/
def execCanBusOff (c : Fin 2) (s : State) := s.runUp (·.busOff c)

/-- CAN_BUSOFF_RECOVERY (R364): the controller is error active again, its counters 0. -/
def execCanBusoffRecovery (c : Fin 2) (s : State) :=
  s.runUp (fun m => if m.flag (R.CAN_STAT c) F.CAN_STAT_BUSOFF then m.wr (R.CAN_STAT c) 0 else m)

end Sys2Proof.Machine
end

