-- ==== Sys2Proof/Machine/Gate.lean ====
section
/-! DEFINITION. Gate.lean: the gate dies: commands, detectors, supply checks, latches, the both-on refusal and the command
link (R286 to R301). Channel 2k is the high side of half-bridge k, channel 2k + 1 its low side. -/

namespace Sys2Proof.Machine

/-- The fault line of a half-bridge (R292). -/
def Module.hbLine (m : Module) (hb : Nat) : Nat := m.cf (R.GD_HB_CFG hb) F.GD_HB_CFG_FLINE

/-- The half-bridge is enabled. -/
def Module.hbEn (m : Module) (hb : Nat) : Bool := m.cflag (R.GD_HB_CFG hb) F.GD_HB_CFG_EN

/-- Every supply check of a channel passes; VN presence is not made when PROT.VNREQ = 0 (R287). -/
def Module.gdSupplies (m : Module) (ch : Nat) : Bool :=
  m.gd ch F.GD_STAT_VPOK && (m.gd ch F.GD_STAT_VNOK || !m.cflag (R.GD_PROT ch) F.GD_PROT_VNREQ)
    && !m.gd ch F.GD_STAT_REV

/-- A channel may drive: its half-bridge is enabled and not in a refusal episode, neither channel is latched, the
supplies pass, the link is valid, and both enables of the Interlocking are on (R287, R292, R294, R298, R300, R450). -/
def Module.gdFree (m : Module) (ch : Nat) : Bool :=
  m.hbEn (ch / 2) && !m.gate.episode.contains (ch / 2) && !m.gd ch F.GD_STAT_LATCH
    && !m.gd (partner ch) F.GD_STAT_LATCH && m.gdSupplies ch && m.bit R.GD_LINK (ch / 4) && m.gate.enA && m.gate.enB

/-- The condition that caused a latch is gone (R295): the soft turn-off has completed, the detectors are deasserted (a
channel that does not drive on reads them so, R291), the supply checks pass and the link is valid. -/
def Module.gdGone (m : Module) (ch : Nat) : Bool :=
  !m.gd ch F.GD_STAT_SOFT && !m.gd ch F.GD_STAT_ON && m.gdSupplies ch && m.bit R.GD_LINK (ch / 4)

/-- Show whether each channel of a half-bridge is held off by its partner's fault or by R298. -/
def Module.showHeld (m : Module) (hb : Nat) : Module :=
  let ep := m.gate.episode.contains hb
  let m := m.setGd (2 * hb) F.GD_STAT_HELD (ep || m.gd (2 * hb + 1) F.GD_STAT_LATCH)
  m.setGd (2 * hb + 1) F.GD_STAT_HELD (ep || m.gd (2 * hb) F.GD_STAT_LATCH)

/-- A channel turns on: the turn-on edge is counted (R290, R301); the clamp releases (R289). -/
def Module.gdOn (m : Module) (ch : Nat) : Module :=
  let m := ((m.setGd ch F.GD_STAT_ON true).gdDrive ch (m.onEdge ch)).setGd ch F.GD_STAT_CLAMPON false
  ({ m with gate := { m.gate with waitRise := m.gate.waitRise.filter (· ≠ ch) } } : Module).accum64 (R.GD_EDGES ch) 1

/-- A channel whose command is on drives again when nothing holds it, unless it waits for a rising command. -/
def Module.gdResume (m : Module) (ch : Nat) : Module :=
  if m.gd ch F.GD_STAT_CMD && !m.gd ch F.GD_STAT_ON && !m.gd ch F.GD_STAT_SOFT && m.gdFree ch
      && !m.gate.waitRise.contains ch && !m.gd (partner ch) F.GD_STAT_CMD then
    m.gdOn ch
  else m

/-- Only the next rising command is obeyed. -/
def Module.gdWait (m : Module) (ch : Nat) : Module :=
  if m.gate.waitRise.contains ch then m
  else { m with gate := { m.gate with waitRise := ch :: m.gate.waitRise } }

/-- Withdraw a request of a half-bridge, whatever line it stands on. -/
def Module.gdWithdraw (m : Module) (hb kind : Nat) : Module :=
  (List.range 32).foldl (fun m l => m.withdrawLine l (.gd hb kind)) m

/-- The channel's request is withdrawn when its condition is gone (R295). -/
def Module.gdSettle (m : Module) (ch : Nat) : Module :=
  let m := if m.gdGone ch then m.gdWithdraw (ch / 2) (ch % 2) else m
  if m.gdGone ch && m.gdGone (partner ch) then m.gdWithdraw (ch / 2) 3 else m

/-- A channel latches its fault (R292): the first cause stays. -/
def Module.gdLatch (m : Module) (ch cause : Nat) : Module :=
  let m := if m.gd ch F.GD_STAT_LATCH then m
    else (m.setGd ch F.GD_STAT_LATCH true).wf (R.GD_STAT ch) F.GD_STAT_CAUSE cause
  let m := (m.setGd ch F.GD_STAT_DET true).setBit R.GD_FAULT ch true
  let m := m.gdOff (partner ch)
  m.showHeld (ch / 2)

/-- A fault of a channel: soft turn-off, partner held off, latch, request and report (R292). -/
def Module.gdFault (m : Module) (ch cause src : Nat) : Module :=
  let m := (m.gdSoftOff ch).gdLatch ch cause
  let m := m.requestLine (m.hbLine (ch / 2)) (.gd (ch / 2) (ch % 2))
  m.raise src ch .none

/-- A detector asserts (R291, R292): only on a channel that drives on, and only where it is enabled. -/
def Module.detector (m : Module) (ch : Nat) (en : Field) (cause src : Nat) : Module :=
  if m.gd ch F.GD_STAT_ON && m.cflag (R.GD_PROT ch) en then
    (m.bump (R.GD_SC ch) R.GD_SAT ch).gdFault ch cause src
  else m

/-- The desaturation threshold of a channel in mV, and its blanking in ns (R291). -/
def Module.desatMv (m : Module) (ch : Nat) : Nat := 4000 + 500 * min 14 (m.cf (R.GD_PROT ch) F.GD_PROT_DTH)
def Module.blankNs (m : Module) (ch : Nat) : Nat := 10 * min 500 (max 15 (m.cf (R.GD_PROT ch) F.GD_PROT_BLANK))

/-- The di/dt threshold of a channel in mV (R291). -/
def Module.didtMv (m : Module) (ch : Nat) : Nat := 500 + 300 * m.cf (R.GD_PROT ch) F.GD_PROT_KTH

/-- DESAT_DETECT (R291, R292): DESAT − COM in mV through the filter, so many ns after the start of the turn-on edge at OUT. -/
def execDesatDetect (d : DesatSense) (s : State) :=
  s.runOn (fun m =>
    if m.desatMv d.ch < d.mv.toNat ∧ m.blankNs d.ch ≤ d.ns.toNat then m.detector d.ch F.GD_PROT_DESEN 1 FS.GD_DESAT else m)

/-- DIDT_DETECT (R291, R292): KLV − COM in mV through the filter, in the sense of rising current. -/
def execDidtDetect (d : DidtSense) (s : State) :=
  s.runOn (fun m => if m.didtMv d.ch < d.mv.toNat then m.detector d.ch F.GD_PROT_KLVEN 2 FS.GD_DIDT else m)

/-- OUT is low, or 10 µs have passed (R292): the sink changes to SNK2 and the clamp engages; the request goes when the
condition is gone. -/
def Module.softDone (m : Module) (ch : Nat) : Module :=
  if !m.gd ch F.GD_STAT_SOFT then m
  else
    let snk2 := m.gdStep ch 500 F.GD_EDGE_SNK2
    (((m.setGd ch F.GD_STAT_SOFT false).gdDrive ch ⟨false, snk2, none, snk2⟩).gdClamp ch).gdSettle ch

/-- SOFT_TURNOFF_DONE (R292). -/
def execSoftTurnoffDone (ch : Fin 24) (s : State) := s.runOn (·.softDone ch)

/-! ### Supply checks (R287, R293) -/

/-- The status bit of a check (0 UVLO, 1 VN presence, 2 reversal) and its value when the check passes. -/
def checkBit (k : Nat) : Field × Bool :=
  match k with
  | 0 => (F.GD_STAT_VPOK, true)
  | 1 => (F.GD_STAT_VNOK, true)
  | _ => (F.GD_STAT_REV, false)

/-- The level of UVLO in mV (R287). -/
def Module.uvloMv (m : Module) (ch : Nat) : Int := [10000, 12000, 14000].getD (m.cf (R.GD_PROT ch) F.GD_PROT_UVLO) 14000

/-- VP and VN in mV fail a check, and pass it again 0.5 V beyond its level (R287). -/
def Module.checkFails (m : Module) (ch k : Nat) (vp vn : Int) : Bool :=
  match k with
  | 0 => vp < m.uvloMv ch
  | 1 => -2000 < vn
  | _ => vp < -500 || 500 < vn
def Module.checkPasses (m : Module) (ch k : Nat) (vp vn : Int) : Bool :=
  match k with
  | 0 => m.uvloMv ch + 500 < vp
  | 1 => vn ≤ -2500
  | _ => 0 ≤ vp && vn ≤ 0

/-- The mode that the timebase indicates to the dies (R296): SYS_MODE, and HALT at once on entry into it. -/
def Module.dieMode (m : Module) : Nat :=
  if m.flag R.SYS_MODE F.SYS_MODE_HALTING then 3 else m.rf R.SYS_MODE F.SYS_MODE_MODE

/-- In SHUNT, DEPART and RUN supply faults latch (R293): DEDUCED, by the mode in force of R296 (log 47). -/
def Module.gdLatches (m : Module) : Bool := 5 ≤ m.dieMode

/-- A supply check fails (R287, R292, R293): a change from passing to failing latches in SHUNT, DEPART and RUN on an enabled
half-bridge; elsewhere it holds the channel off. -/
def Module.supplyFail (m : Module) (ch k : Nat) : Module :=
  let was := m.gd ch (checkBit k).1 == (checkBit k).2
  let m := m.setGd ch (checkBit k).1 (!(checkBit k).2)
  if k = 1 ∧ !m.cflag (R.GD_PROT ch) F.GD_PROT_VNREQ then m
  else if was && m.gdLatches && m.hbEn (ch / 2) then
    m.gdFault ch (3 + k) ([FS.GD_UVLO, FS.GD_VN, FS.GD_REV].getD k FS.GD_REV)
  else m.gdSoftOff ch

/-- SUPPLY_CHECK_FAIL (R287, R293) -/
def execSupplyCheckFail (ch : Fin 24) (c : SupplySense) (s : State) :=
  s.runOn (fun m => if m.checkFails ch c.check c.vp.toInt c.vn.toInt then m.supplyFail ch c.check else m)

/-- SUPPLY_CHECK_PASS (R287). -/
def execSupplyCheckPass (ch : Fin 24) (c : SupplySense) (s : State) :=
  s.runOn (fun m =>
    if m.checkPasses ch c.check c.vp.toInt c.vn.toInt then
      ((m.setGd ch (checkBit c.check).1 (checkBit c.check).2).gdSettle ch).gdResume ch
    else m)

/-! ### Clearing (R296) -/

/-- The latch of a channel clears (R296); both channels then obey their next rising command. -/
def Module.gdUnlatch (m : Module) (ch : Nat) : Module :=
  let m := (m.setGd ch F.GD_STAT_LATCH false).wf (R.GD_STAT ch) F.GD_STAT_CAUSE 0
  let m := m.setBit R.GD_FAULT ch false
  ((m.gdWait ch).gdWait (partner ch)).showHeld (ch / 2)

/-- GD_CLEAR bit nn (R296): nothing clears in INSPECT; refused while the condition is present. -/
def Module.goGdClear (m : Module) (ch : Nat) : Module :=
  let m := m.setBit R.GD_CLEAR ch false
  if !m.gd ch F.GD_STAT_LATCH || m.sys.inspecting then m
  else if m.gdGone ch then m.gdUnlatch ch
  else m.setGd ch F.GD_STAT_CLRREF true

/-- The channel's next rising command clears its latch: in SHUNT and DEPART, and during an automatic recovery (R296). -/
def Module.riseClears (m : Module) (ch : Nat) : Bool :=
  m.gd ch F.GD_STAT_LATCH && m.gdGone ch && !m.sys.inspecting
    && (m.dieMode == 5 || m.dieMode == 6 || m.gate.recovering.contains ch)

/-- An automatic recovery sequence begins for these channels (R296, R496). -/
def Module.gdRecover (m : Module) (chs : List Nat) : Module :=
  { m with gate := { m.gate with recovering := chs ++ m.gate.recovering.filter (fun c => !chs.contains c) } }

/-- GD_RECOVERY_END (R496). -/
def execGdRecoveryEnd (ch : Fin 24) (s : State) :=
  s.runOn (fun m => { m with gate := { m.gate with recovering := m.gate.recovering.filter (· ≠ ch.val) } })

/-! ### Commands (R296, R298) -/

/-- A refusal episode starts (R298). -/
def Module.gdEpisode (m : Module) (ch : Nat) : Module :=
  let hb := ch / 2
  let m := { m with gate := { m.gate with episode := hb :: m.gate.episode } }
  let m := (m.setGd (2 * hb) F.GD_STAT_XC true).setGd (2 * hb + 1) F.GD_STAT_XC true
  let m := m.bump R.GD_XC_CNT R.GD_SAT 24
  let m := m.raise FS.GD_XCOND ch .none
  (m.requestLine (m.hbLine hb) (.gd hb 2)).showHeld hb

/-- A command rises (R296, R298): refused in an episode, and when the partner's command is on; two rises within 5 ns
refuse both. -/
def Module.commandRise (m : Module) (ch : Nat) : Module :=
  let p := partner ch
  let near := m.now ≤ SMap.getD 0 m.gate.roseAt p + 1 && SMap.getD 0 m.gate.roseAt p != 0
  let m := m.setGd ch F.GD_STAT_CMD true
  let m := { m with gate := { m.gate with roseAt := SMap.setD 0 m.gate.roseAt ch (m.now + 1) } }
  if m.gate.episode.contains (ch / 2) then m.gdWait ch
  else if m.gd p F.GD_STAT_CMD then
    let m := if near then m.gdOff p else m
    (m.gdWait ch).gdEpisode ch
  else
    let m := if m.riseClears ch then m.gdUnlatch ch else m
    if m.gdFree ch && !m.gd ch F.GD_STAT_SOFT then m.gdOn ch
    else if m.gd ch F.GD_STAT_LATCH || m.gd p F.GD_STAT_LATCH then m.gdWait ch
    else m

/-- GATE_COMMAND_RISE (R296): an edge that the turntable puts on the die's command input in this
tick (R14, R256). -/
def execGateCommandRise (ch : Fin 24) (s : State) :=
  s.runOn (fun m =>
    if m.gateLevel ch && !m.gd ch F.GD_STAT_CMD then m.commandRise ch else m)

/-- A command falls (R291, R298, R299): the channel turns off, softly under GATE_HIZ; with both commands inactive the
request of a refusal is withdrawn. -/
def Module.commandFall (m : Module) (ch : Nat) : Module :=
  let m := m.gdFall ch
  if m.gd (partner ch) F.GD_STAT_CMD then m else m.gdWithdraw (ch / 2) 2

/-- GATE_COMMAND_FALL (R291). -/
def execGateCommandFall (ch : Fin 24) (s : State) :=
  s.runOn (fun m => if !m.gateLevel ch && m.gd ch F.GD_STAT_CMD then m.commandFall ch else m)

/-- Both commands of a half-bridge have been inactive together for 20 ns (R298). -/
def Module.bothOff (m : Module) (hb : Nat) : Bool :=
  !m.gd (2 * hb) F.GD_STAT_CMD && !m.gd (2 * hb + 1) F.GD_STAT_CMD
    && decide (SMap.getD 0 m.gate.fellAt (2 * hb) + 9 ≤ m.now) && decide (SMap.getD 0 m.gate.fellAt (2 * hb + 1) + 9 ≤ m.now)

/-- BOTH_OFF_WINDOW_END (R298). -/
def execBothOffWindowEnd (hb : Fin 12) (s : State) :=
  s.runOn (fun m =>
    if !m.bothOff hb then m
    else
      (({ m with gate := { m.gate with episode := m.gate.episode.filter (· ≠ hb.val) } } : Module).gdWithdraw
        hb 2).showHeld hb)

/-! ### The command link (R300) and the enables (R450) -/

/-- The channels of a die. -/
def dieChannels (d : Nat) : List Nat := [4 * d, 4 * d + 1, 4 * d + 2, 4 * d + 3]

/-- A die loses its link (R300). -/
def Module.linkLoss (m : Module) (d : Nat) : Module :=
  if !m.powered then m
  else
    let m := m.setBit R.GD_LINK d false
    let m := (dieChannels d).foldl (fun m ch => (m.gdSoftOff ch).gdLatch ch 6) m
    let m := m.requestLine (m.hbLine (2 * d)) (.gd (2 * d) 3)
    let m := m.requestLine (m.hbLine (2 * d + 1)) (.gd (2 * d + 1) 3)
    m.raise FS.GD_LINK d .none

/-- GATE_LINK_LOSS (R300). -/
def execGateLinkLoss (die : Fin 6) (s : State) := s.runOn (·.linkLoss die)

/-- GATE_LINK_RETURN (R300): the latches clear under R296. -/
def execGateLinkReturn (die : Fin 6) (s : State) :=
  s.runOn (fun m =>
    let m := m.setBit R.GD_LINK die true
    (dieChannels die).foldl Module.gdSettle m)

/-- The Interlocking switches the enables of the gate dies (R450). -/
def Module.gateEnables (m : Module) (a b : Bool) : Module :=
  let m := { m with gate := { m.gate with enA := a, enB := b } }
  (List.range 24).foldl (fun m ch => if a && b then m.gdResume ch else m.gdOff ch) m

/-- A half-bridge configuration took effect: a disabled one is held off. -/
def Module.gdBoundary (m : Module) : Module :=
  (List.range 24).foldl (fun m ch => if m.hbEn (ch / 2) then m.gdResume ch else m.gdOff ch) m

end Sys2Proof.Machine
end

