-- ==== Sys2Proof/Machine/ProcessBus.lean ====
section
/-! DEFINITION. ProcessBus.lean: ports and redundancy, SV subscription and publication, GOOSE subscription, fast-trip
filters and GOOSE publication (R206 to R229). -/

namespace Sys2Proof.Machine

/-! ### Ports and redundancy (R206 to R209) -/

/-- The mode of the pair of port `p` (R207): 1 PRP, 2 HSR; the reserved code is independent. -/
def Module.pairMode (m : Module) (p : Nat) : Nat :=
  let v := if p < 2 then m.rf R.PB_CFG F.PB_CFG_PAIR0 else m.rf R.PB_CFG F.PB_CFG_PAIR1
  if v = 3 then 0 else v

/-- Port `p` belongs to a PRP or HSR pair. -/
def Module.paired (m : Module) (p : Nat) : Bool := m.pairMode p != 0

/-- A frame is discarded at port `p` and counted (R206). -/
def Module.rxDisc (m : Module) (p : Nat) : Module := m.bump (R.PB_RXDISC p) R.PB_SAT p

/-- LANOK of a port (R209). -/
def Module.lanOk (m : Module) (p : Nat) : Bool := m.bit R.PB_STAT (4 + p)

/-- The address of port `p`: in a pair, the even port's (R206). -/
def Module.portMac (m : Module) (p : Nat) : Nat := m.rn (R.PB_MAC (if m.paired p then p / 2 * 2 else p)) % 2 ^ 48

/-- The ports a frame of an entry is sent on, each with its source address and its pair's sequence number (R206, R207): in a
pair every frame goes to both. -/
def Module.sentPorts (m : Module) (mask : Nat) : List (Nat × Nat × Option Nat) :=
  ((List.range 4).filter (fun p => mask.testBit p || (m.paired p && mask.testBit (partner p)))).map (fun p =>
    (p, m.portMac p, if m.paired p then some (SMap.getD 0 m.pb.seqs (p / 2)) else none))

/-- The sequence numbers of the pairs a frame was sent on go on (R207). -/
def Module.seqsOn (m : Module) (h : SentHead) : Module :=
  (List.range 2).foldl (fun m q =>
    if h.ports.any (fun p => p.1 / 2 == q && p.2.2.isSome) then
      { m with pb := { m.pb with seqs := SMap.setD 0 m.pb.seqs q ((SMap.getD 0 m.pb.seqs q + 1) % 65536) } }
    else m) m

/-- PB_LINK_UP (R232). -/
def execPbLinkUp (p : Fin 4) (s : State) :=
  s.runOn (fun m => (m.setBit R.PB_LINK (8 * p + 7) true).setBit R.PB_LINK (8 * p + 6) true)

/-- An enabled entry of any process-bus table names port `p` (R231). -/
def Module.portUsed (m : Module) (p : Nat) : Bool :=
  (List.range 32).any (fun n => let w := m.svEntry n 0; w.testBit 31 && w.testBit (26 + p))
    || (List.range 4).any (fun k => let w := m.mnE (0x01840800 + 256 * k) 4; w.testBit 31 && w.testBit (26 + p))
    || (List.range 64).any (fun n => let w := m.mnE (0x01844000 + 256 * n) 4; w.testBit 31 && w.testBit (25 + p))
    || (List.range 32).any (fun k => let w := m.mnE (0x01848000 + 256 * k) 4; w.testBit 31 && w.testBit (25 + p))

/-- A port of a pair is declared lost, once until its next tagged frame (R209). -/
def Module.lanLost (m : Module) (p : Nat) : Module :=
  if m.pb.lanDown.contains p then m
  else
    let m := { m with pb := { m.pb with lanDown := p :: m.pb.lanDown } }
    (m.setBit R.PB_STAT (4 + p) false).raiseFree FS.PB_LAN_LOST .none

/-- Port `p` has received a tagged frame within the last 3 s (R209). -/
def Module.tagged (m : Module) (p : Nat) : Bool :=
  let t := SMap.getD 0 m.pb.tagAt p
  t != 0 && decide (m.now < t - 1 + 1500000000)

/-- A port's link goes down (R209, R231). -/
def Module.pbLinkDown (m : Module) (p : Nat) : Module :=
  let m := (m.setBit R.PB_LINK (8 * p + 7) false).setBit R.PB_LINK (8 * p + 6) false
  let m := if m.portUsed p then m.raiseFree FS.PB_LINK_DOWN .none else m
  if m.paired p then m.lanLost p else m

/-- PB_LINK_DOWN (R231). -/
def execPbLinkDown (p : Fin 4) (s : State) := s.runOn (·.pbLinkDown p)

/-- LAN_SUPERVISION_TIMEOUT (R209): no tagged frame for 3 s while the partner has received one. -/
def execLanSupervisionTimeout (p : Fin 4) (s : State) :=
  s.runUp (fun m => if m.paired p && !m.tagged p && m.tagged (partner p) then m.lanLost p else m)

/-- SUPERVISION_FRAME_SEND (R207). -/
def execSupervisionFrameSend (p : Fin 4) (s : State) :=
  s.runUp (fun m => if m.paired p && m.up then
      let n := SMap.getD 0 m.pb.supervision p + 1
      { m with pb := { m.pb with supervision := SMap.setD 0 m.pb.supervision p n } }
    else m)

/-- Frames kept for R208 that are still within 400 ms. -/
def Module.liveDups (m : Module) : List (Nat × Nat × Nat) :=
  m.pb.dups.filter (fun d => decide (m.now < d.2.2 + 200000000))

/-- A source with its pair: the two pairs are separate networks. -/
def dupSource (p : Nat) (src : BitVec 48) : Nat := src.toNat + (p / 2) <<< 48

/-- The frame is a later copy (R208). -/
def Module.isDup (m : Module) (p : Nat) (src : BitVec 48) (tag : Option (BitVec 16)) : Bool :=
  match tag with
  | some t => m.paired p && m.liveDups.any (fun d => d.1 == dupSource p src && d.2.1 == t.toNat)
  | none => false

/-- The frame has come round an HSR ring to the node that sent it (R207). -/
def Module.ownFrame (m : Module) (p : Nat) (src : BitVec 48) : Bool := m.pairMode p == 2 && m.portMac p == src.toNat

/-- Forward a frame on the other port of an HSR ring (R207, R208, mode H): each copy goes on in its own direction, once: not
where this port has received it within 400 ms. -/
def Module.forward (m : Module) (p : Nat) (src : BitVec 48) (t : BitVec 16) : Module :=
  let live := m.pb.ring.filter (fun c => decide (m.now < c.at' + 200000000))
  if m.pairMode p ≠ 2 ∨ live.any (fun c => c.port == p && c.src == src.toNat && c.seq == t.toNat) then m
  else
    let q := partner p
    { m with pb := { m.pb with
      ring := live ++ [⟨p, src.toNat, t.toNat, m.now⟩],
      forwarded := SMap.setD 0 m.pb.forwarded q (SMap.getD 0 m.pb.forwarded q + 1) } }

/-- Note a frame of any kind that carries a valid trailer or tag (R208, R209), and forward it in HSR. -/
def Module.noteFrame (m : Module) (p : Nat) (src : BitVec 48) (tag : Option (BitVec 16)) (dup : Bool) : Module :=
  match tag with
  | none => m
  | some t =>
    if !m.paired p then m
    else
      let m := m.setBit R.PB_STAT (4 + p) true
      let live := m.liveDups
      let key := dupSource p src
      let known := live.any (fun d => d.1 == key) || ((live.map (·.1)).dedup).length < 1024
      let live := if dup || !known then live else live ++ [(key, t.toNat, m.now)]
      let tags := SMap.setD 0 m.pb.tagAt p (m.now + 1)
      let down := m.pb.lanDown.filter (· ≠ p)
      ({ m with pb := { m.pb with dups := live, tagAt := tags, lanDown := down } } : Module).forward p src t

/-- Receive a frame at port `p`: nothing before the end of INSPECT (R208); an own frame is removed (R207); a later copy is
discarded; frames with authentication or a security length are discarded (R210). -/
def Module.receive (m : Module) (p : Nat) (h : PbHead) (take : Module → Module) : Module :=
  if !m.up ∨ m.ownFrame p h.src then m
  else
    let dup := m.isDup p h.src h.tag
    let m := m.noteFrame p h.src h.tag dup
    if dup then m
    else if h.secured then m.rxDisc p
    else take m

/-- PB_FRAME_DISCARD (R206): a bad FCS, or a frame of no kind the port carries. A supervision frame is carried, and shows that
the network is whole (R207, R209); nothing more of it is kept. -/
def execPbFrameDiscard (p : Fin 4) (f : PbOther) (s : State) :=
  s.runUp (fun m =>
    match f with
    | .badFcs => m.bump (R.PB_CRCERR p) R.PB_SAT (4 + p)
    | .other => m.rxDisc p
    | .supervision src tag => if m.ownFrame p src then m else m.noteFrame p src tag (m.isDup p src tag))

/-- VLAN ID and destination MAC match where they are checked (R213, R222). -/
def headMatches (h : PbHead) (vchk mchk : Bool) (vid mac : Nat) : Bool :=
  (!vchk || h.vlan.map BitVec.toNat == some vid) && (!mchk || h.dst.toNat == mac)

/-- A string padded with zeros to `n` bytes. -/
def padTo (n : Nat) (l : List Byte) : List Byte := l ++ List.replicate (n - l.length) 0

/-! ### SV subscription (R211 to R219) -/

/-- Samples per second of a RATE code (R212). -/
def svRate (code : Nat) : Nat := [4000, 4800, 12800, 14400, 15360].getD code 4000

/-- RATE of subscription `n`, in samples per second. -/
def Module.svRateOf (m : Module) (n : Nat) : Nat := svRate (bitsN (m.svEntry n 0) 25 23)

/-- A frame feeds subscription `n` (R213). -/
def Module.svFeeds (m : Module) (n p : Nat) (f : SvFrame) : Bool :=
  let w := m.svEntry n 0
  let w1 := m.svEntry n 1
  m.svEnabled n && w.testBit (26 + p) && bitsN w1 15 0 == f.head.appid.toNat
    && headMatches f.head (w1.testBit 31) ((m.svEntry n 5).testBit 31) (bitsN w1 27 16)
      (m.svEntry n 4 + bitsN (m.svEntry n 5) 15 0 <<< 32)
    && padTo 32 f.svid == m.mbytesE (0x01840000 + 64 * n + 0x20) 32

/-- Sample time of sample number `N` at a rate, in ns of time of day. -/
def svTime (rate num : Nat) : Nat := num / rate * 1000000000 + num % rate * 1000000000 / rate

/-- Count one event of a subscription: MISS at bit 20, LATE at 21, DISC at 22 of its STAT. -/
def Module.svDisc (m : Module) (n : Nat) : Module := m.bump (R.PB_SVS_DISC n) (R.PB_SVS_STAT n) 22
def Module.svLate (m : Module) (n : Nat) : Module := m.bump (R.PB_SVS_LATE n) (R.PB_SVS_STAT n) 21

/-- `k` slots are declared missing: the event counter (R65, R216). -/
def Module.svMissed (m : Module) (n k : Nat) : Module :=
  let v := m.rn (R.PB_SVS_MISS n) + k
  let m := m.wn (R.PB_SVS_MISS n) (min 0xFFFFFFFF v)
  if 0 < k ∧ 0xFFFFFFFF ≤ v then m.setFlag (R.PB_SVS_STAT n) F.PB_SVS_STAT_MISS_SAT true else m

/-- Put a sample into its slot (R214). -/
def Module.putSample (m : Module) (n : Nat) (x : SvSample) : Module :=
  let p := m.platform n
  let q : Platform := { p with slots := SMap.setD none p.slots (x.num % 64) (some x) }
  { m with pb := { m.pb with sv := SMap.setD Platform.init m.pb.sv n q } }

/-- Show whether a stream is lost, and keep it in its platform (R217). -/
def Module.svSetLost (m : Module) (n : Nat) (b : Bool) : Module :=
  let m := { m with pb := { m.pb with sv := SMap.setD Platform.init m.pb.sv n { m.platform n with lost := b } } }
  let m := m.setFlag (R.PB_SVS_STAT n) F.PB_SVS_STAT_LOST b
  let m := m.wf (R.PB_SVS_STAT n) F.PB_SVS_STAT_REGAIN 0
  m.setBit R.PB_SVS_LOST n b

/-- The slot of sample number `num` holds that sample. -/
def Module.slotOf (m : Module) (n num : Nat) : Option SvSample :=
  match SMap.getD none (m.platform n).slots (num % 64) with
  | some x => if x.num = num then some x else none
  | none => none

/-- A value between two, linear in time. Where the exact value is no whole number the spec does not state the
rounding: it is one of the two neighbours, a free value. -/
def Module.between (m : Module) (v0 v1 : Int) (t0 t1 t : Nat) : Word × Module :=
  let num := v0 * ((t1 : Int) - t) + v1 * ((t : Int) - t0)
  let d : Int := (t1 : Int) - t0
  if num % d = 0 then (BitVec.ofInt 32 (num / d), m)
  else
    let f := m.free
    (BitVec.ofInt 32 (num / d + (f.1.toNat % 2 : Nat)), f.2)

/-- Interpolate every channel (R216). -/
def Module.betweenAll (m : Module) (t0 t1 t : Nat) : List (Word × Word) → List Word × Module
  | [] => ([], m)
  | (a, b) :: r =>
    let x := m.between a.toInt b.toInt t0 t1 t
    let y := x.2.betweenAll t0 t1 t r
    (x.1 :: y.1, y.2)

/-- The last sample received before sample number `num` that is still in the platform (R216): no slot that was filled. -/
def Module.lastReal (m : Module) (n num : Nat) : Option SvSample :=
  ((List.range 63).filterMap (fun j => if j < num then m.slotOf n (num - 1 - j) else none)).find?
    (fun x => !x.filled && !x.marked)

/-- Fill a missing slot by POLICY (R216): `next` is the later sample whose arrival declared it. -/
def Module.svFill (m : Module) (n num : Nat) (next : Option SvSample) : Module :=
  let policy := bitsN (m.svEntry n 0) 22 21
  let t := svTime (m.svRateOf n) num
  let at' (x : SvSample) : SvSample :=
    { x with num := num, sec := t / 1000000000, ns := t % 1000000000, filled := true }
  if policy = 2 then m.putSample n ⟨num, t / 1000000000, t % 1000000000, [], [], 1, false, false, true⟩
  else
    match (if policy = 1 then m.lastReal n num else none), next with
    | some b, some x =>
      let r := m.betweenAll b.nanos x.nanos t (b.vals.zip x.vals)
      r.2.putSample n (at' { b with vals := r.1 })
    | _, _ =>
      match m.slotOf n (num - 1) with
      | some b => m.putSample n (at' b)
      | none => m

/-- One slot is declared missing (R216, R217). -/
def Module.svMissing (m : Module) (n num : Nat) (next : Option SvSample) : Module :=
  let m := m.svMissed n 1
  let run := SMap.getD 0 m.pb.svRun n + 1
  let m := { m with pb := { m.pb with svRun := SMap.setD 0 m.pb.svRun n run, svNext := SMap.setD 0 m.pb.svNext n (num + 2) } }
  let lossN := match bitsN (m.svEntry n 0) 15 12 with | 0 => 3 | k => k
  if (m.platform n).lost then m.wf (R.PB_SVS_STAT n) F.PB_SVS_STAT_REGAIN 0
  else if lossN ≤ run then (m.svSetLost n true).raise FS.PB_SV_LOST n .none
  else m.svFill n num next

/-- The slots `num` to `num + k − 1` are declared missing: at most 15 can be filled, the rest only count. -/
def Module.svMissingRun (m : Module) (n num k : Nat) (next : Option SvSample) : Module :=
  let m := (List.range (min k 16)).foldl (fun m i => m.svMissing n (num + i) next) m
  if 16 < k then
    let m := m.svMissed n (k - 16)
    { m with pb := { m.pb with svRun := SMap.setD 0 m.pb.svRun n (SMap.getD 0 m.pb.svRun n + (k - 16)) } }
  else m

/-- A sample is accepted (R214 to R217): earlier slots still empty are declared missing first. -/
def Module.svAccept (m : Module) (n : Nat) (x : SvSample) : Module :=
  let next := SMap.getD 0 m.pb.svNext n
  let m := if next ≠ 0 ∧ next - 1 < x.num then m.svMissingRun n (next - 1) (x.num - (next - 1)) (some x) else m
  let m := m.putSample n x
  let m := { m with pb := { m.pb with svRun := SMap.setD 0 m.pb.svRun n 0,
                                      svNext := SMap.setD 0 m.pb.svNext n (max next (x.num + 2)) } }
  let m := m.wf (R.PB_SVS_STAT n) F.PB_SVS_STAT_SMPCNT (x.num % m.svRateOf n)
  let m := m.setFlag (R.PB_SVS_STAT n) F.PB_SVS_STAT_NOSYNC (x.synch == 0)
  if (m.platform n).lost then
    let k := m.rf (R.PB_SVS_STAT n) F.PB_SVS_STAT_REGAIN + 1
    let need := match bitsN (m.svEntry n 0) 11 8 with | 0 => 8 | k => k
    if need ≤ k then m.svSetLost n false else m.wf (R.PB_SVS_STAT n) F.PB_SVS_STAT_REGAIN k
  else m

/-- One sample arrives (R215): refused when late or when its slot holds a newer one; a duplicate is discarded. -/
def Module.svSample (m : Module) (n : Nat) (x : SvSample) : Module :=
  let maxDly := match bitsN (m.svEntry n 3) 15 0 with | 0 => 2000 | k => k
  if x.nanos + 1000 * maxDly < m.todNanos then m.svLate n
  else match SMap.getD none (m.platform n).slots (x.num % 64) with
    | some o => if x.nanos < o.nanos then m.svLate n else if o.nanos = x.nanos then m else m.svAccept n x
    | none => m.svAccept n x

/-- The 4-byte words of a sequence of data: value and quality per channel, each most significant byte first. -/
def beWord (l : List Byte) : Word := BitVec.ofNat 32 (leNat l.reverse)

/-- The sample that ASDU `k` gives (R213). -/
def Module.svSampleOf (m : Module) (n : Nat) (f : SvFrame) (k : Nat) (a : SvAsdu) : SvSample :=
  let rate := m.svRateOf n
  let ta := m.todNanos
  let cnt := a.smpCnt.toNat
  let nch := bitsN (m.svEntry n 0) 20 16
  let ts :=
    if a.synch = 0 then ta - 1000 * bitsN (m.svEntry n 3) 31 16 - (f.asdus.length - 1 - k) * 1000000000 / rate
    else
      let t := m.todSec * 1000000000 + cnt * 1000000000 / rate
      if ta + 50000 < t then t - 1000000000 else t
  let sec := ts / 1000000000
  let word (i : Nat) : Word := beWord ((a.data.drop (4 * i)).take 4)
  ⟨sec * rate + cnt, sec, ts % 1000000000, (List.range nch).map (fun c => word (2 * c)),
    (List.range nch).map (fun c => word (2 * c + 1)), a.synch.toNat, f.head.sim, false, false⟩

/-- The simulation rule of R219: whether a subscription that takes simulated frames (`on`) takes this frame. -/
def simTakes (simCfg on sim : Bool) : Bool := if simCfg then sim || !on else !sim

/-- PB_CFG.SIM as it acts. -/
def Module.simCfg (m : Module) : Bool := m.flag R.PB_CFG F.PB_CFG_SIM

/-- Raise a configuration report at most once per second per subscription (R231). -/
def Module.svCfgRaise (m : Module) (n : Nat) : Module :=
  if SMap.getD 0 m.pb.svCfgSec n = m.todSec + 1 then m
  else ({ m with pb := { m.pb with svCfgSec := SMap.setD 0 m.pb.svCfgSec n (m.todSec + 1) } } : Module).raise
    FS.PB_SV_CFG n .none

/-- PB_STAT.SIMACT follows the subscriptions that take simulated frames (R219, R232). -/
def Module.showSim (m : Module) : Module :=
  m.setFlag R.PB_STAT F.PB_STAT_SIMACT (!(m.pb.svSim.isEmpty && m.pb.gsSim.isEmpty))

/-- From its first frame with the simulation bit on, SV subscription `n` takes only such frames (R219). -/
def Module.svSimOn (m : Module) (n : Nat) (sim : Bool) : Module :=
  if sim && !m.pb.svSim.contains n then
    (({ m with pb := { m.pb with svSim := n :: m.pb.svSim } } : Module).setFlag (R.PB_SVS_STAT n)
      F.PB_SVS_STAT_SIM true).showSim
  else m

/-- A frame reaches the subscription it feeds (R213, R219). -/
def Module.svTake (m : Module) (n : Nat) (f : SvFrame) : Module :=
  let rate := m.svRateOf n
  let nch := bitsN (m.svEntry n 0) 20 16
  if !simTakes m.simCfg (m.pb.svSim.contains n) f.head.sim then m.svDisc n
  else
    let m := m.svSimOn n f.head.sim
    if f.confRev.toNat ≠ m.svEntry n 2 ∨ f.asdus.any (fun a => a.data.length != 8 * nch) then
      (m.svDisc n).svCfgRaise n
    else if f.asdus.isEmpty ∨ 8 < f.asdus.length ∨ f.asdus.any (fun a => decide (rate ≤ a.smpCnt.toNat)) then m.svDisc n
    else (f.asdus.zipIdx).foldl (fun m a => m.svSample n (m.svSampleOf n f a.2 a.1)) m

/-- An SV frame at port `p` (R213). -/
def Module.svFrame (m : Module) (p : Nat) (f : SvFrame) : Module :=
  m.receive p f.head (fun m =>
    let subs := (List.range 32).filter (fun n => m.svFeeds n p f)
    if subs.isEmpty then m.rxDisc p else subs.foldl (fun m n => m.svTake n f) m)

/-- SV_FRAME_RECEIVED (R213): the frame's end at the port is now. -/
def execSvFrameReceived (p : Fin 4) (f : SvFrame) (s : State) := s.runUp (·.svFrame p f)

/-- SV_SLOT_TIMEOUT (R216): the next slot of the stream is declared missing. -/
def execSvSlotTimeout (n : Fin 32) (s : State) :=
  s.runUp (fun m =>
    let next := SMap.getD 0 m.pb.svNext n
    if m.svEnabled n ∧ next ≠ 0 then m.svMissing n (next - 1) none else m)

/-! ### SV publication (R220, R221) -/

/-- Word `w` of SV publication entry `k`. -/
def Module.svPub (m : Module) (k w : Nat) : Nat := m.mnE (0x01840800 + 256 * k + 4 * w) 4

/-- The latest conversion of an input whose trigger tick is at or before tick `t` (R220). -/
def Module.conversionAt (m : Module) (input t : Nat) : Option (Nat × Nat × Nat) :=
  (SMap.getD [] m.afe.hist input).foldl (fun o h => if h.1 ≤ t then some h else o) none

/-- x·1000 for a current or x·100 for a voltage, rounded to nearest and saturated to INT32; NaN gives invalid. -/
def svInt (x : Word) (voltage : Bool) : Word × Word :=
  if Fp.isNaN x then (0, 1)
  else if Fp.isInf x then (if Fp.sign x then 0x80000000 else 0x7FFFFFFF, 0)
  else
    let k : Nat := if voltage then 100 else 1000
    let n := (Fp.mant x * k)
    let v : Nat := if 0 ≤ Fp.exp2 x then n <<< (Fp.exp2 x).toNat else rneShift n (-(Fp.exp2 x)).toNat
    let i : Int := if Fp.sign x then -(v : Int) else v
    (BitVec.ofInt 32 (max (-2147483648) (min 2147483647 i)), 0)

/-- Channel `c` of publication `k` for a sample at time of day `t` in ns (R220): the value and its quality. -/
def Module.svPubValue (m : Module) (k c t rate : Nat) : Word × Word :=
  let src := m.mnE (0x01840800 + 256 * k + 0x40 + 2 * c) 2
  let idx := bitsN src 4 0
  let volt := (m.svPub k 5).testBit c
  match bitsN src 15 14 with
  | 1 =>
    let back := (m.todNanos - t) / 2
    match (if 24 ≤ idx ∨ m.now < back then none else m.conversionAt idx (m.now - back)) with
    | none => (0, 1)
    | some h =>
      let scale := m.mwE (0x01840800 + 256 * k + 0x80 + 4 * c)
      let trim := afeVolts h.2.1 idx (BitVec.ofNat 16 h.2.2)
      let x := if Fp.isFinite scale then (Fp.roundInt (Fp.sMant scale * trim) (Fp.exp2 scale - 40)).1
        else if Fp.isNaN scale ∨ trim = 0 then Fp.qNaN
        else if Fp.sign scale == decide (trim < 0) then 0x7F800000 else 0xFF800000
      let v := svInt x volt
      if (m.now - back - h.1) * rate ≤ 1000000000 then v else (v.1, 1)
  | 2 => if 24 ≤ idx then (0, 1) else svInt (m.mw (0x01840C00 + 96 * k + 4 * idx)) volt
  | _ => (0, 1)

/-- smpSynch of a publication (R221). -/
def Module.svPubSynch (m : Module) (k : Nat) : Nat :=
  let src := m.rf R.CLK_CFG F.CLK_CFG_SRC
  let st := m.rf R.CLK_STAT F.CLK_STAT_STATE
  let holdT := match bitsN (m.svPub k 6) 9 0 with | 0 => 5 | t => t
  if src = 2 ∨ src = 3 then
    if st = 3 ∨ st = 6 ∨ (m.clk.holdoverAt ≠ 0 ∧ m.now < m.clk.holdoverAt + 500000000 * holdT) then 2 else 0
  else if src = 1 ∧ st = 3 then 1 else 0

/-- The head of SV publication `k`'s frames (R206, R207, R210, R220). -/
def Module.svPubHead (m : Module) (k : Nat) : SentHead :=
  let w := m.svPub k 0
  let w1 := m.svPub k 1
  ⟨m.sentPorts (bitsN w 29 26), if w.testBit 30 then some (bitsN w 22 20, bitsN w1 27 16) else none,
    m.svPub k 4 + bitsN (m.svPub k 5) 15 0 <<< 32, bitsN w1 15 0, m.svPub k 2,
    m.mbytesE (0x01840800 + 256 * k + 0x20) 32, [], [], false, false, false, 0, 0⟩

/-- A publication frame is built (R220, R221): the next NOASDU samples, once their last instant has passed; after a stop
without ticks it resumes at a whole second with smpCnt 0, after a step of the time of day at the first instant after it. -/
def Module.svPublishNow (m : Module) (k : Nat) : Module :=
  let w := m.svPub k 0
  let rate := svRate (bitsN w 25 23)
  let n := max 1 (min 8 (bitsN w 19 16))
  let last := m.todSec * rate + m.todNs * rate / 1000000000
  let next := SMap.getD 0 m.pb.svPubNext k
  let first := last + 1 - n
  if !w.testBit 31 ∨ 4 < bitsN w 25 23 ∨ !m.up ∨ m.hl.hold then m
  else if !m.ticking then { m with pb := { m.pb with svPubNext := SMap.setD 0 m.pb.svPubNext k 0 } }
  else if next = 0 ∧ first % rate ≠ 0 then m
  else if first + 1 < next then m
  else
    let asdu (j : Nat) : SvSent :=
      let num := first + j
      ⟨num % rate, m.svPubSynch k,
        (List.range (bitsN w 15 11)).map (fun c => m.svPubValue k c (svTime rate num) rate)⟩
    let h := m.svPubHead k
    ({ m with pb := { m.pb with
      sentSv := SMap.setD [] m.pb.sentSv k ((List.range n).map asdu),
      svHead := SMap.setD none m.pb.svHead k (some h),
      svPubNext := SMap.setD 0 m.pb.svPubNext k (last + 2) } } : Module).seqsOn h

/-- After a step of the time of day a publication under way goes on at the first instant after it (R221). -/
def Module.svStep (m : Module) : Module :=
  (List.range 4).foldl (fun m k =>
    if SMap.getD 0 m.pb.svPubNext k = 0 then m
    else
      let rate := svRate (bitsN (m.svPub k 0) 25 23)
      let next := m.todSec * rate + m.todNs * rate / 1000000000 + 2
      { m with pb := { m.pb with svPubNext := SMap.setD 0 m.pb.svPubNext k next } }) m

/-- Process-bus DMA reads the publication's values (R90, R91, R112, R220). -/
def Module.svPublish (m : Module) (k : Nat) : Module :=
  let a := 0x01840C00 + 96 * k
  if !(m.svPub k 0).testBit 31 ∨ !m.up ∨ m.hl.hold then m
  else m.busAsk Bus.pb (beatsOf a 96) (.sv k) (fun m => (m.masterRead 0xB a 96).svPublishNow k)

/-- SV_PUBLICATION_SEND (R221). -/
def execSvPublicationSend (k : Fin 4) (s : State) := s.runUp (·.svPublish k)

/-! ### GOOSE subscription (R222 to R224) -/

/-- Word `w` of GOOSE subscription entry `n`. -/
def Module.gsEntry (m : Module) (n w : Nat) : Nat := m.mnE (0x01844000 + 256 * n + 4 * w) 4

/-- A GOOSE subscription is enabled. -/
def Module.gsEnabled (m : Module) (n : Nat) : Bool := (m.gsEntry n 0).testBit 31

/-- Row `n` of the received-dataset table (R224). -/
def gsRow (n : Nat) : Nat := 0x01850000 + 1024 * n

/-- Bit `i` of the FLAGS of row `n`. -/
def Module.gsFlag (m : Module) (n i : Nat) : Bool := (m.mn (gsRow n + 0x18) 2).testBit i

/-- A frame is the one that subscription `n` describes, apart from confRev (R222). -/
def Module.gsFeeds (m : Module) (n p : Nat) (f : GsFrame) : Bool :=
  let a := 0x01844000 + 256 * n
  let w := m.gsEntry n 0
  let goid := m.mbytesE (a + 0xA0) 32
  m.gsEnabled n && w.testBit (25 + p) && bitsN (m.gsEntry n 1) 15 0 == f.head.appid.toNat
    && headMatches f.head (w.testBit 29) (w.testBit 30) (bitsN (m.gsEntry n 1) 27 16)
      (m.gsEntry n 3 + bitsN (m.gsEntry n 4) 15 0 <<< 32)
    && padTo 64 f.gocbRef == m.mbytesE (a + 0x20) 64 && padTo 64 f.datSet == m.mbytesE (a + 0x60) 64
    && (goid.all (· == 0) || padTo 32 f.goID == goid)

/-- A number of unsigned contents bytes, most significant first. -/
def beNat (l : List Byte) : Nat := leNat l.reverse

/-- A number of two's-complement contents bytes, most significant first. -/
def beInt (l : List Byte) : Int :=
  if beNat l < 2 ^ (8 * l.length - 1) then beNat l else (beNat l : Int) - 2 ^ (8 * l.length)

/-- The TYPE of a member (R222); a member of no type of the table has none. -/
def GsMember.type : GsMember → Option Byte
  | .boolean _ => some 1
  | .bits l => if 1 ≤ l.length ∧ l.length ≤ 32 then some 2 else none
  | .integer l => if l ≠ [] ∧ -2147483648 ≤ beInt l ∧ beInt l ≤ 2147483647 then some 3 else none
  | .unsigned l => if l ≠ [] ∧ beNat l < 2 ^ 32 then some 4 else none
  | .float32 _ => some 5
  | .utcTime _ _ _ => some 6
  | .other => none

/-- What is stored of a member in word 0 (R222). -/
def GsMember.word : GsMember → Word
  | .boolean b => if b then 1 else 0
  | .bits l => BitVec.ofNat 32 ((l.zipIdx).foldl (fun v x => if x.1 then v + 2 ^ x.2 else v) 0)
  | .integer l => BitVec.ofInt 32 (beInt l)
  | .unsigned l => BitVec.ofNat 32 (beNat l)
  | .float32 w => w
  | .utcTime sec _ _ => sec
  | .other => 0

/-- What is stored of a member in word 1 bits 23:0 (R222, R224): the fraction of a UtcTime, else 0. -/
def GsMember.frac : GsMember → BitVec 24
  | .utcTime _ frac _ => frac
  | _ => 0

/-- confRev, member count and member types agree (R222). -/
def Module.gsShape (m : Module) (n : Nat) (f : GsFrame) : Bool :=
  f.confRev.toNat == m.gsEntry n 2 && f.members.length == bitsN (m.gsEntry n 0) 6 0
    && f.members.map GsMember.type == (m.mbytesE (0x01844000 + 256 * n + 0xC0) f.members.length).map some

/-- How a frame stands against the last one taken (R223). -/
inductive GsOrder where
  | taken (gap : Bool)
  | duplicate
  | stale
  deriving DecidableEq, Repr

/-- The table of R223; stNum 1 with sqNum 0 is always taken. -/
def Module.gsOrder (m : Module) (n : Nat) (f : GsFrame) : GsOrder :=
  match SMap.getD none m.pb.gs n with
  | none => .taken false
  | some l =>
    let ahead := (f.st.toNat + 2 ^ 32 - l.st) % 2 ^ 32
    if m.bit R.PB_GS_LOST n ∨ (f.st.toNat = 1 ∧ f.sq.toNat = 0) then .taken false
    else if ahead = 0 then (if f.sq.toNat = l.sq then .duplicate else .taken false)
    else if ahead < 2 ^ 31 then .taken (decide (1 < ahead))
    else .stale

/-- Write row `n` from a frame taken (R223, R224): UPD counts before and after; with ndsCom TRUE the values are not
stored. -/
def Module.gsStore (m : Module) (n : Nat) (f : GsFrame) (gap : Bool) (ns : Nat) : Module :=
  let r := gsRow n
  let flags := m.mn (r + 0x18) 4
  let stgap := (bitsN flags 31 16 + if gap then 1 else 0) % 65536
  let b (x : Bool) (k : Nat) := if x then k else 0
  let m := m.setMn r 4 (m.mn r 4 + 1)
  let m := m.setMn (r + 4) 4 f.st.toNat
  let m := m.setMn (r + 8) 4 f.sq.toNat
  let m := m.setMn (r + 0xC) 4 f.tal.toNat
  let m := m.setMn (r + 0x10) 4 f.tSec.toNat
  let m := m.setMn (r + 0x14) 4 (f.tQual.toNat <<< 24 + f.tFrac.toNat)
  let m := m.setMn (r + 0x18) 4
    (b f.ndsCom 2 + b f.test 4 + b (m.pb.gsSim.contains n) 8 + stgap <<< 16)
  let m := m.setMn (r + 0x1C) 4 ns
  let m := if f.ndsCom then m else
    (f.members.zipIdx).foldl (fun m x =>
      (m.setMw (r + 0x20 + 8 * x.2) x.1.word).setMn (r + 0x24 + 8 * x.2) 4
        ((x.1.type.getD 0).toNat <<< 24 + x.1.frac.toNat)) m
  m.setMn r 4 (m.mn r 4 + 1)

/-- Change the FLAGS of row `n` (R223, R224): UPD counts before and after. -/
def Module.gsReflag (m : Module) (n : Nat) (f : Nat → Nat) : Module :=
  let r := gsRow n
  let m := m.setMn r 4 (m.mn r 4 + 1)
  let m := m.setMn (r + 0x18) 4 (f (m.mn (r + 0x18) 4))
  m.setMn r 4 (m.mn r 4 + 1)

/-- Row `n` shows its subscription lost (R223). -/
def Module.gsShowLost (m : Module) (n : Nat) : Module := m.gsReflag n (fun v => setBitN v 0 true)

/-- Row `n` of a subscription just enabled shows NEVER (R224); of one disabled, no flag. -/
def Module.gsShowNew (m : Module) (n : Nat) (never : Bool) : Module := m.gsReflag n (fun _ => if never then 16 else 0)

/-- Row `n` shows whether its subscription takes simulated frames (R219). -/
def Module.gsShowSim (m : Module) (n : Nat) (on : Bool) : Module := m.gsReflag n (fun v => setBitN v 3 on)

/-- A write to a row by process-bus DMA (R90, R91): of `k` bytes. -/
def Module.gsAsk (m : Module) (n k : Nat) (op : BusOp) (run : Module → Module) : Module :=
  m.busAsk Bus.pb (beatsOf (gsRow n) k) op run

/-! ### Fast-trip filters (R225, R226) -/

/-- Word `w` of filter `k`. -/
def Module.filterW (m : Module) (k w : Nat) : Nat := m.mnE (0x01840E00 + 16 * k + 4 * w) 4

/-- A filter is enabled; OP 6 and 7 disable it (R225). -/
def Module.filterOn (m : Module) (k : Nat) : Bool :=
  (m.filterW k 0).testBit 31 && bitsN (m.filterW k 0) 15 13 < 6

/-- OP on a member's value (R225). -/
def filterOp (op : Nat) (v mask val : Word) : Bool :=
  match op with
  | 0 => v &&& mask == val
  | 1 => v &&& mask != val
  | 2 => decide (val.toInt < v.toInt)
  | 3 => decide (v.toInt < val.toInt)
  | 4 => Fp.gt v val
  | 5 => Fp.lt v val
  | _ => false

/-- Filter `k` matches a frame that was taken (R226); a member past the dataset never matches. -/
def Module.filterMatch (m : Module) (k : Nat) (f : GsFrame) : Bool :=
  let w := m.filterW k 0
  let w3 := m.filterW k 3
  match f.members[bitsN w 21 16]? with
  | none => false
  | some x =>
    filterOp (bitsN w 15 13) x.word (BitVec.ofNat 32 (m.filterW k 1)) (BitVec.ofNat 32 (m.filterW k 2))
      && (!w3.testBit 31 || (match f.members[bitsN w3 5 0]? with
        | some q => q.word.toNat % 4 == 0
        | none => false))
      && (!f.test || w.testBit 30) && (!f.head.sim || w.testBit 29)

/-- Let the request of filter `k` follow its match and, with LOSS = 1, the loss of its subscription (R225, R226). -/
def Module.filterFollow (m : Module) (k : Nat) : Module :=
  let w := m.filterW k 0
  let sub := bitsN w 27 22
  let line := bitsN w 12 8
  let want := m.filterOn k && (m.pb.ftMatch.contains k ||
    (w.testBit 28 && m.gsEnabled sub && m.bit R.PB_GS_LOST sub))
  let m := (List.range 32).foldl (fun m l => if want && l == line then m else m.withdrawLine l (.goose k)) m
  let m := m.setBit R.PB_FT_ACT k want
  if want && !(m.lineReqs line).contains (.goose k) then m.requestLine line (.goose k) else m

/-- Evaluate the filters of subscription `n` on a frame (R226). -/
def Module.filterEval (m : Module) (n : Nat) (f : GsFrame) : Module :=
  ((List.range 32).filter (fun k => m.filterOn k && bitsN (m.filterW k 0) 27 22 == n)).foldl (fun m k =>
    let was := m.pb.ftMatch.contains k
    let is := m.filterMatch k f
    let rest := m.pb.ftMatch.filter (· ≠ k)
    let m := { m with pb := { m.pb with ftMatch := if is then k :: rest else rest } }
    if is && !was then m.raise FS.PB_GOOSE_TRIP k .none else m) m

/-- Let every filter's request follow. -/
def Module.filtersFollow (m : Module) : Module := (List.range 32).foldl Module.filterFollow m

/-- From its first frame with the simulation bit on, GOOSE subscription `n` takes only such frames, and its row shows it
(R219). -/
def Module.gsSimOn (m : Module) (n : Nat) (sim : Bool) : Module :=
  if sim && !m.pb.gsSim.contains n then
    (({ m with pb := { m.pb with gsSim := n :: m.pb.gsSim } } : Module).showSim).gsAsk n 0x20 (.gsSim n true)
      (·.gsShowSim n true)
  else m

/-- A frame is taken (R223, R226). -/
def Module.gsTake (m : Module) (n : Nat) (f : GsFrame) (gap : Bool) : Module :=
  let ns := m.todNs
  let m := m.gsAsk n (0x20 + 8 * f.members.length) (.gsRow n f gap ns) (·.gsStore n f gap ns)
  let last : GooseLast := ⟨f.st.toNat, f.sq.toNat, m.now + 500000 * f.tal.toNat⟩
  let m := { m with pb := { m.pb with gs := SMap.setD none m.pb.gs n (some last) } }
  let m := m.setBit R.PB_GS_LOST n false
  (if f.ndsCom then m else m.filterEval n f).filtersFollow

/-- Raise PB_GOOSE_CFG, at most once per second per subscription (R231). -/
def Module.gsCfgRaise (m : Module) (n : Nat) : Module :=
  if SMap.getD 0 m.pb.gsCfgSec n = m.todSec + 1 then m
  else ({ m with pb := { m.pb with gsCfgSec := SMap.setD 0 m.pb.gsCfgSec n (m.todSec + 1) } } : Module).raise
    FS.PB_GOOSE_CFG n .none

/-- A frame reaches the subscription it feeds (R219, R222, R223). -/
def Module.gsReach (m : Module) (p n : Nat) (f : GsFrame) : Module :=
  if !simTakes m.simCfg (m.pb.gsSim.contains n) f.head.sim then m.rxDisc p
  else if !m.gsShape n f then (m.rxDisc p).gsCfgRaise n
  else
    let m := m.gsSimOn n f.head.sim
    match m.gsOrder n f with
    | .taken gap => m.gsTake n f gap
    | .duplicate => m
    | .stale => m.rxDisc p

/-- A GOOSE frame at port `p` (R210, R222). -/
def Module.gsFrame (m : Module) (p : Nat) (f : GsFrame) : Module :=
  m.receive p f.head (fun m =>
    let subs := (List.range 64).filter (fun n => m.gsFeeds n p f)
    if f.fixed || subs.isEmpty then m.rxDisc p else subs.foldl (fun m n => m.gsReach p n f) m)

/-- GOOSE_FRAME_RECEIVED (R223). -/
def execGooseFrameReceived (p : Fin 4) (f : GsFrame) (s : State) := s.runUp (·.gsFrame p f)

/-- A subscription is lost (R223): the values stay. -/
def Module.gsLose (m : Module) (n : Nat) : Module :=
  if !m.gsEnabled n ∨ (SMap.getD none m.pb.gs n).isNone ∨ m.bit R.PB_GS_LOST n then m
  else
    let m := m.setBit R.PB_GS_LOST n true
    let m := m.gsAsk n 0x20 (.gsLost n) (·.gsShowLost n)
    (m.raiseFree FS.PB_GOOSE_LOST .none).filtersFollow

/-- GOOSE_TAL_EXPIRY (R223). -/
def execGooseTalExpiry (n : Fin 64) (s : State) := s.runUp (·.gsLose n)

/-! ### GOOSE publication (R227 to R229) -/

/-- Word `w` of GOOSE publication entry `k`. -/
def Module.gpEntry (m : Module) (k w : Nat) : Nat := m.mnE (0x01848000 + 256 * k + 4 * w) 4

/-- A publication is enabled, and owned by the host (R227). -/
def Module.gpEnabled (m : Module) (k : Nat) : Bool := (m.gpEntry k 0).testBit 31
def Module.gpHost (m : Module) (k : Nat) : Bool := (m.gpEntry k 0).testBit 30

/-- TMIN and TMAX in ms (R227). -/
def Module.gpTmin (m : Module) (k : Nat) : Nat := match bitsN (m.gpEntry k 5) 15 0 with | 0 => 2 | t => t
def Module.gpTmax (m : Module) (k : Nat) : Nat := bitsN (m.gpEntry k 5) 31 16

/-- The values of row `k` of the publication value table. -/
def Module.gpVals (m : Module) (k : Nat) : List Byte :=
  m.mbytes (0x01860000 + 512 * k) (8 * bitsN (m.gpEntry k 0) 6 0)

/-- stNum and sqNum roll over from 0xFFFF_FFFF to 1 (R228). -/
def gooseNext (n : Nat) : Nat := if n = 0xFFFFFFFF then 1 else n + 1

/-- The head of GOOSE publication `k`'s frames (R206, R207, R210, R227), of a state that began at `t`. -/
def Module.gpHeadAt (m : Module) (k : Nat) (t : Nat × Nat) : SentHead :=
  let a := 0x01848000 + 256 * k
  let w := m.gpEntry k 0
  let w1 := m.gpEntry k 1
  ⟨m.sentPorts (bitsN w 28 25), if w.testBit 29 then some (bitsN w 24 22, bitsN w1 27 16) else none,
    m.gpEntry k 3 + bitsN (m.gpEntry k 4) 15 0 <<< 32, bitsN w1 15 0, m.gpEntry k 2,
    m.mbytesE (a + 0x20) 64, m.mbytesE (a + 0x60) 64, m.mbytesE (a + 0xA0) 32, false, false, false, t.1, t.2⟩

/-- Send publication `k` in state `g` (R227, R228); `fresh`: a new state begins now. -/
def Module.gpSend (m : Module) (k : Nat) (g : GoosePub) (fresh : Bool) : Module :=
  let t := match (if fresh then none else SMap.getD none m.pb.gpHead k) with
    | some h => (h.tSec, h.tNs)
    | none => (m.todSec, m.todNs)
  let h := m.gpHeadAt k t
  ({ m with pb := { m.pb with pubs := SMap.setD none m.pb.pubs k (some g),
                              gpHead := SMap.setD none m.pb.gpHead k (some h) } } : Module).seqsOn h

/-- Publication `k` ends. -/
def Module.gpStop (m : Module) (k : Nat) : Module :=
  { m with pb := { m.pb with pubs := SMap.setD none m.pb.pubs k none, gpHead := SMap.setD none m.pb.gpHead k none } }

/-- A publication starts with stNum 1 and sqNum 0 (R228). -/
def Module.gpStart (m : Module) (k : Nat) : Module :=
  m.gpSend k ⟨1, 0, m.gpTmin k, m.now, m.gpVals k, 2 * m.gpTmin k⟩ true

/-- Compare a publication's values with its last published set; a difference starts a new state (R228). -/
def Module.gpCompareNow (m : Module) (k : Nat) : Module :=
  if !m.gpEnabled k ∨ !m.up ∨ m.hl.hold then m
  else match SMap.getD none m.pb.pubs k with
    | none => m.gpStart k
    | some g =>
      if g.vals = m.gpVals k then m
      else m.gpSend k ⟨gooseNext g.st, 0, m.gpTmin k, m.now, m.gpVals k, 2 * m.gpTmin k⟩ true

/-- Process-bus DMA reads the value row of a publication to compare it (R90, R91, R112, R228). -/
def Module.gpCompare (m : Module) (k : Nat) : Module :=
  let a := 0x01860000 + 512 * k
  let n := 8 * bitsN (m.gpEntry k 0) 6 0
  if !m.gpEnabled k ∨ !m.up ∨ m.hl.hold then m
  else m.busAsk Bus.pb (beatsOf a n) (.goose k) (fun m => (m.masterRead 0xB a n).gpCompareNow k)

/-- A retransmission (R228). -/
def Module.gpRetransmit (m : Module) (k : Nat) : Module :=
  if !m.gpEnabled k ∨ !m.up ∨ m.hl.hold then m
  else match SMap.getD none m.pb.pubs k with
    | none => m
    | some g =>
      let i := min (2 * g.interval) (m.gpTmax k)
      m.gpSend k { g with sq := gooseNext g.sq, interval := i, sentAt := m.now, tal := 2 * i } false

/-- GOOSE_RETRANSMIT (R228). -/
def execGooseRetransmit (k : Fin 32) (s : State) := s.runUp (·.gpRetransmit k)

/-- A bit of PB_GPUB_SEND (R228): a publication not enabled or not the host's only clears it. -/
def Module.goPubSend (m : Module) (k : Nat) : Module :=
  let m := if m.gpEnabled k && m.gpHost k then m.gpCompare k else m
  m.setBit R.PB_GPUB_SEND k false

/-- The alarm publication is usable: enabled, and its first five types match (R229). -/
def Module.alarmOk (m : Module) (k : Nat) : Bool :=
  m.gpEnabled k && m.mbytesE (0x01848000 + 256 * k + 0xC0) 5 == [4#8, 4#8, 4#8, 1#8, 6#8]

/-- A severity 3 reaction publishes (R229): incident number, source, severity, whether open, and its time. -/
def Module.publishAlarm (m : Module) (num src sev : Nat) (open' : Bool) (sec ns : Nat) : Module :=
  let k := m.rf R.PB_CFG F.PB_CFG_ALARM
  if 32 ≤ k ∨ !m.alarmOk k then m
  else
    let a := 0x01860000 + 512 * k
    let m := m.setMn a 4 num
    let m := m.setMn (a + 8) 4 src
    let m := m.setMn (a + 16) 4 sev
    let m := m.setMn (a + 24) 4 (if open' then 1 else 0)
    let m := m.setMn (a + 32) 4 sec
    let m := m.setMn (a + 36) 4 (ns * 2 ^ 24 / 1000000000)
    m.gpCompare k

/-! ### Frame boundary (R211, R217, R219, R229) -/

/-- Subscription `n` is enabled or disabled (R212, R217). -/
def Module.svSwitch (m : Module) (n : Nat) : Module :=
  let m := m.svSetLost n true
  let m := { m with pb := { m.pb with sv := SMap.setD Platform.init m.pb.sv n Platform.init,
                                      svNext := SMap.setD 0 m.pb.svNext n 0, svRun := SMap.setD 0 m.pb.svRun n 0,
                                      svSim := m.pb.svSim.filter (· ≠ n) } }
  (m.setFlag (R.PB_SVS_STAT n) F.PB_SVS_STAT_SIM false).showSim

/-- GOOSE subscription `n` is enabled or disabled (R223, R224): NEVER until its first frame. -/
def Module.gsSwitch (m : Module) (n : Nat) : Module :=
  let m := { m with pb := { m.pb with gs := SMap.setD none m.pb.gs n none, gsSim := m.pb.gsSim.filter (· ≠ n) } }
  let m := m.showSim.setBit R.PB_GS_LOST n (!m.gsEnabled n)
  let never := m.gsEnabled n
  m.gsAsk n 0x20 (.gsNew n never) (·.gsShowNew n never)

/-- The tables in effect changed from those of `old` (R211). -/
def Module.pbTables (m old : Module) : Module :=
  let m := (List.range 32).foldl (fun m n =>
    let w := m.svEntry n 0
    let m := m.setFlag (R.PB_SVS_STAT n) F.PB_SVS_STAT_BADCFG (w.testBit 31 && !m.svEnabled n)
    if m.svEnabled n == old.svEnabled n then m else m.svSwitch n) m
  let m := (List.range 64).foldl (fun m n => if m.gsEnabled n == old.gsEnabled n then m else m.gsSwitch n) m
  let m := (List.range 32).foldl (fun m k =>
    if m.gpEnabled k == old.gpEnabled k then m else if m.gpEnabled k then m.gpStart k else m.gpStop k) m
  let m := { m with pb := { m.pb with ftMatch := m.pb.ftMatch.filter (fun k => m.filterOn k) } }
  m.filtersFollow

/-- A frame boundary: SIM returned to 0 (R219), and an unusable alarm publication (R229). -/
def Module.pbBoundary (m : Module) : Module :=
  let m := if m.simCfg || (m.pb.svSim.isEmpty && m.pb.gsSim.isEmpty) then m
    else
      let m := m.pb.svSim.foldl (fun m n => m.setFlag (R.PB_SVS_STAT n) F.PB_SVS_STAT_SIM false) m
      let m := m.pb.gsSim.foldl (fun m n => m.gsAsk n 0x20 (.gsSim n false) (·.gsShowSim n false)) m
      ({ m with pb := { m.pb with svSim := [], gsSim := [] } } : Module).showSim
  let m := if m.ticking then m else { m with pb := { m.pb with svPubNext := [] } }
  let k := m.rf R.PB_CFG F.PB_CFG_ALARM
  if k < 32 ∧ !m.alarmOk k then m.wf R.PB_CFG F.PB_CFG_ALARM 0x3F else m

/-- After INSPECT every publication starts afresh (R228). -/
def Module.pbStart (m : Module) : Module :=
  (List.range 32).foldl (fun m k => if m.gpEnabled k then m.gpStart k else m) m

end Sys2Proof.Machine
end

