-- ==== Sys2Proof/Machine/SafeImage.lean ====
section
/-! DEFINITION. SafeImage.lean: the Interlocking's configuration image: its fields, and what makes it valid (R459). -/

namespace Sys2Proof.Machine

/-- `n` bytes at an offset of an image, as a number. -/
def imgN (img : List Byte) (off n : Nat) : Nat := leNat ((img.drop off).take n)
def imgW (img : List Byte) (off : Nat) : Nat := imgN img off 4

/-- Fields of SI_nn (R459). -/
def siEn (img : List Byte) (n : Nat) : Bool := (imgW img (0x10 + 4 * n)).testBit 31
def siKind (img : List Byte) (n : Nat) : Nat := bitsN (imgW img (0x10 + 4 * n)) 30 29
/-- TPA of channel 0, TPB of channel 1. -/
def siPulse (img : List Byte) (n ch : Nat) : Nat :=
  if ch = 0 then bitsN (imgW img (0x10 + 4 * n)) 28 26 else bitsN (imgW img (0x10 + 4 * n)) 25 23

/-- Words and fields of FB_ii (R459). -/
def fbW (img : List Byte) (i w : Nat) : Nat := imgW img (0x50 + 16 * i + 4 * w)
def fbEn (img : List Byte) (i : Nat) : Bool := (fbW img i 0).testBit 31
def fbKind (img : List Byte) (i : Nat) : Nat := bitsN (fbW img i 0) 30 28
def fbAuto (img : List Byte) (i : Nat) : Bool := (fbW img i 0).testBit 27
def fbCat1 (img : List Byte) (i : Nat) : Bool := (fbW img i 0).testBit 26
def fbOpt (img : List Byte) (i : Nat) : Bool := (fbW img i 0).testBit 25
/-- SRC1 to SRC3 (k = 1, 2, 3) and RST (k = 0). -/
def fbSrc (img : List Byte) (i k : Nat) : Nat :=
  match k with
  | 1 => bitsN (fbW img i 1) 31 24
  | 2 => bitsN (fbW img i 1) 23 16
  | 3 => bitsN (fbW img i 1) 15 8
  | _ => bitsN (fbW img i 1) 7 0
def fbT1 (img : List Byte) (i : Nat) : Nat := bitsN (fbW img i 2) 31 16
def fbT2 (img : List Byte) (i : Nat) : Nat := bitsN (fbW img i 2) 15 0

/-- Fields of output j: 0 STO, 1 to 4 SO_00 to SO_03 (R459). -/
def outW (img : List Byte) (j w : Nat) : Nat := imgW img (0x150 + 8 * j + 4 * w)
def outMask (img : List Byte) (j : Nat) (maint : Bool) : Nat :=
  if maint then bitsN (outW img j 0) 31 16 else bitsN (outW img j 0) 15 0
def outEn (img : List Byte) (j : Nat) : Bool := (outW img j 1).testBit 31
def outEdm (img : List Byte) (j : Nat) : Bool := (outW img j 1).testBit 30
def outDly (img : List Byte) (j : Nat) : Nat := bitsN (outW img j 1) 15 0

/-- Fields of TK_cc (R459). -/
def tkOff (c : Nat) : Nat := 0x180 + 32 * c
def tkEn (img : List Byte) (c : Nat) : Bool := (imgW img (tkOff c)).testBit 31
def tkCarrier (img : List Byte) (c : Nat) : Nat := bitsN (imgW img (tkOff c)) 30 29
def tkIn (img : List Byte) (c : Nat) : Nat := bitsN (imgW img (tkOff c)) 28 22
def tkOut (img : List Byte) (c : Nat) : Nat := bitsN (imgW img (tkOff c)) 21 15
def tkIdIn (img : List Byte) (c : Nat) : Nat := imgW img (tkOff c + 4)
def tkIdOut (img : List Byte) (c : Nat) : Nat := imgW img (tkOff c + 8)
def tkAge (img : List Byte) (c : Nat) : Nat := imgN img (tkOff c + 14) 2
def tkArg (img : List Byte) (c : Nat) : Nat := imgW img (tkOff c + 20)

/-- The configuration CRC (R459); 0 where no configuration exists. -/
def imgCrc (img : List Byte) : Nat := if img.isEmpty then 0 else imgW img 0x380

/-! ### Validity -/

/-- A pair code names an enabled pair whose KIND satisfies `p`. -/
def pairOk (img : List Byte) (p : Nat → Bool) (code : Nat) : Bool := code < 16 && siEn img code && p (siKind img code)

/-- A source that names an enabled pair or channel of a suitable KIND, or a bit of an enabled connection. -/
def sourceOk (img : List Byte) (p : Nat → Bool) (code : Nat) : Bool :=
  if code < 0x10 then pairOk img p code
  else if code < 0x30 then siEn img (code % 16) && siKind img (code % 16) == 3
  else if 0x80 ≤ code then tkEn img (code / 8 % 16)
  else false

/-- One check of a byte offset of the image. -/
abbrev ImgCheck := Nat × Bool

/-- Checks of SI_nn (R443 to R445). -/
def siChecks (img : List Byte) (n : Nat) : List ImgCheck :=
  let w := imgW img (0x10 + 4 * n)
  let o := 0x10 + 4 * n
  let a := siPulse img n 0
  let b := siPulse img n 1
  let t := bitsN w 11 0
  if !siEn img n then [(o, bitsN w 22 12 == 0)]
  else [(o, bitsN w 22 12 == 0 && (siKind img n == 3 || (10 ≤ t && t ≤ 3000))),
    (o + 2, b ≤ 4 && (a == 4 || a != b) && (siKind img n != 2 || b == 4)),
    (o + 3, a ≤ 4 && (siKind img n != 2 || a == 4))]

/-- Checks of FB_ii (R446 to R448). -/
def fbChecks (img : List Byte) (i : Nat) : List ImgCheck :=
  let o := 0x50 + 16 * i
  let notSingle (k : Nat) : Bool := k != 3
  let src (k : Nat) := fbSrc img i k
  let k := fbKind img i
  let rst := src 0 == 0x7F || sourceOk img (fun _ => true) (src 0)
  if !fbEn img i then [(o, bitsN (fbW img i 0) 24 0 == 0), (o + 12, fbW img i 3 == 0)]
  else [(o, bitsN (fbW img i 0) 24 0 == 0), (o + 3, k ≤ 3),
    (o + 4, rst),
    (o + 5, match k with
      | 1 => !fbOpt img i || sourceOk img notSingle (src 3)
      | 3 => !fbOpt img i || pairOk img (· == 3) (src 3)
      | _ => true),
    (o + 6, k != 2 || pairOk img (· == 1) (src 2)),
    (o + 7, match k with
      | 2 => pairOk img (· == 1) (src 1)
      | 3 => pairOk img (· == 2) (src 1) || (0x80 ≤ src 1 && sourceOk img notSingle (src 1))
      | _ => sourceOk img notSingle (src 1)),
    (o + 8, k != 3 || !fbOpt img i || (30 ≤ fbT2 img i && fbT2 img i ≤ 3000)),
    (o + 10, if k = 0 ∧ fbCat1 img i then 1 ≤ fbT1 img i && fbT1 img i ≤ 3000
      else if k = 3 ∧ fbOpt img i then 10 ≤ fbT1 img i && fbT1 img i ≤ 600 else true),
    (o + 12, fbW img i 3 == 0)]

/-- Checks of output j (R449, R451). -/
def outChecks (img : List Byte) (j : Nat) : List ImgCheck :=
  let o := 0x150 + 8 * j
  let w := outW img j 1
  let t := bitsN w 29 20
  if j = 0 then [(o + 4, bitsN w 30 0 == 0)]
  else [(o + 4, outDly img j ≤ 3000), (o + 6, bitsN w 19 16 == 0 && (!outEdm img j || (10 ≤ t && t ≤ 1000)))]

/-- Checks of TK_cc (R454 to R458). -/
def tkChecks (img : List Byte) (c : Nat) : List ImgCheck :=
  let o := tkOff c
  let wd := imgN img (o + 12) 2
  let prod := imgN img (o + 16) 2
  let arg := tkArg img c
  let k (n : Nat) := (16 + n + 3) / 4
  if !tkEn img c then []
  else [(o, bitsN (imgW img o) 14 0 == 0),
    (o + 2, 1 ≤ tkIn img c && tkIn img c ≤ 64 && 1 ≤ tkOut img c && tkOut img c ≤ 64
      && (tkCarrier img c != 1 || tkIn img c == tkOut img c)),
    (o + 3, tkCarrier img c != 3),
    (o + 12, 10 ≤ wd && wd ≤ 10000), (o + 14, tkAge img c ≤ 10000), (o + 16, 5 ≤ prod && prod ≤ 5000),
    (o + 18, imgN img (o + 18) 2 == 0),
    (o + 20, match tkCarrier img c with
      | 0 => bitsN arg 31 24 == 0 && bitsN arg 17 17 == 0 && bitsN arg 11 6 + k (tkIn img c) ≤ 64
          && bitsN arg 23 18 + k (tkOut img c) ≤ 64
      | 1 => bitsN arg 31 25 == 0 && bitsN arg 15 4 == 0
      | _ => arg == 0),
    (o + 24, imgN img (o + 24) 8 == 0)]

/-- Every check of R459, in order of offsets. -/
def imgChecks (img : List Byte) : List ImgCheck :=
  [(0, imgW img 0 == 0x31464153), (4, imgN img 4 2 == 1), (6, imgN img 6 2 == 0x384),
    (8, imgN img 8 1 == 0x7F || pairOk img (· == 1) (imgN img 8 1)), (9, imgN img 9 7 == 0)]
    ++ (List.range 16).flatMap (siChecks img) ++ (List.range 16).flatMap (fbChecks img)
    ++ (List.range 5).flatMap (outChecks img) ++ [(0x178, imgN img 0x178 8 == 0)]
    ++ (List.range 16).flatMap (tkChecks img) ++ [(0x380, imgW img 0x380 == scrc (img.take 0x380))]

/-- The first invalid byte offset of an image, if any (R459, R460). -/
def imgInvalid (img : List Byte) : Option Nat :=
  if img.length ≠ 900 then some 0 else ((imgChecks img).find? (fun c => !c.2)).map (·.1)

/-- Which items two images differ in (R463): bits 0 to 15 FB_ii, 16 safe inputs, 17 outputs, 18 Token, 19 MSEL. -/
def imgChanges (a b : List Byte) : Nat :=
  let diff (o n : Nat) : Bool := (padded a o n) != (padded b o n)
  let bit (x : Bool) (k : Nat) := if x then 1 <<< k else 0
  (List.range 16).foldl (fun v i => v + bit (diff (0x50 + 16 * i) 16) i) 0
    + bit (diff 0x10 64) 16 + bit (diff 0x150 40) 17 + bit (diff 0x180 512) 18 + bit (diff 8 1) 19
where padded (l : List Byte) (o n : Nat) : List Byte := (List.range n).map (fun k => l.getD (o + k) 0)

end Sys2Proof.Machine
end

