-- ==== Sys2Proof/Machine/Interlocking.lean ====
section
/-! DEFINITION. Interlocking.lean: safe inputs, function blocks, outputs, Token connections, and the configuration area (R441
to R465). -/

namespace Sys2Proof.Machine

/-! ### State access -/

/-- A function block that has not started. -/
def FbState.init : FbState := ⟨false, false, false, 0, false, 0⟩
/-- An output that is off. -/
def SafeOut.init : SafeOut := ⟨false, false, false, false, false⟩
/-- A connection that is closed. -/
def Token.init : Token := ⟨0, false, [], 0, 0⟩

/-- Replace the Interlocking's state. -/
def Module.setIl (m : Module) (x : Il) : Module := { m with il := x }
def Il.fb (x : Il) (i : Nat) : FbState := SMap.getD FbState.init x.fbs i
def Il.setFb (x : Il) (i : Nat) (f : FbState) : Il := { x with fbs := SMap.setD FbState.init x.fbs i f }
def Il.out (x : Il) (j : Nat) : SafeOut := SMap.getD SafeOut.init x.outs j
def Il.setOut (x : Il) (j : Nat) (o : SafeOut) : Il := { x with outs := SMap.setD SafeOut.init x.outs j o }
def Il.token (x : Il) (c : Nat) : Token := SMap.getD Token.init x.tokens c
def Il.setToken (x : Il) (c : Nat) (t : Token) : Il := { x with tokens := SMap.setD Token.init x.tokens c t }
def Il.pair (x : Il) (n : Nat) : Nat := SMap.getD 0 x.pairs n
def Il.setPair (x : Il) (n v : Nat) : Il := { x with pairs := SMap.setD 0 x.pairs n v }

/-! ### Inputs (R443 to R445) -/

/-- A channel's accepted level: closed, or 24 V. -/
def Il.level (x : Il) (n ch : Nat) : Bool := x.levels.contains (2 * n + ch)

/-- A channel shows release (R443): closed, but for the NO contact of an antivalent pair. -/
def Il.chanRel (x : Il) (n ch : Nat) : Bool :=
  if ch = 1 ∧ siKind x.image n = 1 then !x.level n ch else x.level n ch

/-- A pair's reading after a channel changed (R444): 0 demand, 1 release, 2 one channel changed, 3 fault. A fault clears when
both channels show demand together. -/
def Il.pairNext (x : Il) (n : Nat) : Nat :=
  let a := x.chanRel n 0
  let b := x.chanRel n 1
  if !a && !b then 0
  else if x.pair n = 3 then 3
  else if siKind x.image n = 3 then 0
  else if a && b then 1
  else 2

/-- What a source reads (R446): release is true. A pair of KIND 0b11 with a wiring fault reads demand (R445). -/
def Il.source (x : Il) (code : Nat) : Bool :=
  if code < 0x10 then siEn x.image code && x.pair code == 1
  else if code < 0x20 then siEn x.image (code - 0x10) && x.pair (code - 0x10) != 3 && x.level (code - 0x10) 0
  else if code < 0x30 then siEn x.image (code - 0x20) && x.pair (code - 0x20) != 3 && x.level (code - 0x20) 1
  else if 0x80 ≤ code then
    let t := x.token (code / 8 % 16)
    t.st == 2 && (t.last.getD 12 0).toNat.testBit (code % 8)
  else false

/-- A fault of R444 or R445 stands on the pair a source names. -/
def Il.sourceFault (x : Il) (code : Nat) : Bool := decide (code < 0x30) && x.pair (code % 16) == 3

/-! ### Function blocks (R446 to R448) -/

/-- The sources of instance `i` that its KIND uses (R447). -/
def fbSources (img : List Byte) (i : Nat) : List Nat :=
  match fbKind img i with
  | 1 => fbSrc img i 1 :: if fbOpt img i then [fbSrc img i 3] else []
  | 2 => [fbSrc img i 1, fbSrc img i 2]
  | _ => [fbSrc img i 1]

/-- Every source reads release. -/
def Il.fbOk (x : Il) (i : Nat) : Bool := (fbSources x.image i).all x.source

/-- A two-hand instance (R447): both actuated, the second within 500 ms, after both were released. -/
def Il.twoHand (x : Il) (i now : Nat) : Il :=
  let a := x.source (fbSrc x.image i 1)
  let b := x.source (fbSrc x.image i 2)
  let f := x.fb i
  if !a && !b then x.setFb i { f with rel := false, thArmed := true, thFirst := 0 }
  else if a && b then
    if f.rel then x
    else if f.thArmed && (f.thFirst == 0 || decide (now + 1 ≤ f.thFirst + 250000000)) then
      x.setFb i { f with rel := true, thArmed := false }
    else x.setFb i { f with thArmed := false }
  else
    x.setFb i { f with rel := false, thArmed := f.thArmed && !f.rel,
                       thFirst := if f.thFirst = 0 then now + 1 else f.thFirst }

/-- Muting of a curtain (R448): M1 activates while the OSSDs read release, then M2 within T2; it ends when either deactivates.
`m1At` is 0 with M1 inactive, 1 where M1 activated without starting anything, else 2 more than its tick. -/
def Il.muting (x : Il) (i now : Nat) : Il :=
  if !fbOpt x.image i then x
  else
    let n := fbSrc x.image i 3
    let m1 := x.level n 0 && x.pair n != 3
    let m2 := x.level n 1 && x.pair n != 3
    let f := x.fb i
    if f.muting then (if m1 && m2 then x else x.setFb i { f with muting := false, m1At := if m1 then 1 else 0 })
    else if !m1 then x.setFb i { f with m1At := 0 }
    else if f.m1At = 0 then
      x.setFb i { f with m1At := if !m2 && x.source (fbSrc x.image i 1) then now + 2 else 1 }
    else if m2 then
      if 2 ≤ f.m1At ∧ now + 2 ≤ f.m1At + 500000 * fbT2 x.image i then x.setFb i { f with muting := true, m1At := 1 }
      else x.setFb i { f with m1At := 1 }
    else x

/-- Instance `i` follows its sources (R446, R447): also whether a category 1 stop begins. While a curtain mutes, a demand is
ignored (R448). -/
def Il.fbNext (x : Il) (i now : Nat) : Il × Bool :=
  if !fbEn x.image i then (x, false)
  else if fbKind x.image i = 2 then (x.twoHand i now, false)
  else
    let x := if fbKind x.image i = 3 then x.muting i now else x
    let f := x.fb i
    if x.fbOk i then
      if fbAuto x.image i ∧ !f.stop1 then (x.setFb i { f with rel := true }, false) else (x, false)
    else if f.muting then (x, false)
    else if f.rel ∧ fbKind x.image i = 0 ∧ fbCat1 x.image i then
      if f.stop1 then (x, false) else (x.setFb i { f with stop1 := true }, true)
    else (x.setFb i { f with rel := false }, false)

/-- Put every instance into demand (R446). -/
def Il.allDemand (x : Il) : Il :=
  { x with fbs := SMap.mapD FbState.init (fun _ f => { f with rel := false, stop1 := false, muting := false }) x.fbs }

/-- MSEL reads normal (R446). -/
def Il.normal (x : Il) : Bool := let c := imgN x.image 8 1; c == 0x7F || x.source c

/-! ### Outputs (R449 to R453) -/

/-- The mask of output `j` in force (R449). -/
def Il.mask (x : Il) (j : Nat) : Nat := outMask x.image j (!x.normal)

/-- The instances of a mask. -/
def Il.maskFbs (x : Il) (j : Nat) : List Nat := (List.range 16).filter (fun i => (x.mask j).testBit i)

/-- Output `j` is released (R449). -/
def Il.released (x : Il) (j : Nat) : Bool :=
  !x.image.isEmpty && !x.lockout && !x.stopSig && outEn x.image j && x.mask j != 0
    && (SMap.getD [] x.need j).isEmpty
    && (x.maskFbs j).all (fun i => (x.fb i).rel && (fbSources x.image i).all (fun c => !x.sourceFault c))

/-- A demand took output `j`: not when every instance that demands is a two-hand instance (R453). -/
def Il.byDemand (x : Il) (j : Nat) : Bool :=
  !x.lockout && (x.stopSig || (x.maskFbs j).any (fun i => !(x.fb i).rel && fbKind x.image i != 2))

/-- STO follows its mask (R450): the enables of the gate dies and the Interlocking's line. -/
def Module.stoFollow (m : Module) : Module :=
  let rel := m.il.released 0
  if rel == m.il.stoRel then
    if rel then m else if (m.lineReqs m.stoLine).contains .safe then m else m.requestLine m.stoLine .safe
  else
    let m := m.setIl { m.il with stoRel := rel }
    let m := m.gateEnables rel rel
    if rel then (List.range 32).foldl (fun m l => m.withdrawLine l .safe) m
    else m.requestLine m.stoLine .safe

/-- A safe output changes (R451): EDM must follow. -/
def Module.setSafeOut (m : Module) (j : Nat) (on : Bool) : Module :=
  let o := m.il.out j
  m.setIl (m.il.setOut j { o with on := on, delay := false,
                                  edmWait := outEdm m.il.image j && !o.edmFlt && o.on != on })

/-- Safe output `j` (1 to 4) follows its mask (R451): it turns off after OFF_DLY, at once in lockout and in a hold-up sequence
(R47), and on only while EDM shows the contactor open. -/
def Module.outFollow (m : Module) (j : Nat) : Module :=
  let x := m.il
  let o := x.out j
  if x.released j then
    if !o.on && !o.edmFlt && !o.outFlt && (!outEdm x.image j || x.edm.contains j) then m.setSafeOut j true else m
  else if !o.on then m
  else if x.lockout || x.image.isEmpty || m.sys.holdUp || outDly x.image j == 0 then m.setSafeOut j false
  else m.setIl (x.setOut j { o with delay := true })

/-- Evaluate the Interlocking (R446 to R453): MSEL, every instance, every output; SAFE_STOP1 and SAFE_DEMAND. -/
def Module.ilEval (m : Module) : Module :=
  if m.il.image.isEmpty then (List.range 4).foldl (fun m j => m.outFollow (j + 1)) m.stoFollow
  else
    let n := m.il.normal
    let m := if n == m.il.msel then m else m.setIl { m.il.allDemand with msel := n }
    let m := (List.range 16).foldl (fun m i =>
      let r := m.il.fbNext i m.now
      let m := m.setIl r.1
      if r.2 then m.raiseFree FS.SAFE_STOP1 .none else m) m
    let was := m.il
    let m := (List.range 4).foldl (fun m j => m.outFollow (j + 1)) m.stoFollow
    let went := (was.stoRel && !m.il.stoRel && was.byDemand 0)
      || (List.range 4).any (fun j => (was.out (j + 1)).on && !(m.il.out (j + 1)).on && was.byDemand (j + 1))
    if went then m.raiseFree FS.SAFE_DEMAND .none else m

/-! ### Input commands -/

/-- A channel's level is accepted (R443, R444). -/
def Module.safeInput (m : Module) (n ch : Nat) (level : Bool) : Module :=
  let k := 2 * n + ch
  let rest := m.il.levels.filter (· ≠ k)
  let x := { m.il with levels := if level then k :: rest else rest }
  let x := if siEn x.image n then x.setPair n (x.pairNext n) else x
  (m.setIl x).ilEval

/-- SAFE_INPUT_CHANGE (R444): channel B when `b`; level true is closed or 24 V. -/
def execSafeInputChange (n : Fin 16) (b level : Bool) (s : State) :=
  s.runOn (·.safeInput n (if b then 1 else 0) level)

/-- A fault of pair `n` (R444, R445); a fault on MSEL's pair puts every instance into demand (R446). -/
def Module.pairFault (m : Module) (n src : Nat) : Module :=
  let x := m.il.setPair n 3
  (m.setIl (if imgN x.image 8 1 = n then x.allDemand else x)).raiseFree src .none

/-- DISCREPANCY_TIMEOUT (R444). -/
def execDiscrepancyTimeout (n : Fin 16) (s : State) :=
  s.runOn (fun m => if siEn m.il.image n && m.il.pair n == 2 then (m.pairFault n FS.SAFE_DISC).ilEval else m)

/-- TEST_PULSE_CHECK (R445): the channels that went low with pulse `t`; one that stayed high has a wiring fault. -/
def execTestPulseCheck (t : Fin 4) (low : List (Fin 32)) (s : State) :=
  s.runOn (fun m =>
    let bad := (List.range 16).filter (fun n => siEn m.il.image n && [0, 1].any (fun ch =>
      siPulse m.il.image n ch == t.val && !low.any (fun k => k.val == 2 * n + ch)))
    (bad.foldl (fun m n =>
      if m.il.pair n = 3 then m else m.pairFault n FS.SAFE_WIRE) m).ilEval)

/-- FB_RESET (R446): a valid pulse on the instance's RST source has ended, so that the source reads inactive; ignored with no RST
source, and while a source reads demand. A two-hand instance ignores it (R447). -/
def execFbReset (i : Fin 16) (s : State) :=
  s.runOn (fun m =>
    let x := m.il
    let rst := fbSrc x.image i 0
    if !fbEn x.image i || fbKind x.image i == 2 || rst == 0x7F || x.source rst || !x.fbOk i || (x.fb i).stop1 then m
    else
      let x := x.setFb i { x.fb i with rel := true }
      let x := if x.stopSig then x else
        { x with need := SMap.mapD [] (fun _ l => l.filter (· ≠ i.val)) x.need }
      let outs := SMap.mapD SafeOut.init (fun j o =>
        if o.edmFlt && x.edm.contains j && (SMap.getD [] x.need j).isEmpty then { o with edmFlt := false } else o) x.outs
      (m.setIl { x with outs := outs }).ilEval)

/-- STOP1_DELAY_END (R447). -/
def execStop1DelayEnd (i : Fin 16) (s : State) :=
  s.runOn (fun m =>
    let f := m.il.fb i
    if f.stop1 then (m.setIl (m.il.setFb i { f with stop1 := false, rel := false })).ilEval else m)

/-- MUTING_TIMEOUT (R448). -/
def execMutingTimeout (i : Fin 16) (s : State) :=
  s.runOn (fun m =>
    let f := m.il.fb i
    if f.muting then (m.setIl (m.il.setFb i { f with muting := false, m1At := 1 })).ilEval else m)

/-- OFF_DELAY_END (R451): safe output SO_0j. -/
def execOffDelayEnd (j : Fin 4) (s : State) :=
  s.runOn (fun m =>
    let o := m.il.out (j + 1)
    if o.delay then
      let d := m.il.byDemand (j + 1)
      let m := m.setSafeOut (j + 1) false
      (if d then m.raiseFree FS.SAFE_DEMAND .none else m).ilEval
    else m)

/-- An EDM fault (R451): the output goes off and stays off until EDM shows open and its instances are reset. -/
def Module.edmFault (m : Module) (j : Nat) : Module :=
  let o := m.il.out j
  let x := m.il.setOut j { o with on := false, delay := false, edmWait := false, edmFlt := true }
  let x := { x with need := SMap.setD [] x.need j ((x.maskFbs j).filter (fun i => fbKind x.image i != 2)) }
  ((m.setIl x).raiseFree FS.SAFE_EDM .none).ilEval

/-- EDM_TIMEOUT (R451). -/
def execEdmTimeout (j : Fin 4) (s : State) :=
  s.runOn (fun m => if (m.il.out (j + 1)).edmWait then m.edmFault (j + 1) else m)

/-- An EDM input changes (R451): expected after a change of its output, a fault while the output is steady. -/
def Module.edmChange (m : Module) (j : Nat) (high : Bool) : Module :=
  let rest := m.il.edm.filter (· ≠ j)
  let m := m.setIl { m.il with edm := if high then j :: rest else rest }
  let o := m.il.out j
  if !outEdm m.il.image j then m.ilEval
  else if o.edmFlt then
    (if high && (SMap.getD [] m.il.need j).isEmpty then m.setIl (m.il.setOut j { o with edmFlt := false }) else m).ilEval
  else if o.edmWait then
    (if high != o.on then m.setIl (m.il.setOut j { o with edmWait := false }) else m).ilEval
  else m.edmFault j

/-- EDM_INPUT_CHANGE (R451). -/
def execEdmInputChange (j : Fin 4) (high : Bool) (s : State) := s.runOn (·.edmChange (j + 1) high)

/-- A switch fails its test or readback (R451). -/
def Module.switchFault (m : Module) (j : Nat) : Module :=
  let m := m.setSafeOut j false
  let m := m.setIl (m.il.setOut j { m.il.out j with outFlt := true })
  (m.raiseFree FS.SAFE_OUT .none).ilEval

/-- SWITCH_READBACK_FAIL (R451). -/
def execSwitchReadbackFail (j : Fin 4) (s : State) := s.runOn (·.switchFault (j + 1))

/-- DARK_PULSE_TEST (R451): the outputs, of those on, with a switch that failed. -/
def execDarkPulseTest (failed : List (Fin 4)) (s : State) :=
  s.runOn (fun m => failed.foldl (fun m j => if (m.il.out (j + 1)).on then m.switchFault (j + 1) else m) m)

/-- Lockout (R441). -/
def Module.lockout (m : Module) : Module :=
  if m.il.lockout then m
  else ((m.setIl { m.il with lockout := true }).raiseFree FS.SAFE_INTERNAL .none).ilEval

/-- CHANNEL_COMPARE (R441): made every 1 ms; a disagreement that lasts 2 ms, or a failed self-test, causes lockout. -/
def execChannelCompare (agree selfTest : Bool) (s : State) :=
  s.runOn (fun m =>
    let n := if agree then 0 else m.il.differ + 1
    let m := m.setIl { m.il with differ := n }
    if 3 ≤ n || !selfTest then m.lockout else m)

/-- INTERLOCKING_SUPPLY_LOSS (R441, R450). -/
def execInterlockingSupplyLoss (s : State) := s.runOn (·.lockout)

/-- The collector's stop signal (R452): a demand on every output; its end alone releases nothing. -/
def Module.stopSignal (m : Module) (active : Bool) : Module :=
  if active then
    let x := m.il
    let need := (List.range 5).foldl (fun s j =>
      SMap.setD [] s j ((List.range 16).filter (fun i => (x.mask j).testBit i && fbEn x.image i && fbKind x.image i != 2)))
      ([] : SMap (List Nat))
    (m.setIl { x with stopSig := true, need := need }).ilEval
  else (m.setIl { m.il with stopSig := false }).ilEval

/-- STOP_SIGNAL (R452). -/
def execStopSignal (active : Bool) (s : State) := s.runOn (·.stopSignal active)

/-! ### Start (R446, R455 to R457, R461) -/

/-- The Interlocking starts, or a configuration is applied: instances in demand, connections in START. A fault of a pair stands
until both channels show demand (R444), and a reset that an output waits for is still due from the instances that its masks
hold (R451, R452). -/
def Module.ilRestart (m : Module) : Module :=
  let x := m.il
  let outs := SMap.mapD SafeOut.init (fun _ o => { o with outFlt := false }) x.outs
  let held (j i : Nat) : Bool := fbEn x.image i && fbKind x.image i != 2
    && ((outMask x.image j false).testBit i || (outMask x.image j true).testBit i)
  let x := { x with fbs := [], need := SMap.mapD [] (fun j l => l.filter (held j)) x.need, outs := outs }
  let x := (List.range 16).foldl (fun x n => x.setPair n (if siEn x.image n then x.pairNext n else 0)) x
  let x := (List.range 16).foldl (fun x c =>
    x.setToken c { x.token c with st := if tkEn x.image c then 1 else 0, base := false, last := [] }) x
  (m.setIl { x with msel := x.normal }).ilEval

/-- The Interlocking starts: SEQ of its producers at 0, no fault or reset due from before, and a lock that was running starts
again at 15 min. -/
def Module.ilStart (m : Module) : Module :=
  let x := m.il
  let tokens := SMap.mapD Token.init (fun _ t => { t with seq := 0 }) x.tokens
  let x := { x with tokens := tokens, lockAt := m.now, stopSig := false, req := none, apply := none, differ := 0,
                    pairs := [], need := [] }
  (m.setIl x).ilRestart

/-! ### Token (R454 to R458) -/

/-- SAFE_TOKEN: a failure of a connection in RUN (R457). -/
def Module.tokenFail (m : Module) (c code : Nat) : Module :=
  let t := m.il.token c
  if t.st = 2 then
    ((m.setIl (m.il.setToken c { t with st := 3, base := false, code := code })).raiseFree FS.SAFE_TOKEN .none).ilEval
  else m

/-- The age of a frame in µs, signed (R456). -/
def Module.tokenAge (m : Module) (ts : Nat) : Int :=
  (BitVec.ofNat 32 (m.todNanos / 1000) - BitVec.ofNat 32 ts).toInt

/-- The first check of R456 that a frame fails, if any: 1, 2, 3 or 4. `seq` says whether check 3 is made. -/
def Module.tokenCheck (m : Module) (c : Nat) (f : List Byte) (seq : Bool) : Option Nat :=
  let img := m.il.image
  let n := tkIn img c
  let t := m.il.token c
  if f.length ≠ 16 + n ∨ imgW f (12 + n) ≠ scrc (f.take (12 + n)) then some 1
  else if imgW f 0 ≠ tkIdIn img c then some 2
  else if seq && imgW f 4 != (imgW t.last 4 + 1) % 2 ^ 32 then some 3
  else if tkAge img c = 0 then none
  else if !m.flag R.CLK_STAT F.CLK_STAT_TOD_VALID then some 4
  else
    let a := m.tokenAge (imgW f 8)
    if -1000 ≤ a ∧ a ≤ 1000 * (tkAge img c : Int) then none else some 4

/-- A frame reaches a consumed connection (R456, R457). -/
def Module.tokenFrame (m : Module) (c : Nat) (f : List Byte) : Module :=
  let t := m.il.token c
  if t.st = 0 then m
  else if (t.st = 2 ∨ t.base) ∧ f = t.last ∧ m.tokenCheck c f false ≠ some 1 then m
  else if t.st = 2 then
    match m.tokenCheck c f true with
    | some code => m.tokenFail c code
    | none => (m.setIl (m.il.setToken c { t with last := f })).ilEval
  else if t.base && (m.tokenCheck c f true).isNone then
    (m.setIl (m.il.setToken c { t with st := 2, last := f })).ilEval
  else if (m.tokenCheck c f false).isNone then m.setIl (m.il.setToken c { t with base := true, last := f })
  else m

/-- TOKEN_FRAME_RECEIVED (R456). -/
def execTokenFrameReceived (c : Fin 16) (frame : List (BitVec 8)) (s : State) := s.runOn (·.tokenFrame c frame)

/-- TOKEN_WATCHDOG (R456). -/
def execTokenWatchdog (c : Fin 16) (s : State) := s.runOn (·.tokenFail c 5)

/-- TOKEN_HOST_SLOT_READ (R458). -/
def execTokenHostSlotRead (s : State) :=
  s.runOn (fun m => (List.range 16).foldl (fun m c =>
    if tkEn m.il.image c ∧ tkCarrier m.il.image c = 2 then
      m.tokenFrame c (m.mbytes (0x018A3000 + 0x80 * c) (16 + tkIn m.il.image c))
    else m) m)

/-- Safe data that the module produces: the manual does not state their content (free values). -/
def Module.safeData (m : Module) : Nat → List Byte × Module
  | 0 => ([], m)
  | n + 1 =>
    let f := m.free
    let r := f.2.safeData n
    (BitVec.ofNat 8 f.1.toNat :: r.1, r.2)

/-- A byte string as 32-bit words, low byte first, the last padded with zeros. -/
def wordsOf : List Byte → List Word
  | a :: b :: c :: d :: r => BitVec.ofNat 32 (leNat [a, b, c, d]) :: wordsOf r
  | [] => []
  | l => [BitVec.ofNat 32 (leNat l)]

/-- Hand a produced frame to its carrier (R458). -/
def Module.tokenCarry (m : Module) (c : Nat) (f : List Byte) : Module :=
  let img := m.il.image
  let arg := tkArg img c
  match tkCarrier img c with
  | 0 =>
    let pub := bitsN arg 16 12
    let a := 0x01860000 + 512 * pub + 8 * bitsN arg 23 18
    let m := ((wordsOf f).zipIdx).foldl (fun m w => m.setMw (a + 8 * w.2) w.1) m
    m.gpCompare pub
  | 1 => m.setIl { m.il with ring := m.il.ring ++ [(bitsN arg 3 0, bitsN arg 24 16, c, f, 0)] }
  | _ => m.setBytes (0x018A3800 + 0x80 * c) f

/-- TOKEN_PRODUCE (R454, R455). -/
def Module.tokenProduce (m : Module) (c : Nat) : Module :=
  let img := m.il.image
  if !tkEn img c then m
  else
    let t := m.il.token c
    let d := m.safeData (tkOut img c)
    let m := d.2
    let body := leBytes 4 (tkIdOut img c) ++ leBytes 4 t.seq ++ leBytes 4 (m.todNanos / 1000) ++ d.1
    let m := m.setIl (m.il.setToken c { t with seq := (t.seq + 1) % 2 ^ 32 })
    m.tokenCarry c (body ++ leBytes 4 (scrc body))

/-- TOKEN_PRODUCE (R455). -/
def execTokenProduce (c : Fin 16) (s : State) := s.runOn (·.tokenProduce c)

/-- A TOKEN slow frame returns (R413, R458): the cell's frame stands in its payload; sent again up to 3 times. -/
def Module.slowToken (m : Module) (p c : Nat) (f : Option SlowFrame) : Module :=
  match m.il.ring.find? (fun r => r.1 == p && r.2.2.1 == c) with
  | none => m
  | some r =>
    let drop (m : Module) : Module := m.setIl { m.il with ring := m.il.ring.erase r }
    match f.filter SlowFrame.ok with
    | some f =>
      let bytes := (f.words.flatMap (fun w => leBytes 4 w.toNat)).take (16 + tkIn m.il.image c)
      if f.err then drop m else (drop m).tokenFrame c bytes
    | none =>
      if r.2.2.2.2 < 3 then
        m.setIl { m.il with ring := m.il.ring.map (fun q => if q = r then (q.1, q.2.1, q.2.2.1, q.2.2.2.1, q.2.2.2.2 + 1) else q) }
      else drop m

/-- SLOW_FRAME_RETURN (R413, R415): matched to its request by origin. A frame with a CRC error counts in LN_CRCERR (R418). -/
def execSlowFrameReturn (p : Fin 16) (origin : SlowOrigin) (f : Option SlowFrame) (s : State) :=
  s.runOn (fun m =>
    let m := if f.any (fun x => !x.good) then m.crcError p else m
    match origin with
    | .token c => m.slowToken p c f
    | .program => m.slowProgram p f
    | .host => m.slowHost p f
    | .poll => m.slowPoll p f)

/-! ### The configuration area (R460 to R463) -/

/-- SAFE_REQUEST_FETCH (R460): a request whose SEQ differs from the last one handled. -/
def execSafeRequestFetch (s : State) :=
  s.runOn (fun m =>
    let a := 0x018A0000
    let q := m.mn a 4
    if q = m.il.lastReq ∨ m.il.req.isSome ∨ m.il.apply.isSome then m
    else
      let pw := m.mbytes (a + 0x10) (min 32 (m.mn (a + 8) 1))
      let newPw := m.mbytes (a + 0x30) (m.mn (a + 9) 1)
      m.setIl { m.il with lastReq := q,
                          req := some ⟨q, m.mn (a + 4) 1, m.mn (a + 6) 2, pw, newPw, m.mbytes (a + 0x100) 900⟩ })

/-- Answer a request (R460). -/
def Module.safeAnswer (m : Module) (seq result off crc logSeq : Nat) : Module :=
  let a := 0x018A1000
  let m := ((m.setMn a 4 seq).setMn (a + 4) 1 result).setMn (a + 5) 2 off
  let m := (m.setMn (a + 8) 4 crc).setMn (a + 12) 4 logSeq
  m.setIl { m.il with req := none }

/-- A change-log entry (R463): its place in the ring of 128 and its bytes. -/
def Module.changeEntry (m : Module) (user action oldCrc newCrc items : Nat) : Nat × List Byte × Nat :=
  let n := m.il.logSeq + 1
  (0x06610000 + 32 * ((n + 127) % 128),
    leBytes 8 m.todSec ++ leBytes 4 m.todNs ++ leBytes 4 n ++ leBytes 2 user ++ leBytes 1 action ++ [0]
      ++ leBytes 4 oldCrc ++ leBytes 4 newCrc ++ leBytes 4 items, n)

/-- Write a change-log entry through the log writer. -/
def Module.logChange (m : Module) (user action items : Nat) : Module :=
  let crc := imgCrc m.il.image
  let e := m.changeEntry user action crc crc items
  (m.logRecord e.1 e.2.1).setIl { m.il with logSeq := e.2.2 }

/-- A wrong password (R461): five in a row lock edits. -/
def Module.wrongPassword (m : Module) (r : SafeReq) : Module :=
  let n := min 5 (m.il.fails + 1)
  let m := m.setIl { m.il with fails := n }
  let m := m.raiseFree FS.SAFE_PW .none
  let m := if 5 ≤ n then
      (m.setIl { m.il with locked := true, lockAt := m.now }).logChange r.user 3 0
    else m
  m.safeAnswer r.seq 1 0 0 m.il.logSeq

/-- What the safety die keeps of a password (R461): 32 bytes. -/
def pwHash (salt password : List Byte) : List Byte := leBytes 32 (Config.passwordHash salt password).toNat

/-- The password of a request is right. -/
def Il.passwordOk (x : Il) (r : SafeReq) : Bool := pwHash x.salt r.pw == x.hash

/-- HALT or DEPOT (R460). -/
def Module.editMode (m : Module) : Bool :=
  let md := m.rf R.SYS_MODE F.SYS_MODE_MODE
  md == 3 || md == 4

/-- Handle a fetched request of command `cmd` once it is authorised (R460, R461). -/
def Module.safeCommand (m : Module) (cmd : Nat) (act : Module → SafeReq → Module) : Module :=
  match m.il.req with
  | none => m
  | some r =>
    if r.cmd ≠ cmd then m
    else if m.il.locked then m.safeAnswer r.seq 2 0 0 m.il.logSeq
    else if m.il.hash.isEmpty then
      if cmd = 3 then act m r else m.safeAnswer r.seq 9 0 0 m.il.logSeq
    else if !m.il.passwordOk r then m.wrongPassword r
    else act (m.setIl { m.il with fails := 0 }) r

/-- CHECK (R460). -/
def execSafeCheck (s : State) :=
  s.runOn (·.safeCommand 1 (fun m r =>
    if !m.editMode then m.safeAnswer r.seq 3 0 0 m.il.logSeq
    else match imgInvalid r.image with
      | some o => m.safeAnswer r.seq 5 o (imgW r.image 0x380) m.il.logSeq
      | none => m.safeAnswer r.seq 0 0 (imgW r.image 0x380) m.il.logSeq))

/-- STO is released or a safe output is on. -/
def Il.energised (x : Il) : Bool := x.stoRel || (List.range 4).any (fun j => (x.out (j + 1)).on)

/-- APPLY up to the log writer's confirmation (R462). -/
def execSafeApply (s : State) :=
  s.runOn (·.safeCommand 2 (fun m r =>
    if !m.editMode then m.safeAnswer r.seq 3 0 0 m.il.logSeq
    else if m.il.energised then m.safeAnswer r.seq 4 0 0 m.il.logSeq
    else match imgInvalid r.image with
      | some o => m.safeAnswer r.seq 5 o (imgW r.image 0x380) m.il.logSeq
      | none =>
        let e := m.changeEntry r.user 1 (imgCrc m.il.image) (imgW r.image 0x380) (imgChanges m.il.image r.image)
        (m.logRecord e.1 e.2.1).setIl { m.il with req := none, apply := some ⟨r.seq, r.image, e.1, e.2.1, e.2.2⟩ }))

/-- APPLY_LOG_CONFIRMED (R462): the entry stands in MRAM; the configuration is replaced in one step. -/
def execApplyLogConfirmed (s : State) :=
  s.runOn (fun m => match m.il.apply with
    | none => m
    | some a =>
      let m := { m with logq := m.logq.filter (fun q => q.1 ≠ a.place) }
      let m := m.setBytes a.place a.entry
      let m := m.setBytes 0x018A2000 a.image
      let m := m.setIl { m.il with image := a.image, apply := none, logSeq := a.logSeq }
      let m := (m.ilRestart).raiseFree FS.SAFE_CFG .none
      m.safeAnswer a.seq 0 0 (imgW a.image 0x380) a.logSeq)

/-- APPLY_LOG_TIMEOUT (R462). -/
def execApplyLogTimeout (s : State) :=
  s.runOn (fun m => match m.il.apply with
    | none => m
    | some a =>
      let m := { m with logq := m.logq.filter (fun q => q.1 ≠ a.place) }
      (m.setIl { m.il with apply := none }).safeAnswer a.seq 6 0 (imgW a.image 0x380) m.il.logSeq)

/-- A password is 8 to 32 printable characters (R461). -/
def passwordValid (p : List Byte) : Bool :=
  8 ≤ p.length && p.length ≤ 32 && p.all (fun b => 0x20 ≤ b.toNat && b.toNat ≤ 0x7E)

/-- SETPW (R461): a fresh random salt; the salt's bytes are free values. -/
def execSafeSetpw (s : State) :=
  s.runOn (·.safeCommand 3 (fun m r =>
    if !m.editMode then m.safeAnswer r.seq 3 0 0 m.il.logSeq
    else if !passwordValid r.newPw then m.safeAnswer r.seq 7 0 0 m.il.logSeq
    else
      let salt := m.safeData 16
      let m := salt.2
      let m := m.setIl { m.il with salt := salt.1, hash := pwHash salt.1 r.newPw }
      let m := m.logChange r.user 2 (1 <<< 20)
      m.safeAnswer r.seq 0 0 0 m.il.logSeq))

/-- SAFE_UNKNOWN_COMMAND (R460). -/
def execSafeUnknownCommand (s : State) :=
  s.runOn (fun m => match m.il.req with
    | none => m
    | some r =>
      if 1 ≤ r.cmd ∧ r.cmd ≤ 3 then m
      else m.safeAnswer r.seq (if m.il.locked then 2 else 8) 0 0 m.il.logSeq)

/-- EDIT_LOCK_EXPIRY (R461). -/
def execEditLockExpiry (s : State) :=
  s.runOn (fun m => if m.il.locked then m.setIl { m.il with locked := false } else m)

/-! ### The mirror (R465) -/

/-- Bits of a list of conditions, the first in bit 0. -/
def bitsOf (l : List Bool) : Nat := l.foldr (fun b n => 2 * n + if b then 1 else 0) 0

/-- The instances that await a reset (R465): manual restart, every source at release, not released. -/
def Il.waitsReset (x : Il) (i : Nat) : Bool :=
  fbEn x.image i && fbKind x.image i != 2 && !fbAuto x.image i && x.fbOk i && !(x.fb i).rel

/-- The whole mirror, rewritten as one update (R465). -/
def Module.safeMirror (m : Module) : Module :=
  let x := m.il
  let r16 (f : Nat → Bool) : Nat := bitsOf ((List.range 16).map f)
  let r4 (f : Nat → Bool) : Nat := bitsOf ((List.range 4).map (fun j => f (j + 1)))
  let secs := if x.locked then 900 - min 900 ((m.now - x.lockAt) / 500000000) else 0
  let m := m.wn R.SAFE_STAT (bitsOf [!x.stoRel, !m.gate.enA, !m.gate.enB, (List.range 16).any (fun i => (x.fb i).stop1),
    x.stopSig, !x.image.isEmpty, !x.image.isEmpty && !x.normal, x.lockout])
  let m := m.wn R.SAFE_SI (r16 (fun n => siEn x.image n && x.pair n == 1) + r16 (fun n => x.pair n == 3) <<< 16)
  let m := m.wn R.SAFE_FB (r16 (fun i => (x.fb i).rel) + r16 x.waitsReset <<< 16)
  let m := m.wn R.SAFE_MUTE (r16 (fun i => (x.fb i).muting))
  let m := m.wn R.SAFE_OUT (r4 (fun j => (x.out j).on) + r4 (fun j => (x.out j).edmFlt) <<< 4
    + r4 (fun j => (x.out j).outFlt) <<< 8 + r4 (fun j => x.edm.contains j) <<< 12 + if x.stoRel then 1 <<< 16 else 0)
  let m := m.wn R.SAFE_TK (r16 (fun c => (x.token c).st == 2) + r16 (fun c => (x.token c).st == 3) <<< 16)
  let m := m.wn R.SAFE_TK_CODE ((List.range 16).foldl (fun v c => v + (x.token c).code <<< (4 * c)) 0)
  let m := m.wn R.SAFE_CFG_CRC (imgCrc x.image)
  let m := m.wn R.SAFE_CFG_SEQ x.logSeq
  m.wn R.SAFE_PW (secs + (min 5 x.fails) <<< 16 + if x.hash.isEmpty then 0 else 1 <<< 20)

/-- SAFE_MIRROR_REFRESH (R465). -/
def execSafeMirrorRefresh (s : State) := s.runOn (·.safeMirror)

end Sys2Proof.Machine
end

