-- ==== Sys2Proof/Machine/Keeper.lean ====
section
/-! DEFINITION. Keeper.lean: store thresholds, bursts, the real-time clock, the tamper record, the lamp line, darkness and
the pulse inputs (R435, R436, R467 to R483). -/

namespace Sys2Proof.Machine

/-! ### The real-time clock (R476) -/

/-- The RTC in 1/32,768 s: 62 bits of KEEP_RTC. -/
def Module.rtc (m : Module) : Nat := (m.keep.rtcBase + (m.now - m.keep.rtcAt) * 32768 / 500000000) % 2 ^ 63

/-- The RTC is valid. -/
def Module.rtcValid (m : Module) : Bool := m.flag R.KEEP_STAT F.KEEP_STAT_RTCV

/-- Set the RTC. -/
def Module.setRtc (m : Module) (v : Nat) : Module :=
  ({ m with keep := { m.keep with rtcBase := v, rtcAt := m.now } } : Module).wn R.KEEP_RTC v

/-- KEEP_RTC shows the RTC. -/
def Module.showRtc (m : Module) : Module := if m.keep.stopped then m else m.wn R.KEEP_RTC m.rtc

/-- RTC time as 6 bytes of seconds and 2 of fraction. -/
def rtcBytes (v : Nat) : List Byte := leBytes 6 (v / 32768) ++ leBytes 2 (v % 32768)

/-- A value of the time of day as the RTC counts (R476). -/
def Module.todRtc (m : Module) : Nat := m.todSec * 32768 + m.todNs * 32768 / 1000000000

/-! ### The record in MRAM (R478) -/

/-- The 32-bit registers the Keeper's record holds: configuration, pulse inputs, and counters. -/
def keepRegs : List Nat :=
  [R.KEEP_CFG, R.KEEP_CAP, R.KEEP_ERES, R.KEEP_EMEAS, R.KEEP_EXMIT, R.KEEP_EWAKE, R.KEEP_LAMP, R.KEEP_WAKE, R.KEEP_TMP_CFG,
    R.KEEP_TMP_CNT, R.KEEP_BURST] ++ (List.range 4).map R.KEEP_KCMP_CFG ++ (List.range 8).map R.KEEP_PI_CFG
    ++ (List.range 8).map R.KEEP_PI_CNT ++ (List.range 8).map R.KEEP_PI_STAT

/-- Where slot `k` of the record stands in BAR2. -/
def keepSlot (k : Nat) : Nat := 0x06620000 + 0x1000 * (k % 2)

/-- Bytes of a slot before its CRC. -/
def keepLen : Nat := 36 + 4 * 39 + 512 + 256

/-- An entry of a ring kept in retention, 16 bytes. -/
def ringEntry (r : SMap (List Byte)) (k : Nat) : List Byte :=
  let e := SMap.getD [] r k
  e ++ List.replicate (16 - e.length) 0

/-- The content of a slot (R478): sequence number, RTCV and the validity of DARK_START, the RTC, DARK_START, DARK_END, the
number of burst-log entries, the registers, the tamper record, the burst log. -/
def Module.keepBytes (m : Module) (seq : Nat) : List Byte :=
  leBytes 4 seq ++ leBytes 4 ((if m.rtcValid then 1 else 0) + if m.keep.darkValid then 2 else 0) ++ leBytes 8 m.rtc
    ++ leBytes 8 (m.rn R.KEEP_DARK_START) ++ leBytes 8 (m.rn R.KEEP_DARK_END) ++ leBytes 4 m.keep.burstCount
    ++ keepRegs.flatMap (fun a => leBytes 4 (m.rn a))
    ++ (List.range 32).flatMap (ringEntry m.keep.tampers) ++ (List.range 16).flatMap (ringEntry m.keep.bursts)

/-- The Keeper writes its record into the slot that is not the newest. -/
def Module.keepRecord (m : Module) : Module :=
  let seq := m.keep.slotSeq + 1
  let bs := m.keepBytes seq
  ({ m with keep := { m.keep with slotSeq := seq } } : Module).setBytes (keepSlot seq) (bs ++ leBytes 4 (crc32c bs))

/-- Slot `k` is valid: its CRC matches. -/
def Module.keepSlotOk (m : Module) (k : Nat) : Bool :=
  crc32c (m.mbytes (keepSlot k) keepLen) == m.mn (keepSlot k + keepLen) 4

/-- The newest valid slot. -/
def Module.keepNewest (m : Module) : Option Nat :=
  match m.keepSlotOk 0, m.keepSlotOk 1 with
  | true, true => some (if m.mn (keepSlot 0) 4 < m.mn (keepSlot 1) 4 then 1 else 0)
  | true, false => some 0
  | false, true => some 1
  | false, false => none

/-- A ring's entries read back. -/
def Module.readRing (m : Module) (a n : Nat) : SMap (List Byte) :=
  (List.range n).foldl (fun r k =>
    let e := m.mbytes (a + 16 * k) 16
    SMap.setD [] r k (if e.all (· == 0) then [] else e)) []

/-! ### KST and LAMP_PWR (R470, R481) -/

/-- LAMP_PWR is on (R481), and still until 2 ms after an abort (R473). -/
def Module.lampPower (m : Module) : Bool :=
  (m.sys.vmainValid && m.flag R.KEEP_CFG F.KEEP_CFG_LPON) || m.keep.offDue
    || m.keep.burst.any (fun b => b.req.cls != 2)

/-- Show the burst and the two outputs in KEEP_STAT. -/
def Module.keepShow (m : Module) : Module :=
  let m := m.setFlag R.KEEP_STAT F.KEEP_STAT_PWR (!m.keep.stopped && m.lampPower)
  let m := m.setFlag R.KEEP_STAT F.KEEP_STAT_WAKE (m.keep.burst.any (fun b => b.req.cls == 2))
  m.setFlag R.KEEP_STAT F.KEEP_STAT_BURST m.keep.burst.isSome

/-- The thresholds of R470 in mV: DARK, ABORT, MEAS, XMIT, WAKE. -/
def kstLevels : List Nat := [1900, 2100, 2400, 3000, 3300]

/-- A reading of KST (R470): each level reads above from V_th + 50 mV until KST falls below V_th. -/
def Module.readKst (m : Module) (mv : Nat) : Module :=
  let m := m.wf R.KEEP_KST F.KEEP_KST_MV mv
  kstLevels.zipIdx.foldl (fun m l =>
    if l.1 + 50 ≤ mv then m.setBit R.KEEP_STAT (8 + l.2) true
    else if mv < l.1 then m.setBit R.KEEP_STAT (8 + l.2) false
    else m) m

/-- KST reads above the threshold of a burst class (R471): 0 MEAS, 1 XMIT, 2 WAKE. -/
def Module.aboveFor (m : Module) (cls : Nat) : Bool := m.bit R.KEEP_STAT (10 + cls)

/-- CAPBAD follows KEEP_CAP (R474). -/
def Module.keepCapChanged (m : Module) : Module :=
  m.setFlag R.KEEP_STAT F.KEEP_STAT_CAPBAD (decide (m.rn R.KEEP_CAP < 470))

/-! ### The lamp line (R481) -/

/-- The lamp line runs. -/
def Module.lampOn (m : Module) : Bool := m.flag R.KEEP_LAMP F.KEEP_LAMP_EN && !m.keep.stopped

/-- Send a frame. -/
def Module.lampSend (m : Module) (type seq : Nat) (payload : List Byte) : Module :=
  if m.lampOn then { m with keep := { m.keep with sent := some (type, seq, payload) } } else m

/-- Send an unsolicited frame; the spec states no SEQ for it. -/
def Module.lampUnsolicited (m : Module) (type : Nat) (payload : List Byte) : Module :=
  if m.lampOn then
    let w := m.free
    w.2.lampSend type (w.1.toNat % 256) payload
  else m

/-- The payload of STATUS. -/
def Module.statusBytes (m : Module) : List Byte :=
  let flags := (if m.rtcValid then 1 else 0) + (if m.sys.vmainValid then 2 else 0) + (if m.keep.darkPending then 4 else 0)
    + if m.keep.tampered then 8 else 0
  rtcBytes m.rtc ++ leBytes 2 flags ++ leBytes 2 (m.rn R.KEEP_KST)
    ++ (List.range 8).flatMap (fun n => leBytes 4 (m.rn (R.KEEP_PI_CNT n))) ++ leBytes 4 (m.rn R.KEEP_TMP_CNT)

/-- A STATUS has gone. -/
def Module.statusGone (m : Module) : Module := { m with keep := { m.keep with tampered := false } }

/-- LAMP_PING (R481). -/
def Module.lampPing (m : Module) (q : Nat) : Module :=
  if m.lampOn then (m.lampSend 0x81 q m.statusBytes).statusGone else m
def execLampPing (q : BitVec 8) (s : State) := s.run (·.lampPing q.toNat)

/-! ### Bursts (R471 to R475) -/

/-- A request joins the queue unless its requester has one pending (R472). -/
def Module.requestBurst (m : Module) (r : BurstReq) : Module :=
  if m.keep.stopped || m.keep.queue.any (·.who == r.who) then m
  else { m with keep := { m.keep with queue := m.keep.queue ++ [r] } }

/-- D_b in ms of KEEP_EMEAS, EXMIT or EWAKE; 0 as 1. -/
def Module.burstDur (m : Module) (a : Nat) : Nat := 100 * max 1 (m.rf a F.KEEP_EWAKE_D)

/-- The Keeper's own WAKE request (R471, R475). -/
def Module.requestWake (m : Module) (who : Nat) : Module :=
  m.requestBurst ⟨who, 2, m.rf R.KEEP_EWAKE F.KEEP_EWAKE_E, m.burstDur R.KEEP_EWAKE, 0⟩

/-- WAKE_TIMER (R475): ACTION names the request. -/
def Module.wakeTimer (m : Module) : Module :=
  if m.rf R.KEEP_WAKE F.KEEP_WAKE_INT = 0 then m
  else match m.rf R.KEEP_WAKE F.KEEP_WAKE_ACTION with
    | 1 => m.requestBurst ⟨1, 1, m.rf R.KEEP_EXMIT F.KEEP_EXMIT_E, m.burstDur R.KEEP_EXMIT, 0⟩
    | 2 => m.requestWake 2
    | _ => m
def execWakeTimer (s : State) := s.run Module.wakeTimer

/-- LAMP_BURST_REQ (R481). -/
def Module.lampBurstReq (m : Module) (q cls energy dur : Nat) : Module :=
  if m.lampOn then m.requestBurst ⟨0, cls, energy, dur, q⟩ else m
def execLampBurstReq (q : BitVec 8) (cls : Fin 3) (energy dur : BitVec 32) (s : State) :=
  s.run (·.lampBurstReq q.toNat cls energy.toNat dur.toNat)

/-- The request that is next: WAKE, XMIT, MEAS, the earliest of a class first (R472). -/
def nextBurst (q : List BurstReq) : Option BurstReq :=
  (q.find? (·.cls == 2)).or ((q.find? (·.cls == 1)).or (q.find? (·.cls == 0)))

/-- The decision of R472 at `mv` mV: a reason to deny, or the predicted KST. Energies are in 0.5 pJ: C in µF times mV². -/
def Module.decideBurst (m : Module) (r : BurstReq) (mv : Nat) : Except Nat Nat :=
  let c := m.rn R.KEEP_CAP
  let after : Int := (c * mv * mv : Nat) - (2000000 * r.energy : Nat)
  if m.flag R.KEEP_STAT F.KEEP_STAT_CAPBAD then .error 4
  else if r.cls = 2 ∧ m.sys.vmainValid then .error 3
  else if !m.aboveFor r.cls then .error 1
  else if after < (c * 1900 * 1900 + 2000000 * m.rn R.KEEP_ERES : Nat) then .error 2
  else .ok (Fp.isqrt (after.toNat / c))

/-- BURST_DECIDE (R472): the request at the head of the queue, on a reading of KST taken now. -/
def Module.burstDecide (m : Module) (mv : Nat) : Module :=
  if m.keep.stopped || m.keep.burst.isSome then m
  else match nextBurst m.keep.queue with
    | none => m
    | some r =>
      let m := m.readKst mv
      let m := { m with keep := { m.keep with queue := m.keep.queue.erase r } }
      match m.decideBurst r mv with
      | .error e =>
        let m := m.bump R.KEEP_DENIES R.KEEP_SAT 0
        if r.who = 0 then m.lampSend 0x83 r.seq (leBytes 1 e) else m
      | .ok v =>
        let m := { m with keep := { m.keep with burst := some ⟨r, mv, v⟩, offDue := false, stopLow := false } }
        let m := (m.wf R.KEEP_BURST F.KEEP_BURST_END 0xF).wf R.KEEP_BURST F.KEEP_BURST_CLASS r.cls
        let m := m.keepShow
        if r.who = 0 then m.lampSend 0x82 r.seq (leBytes 2 v) else m
def execBurstDecide (mv : BitVec 16) (s : State) := s.run (·.burstDecide mv.toNat)

/-- A burst ends (R473): its entry in the burst log, and KEEP_BURST. -/
def Module.endBurst (m : Module) (b : Burst) (cause : Nat) : Module :=
  let v := m.rf R.KEEP_KST F.KEEP_KST_MV
  let e := leBytes 4 (m.rtc / 32768) ++ leBytes 2 (m.rtc % 32768) ++ leBytes 1 b.req.cls ++ leBytes 1 cause
    ++ leBytes 4 b.req.energy ++ leBytes 2 b.vStart ++ leBytes 2 v
  let m := { m with keep := { m.keep with burst := none, burstCount := (m.keep.burstCount + 1) % 2 ^ 32,
                                          bursts := SMap.setD [] m.keep.bursts (m.keep.burstCount % 16) e } }
  let m := ((m.wf R.KEEP_BURST F.KEEP_BURST_END cause).wf R.KEEP_BURST F.KEEP_BURST_CLASS b.req.cls).wf
    R.KEEP_BURST F.KEEP_BURST_VEND v
  m.keepShow

/-- A report goes at the next boundary at which the core answers (R482). -/
def Module.keepDue (m : Module) (src : Nat) (info : Option Nat) : Module :=
  { m with keep := { m.keep with due := m.keep.due ++ [(src, info)] } }

/-- An abort or overrun (R473). -/
def Module.abortBurst (m : Module) (b : Burst) (cause : Nat) : Module :=
  let m := m.lampUnsolicited 0x87 (leBytes 1 cause)
  let m := { m with keep := { m.keep with stopLow := true, offDue := b.req.cls != 2 } }
  let m := m.bump R.KEEP_ABORTS R.KEEP_SAT 1
  (m.endBurst b cause).keepDue FS.KEEP_ABORT none

/-- KST_READING (R470, R473): overrun is tested before abort, since the higher-numbered end is recorded. -/
def Module.kstReading (m : Module) (mv : Nat) : Module :=
  if m.keep.stopped then m
  else
    let m := m.readKst mv
    match m.keep.burst with
    | none => m
    | some b =>
      if mv + 50 < b.vPred then m.abortBurst b 3
      else if mv < 2100 then m.abortBurst b 2
      else m
def execKstReading (mv : BitVec 16) (s : State) := s.run (·.kstReading mv.toNat)

/-- LAMP_POWER_OFF (R473): 2 ms after an abort; LAMP_STOP is released with it. -/
def Module.lampPowerOff (m : Module) : Module :=
  if m.keep.offDue || m.keep.stopLow then
    ({ m with keep := { m.keep with offDue := false, stopLow := false } } : Module).keepShow
  else m
def execLampPowerOff (s : State) := s.run Module.lampPowerOff

/-- BURST_DURATION_END (R473). -/
def Module.burstDurationEnd (m : Module) : Module :=
  match m.keep.burst with
  | none => m
  | some b => m.endBurst b 1
def execBurstDurationEnd (s : State) := s.run Module.burstDurationEnd

/-- LAMP_DONE (R481): the peer ends its own burst or the report's. -/
def Module.lampDone (m : Module) (q : Nat) : Module :=
  if !m.lampOn then m
  else match m.keep.burst with
    | none => m
    | some b =>
      if 1 < b.req.who then m
      else
        let m := m.endBurst b 0
        m.lampSend 0x84 q (leBytes 1 0 ++ leBytes 2 (m.rf R.KEEP_KST F.KEEP_KST_MV))
def execLampDone (q : BitVec 8) (s : State) := s.run (·.lampDone q.toNat)

/-- VMAIN became valid: a WAKE burst ends as DONE (R475). -/
def Module.keepVmainValid (m : Module) : Module :=
  match m.keep.burst with
  | some b => if b.req.cls = 2 then m.endBurst b 0 else m
  | none => m

/-- STATUS_REPORT_SEND (R481): 50 ms after the grant of the wake timer's report. -/
def Module.statusReportSend (m : Module) : Module :=
  if m.keep.burst.any (fun b => b.req.who == 1) && m.lampOn then (m.lampUnsolicited 0x81 m.statusBytes).statusGone else m
def execStatusReportSend (s : State) := s.run Module.statusReportSend

/-! ### Tamper (R477) -/

/-- Write a tamper entry; the spec states no assertion flag for darkness, `none`. -/
def Module.tamperEntry (m : Module) (source : Nat) (assertion : Option Bool) : Module :=
  let f : Nat × Module := match assertion with
    | some b => (if b then 1 else 0, m)
    | none => (m.free.1.toNat % 2, m.free.2)
  let m := f.2
  let n := (m.rn R.KEEP_TMP_CNT + 1) % 2 ^ 32
  let e := rtcBytes m.rtc ++ leBytes 1 source ++ leBytes 1 (f.1 + if m.rtcValid then 2 else 0) ++ leBytes 2 0 ++ leBytes 4 n
  let m := m.wn R.KEEP_TMP_CNT n
  let m := { m with keep := { m.keep with tampered := true, tampers := SMap.setD [] m.keep.tampers (n % 32) e } }
  let m := if m.sys.vmainValid then m.keepRecord else m
  if m.lampPower then m.lampUnsolicited 0x86 e else m

/-- LAMP_READ_TAMP (R481): entry `index`, 0 the newest, or none. -/
def Module.lampReadTamp (m : Module) (q index : Nat) : Module :=
  let n := m.rn R.KEEP_TMP_CNT
  m.lampSend 0x85 q (if index < min 32 n then SMap.getD [] m.keep.tampers ((n - index) % 32) else [])
def execLampReadTamp (q index : BitVec 8) (s : State) := s.run (·.lampReadTamp q.toNat index.toNat)

/-- An accepted edge of a tamper input (R477): opening is the assertion. -/
def Module.tamperInput (m : Module) (n : Nat) (closed : Bool) : Module :=
  let c := m.rn R.KEEP_TMP_CFG
  let sees := if closed then bitN c (4 * n + 1) = 1 else bitN c (4 * n) = 1
  if m.keep.stopped ∨ bitN c (4 * n + 3) = 0 ∨ ¬ sees then m
  else
    let m := (m.tamperEntry n (some (!closed))).keepDue FS.KEEP_TAMPER none
    if bitN c (4 * n + 2) = 1 then m.requestWake (3 + n) else m

/-! ### Keeper comparators (R252) -/

/-- A flag of KEEP_KCMP_nn_CFG. -/
def Module.kcmpCfg (m : Module) (n : Nat) (f : Field) : Bool := m.flag (R.KEEP_KCMP_CFG n) f

/-- Comparator `n` is unresolved. -/
def Module.kcmpUnres (m : Module) (n : Nat) : Bool := m.bit R.KEEP_KCMP_STAT (4 + n)

/-- The asserted state of comparator `n` alone (R246, R250). -/
def Module.kcmpOut (m : Module) (n : Nat) : Bool :=
  let o := if m.kcmpUnres n then m.kcmpCfg n F.KEEP_KCMP_CFG_INIT else m.keep.out.contains n
  n < 4 && m.kcmpCfg n F.KEEP_KCMP_CFG_EN && o != m.kcmpCfg n F.KEEP_KCMP_CFG_INV

/-- The asserted state with windows applied (R248). -/
def Module.kcmpAsserted (m : Module) (n : Nat) : Bool :=
  m.kcmpCfg n F.KEEP_KCMP_CFG_EN &&
    (m.kcmpOut n || (n % 2 == 0 && m.kcmpCfg n F.KEEP_KCMP_CFG_WIN && m.kcmpOut (n + 1)))

/-- The tamper and wake routes of comparator `n` at a change of its asserted state (R252, R475, R477). -/
def Module.kcmpRoutes (m : Module) (n : Nat) (was : Bool) : Module :=
  let is := m.kcmpAsserted n
  let edge := m.rf (R.KEEP_KCMP_CFG n) F.KEEP_KCMP_CFG_EDGE
  let sees := is != was && if is then edge.testBit 0 else edge.testBit 1
  let m := m.setBit R.KEEP_KCMP_STAT n is
  let m := if sees && m.kcmpCfg n F.KEEP_KCMP_CFG_TAMP then
      (m.tamperEntry (0x10 + n) (some is)).keepDue FS.KEEP_TAMPER none else m
  if sees && m.kcmpCfg n F.KEEP_KCMP_CFG_WAKE then m.requestWake (7 + n) else m

/-- Let the comparators' routes follow a change from `old`. -/
def Module.kcmpFollow (m old : Module) : Module :=
  (List.range 4).foldl (fun m n => m.kcmpRoutes n (old.kcmpAsserted n)) m

/-- Comparator `n` resolves to a side of its band. -/
def Module.kcmpResolve (m : Module) (n : Nat) (above : Bool) : Module :=
  let m := m.setBit R.KEEP_KCMP_STAT (4 + n) false
  let rest := m.keep.out.filter (· ≠ n)
  { m with keep := { m.keep with out := if above then n :: rest else rest } }

/-- The side of its band on which comparator `n`'s input lies (R247, R252). -/
def Module.kcmpSide (m : Module) (n : Nat) : Option Bool :=
  bandSide (m.rf (R.KEEP_KCMP_CFG n) F.KEEP_KCMP_CFG_HYS) (SMap.getD 0 m.keep.pn n)

/-- Comparator `n` is enabled or powered, or its MODE, HYS or INV changed (R250). -/
def Module.kcmpStart (m : Module) (n : Nat) : Module :=
  if !m.kcmpCfg n F.KEEP_KCMP_CFG_EN then m.kcmpResolve n false
  else match m.kcmpSide n with
    | some above => m.kcmpResolve n above
    | none => m.setBit R.KEEP_KCMP_STAT (4 + n) true

/-- P − N of a comparator, in µV, crosses an edge of its band. -/
def Module.kcmpCrossing (m : Module) (n : Nat) (pn : Int) : Module :=
  let m := { m with keep := { m.keep with pn := SMap.setD 0 m.keep.pn n pn } }
  if m.keep.stopped || !m.kcmpCfg n F.KEEP_KCMP_CFG_EN then m
  else match m.kcmpSide n with
    | none => m
    | some above => (m.kcmpResolve n above).kcmpFollow m

/-- A write changed KEEP_KCMP_nn_CFG (R250). -/
def Module.kcmpConfigured (m old : Module) (n : Nat) : Module :=
  let same (f : Field) : Bool := m.rf (R.KEEP_KCMP_CFG n) f == old.rf (R.KEEP_KCMP_CFG n) f
  let still := same F.KEEP_KCMP_CFG_EN && same F.KEEP_KCMP_CFG_MODE && same F.KEEP_KCMP_CFG_HYS
    && same F.KEEP_KCMP_CFG_INV
  (if still then m else m.kcmpStart n).kcmpFollow old

/-- TAMPER_INPUT_ACCEPT (R477): a tamper input's edge, or a Keeper comparator's crossing. -/
def Module.tamperAccept (m : Module) : TamperEdge → Module
  | .input n closed => m.tamperInput n closed
  | .comparator n pn => m.kcmpCrossing n pn.toInt
def execTamperInputAccept (e : TamperEdge) (s : State) := s.run (·.tamperAccept e)

/-! ### Pulse inputs (R435, R436) -/

/-- A flag of KEEP_PI_nn_CFG. -/
def Module.piCfg (m : Module) (n : Nat) (f : Field) : Bool := m.flag (R.KEEP_PI_CFG n) f

/-- Input `n` is the direction contact of a pair (R436). -/
def Module.piIsDir (m : Module) (n : Nat) : Bool := n % 2 == 1 && m.piCfg (n - 1) F.KEEP_PI_CFG_DIR

/-- Input `n` is the counting input of a pair. -/
def Module.piHasDir (m : Module) (n : Nat) : Bool := n % 2 == 0 && m.piCfg n F.KEEP_PI_CFG_DIR

/-- A wiring fault stands on input `n`. -/
def Module.piFault (m : Module) (n : Nat) : Bool :=
  m.flag (R.KEEP_PI_STAT n) F.KEEP_PI_STAT_SHORT || m.flag (R.KEEP_PI_STAT n) F.KEEP_PI_STAT_OPEN

/-- A count of input `n` (R436). -/
def Module.piCount (m : Module) (n : Nat) : Module :=
  if m.piIsDir n || (m.piHasDir n && m.piFault (n + 1)) then m
  else
    let k := if m.piHasDir n && m.flag (R.KEEP_PI_STAT (n + 1)) F.KEEP_PI_STAT_LEVEL then n + 1 else n
    let v := (m.rn (R.KEEP_PI_CNT k) + 1) % 2 ^ 32
    let m := m.wn (R.KEEP_PI_CNT k) v
    if v = 0 then m.setFlag (R.KEEP_PI_STAT k) F.KEEP_PI_STAT_WRAP true else m

/-- An accepted contact level (R436): an edge of the kind EDGE names counts, unless the level is a new baseline. -/
def Module.piLevel (m : Module) (n : Nat) (closed : Bool) : Module :=
  let was := m.flag (R.KEEP_PI_STAT n) F.KEEP_PI_STAT_LEVEL
  let fresh := m.keep.rebase.contains n
  let m := { m with keep := { m.keep with rebase := m.keep.rebase.filter (· ≠ n) } }
  let m := m.setFlag (R.KEEP_PI_STAT n) F.KEEP_PI_STAT_SHORT false
  let m := m.setFlag (R.KEEP_PI_STAT n) F.KEEP_PI_STAT_OPEN false
  let m := m.setFlag (R.KEEP_PI_STAT n) F.KEEP_PI_STAT_LEVEL closed
  if fresh || closed == was || closed == m.piCfg n F.KEEP_PI_CFG_EDGE then m else m.piCount n

/-- A wiring fault (R436). -/
def Module.piWire (m : Module) (n : Nat) (short : Bool) : Module :=
  let stood := m.piFault n
  let m := m.setFlag (R.KEEP_PI_STAT n) F.KEEP_PI_STAT_SHORT short
  let m := m.setFlag (R.KEEP_PI_STAT n) F.KEEP_PI_STAT_OPEN (!short)
  let m := m.setFlag (R.KEEP_PI_STAT n) F.KEEP_PI_STAT_WFLT true
  let m := { m with keep := { m.keep with rebase := n :: m.keep.rebase.filter (· ≠ n) } }
  if stood then m else m.keepDue FS.MTR_PI_WIRE (some n)

/-- PULSE_INPUT_ACCEPT (R435, R436). -/
def Module.pulseInput (m : Module) (n : Nat) (r : PiReading) : Module :=
  if m.keep.stopped || !m.piCfg n F.KEEP_PI_CFG_EN then m
  else match m.piCfg n F.KEEP_PI_CFG_SUP, r with
    | true, .short => m.piWire n true
    | true, .broken => m.piWire n false
    | false, .short | _, .closed => m.piLevel n true
    | false, .broken | _, .opened => m.piLevel n false
def execPulseInputAccept (n : Fin 8) (r : PiReading) (s : State) := s.run (·.pulseInput n r)

/-! ### Clock, record, darkness (R476, R478 to R480) -/

/-- KEEPER_RECORD_WRITE (R478): every 1 s while VMAIN is valid. -/
def Module.keepRecordWrite (m : Module) : Module :=
  if m.keep.stopped || !m.sys.vmainValid then m else m.keepRecord
def execKeeperRecordWrite (s : State) := s.run Module.keepRecordWrite

/-- The module may set the RTC (R476). -/
def Module.rtcWritable (m : Module) : Bool :=
  !m.keep.stopped && m.sys.vmainValid && m.flag R.CLK_STAT F.CLK_STAT_TOD_VALID
    && [2, 3, 4].contains (m.rf R.CLK_STAT F.CLK_STAT_TOD_SRC)

/-- RTC_WRITE (R476); the first after a cold start also closes the dark interval (R480). -/
def Module.rtcWrite (m : Module) : Module :=
  if !m.rtcWritable then m
  else
    let count := m.rtc
    let v := m.todRtc
    let m := (m.setRtc v).setFlag R.KEEP_STAT F.KEEP_STAT_RTCV true
    if !m.keep.darkPending then m
    else
      let m := m.wn R.KEEP_DARK_END (v - count)
      let m := { m with keep := { m.keep with darkPending := false } }
      (m.tamperEntry 0x20 none).keepDue FS.KEEP_DARK none
def execRtcWrite (s : State) := s.run Module.rtcWrite

/-- DARKNESS_SEQUENCE (R479). -/
def Module.darkness (m : Module) : Module :=
  if m.keep.stopped then m
  else
    let m := match m.keep.burst with
      | some b => m.abortBurst b 2
      | none => m
    let m := { m with keep := { m.keep with offDue := false, queue := [], darkValid := m.rtcValid } }
    let m := (m.wn R.KEEP_DARK_START m.rtc).showRtc
    let m := m.keepRecord
    let m := { m with keep := { m.keep with stopped := true } }
    let m := m.keepShow
    if m.sys.power = .watch then { m with sys := { m.sys with power := .dark } } else m
def execDarknessSequence (s : State) := s.run Module.darkness

/-- Load slot `k` of the record (R480). -/
def Module.keepLoad (m : Module) (k : Nat) : Module :=
  let a := keepSlot k
  let m := keepRegs.zipIdx.foldl (fun m r => m.wn r.1 (m.mn (a + 36 + 4 * r.2) 4)) m
  let valid := bitN (m.mn (a + 4) 4) 1 = 1
  let m := m.wn R.KEEP_DARK_START (if valid then m.mn (a + 16) 8 else 0)
  let m := m.wn R.KEEP_DARK_END (m.mn (a + 24) 8)
  let m := (List.range 8).foldl (fun m n => m.setFlag (R.KEEP_PI_STAT n) F.KEEP_PI_STAT_DARK true) m
  { m with keep := { m.keep with
    burstCount := m.mn (a + 32) 4, slotSeq := m.mn a 4, darkValid := valid,
    tampers := m.readRing (a + 36 + 4 * 39) 32, bursts := m.readRing (a + 36 + 4 * 39 + 512) 16 } }

/-- Every Keeper register at its reset value (R480, R483). -/
def Module.keepReset (m : Module) : Module :=
  { m with regs := m.regs.filter (fun r => r.1 < 0xE0000 || 0xF0000 ≤ r.1) }

/-- KEEPER_COLD_START (R468, R470, R480): KST stands at 1.95 V, where KTH_DARK reads above. -/
def Module.keepStart (m : Module) : Module :=
  if !m.keep.stopped then m
  else
    let m := m.keepReset
    let m := { m with keep := { m.keep with
      stopped := false, queue := [], burst := none, offDue := false, stopLow := false, bursts := [], burstCount := 0,
      tampers := [], tampered := false, darkPending := true, darkValid := false, due := [], sent := none, slotSeq := 0,
      rebase := List.range 8, out := [] } }
    let m := match m.keepNewest with
      | some k => m.keepLoad k
      | none => m.setFlag R.KEEP_STAT F.KEEP_STAT_NOREC true
    let m := ((m.setRtc 0).keepCapChanged).setBit R.KEEP_STAT 8 true
    let m := (List.range 4).foldl Module.kcmpStart m
    let m := m.kcmpFollow { m with keep := { m.keep with out := [] } }
    if m.sys.power = .dark then { m with sys := { m.sys with power := .watch } } else m
def execKeeperColdStart (s : State) := s.run Module.keepStart

/-- At a frame boundary at which the core answers, the Keeper's reports go (R482). -/
def Module.keepBoundary (m : Module) : Module :=
  if m.keep.stopped then m
  else
    let due := m.keep.due
    due.foldl (fun m d => match d.2 with
      | some i => m.raise d.1 i .none
      | none => m.raiseFree d.1 .none) { m with keep := { m.keep with due := [] } }

end Sys2Proof.Machine
end

