-- ==== Sys2Proof/Machine/Halt.lean ====
section
/-! DEFINITION. Halt.lean: entry into HALT, the RUN sub-state, and what both put an end to (R31, R35, R45, R507, R516). -/

namespace Sys2Proof.Machine

/-- MODE of SYS_MODE (R29). -/
def Module.mode (m : Module) : Nat := m.rf R.SYS_MODE F.SYS_MODE_MODE

/-- The module is in HALT or entering it (R35). -/
def Module.halted (m : Module) : Bool := m.mode == 3 || m.flag R.SYS_MODE F.SYS_MODE_HALTING

/-! ### Sub-state (R31, R491) -/

/-- The function-stop word of a task (R491). -/
def stopWord (t : Nat) : Nat := 0x018B2200 + 4 * t

/-- A STOP bit is set. -/
def Module.anyStop (m : Module) : Bool := (List.range 512).any (fun t => (m.mb (stopWord t)).toNat.testBit 0)

/-- RED and SUB follow their conditions (R31, R83): SUB reports the first of ride-through, islanded, reduced. -/
def Module.showSub (m : Module) : Module :=
  let run := m.mode == 7
  let m := m.setFlag R.SYS_MODE F.SYS_MODE_RED (run && (m.anyStop || m.flag R.TTB_SHED F.TTB_SHED_ACT))
  let sub := if !run then 0
    else if m.flag R.SYS_MODE F.SYS_MODE_RT then 1
    else if m.flag R.SYS_MODE F.SYS_MODE_ISL then 2
    else if m.flag R.SYS_MODE F.SYS_MODE_RED then 3
    else 0
  m.wf R.SYS_MODE F.SYS_MODE_SUB sub

/-! ### Substitution abandoned (R507) -/

/-- The shadow flag of the unit a substitution concerns (R118, R255, R389). -/
def Module.shadowFlag (m : Module) (unit res : Nat) (b : Bool) : Module :=
  match unitOf unit, unitOf res with
  | some (.engine, p), some (.engine, r) =>
    let m := m.wf (R.ENG_STAT r) F.ENG_STAT_ROLE (if b then 2 else 1)
    m.wf (R.ENG_STAT r) F.ENG_STAT_LE (if b then m.rf (R.ENG_STAT p) F.ENG_STAT_LE else 0)
  | some (.generator, p), _ =>
    match (List.range 32).find? (fun g => m.rf (R.PWM_MAP g) F.PWM_MAP_PHYS == p) with
    | some g => m.setFlag (R.PWM_MAP g) F.PWM_MAP_SHADOW b
    | none => m
  | some (.port, p), _ =>
    match (List.range 16).find? (fun g => m.rf (R.LN_MAP g) F.LN_MAP_PHYS == p) with
    | some g => m.setFlag (R.LN_MAP g) F.LN_MAP_SHADOW b
    | none => m
  | _, _ => m

/-- A substitution is under way: copying, or in its shadow frame. -/
def Module.subRuns (m : Module) : Bool :=
  m.rf R.SID_STAT F.SID_STAT_STATE == 1 || m.rf R.SID_STAT F.SID_STAT_STATE == 2

/-- The substitution under way ends without a takeover, with LAST (R507). -/
def Module.abandonSub (m : Module) (last : Nat) : Module :=
  if !m.subRuns then m
  else
    let m := m.shadowFlag (m.rf R.SID_STAT F.SID_STAT_UNIT) (m.rf R.SID_STAT F.SID_STAT_RES) false
    let m := (m.wf R.SID_STAT F.SID_STAT_STATE 0).wf R.SID_STAT F.SID_STAT_LAST last
    { m with sid := { m.sid with inconclusive := 0, copied := false, danger := false } }

/-! ### HALT (R35, R44, R45) -/

/-- Causes after which no block runs (R44). -/
def noBlockCauses : List Nat := [5, 6, 8, 9]

/-- Record a HALT cause and its incident. -/
def Module.haltRecord (m : Module) (cause inc : Nat) : Module :=
  (m.wf R.SYS_HALT_CAUSE F.SYS_HALT_CAUSE_CAUSE cause).wf R.SYS_HALT_INC F.SYS_HALT_INC_INC inc

/-- The module enters HALT (R35): the mode hold at once, blocks under way stopped without a commit, SYS_MODE at the next
boundary. A module already in HALT keeps its cause, but for a removal (R45). During INSPECT no boundary is marked,
so HALT stands at once. A lead sends its HALT notice (R516). -/
def Module.haltEnter (m : Module) (cause inc : Nat) : Module :=
  if !m.powered then m
  else if m.halted then (if cause = 0x0A then m.haltRecord cause inc else m)
  else
    let m := m.haltRecord cause inc
    let m := (m.stopBlocks).abandonSub 4
    let m := m.setHold true
    let m := if m.rf R.SID_HL_STAT F.SID_HL_STAT_ROLE = 1 then
        { m with hl := { m.hl with notices := m.hl.notices ++ [cause] } } else m
    if m.sys.inspecting then
      ({ m with sys := { m.sys with inspecting := false, inspectPassed := false } } : Module).wf R.SYS_MODE F.SYS_MODE_MODE 3
    else m.setFlag R.SYS_MODE F.SYS_MODE_HALTING true

end Sys2Proof.Machine
end

