-- ==== Sys2Proof/Machine/LibBase.lean ====
section
/-! DEFINITION. LibBase.lean: how a library program runs in its block. The manual gives these programs by what they do in a
block, in FP32 steps over the same primitives that instructions use; here each block is one evaluation over
those primitives, with their checks, and everything it stages takes effect at its commit point (R148). -/

namespace Sys2Proof.Machine

/-- What an evaluation works on: the module, the logical engine and its block. -/
structure LCtx where
  m : Module
  e : Nat
  b : Blk

/-- A step of a library program: it may end in what stops a block (R116, R141). -/
abbrev Lib := StateT LCtx (Except Stop)

namespace Lib

open Fp

/-- A test that may stop the block. -/
def check {α : Type} (f : Module → Nat → Blk → Except Stop α) : Lib α :=
  fun c => (f c.m c.e c.b).map (fun a => (a, c))

/-- Ask about the module and the block. -/
def ask {α : Type} (f : Module → Nat → Blk → α) : Lib α := fun c => .ok (f c.m c.e c.b, c)

/-- Change the block. -/
def onBlk (f : Blk → Blk) : Lib Unit := fun c => .ok ((), { c with b := f c.b })

/-! ### Memory and tables -/

/-- The address of word `w` of table item `item`, counted through its entries, with the checks of R132. -/
def tblWord (item w : Nat) (write : Bool) : Lib Nat := check (fun m e b => do
  let t ← m.certE e b
  match t.tbl[item]? with
  | none => .error (.violation 0x43 1 0 write)
  | some i =>
    if i.size = 0 then .error (.violation 0x43 1 i.base write)
    else m.tblCheck e b item (w / i.size) (w % i.size) write)

/-- Read a table word (R133). -/
def getT (item w : Nat) : Lib Word := do
  let a ← tblWord item w false
  check (fun m e b => m.tblGet e b a)

/-- Stage a table word (R133). -/
def putT (item w : Nat) (v : Word) : Lib Unit := do
  let a ← tblWord item w true
  fun c => (c.m.stageWord c.e c.b a v).map (fun b => ((), { c with b := b }))

/-- Stage table words from word `w` on. -/
def putTs (item w : Nat) : List Word → Lib Unit
  | [] => pure ()
  | v :: r => do
    putT item w v
    putTs item (w + 1) r

/-- Read `n` table words from word `w` on. -/
def getTs (item w : Nat) : Nat → Lib (List Word)
  | 0 => pure []
  | n + 1 => do
    let v ← getT item w
    let r ← getTs item (w + 1) n
    pure (v :: r)

/-- Read a yard word (R133). -/
def ldy (a : Nat) : Lib Word := check (fun m e b => m.yardLoad e b a)

/-- Stage a yard word (R133). -/
def sty (a : Nat) (v : Word) : Lib Unit :=
  fun c => (c.m.yardStore c.e c.b a v).map (fun r => ((), { c with m := r.1, b := r.2 }))

/-! ### Samples (R240) -/

/-- Word `w` of the sample-table entry of a logical core, frozen for the block at its first read. -/
def sampleWord (core w : Nat) : Lib Word := do
  let a := 0x01871000 + 256 * core + 4 * w
  fun c => let b := c.m.seeAfe c.b a; .ok (c.m.tblRead b a, { c with b := b })

/-- The value of a slot; a slot past the sequence holds 0. -/
def sample (core slot : Nat) : Lib Word := if slot < 16 then sampleWord core slot else pure 0

/-- Three slots in a row. -/
def sample3 (core slot : Nat) : Lib (Word × Word × Word) := do
  let a ← sample core slot
  let b ← sample core (slot + 1)
  let c ← sample core (slot + 2)
  pure (a, b, c)

/-! ### Loop and transform units (R152, R153) -/

/-- The unit exists and is booked. -/
def luCheck (u : Nat) : Lib Unit := check (fun m e b =>
  if 96 ≤ u then .error .shape else m.primCheck e b false (fun t => t.luMap.testBit u) [] [])

/-- Stage a unit's working values. -/
def luPut (u : Nat) (x : LuState) : Lib Unit :=
  onBlk (fun b => { b with st := { b.st with lu := SMap.setD none b.st.lu u (some x) } })

/-- `loop` STEP (R152, R177). -/
def step (u : Nat) (e ff : Word) : Lib Word := do
  luCheck u
  let l ← ask (fun m _ b => m.luNow b u)
  let closed ← ask (fun m _ _ => m.luMode u == 3)
  if closed then do
    let r ← ask (fun m _ _ => m.luStep u l e ff)
    luPut u r.2
    pure r.1
  else pure l.out

/-- `loop` TRACK (R178). -/
def track (u : Nat) (a ff : Word) : Lib Word := do
  luCheck u
  let l ← ask (fun m _ b => m.luNow b u)
  let r ← ask (fun m _ _ => m.luTrack u l a ff)
  luPut u r.2
  pure r.1

/-- TRACK to 0. -/
def track0 (u : Nat) : Lib Unit := do
  let _ ← track u 0 0
  pure ()

/-- STEP where the unit is CLOSED; elsewhere TRACK to the output it holds, so that it can close (R180, R310). -/
def stepOrHold (u : Nat) (e ff : Word) : Lib Word := do
  luCheck u
  let closed ← ask (fun m _ _ => m.luMode u == 3)
  if closed then step u e ff
  else do
    let l ← ask (fun m _ b => m.luNow b u)
    track u l.out ff

/-- `xfm` (R153). -/
def xfm (u fn : Nat) (ws : List Word) : Lib (List Word) := do
  check (fun m e b => m.primCheck e b false (fun t => t.xsMap.testBit u) [] [])
  pure (Xfm.run fn ws).1

/-- `xfm` with two results. -/
def xfm2 (u fn : Nat) (ws : List Word) : Lib (Word × Word) := do
  let r ← xfm u fn ws
  pure (r.getD 0 0, r.getD 1 0)

/-- WRAP. -/
def wrap (u : Nat) (x : Word) : Lib Word := do
  let r ← xfm u 9 [x]
  pure (r.getD 0 0)

/-! ### Consists, events, streams -/

/-- `pwst.f` of a field of one generator (R157). -/
def pwstF (field g : Nat) (x : Word) : Lib Unit := do
  check (fun m e b => m.primCheck e b true (fun _ => true) [] [(1, g)])
  let p ← ask (fun m _ b => m.fracPeriod b g)
  check (fun m e b => if 4194304 ≤ p then .error (m.violHere e b 0x53) else .ok ())
  onBlk (fun b => stageField b ⟨false, g, field, if field = 2 ∨ field = 3 then cmpFrac x p else posFrac x p⟩)

/-- A duty passes through `fclamp` to 0.0–1.0, then `pwst.f` CMPA (R318). -/
def duty (g : Nat) (x : Word) : Lib Unit := pwstF 2 g (clampV x 0 one)

/-- `evt` KIND 0 (R163). -/
def evt (src : Nat) (w : Nat) : Lib Unit :=
  fun c => (c.m.stageEvt c.e c.b 0 src (BitVec.ofNat 32 w)).map (fun b => ((), { c with b := b }))

/-- `evt` READY (R163). -/
def ready : Lib Unit := fun c => (c.m.stageEvt c.e c.b 1 0 0).map (fun b => ((), { c with b := b }))

/-- `evt` STOPPED (R163). -/
def stopped : Lib Unit := fun c => (c.m.stageEvt c.e c.b 1 1 0).map (fun b => ((), { c with b := b }))

/-- `svrd` at time `t` in ns of the time of day (R159). -/
def svAt (interp : Bool) (t : Int) (n chan : Nat) : Lib (Word × Word) := do
  check (fun m e b => if m.svUnread n chan then .error (m.violHere e b 0x54) else .ok ())
  fun c => let r := c.m.svReading c.b interp t n chan; .ok (r.2, { c with m := r.1 })

/-- A value the spec does not state. -/
def free : Lib Word := fun c => let f := c.m.free; .ok (f.1, { c with m := f.2 })

/-- `macc` (R162). -/
def macc (mp : Nat) (vals : List Word) (dur : Nat) : Lib Unit := do
  check (fun m e b => m.primCheck e b false (fun _ => true) [] [(3, mp)])
  check (fun m e b =>
    if dur = 0 ∨ 10000000 < dur then .error (m.violHere e b 0x57)
    else if 4 ≤ (b.st.sets.filter (fun o => o.mp == mp)).length then .error (m.violHere e b 0x59)
    else .ok ())
  onBlk (fun b => { b with st := { b.st with sets := b.st.sets ++ [⟨mp, vals, dur⟩] } })

/-! ### What every library program reads first -/

/-- The period a block belongs to: its start tick and length, T in seconds, the mode and flags of the frame-start word
(R32, R87), and the frame. `fnstop` is the task's STOP bit, which stops it as the STOPPING bit does (R491). -/
structure Time where
  now : Nat
  dt : Nat
  T : Word
  mode : Nat
  stopping : Bool
  wasShed : Bool
  frame : Nat
  fnstop : Bool

def time : Lib Time := ask (fun m _ b =>
  let w := b.shadow.rg 1
  let dt := max 1 (m.svcPeriod b.svc)
  let stop := (m.tblRead b (stopWord b.task)).toNat.testBit 0
  ⟨b.periodStart, dt, ratio (2 * dt : Nat) 1000000000, w.toNat % 16, w.toNat.testBit 8 || stop, w.toNat.testBit 11,
    m.sys.frameTick + 1, stop⟩)

/-- The cause of the FAULT state that a function stop ends in (R491). -/
def stopCause : Nat := 0xFE

/-- What the task kept (R100). -/
def kept : Lib (Option LibState) := ask (fun m e b => SMap.getD none m.eng.libs (e * 512 + b.task))

/-- What the task keeps from this block on, when it commits. -/
def keep (s : LibState) : Lib Unit := onBlk (fun b => { b with st := { b.st with lib := some s } })

/-- What another task of the engine keeps, committed. -/
def other {α : Type} (f : LibState → Option α) : Lib (Option α) :=
  ask (fun m e _ => (m.eng.libs.filter (fun p => p.1 / 512 == e)).findSome? (fun p => p.2.bind f))

/-! ### Parameters (R306) -/

/-- A row of a parameter table: its word, whether its change class is D, whether it is a u32, and its limits, which may
depend on parameters that stand before it. -/
structure Par where
  w : Nat
  d : Bool
  u : Bool
  lo : (Nat → Word) → Word
  hi : (Nat → Word) → Word

/-- An FP32 row with constant limits. -/
def pf (w : Nat) (d : Bool) (lo hi : Word) : Par := ⟨w, d, false, fun _ => lo, fun _ => hi⟩
/-- A u32 row with constant limits. -/
def pu (w : Nat) (d : Bool) (lo hi : Nat) : Par := ⟨w, d, true, fun _ => BitVec.ofNat 32 lo, fun _ => BitVec.ofNat 32 hi⟩

/-- A value replaced by the nearest limit when it lies outside its range. -/
def Par.fit (p : Par) (g : Nat → Word) (v : Word) : Word :=
  if p.u then
    if v.toNat < (p.lo g).toNat then p.lo g else if (p.hi g).toNat < v.toNat then p.hi g else v
  else if isNaN v then p.lo g
  else if lt v (p.lo g) then p.lo g
  else if gt v (p.hi g) then p.hi g
  else v

/-- Every value within its range, and whether any was replaced. -/
def fitAll (ps : List Par) (raw : List Word) : List Word × Bool :=
  ps.foldl (fun (r : List Word × Bool) p =>
    let v := r.1.getD p.w 0
    let v' := p.fit (fun k => r.1.getD k 0) v
    (r.1.set p.w v', r.2 || v' != v)) (raw, false)

/-- Parameters for a frame: class R from the copy in force, class D from it only in IDLE; the values, whether any was
replaced, and whether a D value that differs was ignored. -/
def takePars (ps : List Par) (idle : Bool) (old raw : List Word) : List Word × Bool × Bool :=
  let f := fitAll ps raw
  if idle || old.isEmpty then (f.1, f.2, false)
  else
    let ds := (ps.filter (·.d)).map (·.w)
    let mixed := ds.foldl (fun (ws : List Word) w => ws.set w (old.getD w 0)) raw
    let g := fitAll ps mixed
    (g.1, g.2, ds.any (fun w => f.1.getD w 0 != old.getD w 0))

/-- Ticks of a number of ms. -/
def ms (n : Nat) : Nat := 500000 * n

/-- A time that runs without a break: its start, while the condition holds. -/
def since (c : Bool) (from' : Option Nat) (now : Nat) : Option Nat :=
  if c then some (from'.getD now) else none

/-- The time has run for `n` ticks. -/
def ran (from' : Option Nat) (now n : Nat) : Bool :=
  match from' with
  | some t => decide (t + n ≤ now)
  | none => false

/-! ### FP32 helpers: each operation rounds once (R129) -/

/-- π rounded to nearest. -/
def pi : Word := 0x40490FDB
def two : Word := 0x40000000
def half : Word := 0x3F000000
def three : Word := 0x40400000
def twoPi : Word := 0x40C90FDB
/-- √2 and √3 rounded to nearest. -/
def rt2 : Word := 0x3FB504F3
def rt3 : Word := 0x3FDDB3D7

/-- 2π × f. -/
def rad (f : Word) : Word := mulV twoPi f
/-- √(x² + y²). -/
def hypot (x y : Word) : Word := sqrtV (addV (mulV x x) (mulV y y))
/-- Move `x` toward `y` by at most `d`. -/
def toward (x y d : Word) : Word :=
  if le (Fp.abs (subV y x)) d then y else if gt y x then addV x d else subV x d
/-- The sign of a number as ±1.0; 0 counts as positive. -/
def sgn (x : Word) : Word := if lt x 0 then neg one else one
/-- The largest and smallest of three. -/
def max3 (a b c : Word) : Word := maxV (maxV a b) c
def min3 (a b c : Word) : Word := minV (minV a b) c

/-- A bit of a flag word. -/
def flag (n : Nat) (b : Bool) : Nat := if b then 2 ^ n else 0

end Lib
end Sys2Proof.Machine
end

