-- ==== Sys2Proof/Machine/LibRide.lean ====
section
/-! DEFINITION. LibRide.lean: ride-through and islanding detection inside GC_CTL (R329 to R347). -/

namespace Sys2Proof.Machine.Ride

open Sys2Proof.Machine Lib Fp

/-- What a period gives to ride-through (R329): parameters by offset, whether SV samples were usable, whether the period
coasts without a local voltage, F, ω of the period before, v⁺ and v⁻ as vectors, and the lock. -/
structure In where
  t : Time
  p : Nat → Word
  usable : Bool
  blind : Bool
  f : Word
  omega : Word
  vp : Word × Word
  vn : Word × Word
  lock : Bool

def In.n (i : In) (off : Nat) : Nat := (i.p off).toNat
/-- RT_EN (R345). -/
def In.rtEn (i : In) : Bool := (i.p 0xB0).toNat.testBit 28
/-- The peak phase voltage of V_NOM. -/
def vPeak (vNom : Word) : Word := divV (mulV rt2 vNom) rt3
/-- I_NOM (R336). -/
def iNom (sNom vNom : Word) : Word := divV (mulV rt2 sNom) (mulV rt3 vNom)

/-! ### Quantities (R329) -/

def cadd (x y : Word × Word) : Word × Word := (addV x.1 y.1, addV x.2 y.2)
def csub (x y : Word × Word) : Word × Word := (subV x.1 y.1, subV x.2 y.2)
def cmul (x y : Word × Word) : Word × Word :=
  (subV (mulV x.1 y.1) (mulV x.2 y.2), addV (mulV x.1 y.2) (mulV x.2 y.1))
/-- a = e^(j2π/3) and its inverse. -/
def aPos : Word × Word := (neg half, divV rt3 two)
def aNeg : Word × Word := (neg half, neg (divV rt3 two))

/-- The three V_LL_k. V⁻ as a phasor is the conjugate of the negative-sequence vector. -/
def vLL (vp vn : Word × Word) (vNom : Word) : List Word :=
  let n := (vn.1, neg vn.2)
  let v0 := cadd vp n
  let v1 := cadd (cmul vp aNeg) (cmul n aPos)
  let v2 := cadd (cmul vp aPos) (cmul n aNeg)
  [(v0, v1), (v1, v2), (v2, v0)].map (fun q =>
    let d := csub q.1 q.2
    divV (hypot d.1 d.2) (mulV rt2 vNom))

/-- n_c: the periods of one fundamental cycle. -/
def cycle (fNom T : Word) : Nat := (toIntRne (divV one (mulV fNom T))).1.toNat

/-- ROCOF_WIN in intervals of 10 ms (R338). -/
def In.win (i : In) : Nat := i.n 0xE8 / 10

/-- F̄ and ROCOF: an interval completes when 10 ms of periods have been counted. -/
def countF (i : In) (s : RtState) : RtState :=
  let sum := addV s.fSum i.f
  let n := s.fN + 1
  let tk := s.fTicks + i.t.dt
  if tk < ms 10 then { s with fSum := sum, fN := n, fTicks := tk }
  else
    let fb := (divV sum (ofNat n) :: s.fbar).take 51
    let k := i.win
    let w := divV (ofNat (10 * k)) (ofNat 1000)
    let r := if k < fb.length then divV (subV (fb.getD 0 0) (fb.getD k 0)) w else s.rocof
    { s with fSum := 0, fN := 0, fTicks := 0, fbar := fb, rocof := r }

/-- The quantities of a period; in a coasting period without local voltage only the angle goes on. -/
def measure (u : Nat) (i : In) (s : RtState) : Lib RtState := do
  let ang ← xfm2 u 7 [i.vp.1, i.vp.2]
  let d ← wrap u (subV (subV ang.1 s.angle) (mulV i.omega i.t.T))
  let s := { s with angle := ang.1 }
  if i.blind then pure s
  else do
    let ll := vLL i.vp i.vn (i.p 0x14)
    let l (k : Nat) := ll.getD k 0
    let vpos := divV ang.2 (vPeak (i.p 0x14))
    let ds := (d :: s.dphi).take (cycle (i.p 0x10) i.t.T)
    let s := countF i s
    let vref := if s.active then s.vref else addV s.vref (mulV (divV i.t.T (i.p 0xD4)) (subV vpos s.vref))
    pure { s with
      vpos := vpos, vlv := min3 (l 0) (l 1) (l 2), vhv := max3 (l 0) (l 1) (l 2)
      vref := vref, dphi := ds, vshift := ds.foldr (fun x a => addV a x) 0 }

/-! ### Bands (R330, R331) -/

/-- How many thresholds of a list a value has passed, each moved by `hys` toward the normal side. -/
def passed (below : Bool) (hys : Word) (l : List CurvePoint) (v : Word) : Nat :=
  (l.takeWhile (fun c => if below then lt v (addV c.level hys) else gt v (subV c.level hys))).length

/-- The band of a list, counted from 1; 0 is the normal band. A less severe band is entered only past RT_HYS. -/
def band (below : Bool) (hys : Word) (l : List CurvePoint) (v : Word) (was : Nat) : Nat :=
  max (passed below 0 l v) (min was (passed below hys l v))

/-- The four bands. -/
def bandsNow (i : In) (s : RtState) : List Nat :=
  let h := i.p 0xB4
  let hf := mulV h (i.p 0x10)
  [band true h (s.lists.getD 0 []) s.vlv (s.bands.getD 0 0), band false h (s.lists.getD 1 []) s.vhv (s.bands.getD 1 0),
    band true hf (s.lists.getD 2 []) i.f (s.bands.getD 2 0), band false hf (s.lists.getD 3 []) i.f (s.bands.getD 3 0)]

/-- The point in force of list `k`, outside its normal band. -/
def RtState.point (s : RtState) (k : Nat) : Option CurvePoint :=
  match s.bands.getD k 0 with
  | 0 => none
  | b + 1 => (s.lists.getD k [])[b]?

/-- The region of a list; momentary cessation of a frequency list is mandatory operation (R330). -/
def regionOf (k : Nat) (c : CurvePoint) : Nat := if 2 ≤ k ∧ c.region = 2 then 1 else c.region

/-- The most severe region (R333). -/
def worst (s : RtState) : Nat :=
  (List.range 4).foldl (fun r k => match RtState.point s k with
    | some c => max r (regionOf k c)
    | none => r) 0

/-! ### Disturbances (R332, R334, R337) -/

/-- The passive tests are suspended (R342). -/
def suspended (i : In) (s : RtState) : Bool :=
  s.active || (match s.endAt with
    | some e => decide (i.t.now < e + ms (i.n 0x104))
    | none => false)

/-- The class of |VSHIFT| (R337). -/
def classify (i : In) (s : RtState) : RtState :=
  let a := Fp.abs s.vshift
  let s := if s.jump then { s with jumpRun := if i.lock then s.jumpRun + 1 else 0 } else s
  let s := if s.jump && 8 ≤ s.jumpRun then { s with jump := false } else s
  let s := if i.lock then { s with cease := none } else s
  if !i.usable || !i.rtEn || lt a (i.p 0xD8) then s
  else
    let s := { s with jump := true, jumpRun := 0 }
    if gt a (i.p 0xDC) then { s with cease := some (s.cease.getD i.t.now) } else s

/-- A disturbance starts: its timer and the restart of VSHIFT and of the passive tests (R332, R342). -/
def begin (i : In) (id iq : Word) (s : RtState) : RtState :=
  let w := 500000000 * i.n 0xC0
  { s with active := true, start := i.t.now, span := 0, normalFrom := none, endAt := none
           starts := s.starts.filter (fun t => decide (i.t.now < t + w)) ++ [i.t.now]
           idPre := id, iqPre := iq, dphi := [] }

/-- Band membership, and the start, course and end of a disturbance (R332); whether one starts. -/
def disturb (i : In) (id iq : Word) (s : RtState) : RtState × Bool :=
  let s := if i.blind then s else { s with bands := bandsNow i s }
  let s := { s with region := worst s }
  let out := s.bands.any (· != 0)
  if !s.active then
    if i.rtEn && (out || s.jump) then (begin i id iq s, true) else (s, false)
  else
    let s := { s with normalFrom := since (!out) s.normalFrom i.t.now, span := i.t.now - s.start }
    if ran s.normalFrom i.t.now (ms (i.n 0xB8)) && !s.jump then
      ({ s with active := false, normalFrom := none, endAt := some i.t.now }, false)
    else (s, false)

/-- The first list whose trip time has come (R332); with RT_EN = 0 any list outside its normal band (R345). -/
def tripList (i : In) (s : RtState) : Option Nat :=
  (List.range 4).find? (fun k => match RtState.point s k with
    | none => false
    | some c =>
      if !i.rtEn then true
      else s.active && c.region != 0 && c.ms != 0x0FFFFFFF && decide (ms c.ms ≤ i.t.now - s.start))

/-- The passive tests (R338, R339). -/
def passive (i : In) (s : RtState) : RtState × Option Nat :=
  if suspended i s then ({ s with rocofFrom := none, fbar := [], fSum := 0, fN := 0, fTicks := 0 }, none)
  else if i.blind then (s, none)
  else
    let en (b : Nat) := (i.n 0xE4).testBit b
    let fresh := decide (i.win < s.fbar.length)
    let high := en 0 && fresh && gt (Fp.abs s.rocof) (i.p 0xEC)
    let s := { s with rocofFrom := since high s.rocofFrom i.t.now }
    let a := Fp.abs s.vshift
    if ran s.rocofFrom i.t.now (ms (i.n 0xF0)) then (s, some 0x20)
    else if en 1 && i.usable && ge a (i.p 0xF4) && lt a (i.p 0xD8) then (s, some 0x21)
    else (s, none)

/-- The evaluation of R344 up to step 7: the state, a trip's cause, and a passive detection. `tt` is the transfer trip;
`id`, `iq` are the references of the period before. -/
def evaluate (i : In) (tt : Bool) (id iq : Word) (s : RtState) : RtState × Option Nat × Option Nat :=
  if tt then (s, some 0x23, none)
  else
    let s := classify i s
    let (s, started) := disturb i id iq s
    if started && i.n 0xBC != 0 && decide (i.n 0xBC < s.starts.length) then (s, some 0x14, none)
    else match tripList i s with
      | some k => (s, some (0x10 + k), none)
      | none =>
        if ran s.cease i.t.now (ms (i.n 0xE0) + 1) then (s, some 0x15, none)
        else
          let r := passive i s
          (r.1, none, r.2)

/-! ### The curve table (R330) -/

/-- Entries of a list as the table holds them. -/
def listOf (ws : List Word) (off count : Nat) : List CurvePoint :=
  (List.range count).map (fun k =>
    let w := (ws.getD (off / 4 + 2 * k + 1) 0).toNat
    ⟨ws.getD (off / 4 + 2 * k) 0, bitsN w 31 30, bitsN w 27 0⟩)

/-- Thresholds strictly in order. -/
def ordered (below : Bool) : List CurvePoint → Bool
  | a :: b :: r => (if below then lt b.level a.level else lt a.level b.level) && ordered below (b :: r)
  | _ => true

/-- The lists for a frame: one that is not valid is replaced by the list in force before; whether any was. -/
def takeLists (cfg : Nat) (ws : List Word) (old : List (List CurvePoint)) : List (List CurvePoint) × Bool :=
  let one (k off top : Nat) (below : Bool) (n : Nat) : List CurvePoint × Bool :=
    let l := listOf ws off n
    if n = 0 ∨ top < n ∨ !ordered below l then (old.getD k [], true) else (l, false)
  let r := [one 0 0 16 true (bitsN cfg 4 0), one 1 0x80 16 false (bitsN cfg 12 8), one 2 0x100 8 true (bitsN cfg 19 16),
    one 3 0x140 8 false (bitsN cfg 27 24)]
  (r.map (·.1), r.any (·.2))

/-- Ride-through at entry to RUN: V_POS is the reference, nothing is suspended, and fresh intervals are awaited. -/
def start (vpos angle : Word) (s : RtState) : RtState :=
  { s with bands := [0, 0, 0, 0], active := false, normalFrom := none, vref := vpos, vpos := vpos, angle := angle
           fSum := 0, fN := 0, fTicks := 0, fbar := [], rocof := 0, rocofFrom := none, dphi := [], vshift := 0
           jump := false, jumpRun := 0, cease := none, endAt := none, island := false, region := 0 }

/-- Ride-through of an instance that has not run. -/
def init : RtState where
  lists := [[], [], [], []]
  bands := [0, 0, 0, 0]
  active := false
  start := 0
  span := 0
  normalFrom := none
  starts := []
  idPre := 0
  iqPre := 0
  vref := 0
  angle := 0
  fSum := 0
  fN := 0
  fTicks := 0
  fbar := []
  rocof := 0
  rocofFrom := none
  dphi := []
  vshift := 0
  jump := false
  jumpRun := 0
  cease := none
  endAt := none
  island := false
  found := false
  sent := 0
  vpos := 0
  vlv := 0
  vhv := 0
  region := 0

end Sys2Proof.Machine.Ride
end

