-- ==== Sys2Proof/Machine/LibGrid.lean ====
section
/-! DEFINITION. LibGrid.lean: the grid library program's tasks GC_CTL and GC_MON (R303 to R328), with ride-through at its
place in the period (R344). -/

namespace Sys2Proof.Machine

/-- A parameter in use, by its offset. -/
def GcState.p (g : GcState) (off : Nat) : Word := g.par.getD (off / 4) 0
/-- A u32 parameter in use. -/
def GcState.n (g : GcState) (off : Nat) : Nat := (g.p off).toNat
/-- MODE_SEL fields (R308): CTRL with an islanding change of R343 laid over it, TOPO with 3 taken as 0, and single bits. -/
def GcState.ctrl (g : GcState) : Nat := if g.form = 0 then bitsN (g.n 0) 1 0 else g.form
def GcState.topo (g : GcState) : Nat := if bitsN (g.n 0) 3 2 = 3 then 0 else bitsN (g.n 0) 3 2
def GcState.sel (g : GcState) (b : Nat) : Bool := (g.n 0).testBit b
def GcState.levels3 (g : GcState) : Bool := g.topo != 0
/-- A local voltage is configured (R311). -/
def GcState.vloc (g : GcState) : Bool := g.n 8 % 256 != 0xFF
/-- Grid forming (R322). -/
def GcState.forming (g : GcState) : Bool := 2 ≤ g.ctrl

end Sys2Proof.Machine

namespace Sys2Proof.Machine.Grid

open Sys2Proof.Machine Lib Fp

/-! ### Parameters (R307, R345) -/

abbrev inf : Word := pInf

/-- A u32 that is 0 (off) or within limits. -/
def puOff (w : Nat) (d : Bool) (lo hi : Nat) : Par :=
  let off (g : Nat → Word) : Bool := decide (2 * (g w).toNat < lo)
  ⟨w, d, true, fun g => if off g then 0 else BitVec.ofNat 32 lo, fun g => if off g then 0 else BitVec.ofNat 32 hi⟩

/-- An FP32 row whose limits are computed from the rows before it. -/
def pg (w : Nat) (d : Bool) (lo hi : (Nat → Word) → Word) : Par := ⟨w, d, false, lo, hi⟩

/-- The parameter table of GC: word, class, limits, in an order in which each limit stands before its use. -/
def pars : List Par :=
  let r := ratio
  let k (v : Word) : (Nat → Word) → Word := fun _ => v
  let at' (off : Nat) : (Nat → Word) → Word := fun g => g (off / 4)
  let nom (g : Nat → Word) : Word := if gt (g 4) (ofNat 55) then ofNat 60 else ofNat 50
  [pu 0 true 0 0xFFFFFFFF, pu 1 true 0 0xFFFFFFFF, pu 2 true 0 0xFFFFFFFF, pu 3 true 0 0xFFFFFFFF,
    pg 4 true nom nom, pf 5 true (ofNat 100) (ofNat 40000), pf 6 true (ofNat 1000) (ofNat 100000000),
    pf 7 true 0 (r 1 10), pf 8 true 0 inf, pg 9 true (at' 0x20) (k inf), pf 10 true 0 inf, pg 11 true (at' 0x28) (k inf),
    pg 12 true (at' 0x28) (at' 0x2C), pu 13 true 100 60000, pu 14 true 10 1000, pf 15 true half one, pf 16 true half two,
    pg 17 true (fun g => mulV (r 8 10) (g 4)) (at' 0x10), pg 18 true (at' 0x10) (fun g => mulV (r 12 10) (g 4))] ++
  [pf 19 false (r 1 1000) (r 2 10), pu 20 false 1 65535, pu 21 false 0 2000, pu 22 false 0 1000, pf 23 false (r 1 10) (ofNat 5),
    pg 24 false (fun g => neg (g 6)) (at' 0x18), pg 25 false (fun g => neg (g 6)) (at' 0x18), pf 26 false (r 1 1000) (ofNat 100),
    pf 27 false (r 1 100) (ofNat 100), pg 28 false (at' 0x28) (at' 0x2C), pf 29 false 0 (r 2 10), pf 30 false 0 (r 2 10),
    pf 31 false half (ofNat 10), pf 32 false 0 (ofNat 200), pf 33 false (r 1 100) one, pf 34 false 0 half,
    pf 35 false (r 5 100) half, pf 36 false (r 8 10) (r 12 10), pu 37 false 5 1000, pf 38 false (r 1 10) (ofNat 50),
    pg 39 false (at' 0x28) (at' 0x2C), pg 40 false (at' 0x9C) (at' 0x2C), puOff 41 false 10 3600, pu 42 false 500 10000,
    pf 43 false 0 (r 2 10)] ++
  [pu 44 false 0 0xFFFFFFFF, pf 45 false 0 (r 5 100), pu 46 false 0 1000, pu 47 false 0 15, pu 48 false 1 3600, pf 49 false 0 (ofNat 10),
    pf 50 false 0 (r 2 10), pf 51 false 0 (ofNat 10), pf 52 false (r 1 10) (ofNat 100), pf 53 false (r 1 10) (ofNat 60),
    pf 61 false (r 35 1000) (r 6 10), pf 55 false (r 1 10) (r 1047 1000), pg 54 false (at' 0xF4) (at' 0xDC), pu 56 false 20 1000,
    pu 57 false 0 0xFFFFFFFF, pu 58 false 20 500, pf 59 false (r 1 10) (ofNat 5), pu 60 false 0 2000, pf 62 false 0 half,
    pf 63 false 0 (r 1 10), pf 64 false 0 (r 2 10), pu 65 false 0 10000]

/-- An instance that has not run (R324): IDLE, the parameters still to be read. -/
def init (inst mode : Nat) : GcState where
  inst := inst
  par := []
  clamped := false
  dpend := false
  frame := 0
  prevMode := mode
  st := 0
  cause := 0
  since := 0
  omega := 0
  theta := 0
  sogi := ⟨0, 0, 0, 0⟩
  lock := false
  lockRun := 0
  slipRun := 0
  coastFrom := none
  ageFrame := 0
  age := 0
  pRef := 0
  qRef := 0
  idRef := 0
  iqRef := 0
  ndRef := 0
  nqRef := 0
  harmOff := false
  thetaV := 0
  omegaV := 0
  pf := 0
  qf := 0
  limited := false
  form := 0
  formNew := false
  black := false
  fLim := none
  vdcBad := 0
  halfBad := 0
  recover := false
  plim := false
  pNow := 0
  vdcNow := 0
  rt := Ride.init

/-- The parameters and curve for a frame, taken at its first block (R306, R330, R345). -/
def takeFrame (t : Time) (g : GcState) : Lib (GcState × Bool) := do
  if g.frame = t.frame then pure (g, false)
  else if g.rt.active && !g.par.isEmpty then pure ({ g with frame := t.frame }, true)
  else do
    let raw ← getTs 0 0 67
    let curve ← getTs 2 0 96
    let idle := g.st == 0
    let r := takePars pars idle g.par raw
    let ls := Ride.takeLists (r.1.getD 44 0).toNat curve g.rt.lists
    let om := if g.par.isEmpty then rad (r.1.getD 4 0) else g.omega
    pure ({ g with frame := t.frame, par := r.1, clamped := r.2.1, dpend := !idle && (g.dpend || r.2.2), omega := om
                   rt := { g.rt with lists := ls.1, found := ls.2 } }, true)

/-! ### Measurement (R311, R312) -/

/-- What `svrd` says of a channel, treated as the table of R312 gives: the age to use in units of 100 ns, or coast; and
whether AGE alone exceeded AGE_MAX. -/
def judge (g : GcState) (mode est : Nat) (q : Word) : Option Nat × Bool :=
  let b (n : Nat) : Bool := q.toNat.testBit n
  let age := q.toNat / 65536
  if b 1 then (none, false)
  else if b 0 then (if age ≤ 10 * g.n 0x54 then (some age, false) else (none, true))
  else if b 2 || b 3 || b 6 || b 8 then (none, false)
  else if b 4 && !b 5 then (if mode == 5 && g.sel 5 then some age else none, false)
  else if b 5 && !b 4 then (if g.sel 6 then some (10 * est) else none, false)
  else (none, false)

/-- The PCC voltage of a period. -/
structure Pcc where
  ab : Option (Word × Word)
  late : Bool
  age : Option Word

/-- Read the PCC voltage and bring it to the period start (R312). -/
def readPcc (c : GcInst) (t : Time) (g : GcState) : Lib Pcc := do
  let t0 ← ask (fun m _ b => m.periodNanos b)
  let est ← ask (fun m _ _ => bitsN (m.svEntry c.sv 3) 31 16)
  let a ← svAt false t0 c.sv 0
  let b ← svAt false t0 c.sv 1
  let d ← svAt false t0 c.sv 2
  let js := [a, b, d].map (fun x => judge g t.mode est x.2)
  let late := js.any (·.2)
  match (js.getD 0 (none, false)).1, js.all (·.1.isSome) with
  | some age, true => do
    let cl ← xfm c.xfm 0 [a.1, b.1, d.1]
    let r ← xfm2 c.xfm 3 [cl.getD 0 0, cl.getD 1 0, mulV g.omega (ratio age 10000000)]
    pure ⟨some r, late, some (divV (ofNat age) (ofNat 10))⟩
  | _, _ => pure ⟨none, late, none⟩

/-- The local filter-capacitor voltage (R311, R313). -/
def readLocal (c : GcInst) (g : GcState) : Lib (Option (Word × Word)) :=
  if !g.vloc then pure none
  else do
    let v ← sample3 (bitsN (g.n 8) 5 4) (bitsN (g.n 8) 3 0)
    let cl ← xfm c.xfm 0 [v.1, v.2.1, v.2.2]
    pure (some (cl.getD 0 0, cl.getD 1 0))

/-! ### Synchronisation (R313 to R315) -/

/-- One axis of the DSOGI (R314). -/
def sogiAxis (w k x v q : Word) : Word × Word :=
  let v := addV v (mulV w (subV (mulV k (subV x v)) q))
  (v, addV q (mulV w v))

/-- The integrators step on a voltage. -/
def sogiStep (w k : Word) (x : Word × Word) (s : Sogi) : Sogi :=
  let a := sogiAxis w k x.1 s.va s.qa
  let b := sogiAxis w k x.2 s.vb s.qb
  ⟨a.1, a.2, b.1, b.2⟩

/-- The integrators turn through an angle (R313). -/
def sogiTurn (u : Nat) (w : Word) (s : Sogi) : Lib Sogi := do
  let v ← xfm2 u 3 [s.va, s.vb, w]
  let q ← xfm2 u 3 [s.qa, s.qb, w]
  pure ⟨v.1, q.1, v.2, q.2⟩

/-- v⁺ and v⁻ (R314). -/
def sequences (u : Nat) (s : Sogi) : Lib ((Word × Word) × (Word × Word)) := do
  let r ← xfm u 8 [s.va, s.vb, s.qa, s.qb]
  pure ((r.getD 0 0, r.getD 1 0), (r.getD 2 0, r.getD 3 0))

/-- What synchronisation gives a period: v⁺, v⁻, their magnitudes, d⁺ and q⁺, the angle of the period's samples, and whether
the period was blind. -/
structure Sync where
  vp : Word × Word
  vn : Word × Word
  mp : Word
  mn : Word
  d : Word
  q : Word
  th : Word
  blind : Bool

/-- The lock (R315). -/
def lockStep (g : GcState) (e : Word) : GcState :=
  let out := ge (Fp.abs e) (g.p 0x4C)
  if g.lock then
    let n := if out then g.slipRun + 1 else 0
    if 8 ≤ n then { g with lock := false, lockRun := 0, slipRun := 0 } else { g with slipRun := n }
  else
    let n := if out then 0 else g.lockRun + 1
    if g.n 0x50 ≤ n then { g with lock := true, lockRun := 0, slipRun := 0 } else { g with lockRun := n }

/-- Synchronisation on a voltage, or a blind coasting period (R313, R314). -/
def sync (c : GcInst) (t : Time) (usable : Bool) (x : Option (Word × Word)) (g : GcState) : Lib (GcState × Sync) := do
  let w := mulV g.omega t.T
  let sg ← (match x with
    | some v => pure (sogiStep w (g.p 0x40) v g.sogi)
    | none => sogiTurn c.xfm w g.sogi)
  let s ← sequences c.xfm sg
  let dq ← xfm2 c.xfm 2 [s.1.1, s.1.2, g.theta]
  let mp ← xfm2 c.xfm 7 [s.1.1, s.1.2]
  let mn ← xfm2 c.xfm 7 [s.2.1, s.2.2]
  let y : Sync := ⟨s.1, s.2, mp.2, mn.2, dq.1, dq.2, g.theta, x.isNone⟩
  if x.isNone then do
    let th ← wrap c.xfm (addV g.theta w)
    pure ({ g with sogi := sg, theta := th, lock := false, lockRun := 0, slipRun := 0 }, y)
  else do
    let low := lt mp.2 (mulV (ratio 5 100) (Ride.vPeak (g.p 0x14)))
    let e := if low then 0 else divV dq.2 mp.2
    let dw ← stepOrHold c.lu e 0
    let om := addV (rad (g.p 0x10)) dw
    let th ← wrap c.xfm (addV g.theta (mulV om t.T))
    let g := { g with sogi := sg, omega := om, theta := th }
    pure (if usable then lockStep g e else g, y)

/-- F in Hz. -/
def freq (g : GcState) : Word := divV g.omega twoPi

/-! ### Trips (R327) -/

/-- The samples of a period: phase currents, the link and its lower half. -/
structure Adc where
  ia : Word
  ib : Word
  ic : Word
  vdc : Word
  vlo : Word

/-- The counts behind the causes, after this period. -/
def counts (t : Time) (a : Adc) (g : GcState) : GcState :=
  let f := freq g
  let atLimit := g.st == 4 && !g.rt.active && (le f (g.p 0x44) || ge f (g.p 0x48))
  let vout := g.st == 4 && (lt a.vdc (g.p 0x28) || gt a.vdc (g.p 0x2C))
  let bad (v : Word) : Bool := lt v (mulV (ratio 35 100) a.vdc) || gt v (mulV (ratio 65 100) a.vdc)
  let hout := g.levels3 && (bad (subV a.vdc a.vlo) || bad a.vlo)
  { g with fLim := since atLimit g.fLim t.now
           vdcBad := if vout then g.vdcBad + 1 else 0
           halfBad := if hout then g.halfBad + 1 else 0 }

/-- The causes of R327 that stand, in the order of its table: cause, source, phase or half. -/
def causes (t : Time) (a : Adc) (g : GcState) : List (Nat × Nat × Nat) :=
  let run := 2 ≤ g.st && g.st ≤ 6
  let trip (x : Word) : Bool := gt (Fp.abs x) (g.p 0x24)
  let lo := lt (subV a.vdc a.vlo) (mulV (ratio 35 100) a.vdc) || gt (subV a.vdc a.vlo) (mulV (ratio 65 100) a.vdc)
  let ph := if trip a.ia then 0 else if trip a.ib then 1 else 2
  (if g.st == 1 && decide (g.since + ms (g.n 0x34) ≤ t.now) && lt a.vdc (g.p 0x30) then [(1, FS.GC_PRECHARGE, 0)] else [])
    ++ (if run && ran g.coastFrom t.now (ms (g.n 0x58)) then [(2, FS.GC_SYNC_LOST, 0)] else [])
    ++ (if ran g.fLim t.now (ms 100) then [(3, FS.GC_SYNC_LOST, 0)] else [])
    ++ (if trip a.ia || trip a.ib || trip a.ic then [(4, FS.GC_OVERCURRENT, ph)] else [])
    ++ (if 3 ≤ g.vdcBad then [(5, FS.GC_VDC, 0)] else [])
    ++ (if 3 ≤ g.halfBad then [(6, FS.GC_VDC, if lo then 0 else 1)] else [])

/-- Stage the sources of a list of causes, the first last, so that it stands where two share a source. -/
def stageCauses : List (Nat × Nat × Nat) → Lib Unit
  | [] => pure ()
  | x :: r => do
    stageCauses r
    evt x.2.1 (x.1 + 256 * x.2.2)

/-- FAULT is entered (R324, R327). -/
def toFault (t : Time) (cause : Nat) (g : GcState) : GcState :=
  { g with st := 7, cause := cause, since := t.now, form := 0
           rt := { g.rt with active := false, island := false } }

/-! ### The state machine (R324) -/

def enter (t : Time) (st : Nat) (g : GcState) : GcState := { g with st := st, since := t.now }

/-- A generator in RELAYS, none for 0x1F. -/
def relay (g : GcState) (main : Bool) : Option Nat :=
  let n := if main then bitsN (g.n 0xC) 12 8 else bitsN (g.n 0xC) 4 0
  if n = 0x1F then none else some n

/-- The transitions of a block, in the order in which one may pass through several states. -/
def machine (t : Time) (first : Bool) (vdc : Word) (s : Sync) (g : GcState) : GcState :=
  let idle := t.mode != 6 && t.mode != 7
  let g := if idle && (g.st != 7 || first) && g.st != 0 then
      { enter t 0 g with form := 0, formNew := false, rt := { g.rt with active := false, island := false } }
    else g
  let g := if g.st == 0 then { g with dpend := false } else g
  let g := if g.st == 0 && t.mode == 6 && g.prevMode != 6 then enter t 1 g else g
  let g := if g.st == 1 && (ge vdc (g.p 0x30) || (relay g false).isNone) then enter t 2 g else g
  let g := if g.st == 2 && decide (g.since + ms (g.n 0x38) + t.dt ≤ t.now) then
      let dead := g.sel 7 && lt s.mp (mulV (ratio 5 100) (Ride.vPeak (g.p 0x14)))
      { enter t 3 g with
        black := dead
        thetaV := if dead then 0 else s.th
        omegaV := if dead then rad (g.p 0x10) else g.omega }
    else g
  let g := if g.st == 3 && t.mode == 7 then
      { enter t 4 g with
        pRef := 0, qRef := 0, idRef := 0, iqRef := 0, ndRef := 0, nqRef := 0, recover := false, pf := 0, qf := 0
        fLim := none, vdcBad := 0
        rt := Ride.start (divV s.mp (Ride.vPeak (g.p 0x14))) g.rt.angle g.rt }
    else g
  let g := if g.st == 4 && t.stopping then
      { enter t 5 g with rt := { g.rt with active := false } } else g
  { g with prevMode := t.mode }

/-- The conditions of READY (R323, R324, R330). -/
def readyNow (vdc : Word) (g : GcState) : Bool :=
  g.st == 3 && (g.lock || (g.forming && g.black)) && ge vdc (g.p 0x28) && le vdc (g.p 0x2C)
    && !(g.forming && !g.vloc) && g.rt.lists.all (fun l => !l.isEmpty)

/-! ### References (R316, R319, R322, R336, R340) -/

/-- A vector reduced to I_MAX, one component first; whether it was. -/
def limit (imax : Word) (qFirst : Bool) (d q : Word) : Word × Word × Bool :=
  if !gt (hypot d q) imax then (d, q, false)
  else
    let rest (x : Word) : Word := sqrtV (maxV 0 (subV (mulV imax imax) (mulV x x)))
    if qFirst then
      -- the d component is kept first, q gives way
      let d := clampV d (neg imax) imax
      let r := rest d
      (d, clampV q (neg r) r, true)
    else
      let q := clampV q (neg imax) imax
      let r := rest q
      (clampV d (neg r) r, q, true)

/-- The references of a period: the positive-sequence vector, the negative-sequence vector in the PLL frame, and whether a
limit applied. -/
structure Refs where
  d : Word
  q : Word
  nd : Word
  nq : Word
  ilim : Bool

/-- VDC_REF in use (R319). -/
def vdcRef (c : GcInst) (g : GcState) : Lib Word :=
  if g.sel 4 && g.ctrl == 1 then ldy c.vref.toNat else pure (g.p 0x70)

/-- P*, Q* move toward their setpoints (R316, R336). -/
def rampPQ (t : Time) (g : GcState) : GcState :=
  let s := g.p 0x18
  let rate := mulV (mulV (if g.recover then g.p 0xD0 else g.p 0x68) s) t.T
  let p := toward g.pRef (g.p 0x60) rate
  let q := if g.recover then g.p 0x64 else toward g.qRef (g.p 0x64) (mulV (mulV (g.p 0x68) s) t.T)
  { g with pRef := p, qRef := q, recover := g.recover && p != g.p 0x60 }

/-- The references of R316. Under CTRL 1 unit +9 gives id*, within what P_SET allows. -/
def follow (c : GcInst) (t : Time) (vdc vref vd : Word) (g : GcState) : Lib (GcState × Refs) := do
  let wasRec := g.recover
  let g := rampPQ t g
  let den := mulV three vd
  let iq := divV (mulV (neg two) g.qRef) den
  if g.ctrl = 1 then do
    let u ← step (c.lu + 9) (subV vdc vref) 0
    let top := Fp.abs (divV (mulV two (if wasRec then g.pRef else g.p 0x60)) den)
    let lim := gt (Fp.abs u) top
    let id := if lim then clampV u (neg top) top else u
    if lim then do
      let _ ← track (c.lu + 9) id 0
      pure ()
    let r := limit (g.p 0x20) (g.sel 10 == false) id iq
    pure ({ g with plim := lim }, ⟨r.1, r.2.1, 0, 0, r.2.2⟩)
  else do
    let id := divV (mulV two g.pRef) den
    let r := limit (g.p 0x20) (g.sel 10 == false) id iq
    pure ({ g with plim := false }, ⟨r.1, r.2.1, 0, 0, r.2.2⟩)

/-- The references while ride-through is active (R336). -/
def rideRefs (c : GcInst) (coast : Bool) (s : Sync) (g : GcState) : Lib Refs := do
  let r := if g.rt.cease.isSome then 2 else g.rt.region
  if coast then pure ⟨g.idRef, g.iqRef, g.ndRef, g.nqRef, g.limited⟩
  else if 2 ≤ r then pure ⟨0, 0, 0, 0, false⟩
  else do
    let inom := Ride.iNom (g.p 0x18) (g.p 0x14)
    let dv := subV g.rt.vpos g.rt.vref
    let term := if gt (Fp.abs dv) (g.p 0xC8) then mulV (mulV (g.p 0xC4) dv) inom else 0
    let iq := addV g.rt.iqPre term
    let neg2 ← (if !g.sel 11 then pure ((0 : Word), (0 : Word))
      else do
        -- the negative-sequence vector at −θ is v⁻ as a phasor conjugate; −K · (v⁻ in quadrature), into the PLL frame
        let k := divV (mulV (g.p 0xCC) inom) (Ride.vPeak (g.p 0x14))
        let ia := mulV k s.vn.2
        let ib := neg (mulV k s.vn.1)
        xfm2 c.xfm 2 [ia, ib, s.th])
    let keepD := (g.n 0xB0).testBit 29 && g.sel 10 == false
    let l := limit (g.p 0x20) keepD (addV g.rt.idPre neg2.1) (addV iq neg2.2)
    pure ⟨subV l.1 neg2.1, subV l.2.1 neg2.2, neg2.1, neg2.2, l.2.2⟩

/-- Active frequency drift (R340). -/
def drift (c : GcInst) (t : Time) (i : Ride.In) (g : GcState) (r : Refs) : Lib Refs := do
  if !(g.n 0xE4).testBit 2 || g.rt.active || r.ilim || g.forming || Ride.suspended i g.rt then pure r
  else do
    let df := subV i.f (g.p 0x10)
    let s := if ge i.f (g.p 0x10) then one else neg one
    let ph := addV (mulV s (g.p 0xFC)) (mulV (g.p 0xF8) df)
    let ph := clampV ph (neg (g.p 0x100)) (g.p 0x100)
    let sc ← xfm2 c.xfm 6 [ph]
    let _ := t
    pure { r with d := subV (mulV r.d sc.2) (mulV r.q sc.1), q := addV (mulV r.d sc.1) (mulV r.q sc.2) }

/-- Grid forming (R322, R323): ωv, E and the current reference in the θv frame, limited by scaling the vector. -/
def formRefs (c : GcInst) (t : Time) (loc : Option (Word × Word)) (s : Sync) (p q : Word) (g : GcState) :
    Lib (GcState × Refs) := do
  let g := if g.formNew then { g with thetaV := s.th, omegaV := g.omega, formNew := false } else g
  let w0 := rad (g.p 0x10)
  let sN := g.p 0x18
  let k := divV t.T (g.p 0x84)
  let pf := addV g.pf (mulV k (subV p g.pf))
  let qf := addV g.qf (mulV k (subV q g.qf))
  let om :=
    if g.limited then g.omega
    else if g.ctrl = 2 then
      mulV w0 (subV one (divV (mulV (g.p 0x74) (subV pf (g.p 0x60))) sN))
    else
      let acc := subV (divV (subV (g.p 0x60) p) sN) (divV (mulV (g.p 0x80) (subV g.omegaV w0)) w0)
      addV g.omegaV (mulV (divV (mulV w0 t.T) (mulV two (g.p 0x7C))) acc)
  let e := subV (g.p 0x90) (divV (mulV (g.p 0x78) (subV qf (g.p 0x64))) sN)
  let v := loc.getD s.vp
  let dq ← xfm2 c.xfm 2 [v.1, v.2, g.thetaV]
  let vb := Ride.vPeak (g.p 0x14)
  let a := subV e (divV dq.1 vb)
  let b := neg (divV dq.2 vb)
  let r := g.p 0x88
  let x := g.p 0x8C
  let den := addV (mulV r r) (mulV x x)
  let ib := Ride.iNom sN (g.p 0x14)
  let id := mulV (divV (addV (mulV a r) (mulV b x)) den) ib
  let iq := mulV (divV (subV (mulV b r) (mulV a x)) den) ib
  let mag := hypot id iq
  let lim := gt mag (g.p 0x20)
  let sc := divV (g.p 0x20) mag
  let th ← wrap c.xfm (addV g.thetaV (mulV om t.T))
  let g := { g with omegaV := om, thetaV := th, pf := pf, qf := qf, limited := lim, plim := false }
  pure (g, if lim then ⟨mulV id sc, mulV iq sc, 0, 0, true⟩ else ⟨id, iq, 0, 0, false⟩)

/-! ### Current control and modulation (R317, R318) -/

/-- Units of a range are TRACKed to 0. -/
def release (u : Nat) : List Nat → Lib Unit
  | [] => pure ()
  | k :: r => do
    track0 (u + k)
    release u r

/-- What a controlled period shows. -/
structure Drive where
  d : Word
  q : Word
  ovmod : Bool

/-- A pair of resonators steps with the errors, or is TRACKed to 0. -/
def resonate (u : Nat) (on : Bool) (ed eq : Word) : Lib (Word × Word) :=
  if on then do
    let d ← step u ed 0
    let q ← step (u + 1) eq 0
    pure (d, q)
  else do
    track0 u
    track0 (u + 1)
    pure (0, 0)

/-- The resonators' frequency condition with its margin (R317). -/
def harmOff (g : GcState) : Bool :=
  let df := Fp.abs (subV (freq g) (g.p 0x10))
  if g.harmOff then !lt df (subV (g.p 0x5C) (ratio 1 10)) else gt df (g.p 0x5C)

/-- Stage the duties of one phase from its m (R318). -/
def stagePhase (c : GcInst) (g : GcState) (x : Nat) (m : Word) : Lib Unit :=
  if g.levels3 then do
    duty (c.gen + 2 * x) (maxV m 0)
    duty (c.gen + 2 * x + 1) (addV one (minV m 0))
  else duty (c.gen + x) (addV half (mulV half m))

/-- Stage the three phases. -/
def stagePhases (c : GcInst) (g : GcState) (a b d : Word) : Lib Unit := do
  stagePhase c g 0 a
  stagePhase c g 1 b
  stagePhase c g 2 d

/-- The bridge generators (R305). -/
def bridge (c : GcInst) (g : GcState) : List Nat := (List.range (if g.levels3 then 6 else 3)).map (fun k => c.gen + k)

/-- Stage 0 on generators. -/
def stageZero : List Nat → Lib Unit
  | [] => pure ()
  | x :: r => do
    duty x 0
    stageZero r

/-- Current control at angle `th` and rate `om` (R317), then modulation (R318). -/
def drive (c : GcInst) (t : Time) (a : Adc) (th om : Word) (vd vq id iq : Word) (r : Refs) (g : GcState) :
    Lib (GcState × Drive) := do
  let u : Nat := c.lu
  let d := addV r.d r.nd
  let q := addV r.q r.nq
  let ed := subV d id
  let eq := subV q iq
  let wl := mulV om (g.p 0x1C)
  let ffd := subV vd (mulV wl q)
  let ffq := addV vq (mulV wl d)
  let v1 ← step (u + 1) ed ffd
  let v2 ← step (u + 2) eq ffq
  let off := harmOff g
  let h1 ← resonate (u + 3) (g.sel 8 && !off) ed eq
  let h2 ← resonate (u + 5) (g.sel 9 && !off) ed eq
  let h3 ← resonate (u + 7) (g.sel 11 && !off) ed eq
  let hd := addV (addV h1.1 h2.1) h3.1
  let hq := addV (addV h1.2 h2.2) h3.2
  let vd' := addV v1 hd
  let vq' := addV v2 hq
  let lim := divV (mulV (g.p 0x3C) a.vdc) rt3
  let mag := hypot vd' vq'
  let ov := gt mag lim
  let sc := divV lim mag
  let vs := if ov then (mulV vd' sc, mulV vq' sc) else (vd', vq')
  if ov then do
    let _ ← track (u + 1) (subV vs.1 hd) ffd
    let _ ← track (u + 2) (subV vs.2 hq) ffq
    pure ()
  let ang := addV th (mulV (mulV (ratio 3 2) om) t.T)
  let abc ← xfm c.xfm 5 [vs.1, vs.2, 0, ang]
  let x := abc.getD 0 0
  let y := abc.getD 1 0
  let z := abc.getD 2 0
  let v0 := neg (divV (addV (max3 x y z) (min3 x y z)) two)
  let mid ← (if g.levels3 then do
      let o ← step (u + 10) (subV (subV a.vdc a.vlo) a.vlo) 0
      pure (mulV o (sgn (mulV vd r.d)))
    else do
      track0 (u + 10)
      pure (0 : Word))
  let v0 := if g.levels3 then addV v0 mid else v0
  let hv := divV a.vdc two
  stagePhases c g (divV (addV x v0) hv) (divV (addV y v0) hv) (divV (addV z v0) hv)
  pure ({ g with harmOff := off, idRef := r.d, iqRef := r.q, ndRef := r.nd, nqRef := r.nq }, ⟨vs.1, vs.2, ov⟩)

/-- A block that does not control current: the zero reference is staged and the units are TRACKed to 0. -/
def rest (c : GcInst) (g : GcState) : Lib Unit := do
  stagePhases c g 0 0 0
  release c.lu [1, 2, 3, 4, 5, 6, 7, 8, 9, 10]

/-! ### The block (R309, R324, R344, R346) -/

/-- Relay outputs (R324): FULL closed, 0 open. -/
def relays (g : GcState) : Lib Unit := do
  match relay g false with
  | some n => duty n (if g.st = 1 ∨ g.st = 2 then one else 0)
  | none => pure ()
  match relay g true with
  | some n => duty n (if 2 ≤ g.st ∧ g.st ≤ 5 then one else 0)
  | none => pure ()

/-- A member of the transfer-trip subscription is a BOOLEAN TRUE in a frame taken (R341). -/
def transferTrip (c : GcInst) (g : GcState) : Lib Bool :=
  match c.tt with
  | none => pure false
  | some n => ask (fun m _ b =>
    let row := gsRow n
    let a := row + 0x20 + 8 * bitsN (g.n 0xE4) 13 8
    let rd (x : Nat) : Nat := (m.tblRead b x).toNat
    (g.n 0xE4).testBit 3 && !(rd (row + 0x18)).testBit 4 && rd (a + 4) / 2 ^ 24 == 1 && rd a != 0)

/-- PCC powers from SV (R309): NaN where no current stream is usable. -/
def pccPower (c : GcInst) (t : Time) (v : Option (Word × Word)) (g : GcState) : Lib (Word × Word) :=
  match c.svI, v with
  | some n, some v => do
    let t0 ← ask (fun m _ b => m.periodNanos b)
    let a ← svAt false t0 n 0
    let b ← svAt false t0 n 1
    let d ← svAt false t0 n 2
    if [a, b, d].all (fun x => (judge g t.mode 0 x.2).1.isSome) then do
      let cl ← xfm c.xfm 0 [a.1, b.1, d.1]
      let i ← xfm2 c.xfm 3 [cl.getD 0 0, cl.getD 1 0, mulV g.omega (ratio (a.2.toNat / 65536 : Nat) 10000000)]
      let k := ratio 3 2
      pure (mulV k (addV (mulV v.1 i.1) (mulV v.2 i.2)), mulV k (subV (mulV v.2 i.1) (mulV v.1 i.2)))
    else pure (qNaN, qNaN)
  | _, _ => pure (qNaN, qNaN)

/-- INST (R309): the instance values of R305, one a word. -/
def instWords (c : GcInst) : Lib (List Word) := do
  let e ← ask (fun _ e _ => e)
  let pa ← tblWord 0 0 false
  let sa ← tblWord 1 0 false
  let n (x : Nat) : Word := BitVec.ofNat 32 x
  pure [n e, n c.gen, n c.group, n c.lu, n c.xfm, n (c.sv + 256 * ((c.svI.map (·.val)).getD 255)), n pa, n sa]

/-- RT_STAT (R346). -/
def rtStat (i : Ride.In) (island : Bool) (s : RtState) : Nat :=
  let b (k : Nat) : Nat := (s.bands.getD k 0 + 15) % 16
  flag 0 s.active + flag 1 island + flag 2 (Ride.suspended i s) + flag 3 s.island + b 0 * 2 ^ 8 + b 1 * 2 ^ 12 + b 2 * 2 ^ 16
    + b 3 * 2 ^ 20 + s.region * 2 ^ 24

/-- What ride-through decides acts (R335, R343, R347): a trip, or an islanding detection. In a period that has tripped by R327
its sources are staged too, and control does not change (R344). -/
def act (t : Time) (tripped : Bool) (r : RtState × Option Nat × Option Nat) (g : GcState) : Lib GcState := do
  let was := g.rt
  let g := { g with rt := r.1 }
  match r.2.1 with
  | some c => do
    evt (if c = 0x23 then FS.ISL_TRIP else FS.RT_TRIP) c
    pure (toFault t c g)
  | none =>
    let g := if was.active && !r.1.active || was.active && was.bands.any (· != 0) && r.1.bands.all (· == 0) then
        { g with recover := true } else g
    match r.2.2 with
    | none => pure g
    | some c =>
      if (g.n 0xE4).testBit 4 && g.vloc && !g.forming then
        if tripped then pure g
        else do
          evt FS.GC_ISLAND c
          let f := if (g.n 0xE4).testBit 5 then 3 else 2
          pure { g with form := f, formNew := true, rt := { g.rt with island := true } }
      else do
        evt FS.ISL_TRIP c
        pure (toFault t c g)

/-- GC_RT_STATE goes out in every block in which its word differs from the last one committed (R335). -/
def rtWord (g : GcState) : Lib GcState := do
  let w := flag 0 g.rt.active + flag 1 (g.forming || g.rt.island)
  if w = g.rt.sent then pure g
  else do
    evt FS.GC_RT_STATE w
    pure { g with rt := { g.rt with sent := w } }

/-- The scan of the instance's GC_MPPT is under way (R321). -/
def scanning (c : GcInst) : Lib Bool := do
  let o ← other (fun s => match s with
    | .mppt x => if x.inst = c.vref.toNat then some x.scan.isSome else none
    | _ => none)
  pure (o.getD false)

/-- The references of a running or stopping block, and the frame they stand in: angle, rate, voltage. -/
def references (c : GcInst) (t : Time) (i : Ride.In) (coast : Bool) (loc : Option (Word × Word)) (s : Sync) (vdc vref p q : Word)
    (g : GcState) : Lib (GcState × Refs) := do
  if g.forming then formRefs c t loc s p q g
  else if g.st = 4 then do
    let r ← (if g.rt.active && (g.rt.bands.any (· != 0) || g.rt.jump) then do
        let r ← rideRefs c coast s g
        let _ ← track (c.lu + 9) r.d 0
        -- the value from which P* ramps once the lists are in their normal bands (R336)
        pure (if coast then g else { g with pRef := mulV (mulV (ratio 3 2) s.d) r.d }, r)
      else follow c t vdc vref s.d g)
    let r2 ← drift c t i r.1 r.2
    pure (r.1, r2)
  else pure (g, ⟨0, 0, 0, 0, false⟩)

/-- STOPPING (R324): the references ramp to 0 at STOP_RAMP. -/
def stopRefs (t : Time) (g : GcState) : Refs :=
  let d := mulV (mulV (g.p 0x6C) (Ride.iNom (g.p 0x18) (g.p 0x14))) t.T
  let m := hypot g.idRef g.iqRef
  let k := if le m d then 0 else divV (subV m d) m
  ⟨mulV g.idRef k, mulV g.iqRef k, 0, 0, false⟩

/-- GC_CTL, one block (R303 to R349). -/
def ctl (c : GcInst) : Lib Unit := do
  let t ← time
  let k ← kept
  let g0 := match k with
    | some (.gc s) => s
    | _ => init c.vref.toNat t.mode
  let (g, first) ← takeFrame t g0
  -- measurement
  let core := g.n 4 % 4
  let i3 ← sample3 core (bitsN (g.n 4) 7 4)
  let vdc ← sample core (bitsN (g.n 4) 11 8)
  let vlo ← (if g.levels3 then sample core (bitsN (g.n 4) 15 12) else pure 0)
  let a : Adc := ⟨i3.1, i3.2.1, i3.2.2, vdc, vlo⟩
  let pcc ← readPcc c t g
  let loc ← readLocal c g
  let usable := pcc.ab.isSome
  let x := if usable then pcc.ab else loc
  let omega0 := g.omega
  let (g, s) ← sync c t usable x g
  let g := { g with coastFrom := since s.blind g.coastFrom t.now, age := pcc.age.getD g.age }
  if pcc.late && g.ageFrame != t.frame then evt FS.GC_SV_AGE 0
  let g := if pcc.late then { g with ageFrame := t.frame } else g
  -- the state machine and the trips of R327
  let g := machine t first vdc s g
  let g := counts t a g
  let cs := if g.st = 7 then [] else causes t a g
  stageCauses cs
  -- ride-through and islanding (R344); a cause of R327 found before it is the one recorded
  let i : Ride.In := ⟨t, g.p, usable, s.blind, freq g, omega0, s.vp, s.vn, g.lock⟩
  let tt ← transferTrip c g
  let rt ← Ride.measure c.xfm i g.rt
  let g := { g with rt := rt }
  let g ← (if g.st = 4 then act t (!cs.isEmpty) (Ride.evaluate i tt g.idRef g.iqRef g.rt) g else pure g)
  let g := match cs with
    | [] => g
    | q :: _ => toFault t q.1 g
  let g ← rtWord g
  -- current synthesis
  let vref ← vdcRef c g
  let th := if g.forming && 3 ≤ g.st && !g.formNew then g.thetaV else s.th
  let om := if g.forming && 3 ≤ g.st && !g.formNew then g.omegaV else g.omega
  let lv := loc.getD s.vp
  let v ← (if g.forming && 3 ≤ g.st then xfm2 c.xfm 2 [lv.1, lv.2, th] else pure (s.d, s.q))
  let dq ← xfm c.xfm 4 [a.ia, a.ib, a.ic, th]
  let id := dq.getD 0 0
  let iq := dq.getD 1 0
  let kp := ratio 3 2
  let p := mulV kp (addV (mulV v.1 id) (mulV v.2 iq))
  let q := mulV kp (subV (mulV v.2 id) (mulV v.1 iq))
  let (g, r, dr) ← (
    if g.st = 4 then do
      let (g, r) ← references c t i (!usable) loc s vdc vref p q g
      if g.ctrl != 1 then track0 (c.lu + 9)
      let (g, dr) ← drive c t a th om v.1 v.2 id iq r g
      pure (g, r, dr)
    else if g.st = 2 ∨ g.st = 3 ∨ g.st = 5 ∨ g.st = 6 then do
      let r := if g.st = 5 then stopRefs t g else ⟨0, 0, 0, 0, false⟩
      track0 (c.lu + 9)
      let (g, dr) ← drive c t a th om v.1 v.2 id iq r g
      let g ← (if g.forming && g.st != 2 then do
          let o := if g.st = 3 && !g.black then g.omega else g.omegaV
          let n ← wrap c.xfm (addV g.thetaV (mulV o t.T))
          pure { g with omegaV := o, thetaV := n }
        else pure g)
      pure (g, r, dr)
    else do
      if g.st = 7 then do
        stageZero (bridge c g)
        release c.lu [1, 2, 3, 4, 5, 6, 7, 8, 9, 10]
      else rest c g
      pure ({ g with idRef := 0, iqRef := 0, ndRef := 0, nqRef := 0, plim := false },
        (⟨0, 0, 0, 0, false⟩ : Refs), (⟨0, 0, false⟩ : Drive)))
  let g := if g.st = 5 ∧ lt (hypot id iq) (mulV (ratio 2 100) (g.p 0x20)) then enter t 6 g else g
  -- a function that was told to stop and is not running (any more) enters FAULT (R491)
  let g := if t.fnstop && (1 ≤ g.st && g.st ≤ 3 || g.st == 6) then toFault t stopCause g else g
  relays g
  let rdy := readyNow vdc g
  if rdy then ready
  if g.st = 6 && decide (g.since + ms (g.n 0x38) + t.dt ≤ t.now) then stopped
  -- the status block
  let g := { g with pNow := p, vdcNow := vdc }
  let pw ← pccPower c t pcc.ab g
  let scan ← scanning c
  let iw ← instWords c
  let cfg := bitsN (g.n 0) 3 2 == 3 || (2 ≤ bitsN (g.n 0) 1 0 && !g.vloc) || g.rt.found
  let vp := Ride.vPeak (g.p 0x14)
  let fl := flag 0 g.lock + flag 1 s.blind + flag 2 (!usable && loc.isSome) + flag 3 r.ilim + flag 4 dr.ovmod + flag 5 g.harmOff
    + flag 6 scan + flag 7 g.plim + flag 8 g.dpend + flag 9 g.clamped + flag 10 cfg + flag 11 rdy
  let n (x : Nat) : Word := BitVec.ofNat 32 x
  putTs 1 0 ([n (g.st + 256 * g.cause), n fl, freq g, divV s.mp vp, divV s.mn vp, p, q, vdc, vref, g.age, pw.1, pw.2] ++ iw
    ++ [n (rtStat i (g.forming || g.rt.island) g.rt), n (g.rt.span / 500), g.rt.vlv, g.rt.vhv, g.rt.rocof, g.rt.vshift, g.rt.vref,
      n (g.rt.starts.filter (fun x => decide (t.now < x + 500000000 * g.n 0xC0))).length])
  keep (.gc g)

/-- GC_MON, one block (R303, R309): in HALT, where GC_CTL does not run, it writes the status block. The parameters come from
table item 0; the frequency estimate is a value the manual gives no rule for there: a free value. The last trip cause, T_D,
V_REF_RT and RT_COUNT are those of the instance's last block of GC_CTL; no band is left and nothing else is evaluated. -/
def mon (c : GcInst) : Lib Unit := do
  let t ← time
  if t.mode != 3 then pure ()
  else do
    let raw ← getTs 0 0 67
    let g := { init c.vref.toNat t.mode with par := (fitAll pars raw).1 }
    let g := { g with omega := rad (g.p 0x10) }
    let k ← kept
    let sg := match k with
      | some (.gm s) => s.sogi
      | _ => ⟨0, 0, 0, 0⟩
    let core := g.n 4 % 4
    let i3 ← sample3 core (bitsN (g.n 4) 7 4)
    let vdc ← sample core (bitsN (g.n 4) 11 8)
    let pcc ← readPcc c t g
    let w := mulV g.omega t.T
    let sg ← (match pcc.ab with
      | some v => pure (sogiStep w (g.p 0x40) v sg)
      | none => sogiTurn c.xfm w sg)
    let s ← sequences c.xfm sg
    let f ← free
    let last ← other (fun s => match s with
      | .gc x => if x.inst = c.vref.toNat then some x else none
      | _ => none)
    let lg := last.getD g
    let pw ← pccPower c t pcc.ab g
    let iw ← instWords c
    let cl ← xfm c.xfm 0 [i3.1, i3.2.1, i3.2.2]
    let ia := cl.getD 0 0
    let ib := cl.getD 1 0
    let kp := ratio 3 2
    let p := mulV kp (addV (mulV s.1.1 ia) (mulV s.1.2 ib))
    let q := mulV kp (subV (mulV s.1.2 ia) (mulV s.1.1 ib))
    let vp := Ride.vPeak (g.p 0x14)
    let n (x : Nat) : Word := BitVec.ofNat 32 x
    let ll := Ride.vLL s.1 s.2 (g.p 0x14)
    let l (k : Nat) := ll.getD k 0
    let ended := lg.rt.starts.filter (fun x => decide (t.now < x + 500000000 * g.n 0xC0))
    putTs 1 0 ([n (256 * lg.cause), 0, f, divV (hypot s.1.1 s.1.2) vp, divV (hypot s.2.1 s.2.2) vp, p, q, vdc, g.p 0x70,
      pcc.age.getD 0, pw.1, pw.2] ++ iw
      ++ [0x00FFFF00, n (lg.rt.span / 500), min3 (l 0) (l 1) (l 2), max3 (l 0) (l 1) (l 2), 0, 0, lg.rt.vref, n ended.length])
    keep (.gm ⟨sg⟩)

end Sys2Proof.Machine.Grid
end

