-- ==== Sys2Proof/Machine/LibDcPort.lean ====
section
/-! DEFINITION. LibDcPort.lean: the DC-port library program's task DP_CTL (R350 to R368). -/

namespace Sys2Proof.Machine

/-- A parameter in use, by its offset (R353). -/
def DpState.p (g : DpState) (off : Nat) : Word := g.par.getD (off / 4) 0
def DpState.n (g : DpState) (off : Nat) : Nat := (g.p off).toNat
/-- CFG fields. -/
def DpState.nPh (g : DpState) : Nat := bitsN (g.n 0) 3 0
def DpState.phMode (g : DpState) : Nat := min 2 (bitsN (g.n 0) 5 4)
def DpState.app (g : DpState) : Nat := bitsN (g.n 0) 7 6 % 3
def DpState.src (g : DpState) : Nat := bitsN (g.n 0) 9 8 % 3
/-- Shedding is in use (R351, R359). -/
def DpState.sheds (g : DpState) : Bool := (g.n 0).testBit 10 && g.phMode != 2
/-- FLAGS.CFG (R351): shedding asked for in SYNC, or a field with no meaning. -/
def DpState.cfgBad (g : DpState) : Bool :=
  ((g.n 0).testBit 10 && g.phMode == 2) || bitsN (g.n 0) 5 4 == 3 || bitsN (g.n 0) 7 6 == 3 || bitsN (g.n 0) 9 8 == 3
/-- A phase is active (R360). -/
def DpState.on (g : DpState) (k : Nat) : Bool := g.mask.testBit k
/-- N: the number of active phases. -/
def DpState.count (g : DpState) : Nat := ((List.range g.nPh).filter g.on).length

end Sys2Proof.Machine

namespace Sys2Proof.Machine.DcPort

open Sys2Proof.Machine Lib Fp

/-! ### Parameters (R353) -/

def pars : List Par :=
  let r := ratio
  let k (v : Word) : (Nat → Word) → Word := fun _ => v
  let at' (off : Nat) : (Nat → Word) → Word := fun g => g (off / 4)
  let nph (g : Nat → Word) : Nat := (g 0).toNat % 16
  let cfg (g : Nat → Word) : Word :=
    BitVec.ofNat 32 ((g 0).toNat - nph g + min 12 (max 1 (nph g)))
  let cid (g : Nat → Word) : Word := BitVec.ofNat 32 (min 0x7F0 ((g 39).toNat / 16 * 16))
  [⟨0, true, true, cfg, cfg⟩, pu 1 true 0 0xFFFFFFFF, pu 2 true 0 0xFFFFFFFF, pf 3 true 0 pInf, Grid.pg 4 true (at' 0xC) (k pInf),
    Grid.pg 5 true (fun g => if bitsN (g 0).toNat 5 4 = 1 then 0 else g 4) (k pInf), pf 6 true 0 pInf,
    Grid.pg 7 true (at' 0x18) (k pInf), Grid.pg 8 true (k 0) (fun g => mulV (ofNat (nph g)) (g 6)),
    pf 9 true (neg (ofNat 40)) (ofNat 200), ⟨39, true, true, cid, cid⟩] ++
  [pf 10 false (r 5 100) (r 9 10), Grid.pg 11 false (fun g => addV (g 10) (r 1 10)) (k one), pu 12 false 1 100,
    ⟨13, false, true, fun _ => 1, fun g => BitVec.ofNat 32 (nph g)⟩, pf 14 false (r 1 10) (ofNat 100), pf 15 false (r 2 100) one,
    pu 16 false 10 10000, pf 17 false (r 1 100) (ofNat 50), pu 18 false 1 65535, Grid.puOff 19 false 10 60000,
    Grid.pg 24 false (at' 0xC) (at' 0x10), Grid.pg 25 false (k 0) (at' 0x20), Grid.pg 26 false (k 0) (at' 0x20),
    Grid.puOff 27 false 50 10000, Grid.pg 28 false (k 0) (at' 0x20), pu 29 false 10 600000, pf 30 false (r 1 10) (ofNat 10000)] ++
  [pu 31 false 5 1000, pf 32 false (r 1 10) (ofNat 50), Grid.pg 33 false (at' 0xC) (at' 0x10), Grid.pg 34 false (at' 0x84) (at' 0x10),
    Grid.puOff 35 false 10 3600, pu 36 false 500 10000, pf 37 false 0 (r 2 10), pf 38 false (r 1 100) (ofNat 1000),
    pu 40 false 10 1000, pu 41 false 1 1000]

def init (inst mode : Nat) : DpState where
  inst := inst
  par := []
  clamped := false
  dpend := false
  frame := 0
  prevMode := mode
  st := 0
  cause := 0
  since := 0
  vref := 0
  cmd := none
  lastSeq := none
  seenSeq := none
  cmdAt := 0
  vcmdUpd := 0
  bmsUpd := 0
  bms := none
  bmsAt := 0
  supLog := []
  supCnt := 0
  settled := false
  settleRun := 0
  mask := 0
  shedFrom := none
  cc := false
  done := false
  doneFrom := none
  imb := false
  imbFrom := none
  imbLow := none
  iTot := 0
  iHi := 0
  iLo := 0
  lost := 0
  vpBad := 0
  busBad := 0
  phFail := []
  statAt := 0
  recCount := 0
  iPort := 0
  vPort := 0

/-- Parameters for a frame (R306, R353). -/
def takeFrame (t : Time) (g : DpState) : Lib (DpState × Bool) :=
  if g.frame = t.frame then pure (g, false)
  else do
    let raw ← getTs 0 0 42
    let idle := g.st == 0
    let r := takePars pars idle g.par raw
    pure ({ g with frame := t.frame, par := r.1, clamped := r.2.1, dpend := !idle && (g.dpend || r.2.2) }, true)

/-! ### Commands and BMS limits (R356, R361, R364) -/

/-- The BMS frame in force (R356). -/
def fresh (t : Time) (g : DpState) : Option BmsLimit :=
  match g.bms with
  | none => none
  | some l => if g.n 0x6C = 0 ∨ t.now < g.bmsAt + ms (g.n 0x6C) then some l else none

/-- V_CAP (R356). -/
def vCap (t : Time) (g : DpState) : Word :=
  match fresh t g with
  | some l => minV (g.p 0x60) l.vmax
  | none => g.p 0x60

/-- The RESULT of a command's validation (R361, R364): 0 where it is taken. -/
def validate (t : Time) (g : DpState) (c : DpCmd) : Nat :=
  let bad (x : Word) : Bool := !isFinite x
  if bad c.v || lt c.v (g.p 0xC) || gt c.v (g.p 0x10) || (g.app == 1 && gt c.v (vCap t g)) then 2
  else if bad c.slew || lt c.slew (ratio 1 100) || gt c.slew (ofNat 1000) then 3
  else if bad c.ilim || lt c.ilim 0 then 4
  else if g.st == 7 || g.st == 4 then 5
  else 0

/-- A new command in order of arrival (R361): its RESULT. CMD_TMO counts from its arrival, taken or not (R363). -/
def offer (t : Time) (c : DpCmd) (g : DpState) : DpState × Nat :=
  let g := { g with cmdAt := if g.seenSeq = some c.seq then g.cmdAt else t.now, seenSeq := some c.seq }
  let r := validate t g c
  if r != 0 then (g, r)
  else
    let same := match g.cmd with
      | some o => o.v == c.v && o.slew == c.slew && o.ilim == c.ilim
      | none => false
    let g := { g with lastSeq := some c.seq, done := false, doneFrom := none }
    if same then (g, 0)
    else
      let g := match g.cmd with
        | some o => if g.settled then g else { g with supLog := (o :: g.supLog).take 4, supCnt := g.supCnt + 1 }
        | none => g
      ({ g with cmd := some c, settled := false, settleRun := 0 }, 0)

/-- A received row of the port: its UPD and data where it holds a frame not yet seen. -/
def newRow (w seen : Nat) : Lib (Option (Nat × List Word)) := do
  let u ← getT 2 w
  if u.toNat % 2 = 1 ∨ u.toNat = seen then pure none
  else do
    let d ← getTs 2 (w + 2) 4
    pure (some (u.toNat, d))

/-- An ACK (R364). -/
def ack (w : Nat) (seq msg result : Nat) (g : DpState) : Lib Unit :=
  putTs 2 w [BitVec.ofNat 32 (seq + msg * 256 + result * 65536), g.vref]

/-- A VCMD frame that has arrived is taken or rejected, and acknowledged. -/
def takeVcmd (t : Time) (g : DpState) : Lib DpState := do
  let r ← newRow 0 g.vcmdUpd
  match r with
  | none => pure g
  | some (u, d) => do
    let g := { g with vcmdUpd := u }
    let seq := (d.getD 0 0).toNat % 256
    let c : DpCmd := ⟨BitVec.ofNat 32 seq, d.getD 1 0, d.getD 2 0, d.getD 3 0⟩
    let (g, res) :=
      if g.src != 1 then (g, 6)
      else if g.lastSeq = some c.seq then ({ g with cmdAt := t.now }, 1)
      else offer t c g
    ack 16 seq 0 res g
    pure g

/-- A BMS frame that has arrived. -/
def takeBms (t : Time) (g : DpState) : Lib DpState := do
  let r ← newRow 8 g.bmsUpd
  match r with
  | none => pure g
  | some (u, d) => do
    let g := { g with bmsUpd := u }
    let w := (d.getD 0 0).toNat
    let v := d.getD 1 0
    let ch := d.getD 2 0
    let di := d.getD 3 0
    if [v, ch, di].any (fun x => isNaN x || lt x 0) then do
      ack 18 (w % 256) 1 4 g
      pure g
    else do
      let l : BmsLimit := ⟨v, if w.testBit 8 then ch else 0, if w.testBit 9 then di else 0⟩
      let raises := match g.bms with
        | some o => gt v o.vmax
        | none => false
      let g := { g with
        bms := some l, bmsAt := t.now, done := g.done && !raises, doneFrom := if raises then none else g.doneFrom }
      ack 18 (w % 256) 1 0 g
      pure g

/-- A command block of four words: SEQ, V, SLEW, I_LIM. -/
def takeBlock (t : Time) (d : List Word) (g : DpState) : DpState :=
  let c : DpCmd := ⟨d.getD 0 0, d.getD 1 0, d.getD 2 0, d.getD 3 0⟩
  if g.lastSeq = some c.seq then g else (offer t c g).1

/-- The commands of a period. -/
def commands (t : Time) (g : DpState) : Lib DpState := do
  let g ← takeBms t g
  let g ← takeVcmd t g
  if g.src = 0 then pure (takeBlock t [g.p 0x50, g.p 0x54, g.p 0x58, g.p 0x5C] g)
  else if g.src = 2 then do
    let d ← getTs 3 0 4
    pure (takeBlock t d g)
  else pure g

/-! ### Trips (R368) -/

/-- What a period measures: phase currents, V_PORT, V_BUS, temperatures where configured. -/
structure Meas where
  i : List Word
  vp : Word
  vb : Word
  temps : List (Option Word)

def Meas.ik (x : Meas) (k : Nat) : Word := x.i.getD k 0

/-- Phase currents from a slot on. -/
def currents (core slot : Nat) : Nat → Lib (List Word)
  | 0 => pure []
  | n + 1 => do
    let v ← sample core slot
    let r ← currents core (slot + 1) n
    pure (v :: r)

/-- Temperature `j` (R353). -/
def temperature (g : DpState) (j : Nat) : Lib (Option Word) :=
  let b := g.n 8 / 256 ^ j % 256
  if b = 0xFF then pure none
  else do
    let v ← sample (bitsN b 5 4) (bitsN b 3 0)
    pure (some v)

def measure (g : DpState) : Lib Meas := do
  let core := g.n 4 % 4
  let i ← currents core (bitsN (g.n 4) 7 4) g.nPh
  let vp ← sample core (bitsN (g.n 4) 11 8)
  let vb ← sample core (bitsN (g.n 4) 15 12)
  let t0 ← temperature g 0
  let t1 ← temperature g 1
  let t2 ← temperature g 2
  let t3 ← temperature g 3
  pure ⟨i, vp, vb, [t0, t1, t2, t3]⟩

/-- A sum of currents. -/
def total (l : List Word) : Word := l.foldl addV 0

/-- The counts behind the causes. -/
def counts (x : Meas) (g : DpState) : DpState :=
  let live := 1 ≤ g.st && g.st ≤ 3
  let share := divV g.iTot (ofNat g.count)
  let weak (k : Nat) : Bool :=
    (g.st == 2 || g.st == 3) && g.on k && gt share (mulV (ratio 2 10) (g.p 0x18)) && lt (Fp.abs (x.ik k)) (mulV (ratio 1 10) share)
  { g with vpBad := if live && gt x.vp (g.p 0x10) then g.vpBad + 1 else 0
           busBad := if g.st == 2 && lt x.vb (g.p 0x14) then g.busBad + 1 else 0
           phFail := (List.range g.nPh).map (fun k => if weak k then g.phFail.getD k 0 + 1 else 0) }

/-- The causes that stand, in the order of R368: cause, source, phase. -/
def causes (x : Meas) (g : DpState) : List (Nat × Nat × Nat) :=
  if !(1 ≤ g.st && g.st ≤ 3) then [] else
  let ks := List.range g.nPh
  let first (p : Nat → Bool) (c src : Nat) : List (Nat × Nat × Nat) :=
    match ks.find? p with
    | some k => [(c, src, k)]
    | none => []
  first (fun k => gt (Fp.abs (x.ik k)) (g.p 0x1C)) 1 FS.DP_OVERCURRENT
    ++ (if 3 ≤ g.vpBad then [(2, FS.DP_OVERVOLTAGE, 0)] else [])
    ++ (if 3 ≤ g.busBad then [(3, FS.DP_BUS, 0)] else [])
    ++ first (fun k => g.n 0xA4 ≤ g.phFail.getD k 0) 4 FS.DP_PHASE
    ++ (if x.temps.any (fun o => o.any (fun v => gt v (g.p 0x24))) then [(5, FS.DP_TEMP, 0)] else [])
    ++ (if g.lost != 0 && g.st == 2 && isZero g.iHi && isZero g.iLo then [(g.lost, FS.DP_CMD_LOST, 0)] else [])

/-- A trip (R366, R368), or the end of a function stop (R491): FAULT, the record, and CAN FAULT. -/
def trip (c : DpInst) (x : Meas) (t : Time) (cause phase : Nat) (g : DpState) : Lib DpState := do
  let n (v : Nat) : Word := BitVec.ofNat 32 v
  let cm := g.cmd.getD ⟨0, 0, 0, 0⟩
  let ws : List Word :=
    [n (cause + 256 * phase), n (g.mask + 65536 * g.count), n g.st, x.vp, x.vb, g.vref, g.iPort]
      ++ (List.range 12).map x.ik ++ x.temps.map (fun o => o.getD qNaN) ++ [cm.v, cm.slew, cm.ilim, cm.seq, n g.recCount]
  onBlk (fun b => { b with st := { b.st with recs := b.st.recs ++ [(c.port.val, ws.flatMap (fun w => leBytes 4 w.toNat))] } })
  putTs 2 48 [n (cause + 256 * phase), x.vp, g.iPort, x.vb]
  pure { g with st := 7, cause := cause, since := t.now, recCount := g.recCount + 1, mask := 2 ^ g.nPh - 1, lost := 0 }

/-! ### The state machine (R367) -/

def enter (t : Time) (st : Nat) (g : DpState) : DpState := { g with st := st, since := t.now }

def machine (t : Time) (first : Bool) (x : Meas) (g : DpState) : DpState :=
  let idle := t.mode != 6 && t.mode != 7
  let g := if idle && (g.st != 7 || first) && g.st != 0 then enter t 0 g else g
  let g := if g.st == 0 then { g with dpend := false } else g
  let g := if g.st == 0 && t.mode == 6 && g.prevMode != 6 then enter t 1 g else g
  let g := if g.st == 1 && t.mode == 7 then
      { enter t 2 g with
        vref := x.vp, mask := 2 ^ g.nPh - 1, shedFrom := none, settled := false, settleRun := 0, lost := 0
        phFail := [], imbFrom := none, imbLow := none, doneFrom := none }
    else g
  let g := if g.st == 2 && t.stopping then
      let a := Fp.abs g.iPort
      { enter t 3 g with iHi := minV g.iHi a, iLo := maxV g.iLo (neg a) }
    else g
  { g with prevMode := t.mode }

/-- The conditions of READY (R367). -/
def readyNow (t : Time) (x : Meas) (g : DpState) : Bool :=
  g.st == 1 && ge x.vb (g.p 0x14) && ge x.vp (g.p 0xC) && le x.vp (g.p 0x10) && g.cmd.isSome
    && (g.n 0x6C == 0 || (fresh t g).isSome) && !g.cfgBad

/-! ### The control law (R355 to R362) -/

/-- T in ms. -/
def tMs (t : Time) : Word := ratio (2 * t.dt : Nat) 1000000

/-- V_REF moves toward its target (R357, R362). -/
def slewRef (c : DpInst) (t : Time) (x : Meas) (entered : Bool) (g : DpState) : Lib (DpState × Word) := do
  let cap := vCap t g
  let cm := g.cmd.getD ⟨0, x.vp, 0, 0⟩
  let tgt ← (if g.app = 2 then ldy c.vref.toNat
    else pure (if g.app = 1 then minV cm.v cap else cm.v))
  let sl := if g.app = 2 then g.p 0x98 else cm.slew
  let v := if entered then g.vref else toward g.vref tgt (mulV sl (tMs t))
  let v := if g.app = 1 && gt v cap then cap else v
  let ok := v == tgt && le (Fp.abs (subV x.vp tgt)) (g.p 0x44)
  let n := if ok then g.settleRun + 1 else 0
  pure ({ g with vref := v, settleRun := n, settled := g.settled || decide (g.n 0x48 ≤ n) }, tgt)

/-- I_HI and I_LO by R356, PHMODE laid over them. -/
def limits (t : Time) (g : DpState) : Word × Word :=
  let il := match g.cmd with
    | some c => minV c.ilim (g.p 0x20)
    | none => 0
  let l := fresh t g
  let hi := if g.app = 2 then 0 else if g.app = 1 then
      (if g.done then 0 else minV (minV il (g.p 0x64)) ((l.map (·.chg)).getD pInf)) else il
  let lo := if g.app = 1 then neg (minV (minV il (g.p 0x68)) ((l.map (·.dis)).getD pInf)) else neg il
  (if g.phMode = 1 then minV hi 0 else hi, if g.phMode = 0 then maxV lo 0 else lo)

/-- Limits that ramp toward 0 at STOP_RAMP (R363, R367). -/
def ramped (t : Time) (g : DpState) (l : Word × Word) : Word × Word :=
  let d := mulV (g.p 0x78) (tMs t)
  (minV l.1 (toward g.iHi 0 d), maxV l.2 (toward g.iLo 0 d))

/-- Phase shedding (R359): the state, and whether N changes. -/
def shed (t : Time) (x : Meas) (g : DpState) : DpState × Bool :=
  if !g.sheds || g.st != 2 then (g, false)
  else
    let all := 2 ^ g.nPh - 1
    let n := g.count
    let a := Fp.abs g.iPort
    let load := gt a (mulV (mulV (g.p 0x2C) (g.p 0x18)) (ofNat n)) || gt (Fp.abs (subV g.vref x.vp)) (g.p 0x38)
    let can := g.n 0x34 < n && lt a (mulV (mulV (g.p 0x28) (g.p 0x18)) (ofNat (n - 1)))
    if load then
      ({ g with mask := all, shedFrom := none }, g.mask != all)
    else if !can then ({ g with shedFrom := none }, false)
    else
      let f := g.shedFrom.getD t.now
      if ran (some f) t.now (ms (g.n 0x30)) then
        let top := ((List.range g.nPh).filter g.on).getLast?.getD 0
        ({ g with mask := setBitN g.mask top false, shedFrom := some t.now }, true)
      else ({ g with shedFrom := some f }, false)

/-- CMPA of a phase from its h (R351). -/
def stagePhase (c : DpInst) (g : DpState) (k : Nat) (h : Word) : Lib Unit :=
  duty ((c.phases.getD k 0).val) (if g.phMode = 1 then subV one h else h)

/-- A phase that is off: CMPA 0, its unit TRACKed to 0. -/
def phaseOff (c : DpInst) (k : Nat) : Lib Unit := do
  duty ((c.phases.getD k 0).val) 0
  track0 (c.lu + 1 + k)

/-- The phase loops (R355): an active phase takes I_TOT / N. -/
def phases (c : DpInst) (x : Meas) (g : DpState) (ff share : Word) : List Nat → Lib Unit
  | [] => pure ()
  | k :: r => do
    if g.on k then do
      let u ← step (c.lu + 1 + k) (subV share (x.ik k)) 0
      let raw := addV ff u
      let h := clampV raw 0 one
      if !eq h raw then do
        let _ ← track (c.lu + 1 + k) (subV h ff) 0
        pure ()
      stagePhase c g k h
    else phaseOff c k
    phases c x g ff share r

/-- PHASE = j / N for the j-th active phase (R360). -/
def spread (c : DpInst) (g : DpState) (n : Nat) : List Nat → Nat → Lib Unit
  | [], _ => pure ()
  | k :: r, j => do
    if g.on k then do
      pwstF 1 ((c.phases.getD k 0).val) (divV (ofNat j) (ofNat n))
      spread c g n r (j + 1)
    else spread c g n r j

/-- All phases off. -/
def allOff (c : DpInst) : List Nat → Lib Unit
  | [] => pure ()
  | k :: r => do
    phaseOff c k
    allOff c r

/-- The units of phases beyond N_PH are TRACKed to 0 (R354). -/
def beyond (c : DpInst) : List Nat → Lib Unit
  | [] => pure ()
  | k :: r => do
    track0 (c.lu + 1 + k)
    beyond c r

/-- Imbalance (R358): IMB, and DP_IMBALANCE once as the flag sets. -/
def imbalance (t : Time) (x : Meas) (g : DpState) : Lib (DpState × Word) := do
  let mean := divV g.iPort (ofNat g.count)
  let v := ((List.range g.nPh).filter g.on).foldl (fun w k =>
    maxV w (divV (Fp.abs (subV (x.ik k) mean)) (g.p 0x18))) 0
  let g := { g with
    imbFrom := since (gt v (g.p 0x3C)) g.imbFrom t.now
    imbLow := since (lt v (mulV (ratio 8 10) (g.p 0x3C))) g.imbLow t.now }
  if !g.imb && ran g.imbFrom t.now (ms (g.n 0x40)) then do
    evt FS.DP_IMBALANCE 0
    pure ({ g with imb := true }, v)
  else if g.imb && ran g.imbLow t.now (ms (g.n 0x40)) then pure ({ g with imb := false }, v)
  else pure (g, v)

/-- DONE (R356): constant-voltage charge below I_TERM for TERM_T. -/
def term (t : Time) (g : DpState) : DpState :=
  let on := g.app == 1 && gt (g.p 0x70) 0 && !g.cc && lt (Fp.abs g.iPort) (g.p 0x70)
  let f := since on g.doneFrom t.now
  { g with doneFrom := f, done := g.done || ran f t.now (ms (g.n 0x74)) }

/-- A period of RUN or STOPPING (R355): the state, V_T and IMB. -/
def control (c : DpInst) (t : Time) (x : Meas) (entered : Bool) (g : DpState) : Lib (DpState × Word × Word) := do
  let (g, tgt) ← slewRef c t x entered g
  let g := if g.st = 2 && g.lost = 0 then
      (if g.n 0x4C != 0 && decide (g.cmdAt + ms (g.n 0x4C) ≤ t.now) then { g with lost := 6 }
       else if g.n 0x6C != 0 && decide (g.bmsAt + ms (g.n 0x6C) ≤ t.now) then { g with lost := 7 }
       else g)
    else g
  let l0 := limits t g
  let l := if g.st = 3 || g.lost != 0 then ramped t g l0 else l0
  let raw ← step c.lu (subV g.vref x.vp) 0
  let cc := gt raw l.1 || lt raw l.2
  let it := if cc then clampV raw l.2 l.1 else raw
  if cc then do
    let _ ← track c.lu it 0
    pure ()
  let g := { g with iTot := it, cc := cc, iHi := l.1, iLo := l.2 }
  let (g, changed) := shed t x g
  let n := g.count
  let ff := clampV (divV x.vp x.vb) 0 one
  phases c x g ff (divV it (ofNat n)) (List.range g.nPh)
  if changed || entered then spread c g n (List.range g.nPh) 0
  let g := term t g
  let (g, imb) ← imbalance t x g
  pure (g, tgt, imb)

/-- FLAGS of the status block and of STATUS. The manual names them and gives no bit (DESIGN CHOICE, log 76). -/
def flags (g : DpState) (rdy : Bool) : Nat :=
  flag 0 rdy + flag 1 g.cc + flag 2 g.settled + flag 3 g.shedFrom.isSome + flag 4 g.done + flag 5 g.imb + flag 8 g.dpend
    + flag 9 g.clamped + flag 10 g.cfgBad

/-- DP_CTL, one block (R350 to R368). The layout of its status block is the model's (DESIGN CHOICE, log 76). -/
def ctl (c : DpInst) : Lib Unit := do
  let t ← time
  let k ← kept
  let g0 := match k with
    | some (.dp s) => s
    | _ => init c.vref.toNat t.mode
  let (g, first) ← takeFrame t g0
  let x ← measure g
  let g := { g with iPort := total ((List.range g.nPh).map (fun k => if g.st != 2 && g.st != 3 || g.on k then x.ik k else 0))
                    vPort := x.vp }
  let g ← commands t g
  let was := g.st
  let g := machine t first x g
  let entered := g.st == 2 && was != 2
  let g := counts x g
  let cs := causes x g
  Grid.stageCauses cs
  let g ← (match cs with
    | [] => pure g
    | q :: _ => trip c x t q.1 q.2.2 g)
  let (g, tgt, imb) ← (if g.st = 2 ∨ g.st = 3 then control c t x entered g
    else do
      allOff c (List.range g.nPh)
      track0 c.lu
      pure ({ g with iTot := 0, cc := false }, (g.cmd.map (·.v)).getD 0, (0 : Word)))
  beyond c ((List.range c.phases.length).filter (fun k => decide (g.nPh ≤ k)))
  let g := if g.st = 3 ∧ lt (Fp.abs g.iPort) (mulV (ratio 2 100) (g.p 0x20)) then enter t 4 g else g
  let g ← (if t.fnstop && (g.st == 1 || g.st == 4) then trip c x t stopCause 0 g else pure g)
  if g.st = 4 then stopped
  let rdy := readyNow t x g
  if rdy then ready
  let n (v : Nat) : Word := BitVec.ofNat 32 v
  let fl := flags g rdy
  let g ← (if g.statAt ≤ t.now then do
      putTs 2 32 [n (g.st + 256 * g.count + 65536 * (fl % 65536)), x.vp, g.iPort, g.vref, tgt, g.iHi]
      pure { g with statAt := t.now + ms (g.n 0xA0) }
    else pure g)
  let e ← ask (fun _ e _ => e)
  let pa ← tblWord 0 0 false
  let sa ← tblWord 1 0 false
  let logW := (List.range 4).flatMap (fun k => match g.supLog[k]? with
    | some o => [o.v, o.slew, o.ilim, o.seq]
    | none => [0, 0, 0, 0])
  putTs 1 0 ([n (g.st + 256 * g.cause), n fl, n (g.mask + 65536 * g.count), x.vp, x.vb, g.iPort, g.vref, tgt, g.iHi, g.iLo, g.iTot,
    imb, n g.supCnt] ++ logW ++ [n e, n c.port, n c.group, n c.lu, n c.can, n pa, n sa])
  keep (.dp g)

end Sys2Proof.Machine.DcPort
end

