-- ==== Sys2Proof/Machine/Metering.lean ====
section
/-! DEFINITION. Metering.lean: metering points, correction, allocation, demand, snapshots and pulse outputs (R419 to R434).
Powers are exact numbers in units of 2^-320 W; energies are in units of 2^-32 µWh, µvarh or µVAh (R420). -/

namespace Sys2Proof.Machine

open Xfm (fix S T)

/-! ### Correction (R421 to R423) -/

/-- Word `w` of entry `i` of the correction table of channel `c` of point `n` in a copy (R421). -/
def Module.corrWord (m : Module) (copy n c i w : Nat) : Word :=
  m.mw (0x01890000 + 0x2000 * copy + 0x480 * n + 0xC0 * c + 12 * i + 4 * w)

/-- The entries of a table before its first NaN: TEMP, RATIO, PHASE. -/
def Module.corrTable (m : Module) (copy n c : Nat) : List (Word × Word × Word) :=
  ((List.range 16).map (fun i => (m.corrWord copy n c i 0, m.corrWord copy n c i 1, m.corrWord copy n c i 2))).takeWhile
    (fun e => !Fp.isNaN e.1)

/-- TEMP values rise strictly. -/
def risingTemps : List (Word × Word × Word) → Bool
  | a :: b :: r => Fp.lt a.1 b.1 && risingTemps (b :: r)
  | _ => true

/-- A table is valid (R423). -/
def corrValid (t : List (Word × Word × Word)) : Bool :=
  risingTemps t && t.all (fun e => Fp.isFinite e.2.1 && Fp.isFinite e.2.2)

/-- Every table of a copy is valid (R423). -/
def Module.corrCopyOk (m : Module) (copy : Nat) : Bool :=
  (List.range 4).all (fun n => (List.range 6).all (fun c => corrValid (m.corrTable copy n c)))

/-- Linear interpolation between two points, and the nearer end's value outside them. -/
def lerp (t0 y0 t1 y1 t : Int) : Int := if t1 ≤ t0 then y0 else y0 + (y1 - y0) * (t - t0) / (t1 - t0)

/-- A table's value at temperature `t` (R422); an empty table applies no correction. -/
def corrAt (sel : Word × Word × Word → Word) : List (Word × Word × Word) → Int → Int
  | [], _ => 0
  | [a], _ => fix (sel a)
  | a :: b :: r, t =>
    if t ≤ fix a.1 then fix (sel a)
    else if t ≤ fix b.1 then lerp (fix a.1) (fix (sel a)) (fix b.1) (fix (sel b)) t
    else corrAt sel (b :: r) t

/-- The temperature word of a channel (R421, R422): one that is not finite is taken as +23.0 °C. -/
def Module.corrTemp (m : Module) (n c : Nat) : Word := m.mw (0x01894000 + 0x18 * n + 4 * c)
def corrT (w : Word) : Int := if Fp.isFinite w then fix w else 23 * 2 ^ S

/-- r(T) and φ(T) of a channel, from the active copy. -/
def Module.corr (m : Module) (n c : Nat) : Int × Int :=
  let t := corrT (m.corrTemp n c)
  let tab := m.corrTable (m.rf R.MTR_CORR F.MTR_CORR_ACT) n c
  (corrAt (·.2.1) tab t, corrAt (·.2.2) tab t)

/-- 1 + r·10^-6, in units of 2^-320 · 10^-6. -/
def onePlus (r : Int) : Int := 1000000 * 2 ^ S + r

/-- A corrected phase (R422): P′, Q′ and I′ in units of 2^-320. -/
def Module.correct (m : Module) (n x : Nat) (p q i : Int) : Int × Int × Int :=
  let v := m.corr n x
  let c := m.corr n (3 + x)
  let k := onePlus v.1 * onePlus c.1 / (1000000000000 * 2 ^ (2 * S - T))
  let sc := Xfm.sinCos (Xfm.wrapFix ((v.2 - c.2) / 1000000))
  (k * (p * sc.2 - q * sc.1) / 2 ^ (2 * T), k * (p * sc.1 + q * sc.2) / 2 ^ (2 * T),
    i * onePlus c.1 / onePlus 0)

/-! ### Registers (R420, R425, R427) -/

/-- Wrap counter of energy register `k`. -/
def Module.wrapCount (m : Module) (n k : Nat) : Nat := bitsN (m.rn (R.MTR_MP_W n (k / 2))) (16 * (k % 2) + 15) (16 * (k % 2))

/-- Move whole pulses from an output's accumulator to its queue (R433). -/
def Module.poQueue (m : Module) (o : Nat) : Module :=
  let k := (m.rdE (R.MTR_PO_K o)).toNat
  if k = 0 then m
  else
    let acc := SMap.getD 0 m.mtr.po o
    let pend := m.rf (R.MTR_PO_QUEUE o) F.MTR_PO_QUEUE_PEND
    let q := min (acc / ((k : Int) * 2 ^ 32)).toNat (65535 - pend)
    let m := { m with mtr := { m.mtr with po := SMap.setD 0 m.mtr.po o (acc - (q : Int) * k * 2 ^ 32) } }
    let m := m.wf (R.MTR_PO_QUEUE o) F.MTR_PO_QUEUE_PEND (pend + q)
    let full := pend + q == 65535
    let was := m.flag (R.MTR_PO_QUEUE o) F.MTR_PO_QUEUE_FULL
    let m := m.setFlag (R.MTR_PO_QUEUE o) F.MTR_PO_QUEUE_FULL full
    if full && !was then m.raise FS.MTR_PO_FULL o .none else m

/-- An enabled pulse output follows register `k` of point `n` (R433). -/
def Module.poFollows (m : Module) (o n k : Nat) : Bool :=
  let f (x : Field) := m.cf (R.MTR_PO_CFG o) x
  f F.MTR_PO_CFG_EN == 1 && f F.MTR_PO_CFG_MP == n && 4 * f F.MTR_PO_CFG_QTY + f F.MTR_PO_CFG_PH == k
    && f F.MTR_PO_CFG_QTY < 7 && m.rdE (R.MTR_PO_K o) != 0

/-- Add an increment to energy register `k` of point `n` with its remainder (R420, R427), and to the pulse outputs that
follow it (R433). -/
def Module.addEnergy (m : Module) (n k : Nat) (x : Int) : Module :=
  let whole : Int := ((m.wrapCount n k * 2 ^ 64 + m.rn (R.MTR_MP_E n k)) * 2 ^ 32 + SMap.getD 0 m.mtr.rem (28 * n + k) : Nat)
  let v := ((whole + x) % 2 ^ 112).toNat
  let wraps := v / 2 ^ 96
  let m := { m with mtr := { m.mtr with rem := SMap.setD 0 m.mtr.rem (28 * n + k) (v % 2 ^ 32) } }
  let wrapped := wraps != m.wrapCount n k && decide (0 < x)
  let m := m.wn (R.MTR_MP_E n k) (v / 2 ^ 32 % 2 ^ 64)
  let m := m.wf (R.MTR_MP_W n (k / 2)) ⟨16 * (k % 2) + 15, 16 * (k % 2)⟩ wraps
  let m := if wrapped then m.setFlag (R.MTR_MP_STAT n) F.MTR_MP_STAT_WRAP true else m
  (List.range 8).foldl (fun m o =>
    if m.poFollows o n k then
      let acc := SMap.getD 0 m.mtr.po o + x
      ({ m with mtr := { m.mtr with po := SMap.setD 0 m.mtr.po o acc } } : Module).poQueue o
    else m) m

/-- An energy in 2^-32 µ units: a power in 2^-320 W over a duration in ns. -/
def energyOf (p : Int) (d : Nat) : Int := p * d * 2 ^ 32 / (3600000 * 2 ^ S)

/-- The current interval of a point; the first is irregular (R426). -/
def Interval.init : Interval := ⟨0, 0, [], true, 0⟩
def Module.interval (m : Module) (n : Nat) : Interval := SMap.getD Interval.init m.mtr.cur n
def Module.lastInterval (m : Module) (n : Nat) : Interval := SMap.getD Interval.init m.mtr.last n

/-- NET of a point (R426). -/
def Module.mtrNet (m : Module) (n : Nat) : Bool := m.cflag (R.MTR_MP_CFG n) F.MTR_MP_CFG_NET

/-- Interval length in seconds (R426). -/
def Module.demSeconds (m : Module) (n : Nat) : Nat :=
  let d := m.cf (R.MTR_MP_CFG n) F.MTR_MP_CFG_DEM
  60 * (if d ∈ [1, 2, 3, 4, 5, 6, 10, 12, 15, 20, 30, 60] then d else 15)

/-- An energy over an interval as a demand in W, FP32. -/
def demand (e : Int) (seconds : Nat) : Word := Fp.ratio (e * 3600) (1000000 * 2 ^ 32 * seconds)

/-- Show an ended interval's demand (R426). -/
def Module.showDemand (m : Module) (n : Nat) (i : Interval) : Module :=
  let len := m.demSeconds n
  let net := SMap.getD 0 i.net 3
  let imp := if m.mtrNet n then max net 0 else i.imp
  let exp := if m.mtrNet n then max (-net) 0 else i.exp
  let di := demand imp len
  let m := m.wn (R.MTR_MP_DEM_IMP n) di.toNat
  let m := m.wn (R.MTR_MP_DEM_EXP n) (demand exp len).toNat
  if i.irr then m.setFlag (R.MTR_MP_STAT n) F.MTR_MP_STAT_IRREG true
  else if Fp.gt di (BitVec.ofNat 32 (m.rn (R.MTR_MP_DEM_MAX n))) then
    let m := m.wn (R.MTR_MP_DEM_MAX n) di.toNat
    m.wn (R.MTR_MP_DEM_MAX_T n) ((i.endAt / 1000000000 % 2 ^ 32) <<< 32 + i.endAt % 1000000000)
  else m

/-- Active energy of pair `p` of point `n` (phase 0 to 2, total 3), as import and export increments. Without NET it goes to
the registers; with NET into the signed accumulator of its interval, which for an interval already ended corrects
the net value that was registered (R426). -/
def Module.addActive (m : Module) (n p : Nat) (imp exp : Int) (ended : Bool) : Module :=
  let i := if ended then m.lastInterval n else m.interval n
  let net := SMap.getD 0 i.net p
  let i1 : Interval := { i with net := SMap.setD 0 i.net p (net + imp - exp),
                                imp := if p = 3 then i.imp + imp else i.imp,
                                exp := if p = 3 then i.exp + exp else i.exp }
  let m := if ended then { m with mtr := { m.mtr with last := SMap.setD Interval.init m.mtr.last n i1 } }
    else { m with mtr := { m.mtr with cur := SMap.setD Interval.init m.mtr.cur n i1 } }
  let m :=
    if !m.mtrNet n then (m.addEnergy n p imp).addEnergy n (4 + p) exp
    else if ended then
      let now := net + imp - exp
      (m.addEnergy n p (max now 0 - max net 0)).addEnergy n (4 + p) (max (-now) 0 - max (-net) 0)
    else m
  if ended ∧ p = 3 then m.showDemand n i1 else m

/-! ### One set (R419 to R426) -/

/-- The register quantity of the quadrant of (P, Q) (R425): 2 to 5. -/
def quadrant (p q : Int) : Nat := if 0 ≤ q then (if 0 ≤ p then 2 else 3) else (if p < 0 then 4 else 5)

/-- A gap set (R429). -/
def Module.gapSet (m : Module) (n dur : Nat) : Module :=
  let ns := SMap.getD 0 m.mtr.gapNs n + dur
  let m := m.accum64 (R.MTR_MP_GAP n) (ns / 1000)
  let m := { m with mtr := { m.mtr with gapNs := SMap.setD 0 m.mtr.gapNs n (ns % 1000) } }
  let m := m.setFlag (R.MTR_MP_STAT n) F.MTR_MP_STAT_GAP true
  if SMap.getD 0 m.mtr.gapSec n = m.todSec + 1 then m
  else ({ m with mtr := { m.mtr with gapSec := SMap.setD 0 m.mtr.gapSec n (m.todSec + 1) } } : Module).raise FS.MTR_GAP n .none

/-- The phases that pass the start current, corrected (R424): phase, P′, Q′. -/
def Module.phases (m : Module) (n : Nat) (vals : List Word) : List (Nat × Int × Int) :=
  let v (k : Nat) : Int := fix (vals.getD k 0)
  let sgn : Int := if m.cflag (R.MTR_MP_CFG n) F.MTR_MP_CFG_NEG then -1 else 1
  let st : Int := (min 100 (max 1 (m.cf (R.MTR_MP_CFG n) F.MTR_MP_CFG_ST)) : Nat)
  let inom := fix (BitVec.ofNat 32 (m.rdE (R.MTR_MP_IN n)).toNat)
  (List.range 3).filterMap (fun x =>
    let c := m.correct n x (sgn * v x) (sgn * v (3 + x)) (v (6 + x))
    if c.2.2 * 10000 < st * inom then none else some (x, c.1, c.2.1))

/-- Allocate the phases' powers over a duration (R425), to the current interval or to the one already ended. -/
def Module.allocate (m : Module) (n : Nat) (ph : List (Nat × Int × Int)) (d : Nat) (ended : Bool) : Module :=
  if d = 0 then m
  else
    let app (p q : Int) : Int := (Fp.isqrt (p * p + q * q).toNat : Nat)
    let m := ph.foldl (fun m x =>
      let m := m.addActive n x.1 (max (energyOf x.2.1 d) 0) (energyOf (max (-x.2.1) 0) d) ended
      let m := m.addEnergy n (4 * quadrant x.2.1 x.2.2 + x.1) (energyOf |x.2.2| d)
      m.addEnergy n (24 + x.1) (energyOf (app x.2.1 x.2.2) d)) m
    let pt := (ph.map (·.2.1)).sum
    let qt := (ph.map (·.2.2)).sum
    let per := m.cflag (R.MTR_MP_CFG n) F.MTR_MP_CFG_PER_PHASE
    let imp := if per then (ph.map (fun x => energyOf (max x.2.1 0) d)).sum else energyOf (max pt 0) d
    let exp := if per then (ph.map (fun x => energyOf (max (-x.2.1) 0) d)).sum else energyOf (max (-pt) 0) d
    let m := m.addActive n 3 imp exp ended
    let m := if per then
        ph.foldl (fun m x => m.addEnergy n (4 * quadrant x.2.1 x.2.2 + 3) (energyOf |x.2.2| d)) m
      else m.addEnergy n (4 * quadrant pt qt + 3) (energyOf |qt| d)
    m.addEnergy n 27 ((ph.map (fun x => energyOf (app x.2.1 x.2.2) d)).sum)

/-- A demand interval ends (R426): the net values are registered, the demand values set. It ends at a whole multiple of its
length in the time of day: nothing ends where none has come since the interval began. -/
def Module.intervalEnd (m : Module) (n : Nat) : Module :=
  let len := m.demSeconds n * 1000000000
  if !m.cflag (R.MTR_MP_CFG n) F.MTR_MP_CFG_EN || m.todNanos / len * len ≤ (m.interval n).endAt then m
  else
    let i := m.interval n
    let i := { i with endAt := m.todNanos / len * len, irr := i.irr || !m.flag R.CLK_STAT F.CLK_STAT_TOD_VALID }
    let m := if m.mtrNet n then
        (List.range 4).foldl (fun m p =>
          let v := SMap.getD 0 i.net p
          (m.addEnergy n p (max v 0)).addEnergy n (4 + p) (max (-v) 0)) m
      else m
    let cur : Interval := ⟨0, 0, [], false, i.endAt⟩
    let m := { m with mtr := { m.mtr with last := SMap.setD Interval.init m.mtr.last n i,
                                          cur := SMap.setD Interval.init m.mtr.cur n cur } }
    m.showDemand n i

/-- How much of a set that ends at `tc` lies before the end of the interval that ended at `e` (R426); none for `e` = 0. -/
def beforeEnd (e tc dur : Nat) : Nat := if e = 0 then 0 else dur - min dur (tc - e)

/-- A set reaches its point (R419, R420): 12 words P, Q, I, V per phase, the duration in ns, and the time of day of its commit
point. An interval that the time of day has left by then has ended. -/
def Module.meterTake (m : Module) (n : Nat) (vals : List Word) (dur tc : Nat) : Module :=
  if !m.cflag (R.MTR_MP_CFG n) F.MTR_MP_CFG_EN then m
  else if vals.any (fun w => !Fp.isFinite w) ∨ (vals.drop 6).any (fun w => Fp.lt w 0) then m.gapSet n dur
  else
    let m := if (List.range 6).all (fun c => Fp.isFinite (m.corrTemp n c)) then m
      else m.setFlag (R.MTR_MP_STAT n) F.MTR_MP_STAT_CORR true
    let ph := m.phases n vals
    let m := m.intervalEnd n
    let d := beforeEnd (m.lastInterval n).endAt tc dur
    let m := (m.allocate n ph d true).allocate n ph (dur - d) false
    let m := m.accum64 (R.MTR_MP_SETS n) 1
    let m := m.setFlag (R.MTR_MP_STAT n) F.MTR_MP_STAT_DIR (decide ((ph.map (·.2.1)).sum < 0))
    m.setFlag (R.MTR_MP_STAT n) F.MTR_MP_STAT_BLOCKED ph.isEmpty

/-- A set committed for a point makes the unit read the point's temperature words: the metering master's beats (R90, R91, R421),
and its detections (R112). The spec names no other access of the unit per set (DESIGN CHOICE, log 83). -/
def Module.meterSet (m : Module) (n : Nat) (vals : List Word) (dur : Nat) : Module :=
  let a := 0x01894000 + 0x18 * n
  m.busAsk Bus.metering (beatsOf a 24) (.set n vals dur m.todNanos) (fun m => (m.masterRead 0xD a 24).meterTake n vals dur m.todNanos)

/-! ### Intervals, snapshots, clears (R426 to R428) -/

/-- DEMAND_INTERVAL_END (R426). -/
def execDemandIntervalEnd (n : Fin 4) (s : State) := s.runUp (·.intervalEnd n)

/-- A step or a set of the time of day makes the interval under way irregular (R426): in the new time it begins now, and the
end of the last one is no instant of it. -/
def Module.meterStepped (m : Module) : Module :=
  (List.range 4).foldl (fun m n =>
    { m with mtr := { m.mtr with
      cur := SMap.setD Interval.init m.mtr.cur n { m.interval n with irr := true, endAt := m.todNanos }
      last := SMap.setD Interval.init m.mtr.last n { m.lastInterval n with endAt := 0 } } }) m

/-- MTR_MP_nn_CTRL.SNAP (R427). -/
def Module.goMtrSnap (m : Module) (n : Nat) : Module :=
  let m := (List.range 28).foldl (fun m k => m.wr (R.MTR_MP_S n k) (m.rd (R.MTR_MP_E n k))) m
  let m := (List.range 14).foldl (fun m j => m.wr (R.MTR_MP_SW n j) (m.rd (R.MTR_MP_W n j))) m
  let m := m.wn (R.MTR_MP_SNAP_T n) ((m.todSec % 2 ^ 32) <<< 32 + m.todNs)
  m.setFlag (R.MTR_MP_CTRL n) F.MTR_MP_CTRL_SNAP false

/-- MTR_MP_nn_CTRL.CLR with its key (R427): due at the next frame boundary. -/
def Module.goMtrClr (m : Module) (n : Nat) : Module :=
  { m with mtr := { m.mtr with clrDue := if n ∈ m.mtr.clrDue then m.mtr.clrDue else m.mtr.clrDue ++ [n] } }

/-- A clear takes effect (R427). -/
def Module.meterClear (m : Module) (n : Nat) : Module :=
  let m := (List.range 28).foldl (fun m k =>
    let m := m.wr (R.MTR_MP_E n k) 0
    { m with mtr := { m.mtr with rem := SMap.setD 0 m.mtr.rem (28 * n + k) 0 } }) m
  let m := (List.range 14).foldl (fun m j => m.wr (R.MTR_MP_W n j) 0) m
  let m := [R.MTR_MP_SETS n, R.MTR_MP_GAP n, R.MTR_MP_DEM_IMP n, R.MTR_MP_DEM_EXP n, R.MTR_MP_DEM_MAX n,
    R.MTR_MP_DEM_MAX_T n].foldl (fun m a => m.wr a 0) m
  let m := { m with mtr := { m.mtr with cur := SMap.setD Interval.init m.mtr.cur n { Interval.init with endAt := m.todNanos },
                                        last := SMap.setD Interval.init m.mtr.last n Interval.init,
                                        gapNs := SMap.setD 0 m.mtr.gapNs n 0 } }
  let m := m.setFlag (R.MTR_MP_CTRL n) F.MTR_MP_CTRL_CLR false
  (m.bump (R.MTR_MP_CLRCNT n) R.MTR_SAT n).raise FS.MTR_CLEAR n .none

/-- MTR_CORR.SEL at a frame boundary (R423): a value written since the last check, or one that INSPECT has loaded. -/
def Module.corrSelect (m : Module) : Module :=
  let sel := m.rf R.MTR_CORR F.MTR_CORR_SEL
  if sel = m.mtr.selSeen then m
  else
    let m := { m with mtr := { m.mtr with selSeen := sel } }
    if m.corrCopyOk sel then m.wf R.MTR_CORR F.MTR_CORR_ACT sel
    else (m.setFlag R.MTR_CORR F.MTR_CORR_BAD true).raiseFree FS.MTR_CORR_BAD .none

/-- What metering does at a frame boundary (R423, R427). -/
def Module.meterBoundary (m : Module) : Module :=
  let m := m.corrSelect
  let due := m.mtr.clrDue
  due.foldl Module.meterClear { m with mtr := { m.mtr with clrDue := [] } }

/-- The registers of the record (R428). -/
def meterRegs : List Nat :=
  (List.range 4).flatMap (fun n =>
    (List.range 28).map (R.MTR_MP_E n) ++ (List.range 14).map (R.MTR_MP_W n) ++
      [R.MTR_MP_SETS n, R.MTR_MP_GAP n, R.MTR_MP_DEM_IMP n, R.MTR_MP_DEM_EXP n, R.MTR_MP_DEM_MAX n, R.MTR_MP_DEM_MAX_T n])
    ++ (List.range 8).map R.MTR_PO_QUEUE

/-- The metering unit commits its record to MRAM (R428), without what lies below 1 µ unit. -/
def Module.meterCommit (m : Module) : Module :=
  let regs := (meterRegs.filter (fun a => m.rd a ≠ regReset a)).map (fun a => (a, m.rd a))
  let net := (List.range 4).foldl (fun s n => SMap.setD [] s n (m.interval n).net) ([] : SMap (SMap Int))
  let po := (List.range 8).foldl (fun s o => SMap.setD 0 s o (SMap.getD 0 m.mtr.po o / 2 ^ 32 * 2 ^ 32)) ([] : SMap Int)
  { m with mtr := { m.mtr with record := some ⟨regs, po, net⟩ } }

/-- METER_MRAM_COMMIT (R428). -/
def execMeterMramCommit (s : State) := s.runUp (·.meterCommit)

/-- INSPECT reloads the last complete record (R428); the first interval afterwards is irregular. -/
def Module.meterReload (m : Module) : Module :=
  match m.mtr.record with
  | none => m
  | some r =>
    let m := r.regs.foldl (fun m p => m.wr p.1 p.2) m
    let cur := (List.range 4).foldl (fun s n =>
      SMap.setD Interval.init s n { Interval.init with net := SMap.getD [] r.net n }) ([] : SMap Interval)
    { m with mtr := { m.mtr with po := r.po, cur := cur, last := [], rem := [] } }

/-! ### Pulse outputs (R434) -/

/-- WIDTH in ms, clamped to 2 to 250 (R434). -/
def Module.poWidth (m : Module) (o : Nat) : Nat := min 250 (max 2 (m.cf (R.MTR_PO_CFG o) F.MTR_PO_CFG_WIDTH))

/-- The pulse output is active (R434). -/
def Module.poActive (m : Module) (o : Nat) : Bool :=
  match SMap.getD 0 m.mtr.poStart o with
  | 0 => false
  | t + 1 => m.now < t + 500000 * m.poWidth o

/-- A queued pulse starts (R434): no earlier than twice WIDTH after the previous one's start, and not while no ticks are
delivered. -/
def Module.pulseStart (m : Module) (o : Nat) : Module :=
  let pend := m.rf (R.MTR_PO_QUEUE o) F.MTR_PO_QUEUE_PEND
  let t := SMap.getD 0 m.mtr.poStart o
  if pend = 0 ∨ !m.cflag (R.MTR_PO_CFG o) F.MTR_PO_CFG_EN ∨ !m.ticking ∨ m.hl.hold ∨ (t ≠ 0 ∧ m.now + 1 < t + 1000000 * m.poWidth o) then m
  else
    let m := m.wf (R.MTR_PO_QUEUE o) F.MTR_PO_QUEUE_PEND (pend - 1)
    let m := m.setFlag (R.MTR_PO_QUEUE o) F.MTR_PO_QUEUE_FULL false
    let m := { m with mtr := { m.mtr with poStart := SMap.setD 0 m.mtr.poStart o (m.now + 1) } }
    m.poQueue o

/-- PULSE_OUTPUT_START (R434). -/
def execPulseOutputStart (n : Fin 8) (s : State) := s.runUp (·.pulseStart n)

end Sys2Proof.Machine
end

