-- ==== Sys2Proof/Machine/Clock.lean ====
section
/-! DEFINITION. Clock.lean: the station clock: bands, lock, loss, reacquisition, steps, the PTP and PPS servo (R186 to
R205). -/

namespace Sys2Proof.Machine

/-- CLK_STAT.STATE (R190). -/
def Module.clkState (m : Module) : Nat := m.rf R.CLK_STAT F.CLK_STAT_STATE
def Module.setClkState (m : Module) (st : Nat) : Module := m.wf R.CLK_STAT F.CLK_STAT_STATE st

/-- CLK_CFG.SRC and its outer loop (R186). -/
def Module.clkSrc (m : Module) : Nat := m.rf R.CLK_CFG F.CLK_CFG_SRC
def Module.outerLoop (m : Module) : Bool := m.clkSrc == 2 || m.clkSrc == 3

/-- FL_CLK (R194). -/
def Module.clkLine (m : Module) : Nat := m.rf R.CLK_CFG F.CLK_CFG_FLINE

/-! ### Bands (R188, R189) -/

/-- A band entry is valid (R188). -/
def Module.bandOk (m : Module) (k : Nat) : Bool :=
  let lo := m.rf (R.CLK_BAND k) F.CLK_BAND_FLO
  let hi := m.rf (R.CLK_BAND k) F.CLK_BAND_FHI
  m.flag (R.CLK_BAND k) F.CLK_BAND_VALID && 4000 ≤ lo && lo < hi && hi ≤ 6000

/-- An entry with VALID = 1 breaks the rule (R188). -/
def Module.bandBad (m : Module) : Bool :=
  (List.range 64).any (fun k => m.flag (R.CLK_BAND k) F.CLK_BAND_VALID && !m.bandOk k)

/-- The target in MHz (R187, R189). -/
def Module.bandTarget (m : Module) : Nat := 500 * m.rf R.CLK_DIV F.CLK_DIV_P1 * m.rf R.CLK_DIV F.CLK_DIV_P2

/-- Twice the distance of a band's midpoint from the target. -/
def Module.bandDist (m : Module) (k : Nat) : Nat :=
  let s := m.rf (R.CLK_BAND k) F.CLK_BAND_FLO + m.rf (R.CLK_BAND k) F.CLK_BAND_FHI
  let t := 2 * m.bandTarget
  if s < t then t - s else s - t

/-- The valid entry that covers the target and lies nearest; on a tie the lower index (R189). -/
def Module.bandPick (m : Module) : Option Nat :=
  let f := m.bandTarget
  ((List.range 64).filter (fun k => m.bandOk k && m.rf (R.CLK_BAND k) F.CLK_BAND_FLO ≤ f
      && f ≤ m.rf (R.CLK_BAND k) F.CLK_BAND_FHI)).foldl
    (fun o k => match o with
      | none => some k
      | some j => if m.bandDist k < m.bandDist j then some k else some j) none

/-! ### N and its modulator (R187, R199) -/

/-- The integer part of N (R187). -/
def Module.nInt (m : Module) : Nat := 100 * m.rf R.CLK_DIV F.CLK_DIV_P1 * m.rf R.CLK_DIV F.CLK_DIV_P2

/-- Set the outer loop's correction `y` in ppb / 65,536, which takes its part in the fractional word of N (R187, R200):
positive with the module ahead, so the timebase slows by it (DEDUCED, log 84). -/
def Module.setCorr (m : Module) (y : Int) : Module :=
  { m with clk := { m.clk with corr := y, frac := BitVec.ofInt 32 (-((m.nInt : Int) * y * 2 ^ 32 / 65536000000000)) } }

/-- Load the dither register (R199). -/
def Module.loadDither (m : Module) : Module :=
  let s := BitVec.ofNat 32 (m.rn R.CLK_DITHER_SEED)
  { m with clk := { m.clk with lfsr := if s = 0 then 1 else s } }

/-- The seed is loaded when DITHER has changed from 0 to 1 (R199). -/
def Module.ditherFollow (m old : Module) : Module :=
  if m.flag R.CLK_CFG F.CLK_CFG_DITHER && !old.flag R.CLK_CFG F.CLK_CFG_DITHER then m.loadDither else m

/-- The next state of the Fibonacci register with polynomial x^32 + x^22 + x^2 + x + 1 (R199). -/
def lfsrNext (w : Word) : Word :=
  let b := w.getLsbD 31 ^^ w.getLsbD 21 ^^ w.getLsbD 1 ^^ w.getLsbD 0
  w <<< 1 ||| (if b then 1 else 0)

/-- The sigma-delta modulator's input (R187, R199): the fractional word, with DITHER = 1 the sequence's bit added at its
lowest place (DESIGN CHOICE, log 84). -/
def Module.sdInput (m : Module) : Word :=
  if m.flag R.CLK_CFG F.CLK_CFG_DITHER then m.clk.frac + (m.clk.lfsr &&& 1) else m.clk.frac

/-- Select a band (R188, R189): with one, the clock goes to `next`; with none it stays in BAND and raises CLK_NO_BAND. -/
def Module.bandSelect (m : Module) (next : Nat) : Module :=
  let m := m.setFlag R.CLK_STAT F.CLK_STAT_BADBAND m.bandBad
  let m := m.loadDither
  match m.bandPick with
  | some k => (m.wf R.CLK_STAT F.CLK_STAT_BAND k).setClkState next
  | none => ((m.setClkState 1).stopGens).raiseFree FS.CLK_NO_BAND .none

/-! ### The period guard (R195) -/

/-- One edge is suppressed: its tick is lost to every count, and the time of day adds its 2 ns. -/
def Module.swallowOne (m : Module) : Module :=
  let m := m.tickTod.bump R.CLK_SWALLOW R.CLK_SAT 0
  if m.clkState = 3 ∨ m.clkState = 6 then m.raiseFree FS.CLK_GUARD .none else m

/-- Cycles of these lengths in ps would end at VCO-derived edges: those under 1.90 ns are suppressed. -/
def Module.swallow (m : Module) (edges : List (BitVec 16)) : Module :=
  (edges.filter (fun e => decide (e.toNat < 1900))).foldl (fun m _ => m.swallowOne) m

/-! ### Time error -/

/-- CLK_TERR is updated; above its limit at 4 consecutive updates it raises CLK_TERR (R196, R204). -/
def Module.setTerr (m : Module) (o : Int) : Module :=
  let m := m.wr R.CLK_TERR (BitVec.ofInt 64 o)
  let run := if (m.rn R.CLK_TERR_LIM : Int) < o.natAbs then m.clk.terrRun + 1 else 0
  let m := { m with clk := { m.clk with terrRun := run } }
  if run = 4 then m.raiseFree FS.CLK_TERR .none else m

/-- What the compare edges show (R191, R196): the phase error in ps; on REF_IN the time error too, in whole ns. -/
def Module.measure (m : Module) (err : Word) : Module :=
  let m := m.wn R.CLK_PHERR err.toNat
  if m.clkSrc = 1 then m.setTerr (err.toInt.tdiv 1000) else m

/-! ### Lock and loss -/

/-- LOCK_WIN in ps and LOCK_N as they act (R191, R205). -/
def Module.lockWin (m : Module) : Nat := min 500 (max 5 (m.rf R.CLK_LOCK F.CLK_LOCK_LOCK_WIN))
def Module.lockN (m : Module) : Nat := max 16 (m.rf R.CLK_LOCK F.CLK_LOCK_LOCK_N)

/-- PHASE_SLEW as it acts, in units of 0.1 ppm (R205). -/
def Module.phaseSlew (m : Module) : Nat := min 1000 (max 1 (m.rf R.CLK_SLEW F.CLK_SLEW_PHASE_SLEW))

/-- Enter REACQUIRE (R196): frequency first; what the loops hold stays. -/
def Module.reacquire (m : Module) : Module :=
  { m.setClkState 5 with clk := { m.clk with syncs := 0, winRun := 0, stepDue := false } }

/-- The time of day is the master's from the first lock on under PTP, and under PPS keeps its mark (R203); the offset left
is within PTP_WIN, and the servo removes it. -/
def Module.takeTime (m : Module) : Module :=
  (m.wf R.CLK_STAT F.CLK_STAT_TOD_SRC (if m.clkSrc = 3 then 3 else 4)).setFlag R.CLK_STAT F.CLK_STAT_TOD_VALID true

/-- Enter LOCKED: FL_CLK is no longer requested (R194). While a loss is about to stop the tick nothing locks. -/
def Module.enterLocked (m : Module) : Module :=
  if m.clk.stopAt.isSome then m
  else
    let m := m.setClkState 3
    let m := { m with clk := { m.clk with phase := 0 } }
    let m := m.withdrawLine m.clkLine .clk
    let m := if m.outerLoop then m.takeTime else m.setCorr 0
    if m.clkSrc = 3 then m.wf R.CLK_PTP F.CLK_PTP_PSTATE 3 else m

/-- A lock is declared (R191): |e| under LOCK_WIN for LOCK_N compare cycles. From ACQUIRE without an outer loop, and from
SLEWING, the clock is LOCKED; with an outer loop the inner one follows the crystal, and the time is still to be brought within
PTP_WIN (DESIGN CHOICE, log 84: as in REACQUIRE). -/
def Module.lockDeclared (m : Module) (err cycles : Word) : Module :=
  let m := m.measure err
  let st := m.clkState
  if m.clk.stopAt.isSome ∨ m.lockWin ≤ err.toInt.natAbs ∨ cycles.toNat < m.lockN then m
  else if st = 2 ∧ m.outerLoop then m.reacquire
  else if st = 2 ∨ (st = 6 ∧ !m.outerLoop) then (m.enterLocked).setFlag R.CLK_STAT F.CLK_STAT_REF_OK true
  else m

/-- LOCK_DECLARED (R191, R195). -/
def execLockDeclared (run : PhaseRun) (s : State) :=
  s.runOn (fun m => (m.swallow run.edges).lockDeclared run.err run.cycles)

/-- The tick to users stops (R194): GATED. -/
def Module.stopTick (m : Module) : Module :=
  { (m.setClkState 7).stopGens with clk := { m.clk with stopAt := none, tickHold := true } }

/-- A loss (R192 to R194), counted in every state. COAST freezes what the loops hold and goes to HOLDOVER; where no tick runs
there is nothing to hold and the state stays (DESIGN CHOICE, log 84). GATE, and any loss of the crystal, requests FL_CLK and
stops the tick 32 ticks later. -/
def Module.clockLoss (m : Module) (crystal : Bool) : Module :=
  let m := m.bump R.CLK_LOSSES R.CLK_SAT 1
  let m := { m with clk := { m.clk with winRun := 0, stepDue := false } }
  let st := m.clkState
  if m.flag R.CLK_CFG F.CLK_CFG_POLICY && !crystal then
    let m := m.raiseFree FS.CLK_COAST .none
    if st = 3 ∨ st = 5 ∨ st = 6 then { m.setClkState 4 with clk := { m.clk with holdoverAt := m.now + 1 } } else m
  else
    let m := (m.requestLine m.clkLine .clk).raiseFree FS.CLK_GATE .none
    if m.ticking then { m with clk := { m.clk with stopAt := some (m.clk.stopAt.getD (m.now + 32)) } } else m.stopTick

/-- The clock holds a lock that it can lose: LOCKED, HOLDOVER, REACQUIRE or SLEWING. -/
def Module.clkRuns (m : Module) : Bool := 3 ≤ m.clkState && m.clkState ≤ 6

/-- LOSS_OF_LOCK (R191): |e| above 4 × LOCK_WIN on 4 consecutive compare cycles; a clock with no lock loses none. -/
def execLossOfLock (run : PhaseRun) (s : State) :=
  s.runOn (fun m =>
    let m := (m.swallow run.edges).measure run.err
    if m.clkRuns && 4 ≤ run.cycles.toNat && 4 * m.lockWin < run.err.toInt.natAbs then m.clockLoss false else m)

/-- A silence is long enough for a loss (R191): 4 compare periods of crystal or REF_IN, 1.5 s from the last pulse, LOSS_N
and a half Sync intervals of 1 s. -/
def Module.silent (m : Module) : RefLoss → Bool
  | .crystal t => 800 ≤ t.toNat
  | .refIn t => m.clkSrc == 1 && 800 ≤ t.toNat
  | .outer => m.clk.refAt != 0 && (
      (m.clkSrc == 2 && m.clk.refAt - 1 + 750000000 ≤ m.now)
      || (m.clkSrc == 3
        && m.clk.refAt - 1 + (2 * max 1 (m.rf R.CLK_SERVO F.CLK_SERVO_LOSS_N) + 1) * 250000000 ≤ m.now))

/-- The loss is the crystal's, on which nothing can coast (R191). -/
def RefLoss.isCrystal : RefLoss → Bool
  | .crystal _ => true
  | _ => false

/-- A loss of reference (R191, R192). -/
def Module.refLost (m : Module) (l : RefLoss) : Module :=
  if !m.silent l then m
  else
    let m := if l.isCrystal && m.clkSrc != 0 then m
      else { m.setFlag R.CLK_STAT F.CLK_STAT_REF_OK false with clk := { m.clk with refAt := 0 } }
    m.clockLoss l.isCrystal

/-- LOSS_OF_REFERENCE (R191): of the selected reference, or of the crystal. -/
def execLossOfReference (l : RefLoss) (s : State) := s.runOn (·.refLost l)

/-- REFERENCE_RETURN (R196). -/
def execReferenceReturn (s : State) :=
  s.runOn (fun m =>
    let m := m.setFlag R.CLK_STAT F.CLK_STAT_REF_OK true
    if m.clkState = 4 ∧ m.clk.stopAt = none then m.reacquire else m)

/-! ### Steps -/

/-- A step is allowed (R197): STEP_OK, in DEPOT, HALT and SHUNT. -/
def Module.stepAllowed (m : Module) : Bool :=
  let mode := m.rf R.SYS_MODE F.SYS_MODE_MODE
  m.flag R.CLK_SLEW F.CLK_SLEW_STEP_OK && 3 ≤ mode && mode ≤ 5

/-- What a step counts and raises (R197); with ALIGN the next frame boundary is held back; sampled values go on at the next
instant (R221), and a demand interval is irregular (R426). It puts a clock that has a lock in LOCKED. -/
def Module.noteStep (m : Module) : Module :=
  let m := m.bump R.CLK_STEPS R.CLK_SAT 2
  let m := m.raiseFree FS.CLK_STEP .none
  let m := if m.flag R.CLK_CFG F.CLK_CFG_ALIGN then { m with sys := { m.sys with alignHold := true } } else m
  let m := m.svStep.meterStepped
  if m.clkRuns then m.enterLocked else m

/-- A step by −CLK_TERR (R197). -/
def Module.stepTod (m : Module) : Module :=
  let n := ((m.todNanos : Int) - (m.rd R.CLK_TERR).toInt).toNat
  let m := { m with todSec := n / 1000000000 % 2 ^ 48, todNs := n % 1000000000 }
  let m := (m.wn R.CLK_TERR 0).noteStep
  if m.outerLoop then m.takeTime else m

/-- Set the time of day to CLK_SET_SEC and CLK_SET_NS (R197). -/
def Module.setTod (m : Module) : Module :=
  let m := { m with todSec := m.rn R.CLK_SET_SEC % 2 ^ 48, todNs := min 999999999 (m.rn R.CLK_SET_NS) }
  let m := m.noteStep
  (m.wf R.CLK_STAT F.CLK_STAT_TOD_SRC 2).setFlag R.CLK_STAT F.CLK_STAT_TOD_VALID true

/-- Clamp to ±n. -/
def clampInt (n : Int) (x : Int) : Int := max (-n) (min n x)

/-- PHASE_SLEW as a correction, in ppb / 65,536. -/
def Module.slewLimit (m : Module) : Int := 6553600 * (m.phaseSlew : Int)

/-- Enter SLEWING (R196): without an outer loop the timebase runs off frequency by PHASE_SLEW until the phase is gone. -/
def Module.slew (m : Module) : Module :=
  let m := m.setClkState 6
  if m.outerLoop then m else m.setCorr (clampInt m.slewLimit (m.clk.phase * 65536))

/-- Steps at a frame boundary, after its mode transition (R197): the automatic one, CLK_CTRL.STEP and CLK_CTRL.SET. A
step that is not allowed is refused, and the automatic one becomes SLEWING. -/
def Module.clockBoundary (m : Module) : Module :=
  let ok := m.stepAllowed
  let auto := m.clk.stepDue
  let host := m.flag R.CLK_CTRL F.CLK_CTRL_STEP
  let m := { m with clk := { m.clk with stepDue := false } }
  let m := if auto && !ok then m.slew else m
  let m := if (auto || host) && ok then m.stepTod else m
  let m := if m.flag R.CLK_CTRL F.CLK_CTRL_SET && ok then m.setTod else m
  (m.setFlag R.CLK_CTRL F.CLK_CTRL_STEP false).setFlag R.CLK_CTRL F.CLK_CTRL_SET false

/-- The offset is known (R196): where a step is allowed it waits for the next frame boundary, else the clock slews. -/
def Module.offsetKnown (m : Module) : Module :=
  let m := { m with clk := { m.clk with integ := 0, winRun := 0 } }
  if m.stepAllowed then { m with clk := { m.clk with stepDue := true } } else m.slew

/-- Frequency is reacquired (R196): an outer loop over FREQ_N Syncs or pulses, whose last offset CLK_TERR shows; the inner
loop over LOCK_N compare cycles, with the offset `o` in ns of its edges. -/
def Module.freqReacquired (m : Module) (o : Int) (cycles : Nat) : Module :=
  if m.clkState ≠ 5 ∨ m.clk.stopAt ≠ none then m
  else if m.outerLoop then
    if m.clk.syncs < max 2 (m.rf R.CLK_SERVO F.CLK_SERVO_FREQ_N) then m else m.offsetKnown
  else if cycles < m.lockN then m
  else
    let m := m.setTerr o
    ({ m with clk := { m.clk with phase := o * 1000000 } } : Module).offsetKnown

/-- FREQUENCY_REACQUIRED (R196). -/
def execFrequencyReacquired (run : FreqRun) (s : State) :=
  s.runOn (fun m => (m.swallow run.edges).freqReacquired run.o.toInt run.cycles.toNat)

/-- A Sync or a pulse of the selected reference has come (R191). -/
def Module.noteRef (m : Module) : Module :=
  { m.setFlag R.CLK_STAT F.CLK_STAT_REF_OK true with clk := { m.clk with refAt := m.now + 1 } }

/-- One run of the servo on offset `o` in ns (R200): in REACQUIRE it counts, without steering; else it sets the
correction, and 4 consecutive offsets within PTP_WIN lock the clock. -/
def Module.servo (m : Module) (o : Int) : Module :=
  let m := m.noteRef.setTerr o
  let st := m.clkState
  if st = 5 then { m with clk := { m.clk with syncs := m.clk.syncs + 1 } }
  else if st = 3 ∨ st = 6 then
    let kp := m.rf R.CLK_SERVO F.CLK_SERVO_KP_SH
    let ki := m.rf R.CLK_SERVO F.CLK_SERVO_KI_SH
    let y := clampInt m.slewLimit (o * 2 ^ (16 - kp) + m.clk.integ)
    let win := 100 * max 1 (m.rf R.CLK_SERVO F.CLK_SERVO_PTP_WIN)
    let run := if o.natAbs ≤ win then m.clk.winRun + 1 else 0
    let m := m.setCorr y
    let m := { m with clk := { m.clk with integ := m.clk.integ + o * 2 ^ (16 - ki), winRun := run } }
    if 4 ≤ run ∧ st = 6 then m.enterLocked else m
  else m

/-- A PTP frame of a ring or pair (R201, R207 to R209): it shows the network whole; of an HSR ring only the copy received
first is taken, of a PRP pair both. -/
def Module.ptpReceive (m : Module) (p : Nat) (src : BitVec 48) (tag : Option (BitVec 16)) (take : Module → Module) : Module :=
  if m.ownFrame p src then m
  else
    let dup := m.isDup p src tag
    let m := if m.up then m.noteFrame p src tag dup else m
    if dup && m.pairMode p == 2 then m else take m

/-- The offset of a Sync in ns (R200): the time of day minus the master's time corrected for the mean path delay. -/
def Module.syncOffset (m : Module) (f : PtpSync) : Int :=
  (m.todNanos : Int) - (f.sec.toNat * 1000000000 + f.ns.toNat : Nat) - f.correction.toInt - (m.rn R.CLK_MPD : Nat)

/-- PTP_SYNC (R200, R201): of the domain, on the port in use. -/
def execPtpSync (port : Fin 4) (f : PtpSync) (s : State) :=
  s.runOn (fun m => m.ptpReceive port f.src f.tag (fun m =>
    if m.clkSrc = 3 ∧ m.rf R.CLK_PTP F.CLK_PTP_PORT = port ∧ f.domain.toNat = m.rf R.CLK_PTP F.CLK_PTP_DOMAIN then
      m.servo (m.syncOffset f)
    else m))

/-- PPS_PULSE (R200): the offset is the nanoseconds of the time of day at the edge, which capture units take too (R280). -/
def execPpsPulse (s : State) :=
  s.runOn (fun m => let m := m.ppsEdge; if m.clkSrc = 2 then m.servo m.todNs else m)

/-! ### PTP (R201, R202) -/

/-- The order of the IEEE 1588 comparison: lower is better. -/
def Announce.rank (a : Announce) : Nat :=
  ((((((a.priority1.toNat * 256 + a.clockClass.toNat) * 256 + a.accuracy.toNat) * 65536 + a.variance.toNat) * 256
    + a.priority2.toNat) * 2 ^ 64 + a.identity.toNat) * 65536) + a.steps.toNat

/-- The Announce of port `p`, while it is no older than 3 intervals of 1 s (PRESUMED, log 84: the receipt timeout of
IEEE 1588). -/
def Module.announceOf (m : Module) (p : Nat) : Option Announce :=
  if m.now < SMap.getD 0 m.clk.announceAt p + 1500000000 then SMap.getD none m.clk.announces p else none

/-- The port with the best Announce of the domain. -/
def Module.bestPort (m : Module) : Option (Nat × Announce) :=
  (List.range 4).foldl (fun o p =>
    match m.announceOf p, o with
    | some a, none => some (p, a)
    | some a, some (q, b) => if a.rank < b.rank then some (p, a) else some (q, b)
    | none, _ => o) none

/-- Keep the Announce that port `p` received (R201); of an HSR ring there is one, at the port that received first. -/
def Module.keepAnnounce (m : Module) (p : Nat) (a : Announce) : Module :=
  let l := if m.pairMode p = 2 then SMap.setD none m.clk.announces (partner p) none else m.clk.announces
  { m with clk := { m.clk with announces := SMap.setD none l p (some a), announceAt := SMap.setD 0 m.clk.announceAt p m.now } }

/-- An Announce (R201, R202): the default BMCA over those received; a change of grandmaster or of the port in use is a
returning reference. -/
def Module.announce (m : Module) (port : Nat) (a : Announce) : Module :=
  if m.clkSrc ≠ 3 ∨ a.domain.toNat ≠ m.rf R.CLK_PTP F.CLK_PTP_DOMAIN then m else
  let m := m.keepAnnounce port a
  match m.bestPort with
  | none => m
  | some (p, b) =>
    let had := m.rn R.CLK_GMID
    let changed := had ≠ 0 ∧ (had ≠ b.identity.toNat ∨ m.rf R.CLK_PTP F.CLK_PTP_PORT ≠ p)
    let m := m.wn R.CLK_GMID b.identity.toNat
    let m := m.wn R.CLK_UTC b.utc.toNat
    let m := (m.wf R.CLK_PTP F.CLK_PTP_PORT p).wn R.CLK_MPD (SMap.getD 0 m.clk.pdelay p).toNat
    let m := if m.rf R.CLK_PTP F.CLK_PTP_PSTATE = 3 then m else m.wf R.CLK_PTP F.CLK_PTP_PSTATE 2
    if changed then
      let m := m.raiseFree FS.CLK_GM_CHANGE .none
      if m.clkRuns && m.clk.stopAt.isNone then m.reacquire else m
    else m

/-- PTP_ANNOUNCE (R201). -/
def execPtpAnnounce (port : Fin 4) (a : Announce) (s : State) :=
  s.runOn (fun m => m.ptpReceive port a.src a.tag (·.announce port a))

/-- A port is enabled for peer delay: its link is up (DEDUCED, log 84: no register enables a port). -/
def Module.portUp (m : Module) (p : Nat) : Bool := m.bit R.PB_LINK (8 * p + 7)

/-- PDELAY_EXCHANGE (R201): the delay measured on an enabled port; CLK_MPD shows the port in use. -/
def execPdelayExchange (port : Fin 4) (delay : BitVec 32) (s : State) :=
  s.runOn (fun m =>
    if !m.portUp port then m
    else
      let m := { m with clk := { m.clk with pdelay := SMap.setD 0 m.clk.pdelay port delay } }
      if m.rf R.CLK_PTP F.CLK_PTP_PORT = port.val then m.wn R.CLK_MPD delay.toNat else m)

/-- PDELAY_REQ_RECEIVED (R201): on an enabled port the module answers as a two-step responder. -/
def execPdelayReqReceived (port : Fin 4) (s : State) :=
  s.runOn (fun m => if !m.portUp port then m else { m with clk := { m.clk with
    pdelaySent := SMap.setD 0 m.clk.pdelaySent port (SMap.getD 0 m.clk.pdelaySent port + 1) } })

/-! ### Divider, snapshot -/

/-- Does a CLK_DIV value give a product in 8 to 12 (R198)? -/
def divProductOk (v : Nat) : Bool := 8 ≤ bitsN v 7 4 * bitsN v 3 0 && bitsN v 7 4 * bitsN v 3 0 ≤ 12

/-- DIVIDER_APPLY (R198): on the first compare edge after the boundary; a product outside 8 to 12 sets DIV_BAD. -/
def Module.dividerApply (m : Module) : Module :=
  match m.clk.divDue with
  | none => m
  | some v =>
    let m := { m with clk := { m.clk with divDue := none } }
    if !divProductOk v then m.setFlag R.CLK_STAT F.CLK_STAT_DIV_BAD true
    else
      let m := m.setFlag R.CLK_STAT F.CLK_STAT_DIV_BAD false
      let m := m.wn R.CLK_DIV (bitsN v 7 0)
      let m := m.setCorr m.clk.corr
      let m := m.bandSelect (if m.clkRuns then 5 else 2)
      if m.clkState = 5 then m.reacquire else m

/-- DIVIDER_APPLY (R198): the cycles that fall short while the clock locks again are guarded (R195). -/
def execDividerApply (s : State) (edges : List (BitVec 16) := []) := s.runOn (fun m => m.dividerApply.swallow edges)

/-- CLK_CTRL.SNAP (R203, R205). CLK_TERR holds the error of its last update (R196), which is the one at this instant. -/
def Module.goSnap (m : Module) : Module :=
  let m := m.wn R.CLK_TOD_SEC m.todSec
  let m := m.wn R.CLK_TOD_NS m.todNs
  m.setFlag R.CLK_CTRL F.CLK_CTRL_SNAP false

/-- A change of CLK_CFG.FLINE at a boundary moves a standing FL_CLK request to the new line (R205). -/
def Module.moveClkLine (m : Module) (old : Nat) : Module :=
  if old ≠ m.clkLine ∧ Req.clk ∈ m.lineReqs old then (m.withdrawLine old .clk).requestLine m.clkLine .clk else m.refreshGens

/-- A change of CLK_CFG.SRC at a boundary (R196, R202). -/
def Module.srcChanged (m : Module) : Module :=
  let m := m.wf R.CLK_PTP F.CLK_PTP_PSTATE (if m.clkSrc = 3 then 1 else 5)
  let m := { m with clk := { m.clk with refAt := 0 } }
  if m.clkRuns && m.clk.stopAt.isNone then m.reacquire else m

/-! ### The clock's own time (R190, R194, R196) -/

/-- A compare edge, each 100 ticks (R186): the dither sequence goes on; SLEWING without an outer loop takes its share of the
phase, PHASE_SLEW × 20 fs in 200 ns, and CLK_TERR follows. -/
def Module.compareEdge (m : Module) : Module :=
  let m := if m.flag R.CLK_CFG F.CLK_CFG_DITHER then { m with clk := { m.clk with lfsr := lfsrNext m.clk.lfsr } } else m
  if m.clkState = 6 ∧ !m.outerLoop ∧ m.clk.phase ≠ 0 then
    let x := m.clk.phase - clampInt (20 * (m.phaseSlew : Int)) m.clk.phase
    let m := ({ m with clk := { m.clk with phase := x } } : Module).setTerr (x.tdiv 1000000)
    if x = 0 then m.setCorr 0 else m
  else m

/-- A tick of the timebase, 2 ns; the tick of R194 is the last. -/
def Module.tickOn (m : Module) : Module :=
  let m : Module := { m.tickTod with now := m.now + 1 }
  let m := if m.now % 100 = 0 then m.compareEdge else m
  if m.clk.stopAt = some m.now then m.stopTick else m

/-- Without ticks time runs from the crystal, in steps of 40 ns (R190). At such a mark GATED ends in a band selection
(DEDUCED, log 84), and the tick resumes for a clock that is LOCKED again (R194). -/
def Module.crystalMark (m : Module) : Module :=
  let m : Module := { m.todAdd 40 with now := m.now + 20 }
  if !m.powered then m
  else if m.clkState = 7 then m.bandSelect 2
  else if m.clkState = 3 then { m with clk := { m.clk with tickHold := false } }
  else m

/-- Time passes, to the next tick or crystal mark. -/
def Module.clockTick (m : Module) : Module := if m.ticking then m.tickOn else m.crystalMark

end Sys2Proof.Machine
end

