-- ==== Sys2Proof/Machine/Collector.lean ====
section
/-! DEFINITION. Collector.lean: reports, severities and their reactions, incidents, recovery and clearing (R484 to R500). -/

namespace Sys2Proof.Machine

/-! ### Sources and their configuration (R485, R488, R489) -/

/-- A source nothing has been reported of. -/
def SrcState.init : SrcState := ⟨0, [], [], [], [], false⟩

/-- The collector's state of a source. -/
def Module.src (m : Module) (s : Nat) : SrcState := SMap.getD SrcState.init m.coll.srcs s

def Module.setSrc (m : Module) (s : Nat) (x : SrcState) : Module :=
  { m with coll := { m.coll with srcs := SMap.setD SrcState.init m.coll.srcs s x } }

/-- Word `w` of a source's entry as it acts (R488). -/
def Module.srcCfg (m : Module) (s w : Nat) : Nat := m.mnE (0x018B0000 + 16 * s + 4 * w) 4

/-- The severity applied: never below the floor (R485). -/
def Module.srcSev (m : Module) (s : Nat) : Nat := max (bitsN (m.srcCfg s 0) 29 27) (sourceFloor s)

/-- AUTO, MAX_REC, QUIET_T in ticks and REC_WINDOW in ticks of a source (R488). -/
def Module.srcAuto (m : Module) (s : Nat) : Bool := (m.srcCfg s 0).testBit 31
def Module.srcMaxRec (m : Module) (s : Nat) : Nat := bitsN (m.srcCfg s 0) 15 8
def Module.srcQuiet (m : Module) (s : Nat) : Nat := 500000 * bitsN (m.srcCfg s 1) 31 10
def Module.srcWindow (m : Module) (s : Nat) : Nat := 500000000 * bitsN (m.srcCfg s 2) 16 0

/-- FLT_CFG's limits for all sources; MAX_REC_G 0 as 1 (R500). -/
def Module.maxRecG (m : Module) : Nat := max 1 (m.rf R.FLT_CFG F.FLT_CFG_MAX_REC_G)
def Module.windowG (m : Module) : Nat := 500000000 * min 86400 (max 1 (m.rf R.FLT_CFG F.FLT_CFG_REC_WINDOW_G))

/-- The reaction row of a severity (R490). -/
def Module.reaction (m : Module) (sev : Nat) : Nat := m.rn (R.FLT_REACT sev)

/-- The tasks booked on logical engine `e` in the active copy. -/
def Module.booked (m : Module) (e : Nat) : List Nat :=
  match m.activeCopy with
  | some c => tasksOn (m.entries c) e
  | none => []

/-- The tasks that an owner names (R491). -/
def Module.ownerTasks (m : Module) : Owner → List Nat
  | .task t => [t]
  | .engine e => m.booked e
  | .none => []

/-- The lines of the LINE reaction (R489). -/
def Module.reactLines (m : Module) (s : Nat) (o : Owner) : List Nat :=
  let own := ((m.ownerTasks o).map (fun t => (m.mbE (0x018B2000 + t)).toNat)).filter (fun b => b.testBit 7)
  if (m.srcCfg s 0).testBit 23 && !own.isEmpty then own.map (fun b => b % 32) else [bitsN (m.srcCfg s 0) 22 18]

/-! ### Status table (R500) -/

/-- Word `w` of a source's status entry. -/
def srcStat (s w : Nat) : Nat := 0x018B1000 + 16 * s + 4 * w

/-- A flag of a source's status: 0 UNSETTLED, 1 AWAIT, 2 LATCHED, 3 CNT_SAT, 4 REC_SAT. -/
def Module.srcFlag (m : Module) (s bit : Nat) : Bool := (m.mn (srcStat s 2) 4).testBit bit
def Module.setSrcFlag (m : Module) (s bit : Nat) (b : Bool) : Module :=
  m.setMn (srcStat s 2) 4 (setBitN (m.mn (srcStat s 2) 4) bit b)

/-- An event counter of a source's status entry: word 0 or 1, with its SAT bit (R65). -/
def Module.srcBump (m : Module) (s w : Nat) : Module :=
  let v := m.mn (srcStat s w) 4
  let m := m.setMn (srcStat s w) 4 (min 0xFFFFFFFF (v + 1))
  if 0xFFFFFFFE ≤ v then m.setSrcFlag s (3 + w) true else m

/-- Recoveries of a source within its window, as bits 15:8 of word 2 show them. -/
def Module.showRecs (m : Module) (s : Nat) : Module :=
  let n := ((m.src s).recs.filter (fun t => decide (m.now < t + m.srcWindow s))).length
  m.setMn (srcStat s 2 + 1) 1 (min 255 n)

/-- FLT_STAT's LATCHED and FNSTOP, and RED, follow. -/
def Module.showFlt (m : Module) : Module :=
  let m := m.setFlag R.FLT_STAT F.FLT_STAT_LATCHED ((List.range 256).any (fun s => m.srcFlag s 2))
  (m.setFlag R.FLT_STAT F.FLT_STAT_FNSTOP m.anyStop).showSub

/-! ### Incidents (R492 to R494) -/

/-- Milliseconds since a tick. -/
def Module.msSince (m : Module) (t : Nat) : Nat := (m.now - t) / 500000

/-- The owner word of an incident record (R494). -/
def Owner.word : Owner → Nat
  | .none => 0
  | .task t => 2 ^ 30 + t
  | .engine e => 2 ^ 31 + e <<< 16

/-- A record of the occurrence book (R494). -/
def Incident.bytes (i : Incident) (cause ms : Nat) : List Byte :=
  let sec (k : Nat) : List Byte := match i.secs[k]? with
    | some s => leBytes 4 (s.src + s.sev <<< 8 + (if s.esc then 2048 else 0)
        + min (2 ^ 20 - 1) ((s.at' - i.at') / 500000) <<< 12) ++ leBytes 4 s.info.toNat
    | none => List.replicate 8 0
  sealed (leBytes 4 i.num
    ++ leBytes 4 ((if cause = 0 then 1 else 0) + i.sev <<< 1 + i.psev <<< 4 + i.src <<< 8 + i.secs.length <<< 16
      + i.mode <<< 20 + i.applied <<< 24)
    ++ leBytes 8 i.sec ++ leBytes 4 i.ns ++ leBytes 4 i.info.toNat ++ leBytes 4 i.owner.word
    ++ leBytes 4 (cause <<< 24 + min (2 ^ 24 - 1) ms)
    ++ (List.range 8).flatMap sec
    ++ leBytes 4 (min 0xFFFF i.ovf + min 0xFFFF i.reps <<< 16) ++ List.replicate 24 0)

/-- The open incident changes: its record goes to the log writer, and FLT_STAT shows it. -/
def Module.setIncident (m : Module) (i : Incident) : Module :=
  let m := { m with coll := { m.coll with inc := some i } }
  let m := m.logRecord (0x06630000 + 128 * (i.num % 256)) (i.bytes 0 0)
  let m := (m.wf R.FLT_STAT F.FLT_STAT_INC i.num).setFlag R.FLT_STAT F.FLT_STAT_OPEN true
  (m.wf R.FLT_STAT F.FLT_STAT_SEV i.sev).wf R.FLT_STAT F.FLT_STAT_NSEC i.secs.length

/-- The incident closes with a cause (R493); where ALARM was applied the alarm is published as over. -/
def Module.closeIncident (m : Module) (cause : Nat) : Module :=
  match m.coll.inc with
  | none => m
  | some i =>
    let m := { m with coll := { m.coll with inc := none } }
    let m := m.logRecord (0x06630000 + 128 * (i.num % 256)) (i.bytes cause (m.msSince i.at'))
    let m := m.setFlag R.FLT_STAT F.FLT_STAT_OPEN false
    let m := ((List.range 256).filter (fun s => m.srcFlag s 0)).foldl (fun m s => m.setSrcFlag s 0 false) m
    if i.applied.testBit 2 then m.publishAlarm i.num i.src i.sev false i.sec i.ns else m

/-- The sources of the open incident are all settled (R493), those of reports beyond its 8 secondaries among them. -/
def Module.allSettled (m : Module) : Bool := (List.range 256).all (fun s => !m.srcFlag s 0)

/-- Close the incident once every source is settled. -/
def Module.settleIncident (m : Module) : Module :=
  if m.coll.inc.isSome && m.allSettled then m.closeIncident 1 else m

/-- A report with LOG opens an incident or joins the open one (R492). -/
def Module.joinIncident (m : Module) (r : Report) (sev : Nat) : Module :=
  match m.coll.inc with
  | none =>
    let num := m.rf R.FLT_STAT F.FLT_STAT_INC % 65535 + 1
    (m.accum32 R.FLT_INC_CNT 1).setIncident
      ⟨num, sev, r.src, r.info, r.owner, m.mode, r.sec, r.ns, r.at', sev, 0, [], 0, 0⟩
  | some i =>
    let esc := decide (i.sev < sev)
    let i' := { i with sev := max i.sev sev }
    if i.src = r.src ∨ i.secs.any (·.src == r.src) then m.setIncident { i' with reps := min 0xFFFF (i.reps + 1) }
    else if i.secs.length < 8 then
      m.setIncident { i' with secs := i.secs ++ [⟨r.src, sev, esc, r.at', r.info⟩] }
    else m.setIncident { i' with ovf := min 0xFFFF (i.ovf + 1) }

/-- Note reaction bits as applied to the open incident. -/
def Module.noteApplied (m : Module) (row : Nat) : Module :=
  match m.coll.inc with
  | some i => m.setIncident { i with applied := i.applied ||| row }
  | none => m

/-! ### Reactions (R490, R491) -/

/-- Set a task's STOP bit with the incident number (R491). -/
def Module.stopTask (m : Module) (t inc : Nat) : Module := m.setMn (stopWord t) 4 (1 + inc <<< 8)

/-- The HALT cause that R45 gives a source of severity 6 or 7. -/
def haltCauseOf (s sev : Nat) : Nat :=
  if sev = 7 then 7
  else if s = FS.VOTE_FAIL then 5
  else if s = FS.ENG_DETECT_REPEAT ∨ s = FS.ENG_DETECT_PERSIST ∨ s = FS.YARD_SPARE_OUT then 6
  else if s = FS.CORE_SILENT then 8
  else if s = FS.TT_CORRUPT then 9
  else if s = FS.SYS_REMOVAL then 0x0A
  else 4

/-- Set and request what a reaction row asks for a report (R490): `row` bits in order LOG, NOTIFY, ALARM, FNSTOP, LINE,
HALT, STO. A program that raises a source itself is not stopped (R491). -/
def Module.applyRow (m : Module) (r : Report) (sev row : Nat) (alarmDone : Bool) : Module :=
  let inc := (m.coll.inc.map (·.num)).getD 0
  let at' := (m.coll.inc.map (fun i => (i.sec, i.ns))).getD (r.sec, r.ns)
  let m := if row.testBit 1 then m.irq Irq.NOTIFY else m
  let m := if row.testBit 2 && !alarmDone then m.publishAlarm inc r.src sev true at'.1 at'.2 else m
  let tasks := if row.testBit 3 && !sourceProgram r.src then m.ownerTasks r.owner else []
  let m := tasks.foldl (fun m t => m.stopTask t inc) m
  let lines := if row.testBit 4 then m.reactLines r.src r.owner else []
  let m := lines.foldl (fun m l => m.requestLine l (.coll r.src)) m
  let x := m.src r.src
  let add (a b : List Nat) := a ++ b.filter (fun k => !a.contains k)
  let m := m.setSrc r.src { x with lines := add x.lines lines, tasks := add x.tasks tasks,
                                   infos := add x.infos [r.info.toNat] }
  let m := if row.testBit 5 then m.haltEnter (haltCauseOf r.src sev) inc else m
  if row.testBit 6 then m.stopSignal true else m

/-- The collector handles one report (R486 to R492). -/
def Module.handleReport (m : Module) (r : Report) : Module :=
  let s := r.src
  let sev := m.srcSev s
  let row := m.reaction sev
  let m := m.srcBump s 0
  let x := m.src s
  let standing := !x.lines.isEmpty || !x.tasks.isEmpty
  let m := m.setSrc s { x with last := r.at' + 1, infos := if standing then x.infos else [] }
  let m := if m.srcFlag s 2 then m else m.setSrcFlag s 1 false
  let before := (m.coll.inc.map (·.applied)).getD 0
  let m := if row.testBit 0 then
      let m := (m.joinIncident r sev).setSrcFlag s 0 true
      m.setMn (srcStat s 3) 2 ((m.coll.inc.map (·.num)).getD 0)
    else m
  let m := m.applyRow r sev row (row.testBit 0 && before.testBit 2)
  let m := if row.testBit 0 then m.noteApplied row else m
  m.showFlt

/-- The reports of the front group (R486): those within 2 ns of the first. -/
def Module.group (m : Module) : List Report :=
  match m.reports with
  | [] => []
  | r :: rs => r :: rs.takeWhile (fun q => decide (q.at' ≤ r.at' + 1))

/-- `a` comes before `b` in a group: higher severity, then lower source number. -/
def Module.before (m : Module) (a b : Report) : Bool :=
  decide (m.srcSev b.src < m.srcSev a.src) || (m.srcSev a.src == m.srcSev b.src && decide (a.src < b.src))

/-- The report of the front group that is handled next. -/
def Module.nextReport (m : Module) : Option Report :=
  match m.group with
  | [] => none
  | r :: rs => some (rs.foldl (fun best q => if m.before q best then q else best) r)

/-- FAULT_REPORT (R486). -/
def Module.faultReport (m : Module) : Module :=
  match m.nextReport with
  | none => m
  | some r => ({ m with reports := m.reports.erase r } : Module).handleReport r
def execFaultReport (s : State) := s.runOn Module.faultReport

/-! ### Recovery and clearing (R495 to R498) -/

/-- The gate channels that a GD report names (R301, R496). -/
def gdChannels (s info : Nat) : List Nat :=
  if s = FS.GD_LINK then (List.range 4).map (fun k => 4 * (info % 8) + k)
  else if FS.GD_DESAT ≤ s ∧ s < FS.GD_LINK then [info % 32]
  else []

/-- A report of the source waits: it wins over an expiry, a recovery and a clear (R498). -/
def Module.reportWaits (m : Module) (s : Nat) : Bool := m.reports.any (·.src == s)

/-- Another unsettled source, or one with a standing reaction, holds a task's STOP bit. -/
def Module.heldElsewhere (m : Module) (s t : Nat) : Bool :=
  m.coll.srcs.any (fun p => p.1 != s && p.2.tasks.contains t)

/-- A recovery's effect (R496): line requests withdrawn, STOP bits cleared, gate channels recover. -/
def Module.withdrawSrc (m : Module) (s : Nat) : Module :=
  let x := m.src s
  let m := x.lines.foldl (fun m l => m.withdrawLine l (.coll s)) m
  let m := (x.tasks.filter (fun t => !m.heldElsewhere s t)).foldl (fun m t => m.setMn (stopWord t) 4 0) m
  let m := m.gdRecover (x.infos.flatMap (gdChannels s)).dedup
  let m := m.setSrc s { m.src s with lines := [], tasks := [], infos := [], limited := false }
  (m.setSrcFlag s 1 false).setSrcFlag s 2 false

/-- The stop signal of R452 ends once no source of severity 7 stands and no removal is under way. -/
def Module.stopSettle (m : Module) : Module :=
  let stands := m.coll.srcs.any (fun p => 7 ≤ m.srcSev p.1 && !(p.2.lines.isEmpty && p.2.tasks.isEmpty))
  if m.il.stopSig && !stands && !m.sys.removed && !m.sys.holdUp then m.stopSignal false else m

/-- Recoveries within a window. -/
def Module.within (m : Module) (ts : List Nat) (w : Nat) : Nat := (ts.filter (fun t => decide (m.now < t + w))).length

/-- QUIET_T has not passed since the source's last report (R493, R495). -/
def Module.quietRuns (m : Module) (s : Nat) : Bool :=
  let x := m.src s
  x.last == m.now + 1 || decide (m.now + 1 < x.last + m.srcQuiet s)

/-- QUIET_EXPIRY (R495): the source settles, recovers or latches. -/
def Module.quietExpiry (m : Module) (s : Nat) : Module :=
  let x := m.src s
  if m.reportWaits s || m.quietRuns s || m.srcFlag s 2 then m
  else if x.lines.isEmpty && x.tasks.isEmpty then (m.setSrcFlag s 0 false).settleIncident.showFlt
  else if !m.srcAuto s || 6 ≤ m.srcSev s then ((m.setSrcFlag s 1 true).setSrcFlag s 2 true).showFlt
  else
    let own := decide (m.srcMaxRec s ≤ m.within x.recs (m.srcWindow s))
    let glob := decide (m.maxRecG ≤ m.within m.coll.recs m.windowG)
    if own || glob then
      let m := (m.setSrcFlag s 1 true).setSrcFlag s 2 true
      let m := if glob then m.setFlag R.FLT_STAT F.FLT_STAT_GLIM true else m
      let m := if x.limited then m else
        (m.setSrc s { m.src s with limited := true }).raiseFree FS.FLT_REC_LIMIT .none
      m.showFlt
    else
      let m := m.withdrawSrc s
      let m := m.setSrc s { m.src s with recs := (m.src s).recs ++ [m.now] }
      let m := { m with coll := { m.coll with recs := m.coll.recs ++ [m.now] } }
      let m := ((m.srcBump s 1).showRecs s).bump R.FLT_REC_G R.FLT_SAT 0
      (m.setSrcFlag s 0 false).settleIncident.showFlt
def execQuietExpiry (src : BitVec 8) (s : State) := s.runOn (·.quietExpiry src.toNat)

/-- A host clear of one source (R497): a recovery's effect, not counted as one. A latched source is settled with it. -/
def Module.clearSrc (m : Module) (s : Nat) : Module :=
  if m.reportWaits s then m
  else
    let settled := m.srcFlag s 2
    let m := (m.withdrawSrc s).stopSettle
    if settled then m.setSrcFlag s 0 false else m

/-- FLT_CTRL.CLEAR (R497). -/
def Module.goFltClear (m : Module) : Module :=
  let s := m.rf R.FLT_CTRL F.FLT_CTRL_SRC
  ((m.clearSrc s).settleIncident.showFlt).setFlag R.FLT_CTRL F.FLT_CTRL_CLEAR false

/-- FLT_CTRL.CLRALL (R493, R497). -/
def Module.goFltClrall (m : Module) : Module :=
  let m := (m.coll.srcs.map (·.1)).foldl Module.clearSrc m
  ((m.closeIncident 2).showFlt).setFlag R.FLT_CTRL F.FLT_CTRL_CLRALL false

/-- FLT_CTRL.CLRCNT (R500): every per-source counter and SAT bit. -/
def Module.goFltClrcnt (m : Module) : Module :=
  let m := (List.range 256).foldl (fun m s =>
    let m := (m.setMn (srcStat s 0) 4 0).setMn (srcStat s 1) 4 0
    (m.setSrcFlag s 3 false).setSrcFlag s 4 false) m
  m.setFlag R.FLT_CTRL F.FLT_CTRL_CLRCNT false

/-! ### The log writer (R494, R499) -/

/-- The log writer writes its oldest waiting record (R494, R499). -/
def Module.writeOldest (m : Module) : Module :=
  match m.logq with
  | [] => m
  | r :: rs => ({ m with logq := rs } : Module).setBytes r.1 r.2

/-- The log writer asks for the beats of its oldest record (R90, R91). -/
def Module.writeRecord (m : Module) : Module :=
  match m.logq with
  | [] => m
  | r :: _ => m.busAsk Bus.log (beatsOf r.1 r.2.length) .record Module.writeOldest

/-- OCCURRENCE_RECORD_WRITE (R494). -/
def execOccurrenceRecordWrite (s : State) := s.runOn Module.writeRecord

end Sys2Proof.Machine
end

