-- ==== Sys2Proof/Machine/Reserves.lean ====
section
/-! DEFINITION. Reserves.lean: reserves and their switches, substitution and its three phases (R501 to R507). -/

namespace Sys2Proof.Machine

/-! ### Units (R501, R518) -/

/-- Physical units of a kind. -/
def unitCount : UnitKind → Nat
  | .engine => 10
  | .generator => 34
  | .port => 18
  | .core => 5
  | .comparator => 28

/-- Logical numbers of a kind. -/
def logicalCount : UnitKind → Nat
  | .engine => 8
  | .generator => 32
  | .port => 16
  | .core => 4
  | .comparator => 24

/-- The physical unit that serves logical number `n`. -/
def Module.serves (m : Module) (k : UnitKind) (n : Nat) : Nat :=
  match k with
  | .engine => m.phys n
  | .generator => m.rf (R.PWM_MAP n) F.PWM_MAP_PHYS
  | .port => m.rf (R.LN_MAP n) F.LN_MAP_PHYS
  | .core => m.coreOf n
  | .comparator => m.pairOf n

/-- The logical number that a physical unit serves, if any. -/
def Module.logicalOf (m : Module) (k : UnitKind) (p : Nat) : Option Nat :=
  (List.range (logicalCount k)).find? (fun n => m.serves k n == p)

/-- The reserve that a substitution takes: the lowest unmarked unit that neither serves nor is retired. -/
def Module.reserveFor (m : Module) (k : UnitKind) : Option Nat :=
  (List.range (unitCount k)).find? (fun p =>
    (m.logicalOf k p).isNone && !m.sid.retired.contains (unitCode k p) && !m.marked k p)

/-! ### Copies of an engine's memory (R505) -/

/-- Move what stands in `[a, a + n)` of BAR2 to `b`: the bytes there are replaced. -/
def Module.copyRange (m : Module) (a b n : Nat) : Module :=
  let src := m.mem.filter (fun p => a ≤ p.1 ∧ p.1 < a + n)
  let m := { m with mem := m.mem.filter (fun p => ¬(b ≤ p.1 ∧ p.1 < b + n)) }
  src.foldl (fun m p => m.setMb (p.1 - a + b) p.2) m

/-- Copy the IM half in use and the DM of engine `p` into engine `r`. -/
def Module.copyEngine (m : Module) (p r : Nat) : Module :=
  let half := m.rf (R.ENG_STAT p) F.ENG_STAT_IMH
  let base (k : Nat) := 0x01000000 + 0x80000 * k
  let m := m.copyRange (base p + 0x10000 * half) (base r + 0x10000 * half) 0x10000
  let m := m.copyRange (base p + 0x20000) (base r + 0x20000) 0x40000
  m.wf (R.ENG_STAT r) F.ENG_STAT_IMH half

/-! ### Takeover (R505) -/

/-- Reserve `r` takes the logical number of `p`. -/
def Module.takeOver (m : Module) (k : UnitKind) (p r : Nat) : Module :=
  match m.logicalOf k p with
  | none => m
  | some n =>
    match k with
    | .engine =>
      let m := m.copyEngine p r
      let st := m.rf (R.ENG_STAT p) F.ENG_STAT_STATE
      let m := { m with engMap := SMap.put id m.engMap n r }
      let m := (m.wf (R.ENG_STAT r) F.ENG_STAT_ROLE 0).wf (R.ENG_STAT r) F.ENG_STAT_LE n
      let m := m.wf (R.ENG_STAT r) F.ENG_STAT_STATE st
      (m.wf (R.ENG_STAT p) F.ENG_STAT_ROLE 3).wf (R.ENG_STAT p) F.ENG_STAT_STATE 0
    | .generator => (m.wf (R.PWM_MAP n) F.PWM_MAP_PHYS r).setFlag (R.PWM_MAP n) F.PWM_MAP_SHADOW false
    | .port => (m.wf (R.LN_MAP n) F.LN_MAP_PHYS r).setFlag (R.LN_MAP n) F.LN_MAP_SHADOW false
    | .core => { m with sid := { m.sid with coreOf := SMap.put id m.sid.coreOf n r } }
    | .comparator => { m with sid := { m.sid with pairOf := SMap.put id m.sid.pairOf n r } }

/-- STATE, LAST, UNIT and RES of SID_STAT. -/
def Module.sidState (m : Module) (st : Nat) : Module := m.wf R.SID_STAT F.SID_STAT_STATE st
def Module.sidLast (m : Module) (l : Nat) : Module := m.wf R.SID_STAT F.SID_STAT_LAST l

/-- The shadow frame ends without mismatch: takeover (R505). -/
def Module.subDone (m : Module) : Module :=
  let u := m.rf R.SID_STAT F.SID_STAT_UNIT
  match unitOf u, unitOf (m.rf R.SID_STAT F.SID_STAT_RES) with
  | some (k, p), some (_, r) =>
    let m := m.takeOver k p r
    let m := { m with sid := { m.sid with retired := m.sid.retired ++ [u], inconclusive := 0, copied := false, danger := false } }
    let m := (m.sidState 0).sidLast 1
    (m.bump R.SID_SUBS R.SID_SAT 0).raiseFree FS.SID_SUB_DONE .none
  | _, _ => m.sidState 0

/-- A mismatch (R507): the reserve returns to reserve, and at its second is retired. -/
def Module.subMismatch (m : Module) : Module :=
  let r := m.rf R.SID_STAT F.SID_STAT_RES
  let n := SMap.getD 0 m.sid.misses r + 1
  let m := m.abandonSub 2
  let m := { m with sid := { m.sid with misses := SMap.setD 0 m.sid.misses r n } }
  let m := if n < 2 then m
    else
      let m := { m with sid := { m.sid with retired := m.sid.retired ++ [r] } }
      match unitOf r with
      | some (.engine, e) => m.wf (R.ENG_STAT e) F.ENG_STAT_ROLE 3
      | _ => m
  (m.bump R.SID_FAILS R.SID_SAT 1).raiseFree FS.SID_SUB_FAIL .none

/-! ### Start (R504) -/

/-- The copy master's budget of the active copy. -/
def Module.reserveBudget (m : Module) : Nat :=
  match m.activeCopy with
  | some c => m.hdr c 0x34 % 2 ^ 24
  | none => 0

/-- A substitution of kind `k` needs a copy, and the active copy leaves it no budget (R504). -/
def Module.noBudget (m : Module) (k : UnitKind) : Bool := (k == .engine || k == .port) && m.reserveBudget == 0

/-- The unit that is wanted: the host's request, else the first marked unit in service while AUTO is set, but for units
that found no reserve; a unit whose copy has no budget does not keep back those that need none. -/
def Module.wanted (m : Module) : Option Nat :=
  let serving (u : Nat) : Bool := match unitOf u with
    | some (k, p) => (m.logicalOf k p).isSome
    | none => false
  let waits (free : Bool) (u : Nat) : Bool := serving u && !m.sid.noReserve.contains u && match unitOf u with
    | some (k, p) => m.marked k p && !(free && m.noBudget k)
    | none => false
  if m.flag R.SID_CTRL F.SID_CTRL_SUB && serving (m.rf R.SID_CTRL F.SID_CTRL_UNIT) then some (m.rf R.SID_CTRL F.SID_CTRL_UNIT)
  else if m.flag R.SID_CFG F.SID_CFG_AUTO then
    ((List.range 0x8C).find? (waits true)).or ((List.range 0x8C).find? (waits false))
  else none

/-- Beats of the copy of a unit (R505): an engine's IM half in use and every DM area in use. What a port's training results and
counters take the spec does not state: none (DESIGN CHOICE, log 83). -/
def Module.copyBeats (m : Module) (k : UnitKind) (p : Nat) : Nat :=
  match k, m.servedBy p with
  | .engine, some e => 4096 + ((m.activeTasks e).map (fun t => (t.dmSize + 15) / 16)).sum
  | _, _ => 0

/-- The reserve copy goes on with the beats of its period (R505). -/
def Module.serveCopy (m : Module) : Module :=
  if m.rf R.SID_STAT F.SID_STAT_STATE ≠ 1 ∨ m.sid.copyLeft = 0 then m
  else
    let n := min m.sid.copyLeft (m.budget Bus.reserve - m.used Bus.reserve)
    let m := ({ m with sid := { m.sid with copyLeft := m.sid.copyLeft - n } } : Module).charge Bus.reserve n
    if m.sid.copyLeft = 0 then m else m.delay Bus.reserve

/-- A substitution starts, is held back, or cannot start (R504). -/
def Module.subStart (m : Module) : Module :=
  match m.wanted with
  | none => (if m.rf R.SID_STAT F.SID_STAT_STATE = 3 then m.sidState 0 else m).setFlag R.SID_CTRL F.SID_CTRL_SUB false
  | some u =>
    if m.flag R.TTB_STAT F.TTB_STAT_ARMED || m.flag R.SYS_MODE F.SYS_MODE_HALTING then m.sidState 3
    else
      let m := m.setFlag R.SID_CTRL F.SID_CTRL_SUB false
      let m := (m.sidState 0).wf R.SID_STAT F.SID_STAT_UNIT u
      match unitOf u with
      | none => m
      | some (k, p) =>
        match m.reserveFor k with
        | none =>
          let m := m.sidLast 5
          if m.sid.noReserve.contains u then m
          else ({ m with sid := { m.sid with noReserve := m.sid.noReserve ++ [u] } } : Module).raiseFree FS.SID_NO_RESERVE .none
        | some r =>
          if m.noBudget k then m.sidLast 6
          else
            let m := m.wf R.SID_STAT F.SID_STAT_RES (unitCode k r)
            let m := m.shadowFlag u (unitCode k r) true
            let m := { m with sid := { m.sid with inconclusive := 0, copied := false, danger := false,
                                                  copyLeft := m.copyBeats k p } }
            (m.sidState (if k = .engine ∨ k = .port then 1 else 2)).serveCopy

/-- What substitution does at a frame boundary, before step 1 of R86 (R504 to R507). `mismatch`: the shadow frame that ends
here found the reserve differing from the original (R506). -/
def Module.subBoundary (m : Module) (mismatch : Bool) : Module :=
  if !m.up then m
  else if m.subRuns && (m.flag R.TTB_STAT F.TTB_STAT_ARMED || m.flag R.SYS_MODE F.SYS_MODE_HALTING) then m.abandonSub 4
  else match m.rf R.SID_STAT F.SID_STAT_STATE with
    | 1 => if m.sid.copied then m.sidState 2 else m
    | 2 =>
      if mismatch then m.subMismatch
      else if m.sid.danger then
        if 2 ≤ m.sid.inconclusive then m.abandonSub 3
        else { m with sid := { m.sid with inconclusive := m.sid.inconclusive + 1, danger := false } }
      else m.subDone
    | _ => m.subStart

/-- SUBSTITUTION_COPY_DONE (R505): the reserve holds the original's memories, or the port's training results. While beats of the
copy still wait for their budget the copy is not done. -/
def Module.subCopied (m : Module) : Module :=
  if m.rf R.SID_STAT F.SID_STAT_STATE ≠ 1 ∨ m.sid.copyLeft ≠ 0 then m
  else
    let m := { m with sid := { m.sid with copied := true } }
    match unitOf (m.rf R.SID_STAT F.SID_STAT_UNIT), unitOf (m.rf R.SID_STAT F.SID_STAT_RES) with
    | some (.engine, p), some (.engine, r) => m.copyEngine p r
    | _, _ => m
def execSubstitutionCopyDone (s : State) := s.runUp Module.subCopied

/-- SID_CTRL.ABORT (R507). -/
def Module.goSidAbort (m : Module) : Module := (m.abandonSub 4).setFlag R.SID_CTRL F.SID_CTRL_ABORT false

/-- GENERATOR_LOOPBACK_CHECK (R503): every 10 s; `bad` are the physical generators with an edge off its placement by more
than one fine step. -/
def execGeneratorLoopbackCheck (bad : List (Fin 34)) (s : State) :=
  s.runUp (bad.foldl (fun m g => m.markUnit .generator g) ·)

end Sys2Proof.Machine
end

