-- ==== Sys2Proof/Machine/Heading.lean ====
section
/-! DEFINITION. Heading.lean: double heading: pairing, the mirror set, the heading hold and takeover (R513 to R516). -/

namespace Sys2Proof.Machine

/-! ### Roles and HL_ACT (R513) -/

/-- ROLE: 0 unpaired, 1 lead, 2 standby. -/
def Module.role (m : Module) : Nat := m.rf R.SID_HL_STAT F.SID_HL_STAT_ROLE
def Module.setRole (m : Module) (r : Nat) : Module := m.wf R.SID_HL_STAT F.SID_HL_STAT_ROLE r

/-- HL_ACT as the module drives it: the lead's, but inactive while unpowered, in HALT, removed or core-silent. -/
def Module.hlAct (m : Module) : Bool :=
  m.role == 1 && m.up && !m.halted && !m.sys.removed && !m.sys.coreSilent

/-! ### The mirror set (R514) -/

/-- DM areas in use and yard regions with MIRROR set: the address in the snapshot, where logical engines are numbered as
programs number them, this module's own address, and the length. -/
def Module.mirrorRanges (m : Module) : List (Nat × Nat × Nat) :=
  ((List.range 8).flatMap (fun e => (m.activeTasks e).map (fun t =>
    (0x01020000 + 0x80000 * e + t.dmBase, m.dmAddr e t.dmBase, t.dmSize))))
  ++ (match m.activeCopy with
    | none => []
    | some c => (List.range 64).filterMap (fun i =>
        let a := 0x01838000 + 0x400 * c + 16 * i
        let w0 := m.mn a 4
        if w0.testBit 31 && (m.mn (a + 4) 4).testBit 0 then
          let s := regionSpan w0
          some (s.1, s.1, s.2 - s.1)
        else none))

/-- The registers of the mirror set: loop units' state and the committed consists. -/
def mirrorRegs : List Nat :=
  (List.range 128).flatMap (fun u => [R.LU_STAT u, R.LU_OUT u])
  ++ (List.range 32).flatMap (fun g => [R.PWM_PERIOD g, R.PWM_PERFR g, R.PWM_PHASE g, R.PWM_CMPA g, R.PWM_CMPB g,
      R.PWM_DTR g, R.PWM_DTF g, R.PWM_TRIG0 g, R.PWM_TRIG1 g, R.PWM_FORCE g])

/-- The value of a consist field or a loop-unit register as last committed: a commit that waits for its reload counts. -/
def Module.committed (m : Module) (a : Nat) : DWord :=
  let g := (a - 0x90000) / 0x200
  if a < 0x90000 then m.rd a
  else match ((m.gen g).commits.filter (fun c => c.addr == a)).getLast? with
    | some c => c.val.setWidth 64
    | none => m.rd a

/-- Bytes of the mirror set: memories, 4 for each register, 4 for each word of a loop unit's state, the frame word. -/
def Module.mirrorSize (m : Module) : Nat :=
  (m.mirrorRanges.map (fun r : Nat × Nat × Nat => r.2.2)).sum + 4 * mirrorRegs.length + 128 * 24 + 4

/-- The snapshot at a boundary (R514). -/
def Module.snapshot (m : Module) : Snapshot where
  bytes := m.mirrorRanges.flatMap (fun r =>
    (m.mem.filter (fun p => r.2.1 ≤ p.1 ∧ p.1 < r.2.1 + r.2.2)).map (fun p => (p.1 - r.2.1 + r.1, p.2)))
  regs := (mirrorRegs.filter (fun a => m.committed a ≠ regReset a)).map (fun a => (a, m.committed a))
  units := m.lu.map (fun p => (p.1, [p.2.s0, p.2.s1, p.2.s2, p.2.s3], p.2.feRun, p.2.satRun))
  frameWord := m.sys.frameStart
  ready := m.sys.readySeen
  libs := m.eng.libs
  at' := m.now

/-- The frame length in force, in ticks (R32). -/
def Module.frameLen (m : Module) : Nat :=
  match m.activeCopy with
  | some c => m.hdr c 0 % 2 ^ 23
  | none => 500000

/-- Load a snapshot (R515), taken at the lead's boundary one frame before: the mirror set takes its values; READY is taken
from it. -/
def Module.loadSnapshot (m : Module) (s : Snapshot) : Module :=
  let rs := m.mirrorRanges
  let m := rs.foldl (fun m r =>
    let m := { m with mem := m.mem.filter (fun p => ¬(r.2.1 ≤ p.1 ∧ p.1 < r.2.1 + r.2.2)) }
    (s.bytes.filter (fun p => r.1 ≤ p.1 ∧ p.1 < r.1 + r.2.2)).foldl (fun m p => m.setMb (p.1 - r.1 + r.2.1) p.2) m) m
  let m := mirrorRegs.foldl (fun m a => m.wr a (((s.regs.find? (fun p => p.1 == a)).map (·.2)).getD (regReset a))) m
  let m := (List.range 32).foldl (fun m g => m.setGen g { m.gen g with commits := [] }) m
  let here (t : Nat) : Nat := t + m.now - (s.at' + m.frameLen)
  let core (w : List Word) (fe sat : Nat) : LuCore := ⟨w.getD 0 0, w.getD 1 0, w.getD 2 0, w.getD 3 0, fe, sat⟩
  { m with lu := s.units.foldl (fun l u => SMap.setD LuCore.init l (u.1 % 128) (core u.2.1 u.2.2.1 u.2.2.2)) [],
           sys := { m.sys with readySeen := s.ready }
           eng := { m.eng with libs := s.libs.foldl (fun l p => SMap.setD none l p.1 (p.2.map (LibState.moved here))) [] } }

/-! ### Pairing (R513) -/

/-- A generator that the active copy writes is routed to a gate destination (R256). -/
def Module.gateRouted (m : Module) : Bool :=
  (List.range 12).any (fun d => m.flag (R.PWM_TT d) F.PWM_TT_EN
    && m.activeOuts.contains (1, m.rf (R.PWM_TT d) F.PWM_TT_SRC))

/-- This clock is LOCKED on PTP or PPS with ALIGN = 1. -/
def Module.hlClock (m : Module) : Bool :=
  m.rf R.CLK_STAT F.CLK_STAT_STATE == 3 && [2, 3].contains (m.rf R.CLK_CFG F.CLK_CFG_SRC) && m.cflag R.CLK_CFG F.CLK_CFG_ALIGN

/-- The generation of the active bank's directory (R508). -/
def Module.dirGeneration (m : Module) : Nat := m.mn (norBase m.activeBank + 4) 4

/-- CODE: the first pairing condition that fails, 0 where all hold (R513). -/
def Module.pairCode (m : Module) (p : Peer) : Nat :=
  if !(p.lane0 || p.lane1) then 1
  else if m.activeCopy.isNone || p.copyCrc.toNat != m.eng.activeCrc || p.generation.toNat != m.dirGeneration then 2
  else if !m.hlClock || !p.locked || p.frame.toNat != m.frameLen then 3
  else if m.gateRouted then 4
  else if m.frameLen * 256 < m.mirrorSize * 500 then 5
  else 0

/-- This module becomes the lead (R513). A peer that asserts HL_ACT leads already: a module that joins it is the standby
(R516). -/
def Module.leads (m : Module) (p : Peer) : Bool :=
  let mine := decide (6 ≤ m.mode)
  let theirs := decide (6 ≤ p.mode.val)
  if m.flag R.SID_HL_STAT F.SID_HL_STAT_PEER_ACT then false
  else if mine != theirs then mine
  else
    let want := m.flag R.SID_HL_CFG F.SID_HL_CFG_WANT_LEAD
    if want != p.wantLead then want else decide (m.rn R.SYS_UID < p.uid.toNat)

/-- The heading hold begins or ends (R515). -/
def Module.setHeadingHold (m : Module) (b : Bool) : Module :=
  if m.hl.hold = b then m else ({ m with hl := { m.hl with hold := b } } : Module).refreshGens

/-- A lane loses lock (R514). -/
def Module.laneLoss (m : Module) (lane : Nat) : Module :=
  let f := if lane = 0 then F.SID_HL_STAT_LANE0 else F.SID_HL_STAT_LANE1
  if m.flag R.SID_HL_STAT f then (m.setFlag R.SID_HL_STAT f false).raiseFree FS.HL_LANE .none else m
def execHeadingLaneLoss (lane : Fin 2) (s : State) := s.runUp (·.laneLoss lane)

/-- The lanes as a boundary finds them. -/
def Module.showLanes (m : Module) (p : Option Peer) : Module :=
  match p with
  | none => m
  | some p =>
    let m := if p.lane0 then m.setFlag R.SID_HL_STAT F.SID_HL_STAT_LANE0 true else m.laneLoss 0
    if p.lane1 then m.setFlag R.SID_HL_STAT F.SID_HL_STAT_LANE1 true else m.laneLoss 1

/-- Pairing at a boundary (R513). -/
def Module.tryPair (m : Module) (p : Option Peer) : Module :=
  match p with
  | none => m.wf R.SID_HL_STAT F.SID_HL_STAT_CODE 1
  | some p =>
    if !p.en then m
    else
      let c := m.pairCode p
      let m := m.wf R.SID_HL_STAT F.SID_HL_STAT_CODE c
      if c ≠ 0 then m
      else if m.leads p then m.setRole 1
      else
        let m := { m with hl := { m.hl with last := none, notice := none, inactiveAt := none } }
        (m.setRole 2).setHeadingHold true

/-! ### The standby (R515, R516) -/

/-- SNAPSHOT_RECEIVED (R514, R515): complete at least 10 µs before the boundary, or found incomplete. -/
def Module.snapshotReceived (m : Module) (s : Option Snapshot) : Module :=
  if m.role ≠ 2 then m
  else match s with
    | some s => { m with hl := { m.hl with last := some s } }
    | none =>
      let m := m.bump R.SID_HL_MISS R.SID_SAT 2
      if !m.flag R.SID_HL_STAT F.SID_HL_STAT_PEER_ACT || m.hl.lostSec == m.todSec + 1 then m
      else ({ m with hl := { m.hl with lostSec := m.todSec + 1 } } : Module).raiseFree FS.HL_LOST .none
def execSnapshotReceived (snap : Option Snapshot) (s : State) := s.runUp (·.snapshotReceived snap)

/-- SNAPSHOT_SEND (R514): the lead sends the image of the last boundary on both lanes. -/
def Module.snapshotSend (m : Module) : Module :=
  match m.hl.taken with
  | some s =>
    if m.role = 1 then
      ({ m with hl := { m.hl with sent := some s } } : Module).wf R.SID_HL_STAT F.SID_HL_STAT_KIB ((m.mirrorSize + 1023) / 1024)
    else m
  | none => m
def execSnapshotSend (s : State) := s.runUp Module.snapshotSend

/-- HALT_NOTICE_RECEIVED (R516). -/
def execHaltNoticeReceived (cause : BitVec 8) (s : State) :=
  s.runUp (fun m => if m.role = 2 then { m with hl := { m.hl with notice := some cause.toNat } } else m)

/-- HL_ACT_IN_CHANGE (R516): the peer's HL_ACT. -/
def execHlActInChange (active : Bool) (s : State) :=
  s.runUp (fun m =>
    ({ m with hl := { m.hl with inactiveAt := if active then none else some m.now } } : Module).setFlag
      R.SID_HL_STAT F.SID_HL_STAT_PEER_ACT active)

/-- The standby takes over (R516). -/
def Module.headingTakeover (m : Module) : Module :=
  let m := match m.hl.last with
    | some s => m.loadSnapshot s
    | none => m
  let m := { m with hl := { m.hl with notice := none, inactiveAt := none } }
  (m.setRole 1).setHeadingHold false |>.raiseFree FS.HL_TAKEOVER .none

/-- The HALT notice lets the standby take over (R516). -/
def Module.takesOver (m : Module) : Bool :=
  match m.hl.notice with
  | none => true
  | some c => c == 0x0A || ([5, 6, 8].contains c && m.flag R.SID_HL_CFG F.SID_HL_CFG_TAKE_HALT)

/-- The standby at a boundary: the decision of R516 once the peer's HL_ACT has been inactive for 1 µs, else the last
complete snapshot is loaded (R515). -/
def Module.standbyBoundary (m : Module) : Module :=
  match m.hl.inactiveAt with
  | some t =>
    if m.now < t + frameGuard then m
    else if m.takesOver then m.headingTakeover
    else (m.setRole 0).setHeadingHold false |>.haltEnter 3 0
  | none => match m.hl.last with
    | some s => m.loadSnapshot s
    | none => m

/-- The next mode on the standby's way to its lead's (R515): one transition of R34 at a boundary. -/
def towards (mode lead : Nat) : Option Nat :=
  match mode with
  | 3 => if 4 ≤ lead then some 4 else none
  | 4 => if lead = 5 then some 5 else if 6 ≤ lead then some 6 else none
  | 5 => if lead ≠ 5 then some 4 else none
  | 6 => if lead = 7 then some 7 else if lead ≠ 6 then some 4 else none
  | _ => if lead ≠ 7 then some 4 else none

/-- The mode request that the standby makes of itself. -/
def Module.standbyRequest (m : Module) : Option Nat :=
  if m.role = 2 then m.hl.last.bind (fun s => towards m.mode (s.frameWord.toNat % 16)) else none

/-- Double heading at a frame boundary, before its mode transition (R513 to R516). A lead that has let HL_ACT go and whose peer
has taken over joins again (DEDUCED, log 83). -/
def Module.hlBoundary (m : Module) (p : Option Peer) : Module :=
  if !m.up then m
  else if !m.flag R.SID_HL_CFG F.SID_HL_CFG_EN then
    if m.role = 0 then m else (m.setRole 0).setHeadingHold false
  else
    let m := m.showLanes p
    match m.role with
    | 0 => m.tryPair p
    | 2 => m.standbyBoundary
    | _ => if m.flag R.SID_HL_STAT F.SID_HL_STAT_PEER_ACT && !m.hlAct then (m.setRole 0).tryPair p else m

/-- The lead takes the snapshot that it will send (R514). -/
def Module.takeSnapshot (m : Module) : Module :=
  { m with hl := { m.hl with taken := if m.role = 1 then some m.snapshot else none } }

end Sys2Proof.Machine
end

