-- ==== Sys2Proof/Machine/Nvm.lean ====
section
/-! DEFINITION. Nvm.lean: erasing, programming, checking and activating NOR banks, and the key slots (R508 to R511). -/

namespace Sys2Proof.Machine

/-- A bank is locked (R510): it is active, or the active or the armed copy was loaded from it. -/
def Module.bankLocked (m : Module) (b : Nat) : Bool :=
  m.activeBank == b
    || (match m.activeCopy with
        | some c => SMap.getD 0 m.eng.bankOf c == b
        | none => false)
    || (m.flag R.TTB_STAT F.TTB_STAT_ARMED && m.eng.armedBank == b)

/-- LOCK0 and LOCK1 show the locks. -/
def Module.showLocks (m : Module) : Module :=
  let m := m.setFlag R.NVM_STAT F.NVM_STAT_LOCK0 (m.bankLocked 0)
  m.setFlag R.NVM_STAT F.NVM_STAT_LOCK1 (m.bankLocked 1)

/-- ACTIVE, KEYS, REVOKED and the locks as the boot record and OTP give them (R519). -/
def Module.nvmLoad (m : Module) : Module :=
  let m := m.wf R.NVM_STAT F.NVM_STAT_ACTIVE m.nvm.bootBank
  let m := m.wf R.NVM_STAT F.NVM_STAT_KEYS m.nvm.enrolled
  (m.wf R.NVM_STAT F.NVM_STAT_REVOKED m.nvm.revoked).showLocks

/-- NVM_CMD.GO (R509): the command runs until NVM_COMMAND_DONE. -/
def Module.goNvm (m : Module) : Module :=
  if m.nvm.running.isSome then m
  else
    let m := m.setFlag R.NVM_STAT F.NVM_STAT_BUSY true
    { m with nvm := { m.nvm with running := some (m.rn R.NVM_CMD) } }

/-- Sectors of a bank, and their size. -/
abbrev nvmSectors : Nat := 512
abbrev nvmSector : Nat := 0x10000

/-- Spare sectors of a bank in use (R519). -/
def spareField (b : Nat) : Field := if b = 0 then F.NVM_SPARE_BANK0 else F.NVM_SPARE_BANK1

/-- Erase a sector (R509, R510): its bytes read as bytes nothing has written. -/
def Module.eraseBytes (m : Module) (b a : Nat) : Module :=
  let lo := norBase b + nvmSector * a
  { m with mem := m.mem.filter (fun p => ¬(lo ≤ p.1 ∧ p.1 < lo + nvmSector)) }

/-- ERASE (R509, R510), with its RESULT: a sector at 100,000 erases is remapped to a spare, which takes the erase. -/
def Module.nvmErase (m : Module) (b a : Nat) : Module × Nat :=
  if m.bankLocked b then (m, 1)
  else if nvmSectors ≤ a then (m, 2)
  else
    let k := 512 * b + a
    let n := SMap.getD 0 m.nvm.erases k
    let used := m.rf R.NVM_SPARE (spareField b)
    if n < 100000 then
      (({ m with nvm := { m.nvm with erases := SMap.setD 0 m.nvm.erases k (n + 1) } } : Module).eraseBytes b a, 0)
    else if 32 ≤ used then (m.raiseFree FS.NVM_SPARE_OUT .none, 8)
    else
      let m := m.wf R.NVM_SPARE (spareField b) (used + 1)
      (({ m with nvm := { m.nvm with erases := SMap.setD 0 m.nvm.erases k 1 } } : Module).eraseBytes b a, 0)

/-- PROGRAM (R509): a page from the buffer at BAR2 0x018C_0000, then the read-back. -/
def Module.nvmProgram (m : Module) (b a : Nat) (readBack : Bool) : Module × Nat :=
  if m.bankLocked b then (m, 1)
  else
    let m := m.setBytes (norBase b + 256 * a) (m.mbytes 0x018C0000 256)
    (m, if readBack then 0 else 3)

/-- CHECK (R509): the directory's CRC, then R146 steps 1 to 5 for every image. -/
def Module.bankOk (m : Module) (b : Nat) : Bool :=
  m.dirCrcOk b && (List.range 512).all (fun t => match m.dirEntry b t with
    | some (a, n) => m.imageVerified a n
    | none => true)

/-- ACTIVATE (R509): CHECK, then the boot record names the bank. -/
def Module.nvmActivate (m : Module) (b : Nat) : Module × Nat :=
  if !m.bankOk b then (m, 4)
  else (({ m with nvm := { m.nvm with bootBank := b } } : Module).wf R.NVM_STAT F.NVM_STAT_ACTIVE b, 0)

/-- The authorisation in the page buffer verifies (R511): SYS_UID and buffer bytes 0 to 63, under an enrolled key that is
not revoked; slot, code and reserved bytes as they must be. -/
def Module.authorised (m : Module) (code slot : Nat) : Bool :=
  let b := m.mbytes 0x018C0000 128
  let msg := leBytes 8 (m.rn R.SYS_UID) ++ b.take 64
  let sig := b.drop 64
  (b.getD 32 0).toNat == slot && (b.getD 33 0).toNat == code
    && (b.take 64).drop 34 == List.replicate 30 0
    && (code != 6 || b.take 32 == List.replicate 32 0)
    && (List.range 4).any (fun k => match m.slotKey k with
        | some key => Config.ed25519 key msg sig
        | none => false)

/-- Slots enrolled and not revoked. -/
def Module.liveKeys (m : Module) : Nat := ((List.range 4).filter (fun k => (m.slotKey k).isSome)).length

/-- ENROL and REVOKE (R511). -/
def Module.nvmKey (m : Module) (code slot : Nat) : Module × Nat :=
  if m.mode ≠ 3 then (m, 5)
  else if !m.authorised code slot then (m, 6)
  else if code = 5 then
    if slot = 0 ∨ m.nvm.enrolled.testBit slot then (m, 7)
    else (({ m with nvm := { m.nvm with keys := SMap.setD [] m.nvm.keys slot (m.mbytes 0x018C0000 32),
                                        enrolled := m.nvm.enrolled ||| 2 ^ slot } } : Module), 0)
  else if (m.slotKey slot).isNone ∨ m.liveKeys ≤ 1 then (m, 7)
  else (({ m with nvm := { m.nvm with revoked := m.nvm.revoked ||| 2 ^ slot } } : Module), 0)

/-- A command with its RESULT; for a code that R509 does not list the spec states none. -/
def Module.nvmRun (m : Module) (w : Nat) (readBack : Bool) : Module × Nat :=
  let b := bitsN w 20 20
  let a := bitsN w 16 0
  match bitsN w 27 24 with
  | 1 => m.nvmErase b a
  | 2 => m.nvmProgram b a readBack
  | 3 => (m, if m.bankOk b then 0 else 4)
  | 4 => m.nvmActivate b
  | 5 => m.nvmKey 5 (a % 4)
  | 6 => m.nvmKey 6 (a % 4)
  | _ => (m.free.2, m.free.1.toNat % 256)

/-- NVM_COMMAND_DONE (R509): the command's effect, RESULT, and NVM_FAIL where RESULT is not 0x00 (R517). `readBack`: what
PROGRAM read back agrees. -/
def Module.nvmDone (m : Module) (readBack : Bool) : Module :=
  match m.nvm.running with
  | none => m
  | some w =>
    let r := m.nvmRun w readBack
    let m := { r.1 with nvm := { r.1.nvm with running := none } }
    let m := m.wf R.NVM_STAT F.NVM_STAT_KEYS m.nvm.enrolled
    let m := m.wf R.NVM_STAT F.NVM_STAT_REVOKED m.nvm.revoked
    let m := (m.wf R.NVM_STAT F.NVM_STAT_RESULT r.2).setFlag R.NVM_STAT F.NVM_STAT_BUSY false
    let m := (m.setFlag R.NVM_CMD F.NVM_CMD_GO false).showLocks
    if r.2 = 0 then m else m.raiseFree FS.NVM_FAIL .none
def execNvmCommandDone (readBack : Bool) (s : State) := s.runOn (·.nvmDone readBack)

end Sys2Proof.Machine
end

