-- ==== Sys2Proof/Machine/Boundary.lean ====
section
/-! DEFINITION. Boundary.lean: what a major frame boundary does: writes due, the copy's CRC, the switch, the mode
transition, shedding, loop-unit requests, the frame-start word (R32, R34, R36, R38, R39, R61, R82 to R87, R96, R179 to
R181, R259). -/

namespace Sys2Proof.Machine

/-! ### Pending and held writes (R61, R67) -/

/-- A write made at tick `t` applies at this boundary (R61). -/
def Module.dueAt (m : Module) (t : Nat) : Bool := decide (t + frameGuard ≤ m.now)

/-- A pending write of a request register or of CLK_DIV, which its own rule applies (R34, R179, R198). -/
def ownRule (a : Nat) : Bool :=
  a == R.SYS_MODE_REQ || a == R.CLK_DIV || (List.range 128).any (fun u => a == R.LU_CTRL u)

/-- Lay one pending write over its register. -/
def Module.applyPend (m : Module) (p : PendField) : Module :=
  (m.wr p.addr ((m.rd p.addr &&& ~~~ p.mask) ||| (p.val &&& p.mask))).dropUpsets p.addr p.mask

/-- All pending rb and rtb fields of the frame boundary take their values together (R61). -/
def Module.applyPends (m : Module) : Module :=
  let due := m.pendF.filter (fun p => m.dueAt p.at' && !ownRule p.addr)
  let line := m.clkLine
  let src := m.clkSrc
  let m := { m with pendF := m.pendF.filter (fun p => !(m.dueAt p.at' && !ownRule p.addr)) }
  let m := due.foldl Module.applyPend m
  let m := if due.any (fun p => p.addr == R.MTR_CORR) then { m with mtr := { m.mtr with selSeen := 2 } } else m
  let m := if m.clkLine = line then m else m.moveClkLine line
  if m.clkSrc = src then m else m.srcChanged

/-- A divider pair waits for its compare edge from the boundary on (R198). -/
def Module.divStage (m : Module) : Module :=
  let due := m.pendF.filter (fun p => p.addr == R.CLK_DIV && m.dueAt p.at')
  if due.isEmpty then m
  else
    let v := layPends R.CLK_DIV (m.pendBase R.CLK_DIV) due
    { m with pendF := m.pendF.filter (fun q => !(q.addr == R.CLK_DIV && m.dueAt q.at')),
             clk := { m.clk with divDue := some v.toNat } }

/-- Configuration writes at least 1 µs old act from this boundary (R67, R211, R239, R279, R302, R418, R438, R488). -/
def Module.applyHeld (m : Module) : Module :=
  let old := m
  let m := { m with held := m.held.filter (fun h => !m.dueAt h.at'),
                    heldMem := m.heldMem.filter (fun h => !m.dueAt h.at') }
  let m := if m.heldMem == old.heldMem then m else m.pbTables old
  if m.held == old.held then m else (m.capConfigured old).refreshGens

/-! ### Conditions of a transition (R34) -/

/-- D1: INSPECT has passed since the last start. -/
def Module.condD1 (m : Module) : Bool := m.sys.inspectPassed

/-- D2: a copy is active, so admitted, and the images of its tasks verify. -/
def Module.condD2 (m : Module) : Bool :=
  m.activeCopy.isSome && m.eng.tasks.all (fun p => match p.2 with
    | some t => m.bankImageOk ((m.activeCopy.map (SMap.getD 0 m.eng.bankOf)).getD m.activeBank) t
    | none => true)

/-- D3: the clock is locked (R190). -/
def Module.condD3 (m : Module) : Bool := m.clkState == 3 || m.clkState == 6

/-- HALT causes that only INSPECT leaves (R45). -/
def inspectCauses : List Nat := [2, 5, 8, 0xA]

/-- The HALT cause in force. -/
def Module.haltCause (m : Module) : Nat := m.rf R.SYS_HALT_CAUSE F.SYS_HALT_CAUSE_CAUSE

/-- A fault is latched and waits for the host's clear: a latched source (R497), a latched gate channel (R296), a fault line
LATCHED after its last request (R273). -/
def Module.faultLatched (m : Module) : Bool :=
  m.flag R.FLT_STAT F.FLT_STAT_LATCHED
    || (List.range 24).any (fun ch => m.gd ch F.GD_STAT_LATCH)
    || (List.range 32).any (fun l => m.flag (R.PWM_FL_STAT l) F.PWM_FL_STAT_LATCHED && (m.lineReqs l).isEmpty)

/-- D4: no fault is latched awaiting a clear, and the HALT cause does not require INSPECT. -/
def Module.condD4 (m : Module) : Bool :=
  !m.faultLatched && !(m.mode == 3 && inspectCauses.contains m.haltCause)

/-- P1: the Interlocking has released STO. -/
def Module.condP1 (m : Module) : Bool := m.il.stoRel

/-- The tasks of the active copy. -/
def Module.activeList (m : Module) : List TaskInfo := (List.range 8).flatMap m.activeTasks

/-- Streams that the active timetable reads: enabled entries with REQD (R212). -/
def Module.svRead (m : Module) : List Nat :=
  (List.range 32).filter (fun n => (m.svEntry n 0).testBit 31 && (m.svEntry n 0).testBit 30)

/-- P2: no stream that the active timetable reads is lost. -/
def Module.condP2 (m : Module) : Bool := m.svRead.all (fun n => !(m.platform n).lost)

/-- P3: both supplies of every half-bridge bound to a generator in the timetable. -/
def Module.condP3 (m : Module) : Bool :=
  (List.range 12).all (fun d =>
    !(m.flag (R.PWM_TT d) F.PWM_TT_EN && m.activeOuts.contains (1, m.rf (R.PWM_TT d) F.PWM_TT_SRC))
      || [2 * d, 2 * d + 1].all (fun ch => m.gd ch F.GD_STAT_VPOK && m.gd ch F.GD_STAT_VNOK))

/-- The first of D1 to D4 that fails, as a REFUSE code (R39). -/
def Module.failD (m : Module) : Nat :=
  if !m.condD1 then 2
  else if !m.condD2 then 3
  else if !m.condD3 then 4
  else if !m.condD4 then 5
  else 0

/-- The first of P1 to P3 that fails. -/
def Module.failP (m : Module) : Nat :=
  if !m.condP1 then 6
  else if !m.condP2 then 7
  else if !m.condP3 then 8
  else 0

/-- The table of R34 gives a requested transition from mode `a` to mode `b`. -/
def inTable (a b : Nat) : Bool :=
  [(3, 2), (3, 4), (4, 5), (5, 4), (4, 6), (6, 7), (6, 4), (7, 4)].contains (a, b)

/-- The REFUSE code of a request for `tgt` with `key`, 0 where it is not refused (R39). -/
def Module.refusal (m : Module) (tgt key : Nat) : Nat :=
  let d := if tgt = 4 ∧ m.mode = 3 ∨ tgt = 5 ∨ 6 ≤ tgt then m.failD else 0
  let p := if 6 ≤ tgt then m.failP else 0
  if !inTable m.mode tgt then 1
  else if m.mode = 3 ∧ tgt = 2 then (if m.haltCause = 0x0A then 5 else 0)
  else if d ≠ 0 then d
  else if m.mode = 3 ∧ m.haltCause = 7 ∧ !m.condP1 then 6
  else if p ≠ 0 then p
  else if tgt = 5 ∧ key ≠ 0x3C96 then 9
  else 0

/-! ### Departure and stop (R34, R36, R163) -/

/-- The programs whose READY, and whose STOPPED, the transition waits for: the firm tasks of the active copy that are not
monitoring tasks (R34, R36). -/
def Module.eventTasks (m : Module) : List Nat :=
  match m.activeCopy with
  | some c => ((m.entries c).filter (fun e => e.firm && !e.mon)).map (·.task)
  | none => []

/-- Every departure program has raised its ready event since the boundary before (R34, R163). -/
def Module.allReady (m : Module) : Bool := m.eventTasks.all m.sys.readySeen.contains

/-- Every program has raised its stopped event since the stop began (R36). -/
def Module.allStopped (m : Module) : Bool := m.eventTasks.all m.sys.stoppedSeen.contains

/-! ### Entering a mode -/

/-- Enter mode `code` at a boundary (R30, R33, R34, R37, R245, R271). -/
def Module.enterMode (m : Module) (code : Nat) : Module :=
  let was := m.mode
  let m := (m.wf R.SYS_MODE F.SYS_MODE_MODE code).setFlag R.SYS_MODE F.SYS_MODE_STOPPING false
  let m := { m with sys := { m.sys with stopExpired := false, departTimeout := false } }
  let m := if was = 5 ∧ code ≠ 5 then
      (List.range 34).foldl (fun m g =>
        let x := m.gen g
        (m.wr (R.PWM_FORCE g) 0).setGen g { x with
          stepWait := none, stepLeft := 0, commits := x.commits.filter (fun c => c.addr != R.PWM_FORCE g) })
        (m.setFlag R.SYS_SHUNT F.SYS_SHUNT_GO false)
    else m
  let m := if code = 5 ∨ code = 6 then m.setFlag R.AFE_CFG F.AFE_CFG_LP false else m
  m.setHold (decide (code ≤ 4))

/-- The pending mode requests of the host that are due. -/
def Module.dueRequests (m : Module) : List PendField :=
  m.pendF.filter (fun p => p.addr == R.SYS_MODE_REQ && m.dueAt p.at')

/-- Forget the mode requests that are due; PEND follows. -/
def Module.dropRequests (m : Module) : Module :=
  let m := { m with pendF := m.pendF.filter (fun p => !(p.addr == R.SYS_MODE_REQ && m.dueAt p.at')) }
  m.setFlag R.SYS_MODE_REQ F.SYS_MODE_REQ_PEND (m.pendF.any (fun p => p.addr == R.SYS_MODE_REQ))

/-- A refused request (R39). -/
def Module.refuseMode (m : Module) (code : Nat) : Module :=
  ((m.dropRequests.wf R.SYS_MODE F.SYS_MODE_REFUSE code).irq Irq.REFUSE).raiseFree FS.MODE_REFUSED .none

/-! ### Start through INSPECT (R41, R42, R46, R48) -/

/-- Registers that a requested INSPECT leaves as they are, as what they show ends only under its own clearing rules (R22, R273,
R296): the fault lines' status and the host's requests, and the gate dies' status, latches and links. -/
def keptAtInspect (a : Nat) : Bool :=
  (List.range 32).any (fun l => a == R.PWM_FL_STAT l) || a == R.PWM_FL_ACT || a == R.PWM_FL_HOST
    || (List.range 24).any (fun ch => a == R.GD_STAT ch) || a == R.GD_FAULT || a == R.GD_LINK

/-- A request on a fault line that outlives a requested INSPECT (R22): not the collector's, whose sources are settled, nor
those of removal and core silence, which INSPECT ends. -/
def Req.standing : Req → Bool
  | .coll _ | .removal | .silent => false
  | _ => true

/-- The module's power comes up, or INSPECT is requested: everything is as after reset, but for what is kept without power
or by another domain: NOR, MRAM and OTP (the list of the last INSPECT among it), the Keeper, the Interlocking, saved
configuration, records, retired units. An open incident closes, its sources settled (R493). `link`: a requested INSPECT, with
no loss of power: the host port, with the accesses that wait in it (R52), standing fault-line requests and latches, and the
gate dies stay as they are. -/
def Module.powerUp (m : Module) (link : Bool) : Module :=
  let r := Module.reset
  let reqs := if link then
      (m.pwm.reqs.map (fun p => (p.1, p.2.filter Req.standing))).filter (fun p => p.2 ≠ []) else []
  let restarts := m.rf R.SYS_INSPECT F.SYS_INSPECT_RESTARTS
  let restarts := if m.sys.abandoned then min 0xFF (restarts + 1) else restarts
  let m' : Module := { r with
    now := m.now,
    mem := m.mem.filter (fun p => 0x02000000 ≤ p.1),
    regs := m.regs.filter (fun p => (0xE0000 ≤ p.1 ∧ p.1 < 0xF0000) ∨ (link = true ∧ keptAtInspect p.1 = true)),
    saved := m.saved, savedMem := m.savedMem, logq := (m.closeIncident 1).logq, freeCtr := m.freeCtr,
    host := if link then m.host else { r.host with viol := m.host.viol },
    sys := { r.sys with vmainValid := m.sys.vmainValid, seated := m.sys.seated, frameTick := m.now,
                        inspectLog := m.sys.inspectLog, torn := m.sys.torn },
    pwm := { r.pwm with reqs := reqs },
    gate := if link then { m.gate with recovering := [] } else r.gate,
    nvm := { m.nvm with running := none },
    sid := { r.sid with retired := m.sid.retired, gauge := m.sid.gauge },
    mtr := { r.mtr with record := m.mtr.record },
    il := m.il, keep := m.keep,
    afe := { r.afe with pn := m.afe.pn } }
  let m' := m'.wf R.FLT_STAT F.FLT_STAT_INC (m.rf R.FLT_STAT F.FLT_STAT_INC)
  let m' := if link then m'.wr R.HOST_LINK (m.rd R.HOST_LINK) else m'
  let m' := m'.wf R.SYS_INSPECT F.SYS_INSPECT_RESTARTS restarts
  let m' := (List.range 32).foldl (fun m l => (m.showReqs l).settleLine l) m'
  (m'.bandSelect 2).refreshGens

/-! ### The transition (R34 to R38, R86) -/

/-- A requested transition that is not refused. A request for DEPOT while a controlled stop runs changes nothing (DESIGN CHOICE,
log 83: R36 does not say what it does). -/
def Module.takeRequest (m : Module) (tgt : Nat) : Module :=
  if m.mode = 6 ∧ tgt = 7 ∧ !m.allReady then m
  else if m.mode = 7 ∧ m.flag R.SYS_MODE F.SYS_MODE_RT then m
  else
    let m := (m.wf R.SYS_MODE_REQ F.SYS_MODE_REQ_REQ tgt).dropRequests
    if m.mode = 7 ∧ m.flag R.SYS_MODE F.SYS_MODE_STOPPING then m
    else if m.mode = 7 then
      ({ m with sys := { m.sys with stoppedSeen := [], stopExpired := false } } : Module).setFlag
        R.SYS_MODE F.SYS_MODE_STOPPING true
    else if tgt = 2 then m.powerUp true
    else m.enterMode tgt

/-- The host's request at a boundary (R34, R38, R39): conditions of DEPART to RUN are checked where READY holds. -/
def Module.hostRequest (m : Module) (p : PendField) : Module :=
  let tgt := bitsN p.val.toNat 3 0
  if m.mode = 6 ∧ tgt = 7 ∧ !m.allReady then m
  else
    let r := m.refusal tgt (bitsN p.val.toNat 31 16)
    if r ≠ 0 then m.refuseMode r else m.takeRequest tgt

/-- The standby's own transition (R515): D1 to D4 its own, READY from the snapshot. -/
def Module.standbyMove (m : Module) (tgt : Nat) : Module :=
  let d := if tgt = 4 ∧ m.mode ≠ 3 then 0 else m.failD
  if d ≠ 0 ∨ (tgt = 7 ∧ !m.allReady) then m else m.enterMode tgt

/-- Step 3 of R86: HALT first (R38), which a copy found corrupt at this boundary is on its way to (R96), so that nothing else
moves the mode; then the end of a controlled stop, DEPART_T, and a request. -/
def Module.modeTransition (m : Module) : Module :=
  if m.flag R.SYS_MODE F.SYS_MODE_HALTING then
    let m := { m with pendF := m.pendF.filter (fun p => p.addr ≠ R.SYS_MODE_REQ) }
    let m := (m.setFlag R.SYS_MODE F.SYS_MODE_HALTING false).setFlag R.SYS_MODE_REQ F.SYS_MODE_REQ_PEND false
    m.enterMode 3
  else if m.eng.noFrame then m
  else if m.flag R.SYS_MODE F.SYS_MODE_STOPPING ∧ (m.allStopped ∨ m.sys.stopExpired) then m.enterMode 4
  else if m.mode = 6 ∧ m.sys.departTimeout then m.dropRequests.enterMode 4
  else match m.dueRequests.getLast?, m.standbyRequest with
    | some p, _ => m.hostRequest p
    | none, some tgt => m.standbyMove tgt
    | none, none => m

/-! ### Shedding (R79, R82 to R84) -/

/-- t_adm of logical engine `e` in 1/100 ps, and its largest reading (R79): 0.70 ns too where the gauge is lost (R103). -/
def Module.admTime (m : Module) (e : Nat) : Nat × Nat :=
  let p := m.phys e
  let meas := SMap.getD 0 m.eng.gaugeMax p
  (if SMap.getD 0 m.eng.gaugeN p < 4 ∨ 3 ≤ SMap.getD 0 m.eng.gaugeMiss p then 70000 else min (115 * meas) 70000, meas)

/-- An elastic block fits at `adm` (R79), in units of 1/100 ps. -/
def Module.blockFits (m : Module) (e : Entry) (adm : Nat) : Bool :=
  let w := ((m.taskInfo e.engine e.task).map (·.waitHc)).getD 0
  decide (1400000 + (e.hc - w) * adm + w * 70000 ≤ e.length * 200000)

/-- A result as severe as `a` or more: a smaller p is more severe, and none is least (R84). -/
def notMilder (a b : Option Nat) : Bool :=
  match a, b with
  | _, none => true
  | none, some _ => false
  | some x, some y => decide (x ≤ y)

/-- The milder of two results. -/
def milder (a b : Option Nat) : Option Nat := if notMilder a b then b else a

/-- The test of R82: the smallest PRIO of an elastic block that does not fit. -/
def Module.shedTest (m : Module) (es : List Entry) : Option Nat :=
  (es.filter (fun e => !e.firm && !m.blockFits e (m.admTime e.engine).1)).foldl (fun o e =>
    match o with
    | none => some e.prio
    | some p => some (min p e.prio)) none

/-- The shed level in force. -/
def Module.shedLevel (m : Module) : Option Nat :=
  if m.flag R.TTB_SHED F.TTB_SHED_ACT then some (m.rf R.TTB_SHED F.TTB_SHED_LEVEL) else none

/-- The level after a test with result `r` (R84), and the milder results counted. -/
def Module.shedNext (m : Module) (r : Option Nat) : Option Nat × List (Option Nat) :=
  let l := m.shedLevel
  if notMilder r l then (r, [])
  else
    let h := m.eng.better ++ [r]
    let n := max 1 (m.rf R.TTB_CFG F.TTB_CFG_READMIT_N)
    if n ≤ h.length then ((h.drop (h.length - n)).foldl milder r, []) else (l, h)

/-- Each elastic task of PRIO `p` or greater, once (R82). -/
def shedTasks (es : List Entry) (l : Option Nat) : List Nat :=
  match l with
  | none => []
  | some p => (es.filter (fun e => !e.firm && decide (p ≤ e.prio))).foldl (fun ts e =>
      if ts.contains e.task then ts else ts ++ [e.task]) []

/-- Step 4 of R86. TTB_GAUGE.ADM shows t_adm in whole ps, rounded down (DESIGN CHOICE, log 83). -/
def Module.shed (m : Module) : Module :=
  let es := match m.activeCopy with
    | some c => m.entries c
    | none => []
  let m := (List.range 8).foldl (fun m e =>
    let t := m.admTime e
    (m.wf (R.TTB_GAUGE e) F.TTB_GAUGE_ADM (t.1 / 100)).wf (R.TTB_GAUGE e) F.TTB_GAUGE_MEAS t.2) m
  let (l, h) := m.shedNext (m.shedTest es)
  let now := shedTasks es l
  let m := { m with eng := { m.eng with
    better := h, shedPrev := m.eng.shedNow, shedNow := now, gaugeN := [], gaugeMax := [] } }
  let m := (m.setFlag R.TTB_SHED F.TTB_SHED_ACT l.isSome).wf R.TTB_SHED F.TTB_SHED_LEVEL (l.getD 0)
  let m := m.wf R.TTB_SHED F.TTB_SHED_NSHED now.length
  if l.isNone then m else (m.bump R.TTB_SHED_FR R.TTB_SAT 14).raiseFree FS.TT_SHED .none

/-! ### Loop-unit requests (R179 to R181) -/

/-- Coefficients that a form uses (R173). -/
def luUsed (form : Nat) : Nat :=
  match form with
  | 0 => 4
  | 1 => 5
  | 2 => 7
  | _ => 6

/-- A request for CLOSED is refused (R180). -/
def Module.luRefused (m : Module) (u : Nat) : Bool :=
  (List.range (luUsed (m.luForm u))).any (fun k => !Fp.isFinite (m.luK u k))
    || !Fp.isFinite (m.luLo u) || !Fp.isFinite (m.luHi u)
    || !Fp.lt (m.luLo u) (m.luHi u)
    || (m.luMode u == 1 && !m.flag (R.LU_STAT u) F.LU_STAT_TRK)

/-- A unit's request is applied (R179, R180). -/
def Module.luTake (m : Module) (u req : Nat) : Module :=
  let m := { m with pendF := m.pendF.filter (fun p => !(p.addr == R.LU_CTRL u && m.dueAt p.at')) }
  let m := m.setFlag (R.LU_STAT u) F.LU_STAT_PEND (m.luPending u)
  if req = 0 then m else
  let m := (m.wf (R.LU_CTRL u) F.LU_CTRL_REQ 0).setFlag (R.LU_STAT u) F.LU_STAT_REFUSE false
  if req = 3 ∧ m.luRefused u then
    (m.setFlag (R.LU_STAT u) F.LU_STAT_REFUSE true).raise FS.LU_REFUSED u .none
  else if req = m.luMode u then m
  else m.luSetMode u req

/-- A unit at a frame boundary: HOLDOPEN under the mode hold, then its request (R179, R181). -/
def Module.luBoundary (m : Module) (u : Nat) : Module :=
  let holdOpen := m.sys.modeHold && m.flag (R.LU_CFG u) F.LU_CFG_HOLDOPEN
  let m := if holdOpen && m.luMode u != 1 then m.luSetMode u 1 else m
  match (m.pendF.filter (fun p => p.addr == R.LU_CTRL u && m.dueAt p.at')).getLast? with
  | none => m
  | some p =>
    let req := bitsN p.val.toNat 1 0
    if holdOpen && 2 ≤ req then m else m.luTake u req

/-! ### Generators (R259) -/

/-- Generators start and stop at a frame boundary: one disabled stops counting, which ends its gate commands; one enabled
starts, unless its group already counts. -/
def Module.genBoundary (m : Module) : Module :=
  let before := m
  let m := (List.range 34).foldl (fun m g =>
    if !m.genEnabled g then
      (if (m.gen g).running then m.setGen g { m.gen g with running := false } else m)
    else if !m.ticking || (before.gen g).running then m
    else match m.groupOf g with
      | some k => if (m.groupMembers k).any (fun j => (before.gen j).running) then m else m.startGen g
      | none => m.startGen g) m
  m.dropGates

/-! ### The boundary (R32, R86, R87) -/

/-- The frame-start word without WAS_SHED, which each task finds in its own (R87). -/
def Module.frameWord (m : Module) : Nat :=
  m.frameNo % 65536 * 65536 + (m.shedLevel.getD 0) * 4096 + (if m.shedLevel.isSome then 1024 else 0)
    + (if m.activeCopy = some 1 then 512 else 0) + (if m.flag R.SYS_MODE F.SYS_MODE_STOPPING then 256 else 0)
    + m.rf R.SYS_MODE F.SYS_MODE_SUB * 16 + m.mode

/-- Step 1 of R86: the active copy's CRC (R96). -/
def Module.crcCheck (m : Module) : Module :=
  match m.activeCopy with
  | some c =>
    if m.copyCrc c = m.eng.activeCrc then m
    else ({ m with eng := { m.eng with noFrame := true } } : Module).raiseFree FS.TT_CORRUPT .none
  | none => m

/-- RT and ISL from the last GC_RT_STATE (R335). -/
def Module.rtFlags (m : Module) : Module :=
  (m.setFlag R.SYS_MODE F.SYS_MODE_RT (m.sys.rtWord.testBit 0)).setFlag R.SYS_MODE F.SYS_MODE_ISL (m.sys.rtWord.testBit 1)

/-- What the units do at a boundary, after its transition. -/
def Module.unitsBoundary (m : Module) : Module :=
  let m := (List.range 96).foldl Module.luBoundary m
  let m := (List.range 16).foldl Module.portBoundary m
  let m := m.afeBoundary
  let m := m.gdBoundary
  let m := m.pbBoundary
  let m := m.meterBoundary
  let m := if m.sys.coreSilent then m else m.keepBoundary
  m.genBoundary

/-- Per-frame marks are cleared, and rows marked for retirement begin their copy (R111, R249, R272). -/
def Module.newFrame (m : Module) : Module :=
  let m := (List.range 32).foldl (fun m g =>
    if (m.gen g).ilkRaised then m.setGen g { m.gen g with ilkRaised := false } else m) m
  { m with eng := { m.eng with retiring := m.eng.retiring ++ m.eng.retireNext, retireNext := [] } }

/-- FRAME_BOUNDARY (R86): `peer` is what the heading link shows of the peer, `mismatch` what the shadow frame of a
substitution found (R507). -/
def Module.frameBoundary (m : Module) (peer : Option Peer) (mismatch : Bool) : Module :=
  if !m.up then m
  else
    let was := (m.mode, m.rf R.SYS_MODE F.SYS_MODE_SUB)
    let heldBack := m.sys.alignHold
    let m := { m with sys := { m.sys with frameTick := m.now, alignHold := false },
                      eng := { m.eng with noFrame := false } }
    let m := m.accum64 R.TTB_FRAMES 1
    let m := m.subBoundary mismatch
    let m := m.applyHeld.applyPends.divStage
    let m := m.crcCheck.armedSwitch
    let m := m.rtFlags.hlBoundary peer
    let m := m.modeTransition
    if !m.up then m
    else
      let m := if heldBack then m.setHold (decide (m.mode ≤ 4)) else m
      let m := m.clockBoundary
      let m := m.shed
      let m := m.unitsBoundary
      let m := m.newFrame.showLocks.showSub
      let m := { m with sys := { m.sys with frameStart := BitVec.ofNat 32 m.frameWord } }
      let m := m.takeSnapshot
      let m := { m with sys := { m.sys with readySeen := [] } }
      if was = (m.mode, m.rf R.SYS_MODE F.SYS_MODE_SUB) then m else m.irq Irq.MODE

/-- FRAME_BOUNDARY (R86). -/
def execFrameBoundary (peer : Option Peer) (mismatch : Bool) (s : State) := s.run (·.frameBoundary peer mismatch)

end Sys2Proof.Machine
end

