-- ==== Sys2Proof/Machine/Modes.lean ====
section
/-! DEFINITION. Modes.lean: supply, seating, INSPECT, removal and hold-up, HALT, controlled stop and departure limits, core
silence, the single step of SHUNT, and the JTAG port (R21, R33, R35 to R37, R40 to R48, R524). -/

namespace Sys2Proof.Machine

/-! ### Supply and seating (R40, R46 to R48) -/

/-- The sequence of R47, which runs once from the earlier of removal and loss of VMAIN (R48): the removal line, STO and
the safe outputs, timetable and bus masters stopped. -/
def Module.holdUpStart (m : Module) : Module :=
  if m.sys.holdUp then m
  else
    let m := { m with sys := { m.sys with holdUp := true }, eng := { m.eng with noFrame := true } }
    let m := m.requestLine m.removalLine .removal
    (m.stopBlocks).stopSignal true

/-- VMAIN_VALID (R40): valid after 1 ms at or above 10.6 V. -/
def execVmainValid (s : State) :=
  s.run (fun m =>
    if m.sys.vmainValid then m
    else ({ m with sys := { m.sys with vmainValid := true } } : Module).keepVmainValid)

/-- The Keeper records the time of a loss of VMAIN (R46), by its RTC. -/
def Module.noteLoss (m : Module) : Module :=
  if m.sys.vmainValid && !m.keep.stopped then { m with keep := { m.keep with lostAt := some m.rtc } } else m

/-- VMAIN ceases to be valid (R40, R46): in any mode from INSPECT to RUN the hold-up sequence starts. Where it has run already,
from a removal, it does not run again, and the module goes to WATCH (R48). -/
def Module.vmainLost (m : Module) : Module :=
  let m := m.noteLoss
  let m := { m with sys := { m.sys with vmainValid := false } }
  if !m.powered then m
  else if m.sys.shed then { m with sys := { m.sys with power := .watch } }
  else m.holdUpStart

/-- VMAIN_INVALID (R40, R46). -/
def execVmainInvalid (s : State) := s.run Module.vmainLost

/-- SEATED_CLOSED (R40). -/
def execSeatedClosed (s : State) := s.run (fun m => { m with sys := { m.sys with seated := true } })

/-- SEATED_OPEN (R47): an INSPECT under way is abandoned. -/
def execSeatedOpen (s : State) :=
  s.run (fun m => { m with sys := { m.sys with
    seated := false, abandoned := m.sys.abandoned || (m.sys.power == .on && m.sys.inspecting) } })

/-- REMOVAL_DECLARED (R47): SEATED read open for 5 µs. -/
def execRemovalDeclared (s : State) :=
  s.run (fun m =>
    if !m.powered ∨ m.sys.seated ∨ m.sys.removed then m
    else (({ m with sys := { m.sys with removed := true } } : Module).holdUpStart).raiseFree FS.SYS_REMOVAL .none)

/-- Bytes that the spec does not state: free values. -/
def Module.freeBytes (m : Module) : Nat → List Byte × Module
  | 0 => ([], m)
  | n + 1 =>
    let f := m.free
    let r := f.2.freeBytes n
    (f.1.setWidth 8 :: r.1, r.2)

/-- The commit of a record is cut short (R49): its place in MRAM holds what the spec does not state, and the record before is
kept beside it until the next INSPECT. -/
def Module.tearRecord (m : Module) (r : Nat × List Byte) : Module :=
  let b := m.freeBytes r.2.length
  let m' := b.2.setBytes r.1 b.1
  { m' with sys := { m'.sys with torn := m'.sys.torn ++ [(r.1, m.mbytes r.1 r.2.length)] } }

/-- Records reach MRAM, in order. -/
def Module.commitRecords (m : Module) (rs : List (Nat × List Byte)) : Module :=
  rs.foldl (fun (m : Module) r => m.setBytes r.1 r.2) m

/-- What the hold-up sequence commits (R47, R49): every waiting record, then the meter registers. With `cut`, the hold-up
store, VMAIN gone, is exhausted in the commit of the record of that number: those before it stand. The meter record keeps
the one before it beside it, so there an interruption leaves only its mark. -/
def Module.holdUpCommit (m : Module) (cut : Option Nat) : Module :=
  let rs := m.logq
  let m : Module := { m with logq := [] }
  match (if m.sys.vmainValid then none else cut) with
  | none => (m.commitRecords rs).meterCommit
  | some n =>
    let m := m.commitRecords (rs.take n)
    match rs[n]? with
    | some r => m.tearRecord r
    | none => if n = rs.length then { m with sys := { m.sys with torn := m.sys.torn ++ [(0, [])] } } else m.meterCommit

/-- The hold-up sequence ends (R47, R48): the open incident closes and its commit is made. With SEATED open and VMAIN valid
the module stays in HALT; else it is on its way to WATCH or to INSPECT. -/
def Module.holdUpDone (m : Module) (cut : Option Nat) : Module :=
  if !m.sys.holdUp then m
  else
    let m := (m.closeIncident 3).holdUpCommit cut
    let m := { m with sys := { m.sys with holdUp := false, shed := true } }
    if m.sys.vmainValid && !m.sys.seated then m
    else { m with sys := { m.sys with power := .watch } }

/-- HOLDUP_COMMIT_DONE (R47 to R49). -/
def execHoldupCommitDone (s : State) (cut : Option (BitVec 8) := none) := s.run (·.holdUpDone (cut.map BitVec.toNat))

/-! ### INSPECT (R41, R42, R47) -/

/-- INSPECT_START (R41, R47): with VMAIN valid and SEATED closed, from WATCH or DARK, after a removal, or again after an
INSPECT that was abandoned. -/
def Module.inspectStart (m : Module) : Module :=
  if m.sys.vmainValid && m.sys.seated && !m.sys.holdUp
      && (m.sys.power != .on || m.sys.removed || m.sys.abandoned) then m.powerUp false
  else m
def execInspectStart (s : State) := s.run Module.inspectStart

/-- A code of test `t` stands in a list (R42). -/
def hasTest (t : Nat) (l : List Nat) : Bool := l.any (fun c => c / 256 == t)

/-- The unit that a code of test 0x09, 0x0A or 0x0C names (R42). -/
def codeUnit (code : Nat) : Option (UnitKind × Nat) :=
  let t := code / 256
  if t = 9 then some (UnitKind.generator, code % 256)
  else if t = 0x0A ∨ t = 0x0C then unitOf (code % 256)
  else none

/-- A unit that INSPECT found defective is marked, so that no reserve that failed itself is taken (R43, R503). -/
def Module.inspectMark (m : Module) (code : Nat) : Module :=
  match codeUnit code with
  | some (k, p) => m.setBit (markBit k p).1 (markBit k p).2 true
  | none => m

/-- A reserve takes the place of the unit that a note of test 0x09, 0x0A or 0x0C names (R42, R43, R503). -/
def Module.inspectReserve (m : Module) (note : Nat) : Module :=
  match codeUnit note with
  | none => m
  | some (k, p) =>
    match m.reserveFor k with
    | none => m
    | some r =>
      let m := m.takeOver k p r
      { m with sid := { m.sid with retired := m.sid.retired ++ [unitCode k p] } }

/-- Test 0x0A measures what R243 and R251 measure: a core whose VREF departs shows DRIFT, a comparator out of its offset shows
OFSFAIL, and each raises its source. -/
def Module.inspectAfe (m : Module) (code : Nat) : Module :=
  if code / 256 ≠ 0x0A then m
  else match unitOf (code % 256) with
    | some (.core, c) => (m.setBit R.AFE_STAT (8 + c) true).raise FS.AFE_DRIFT c .none
    | some (.comparator, n) => (m.setBit R.AFE_CMP_OFSFAIL n true).raise FS.AFE_CMP_OFFSET n .none
    | _ => m

/-- Rows that test 0x04 retired to spares are counted in (R42, R111): one row for each note, of the MiB or the engine that it
names (the memory of the engine is the spec's to leave open: its DM is taken; DESIGN CHOICE, log 83). -/
def Module.inspectRow (m : Module) (note : Nat) : Module :=
  if note / 256 ≠ 4 then m
  else if note % 256 < 0x80 then m.retireCount (.yard (note % 256 % 16 * 1024))
  else m.retireCount (.dm (note % 128 % 10) 0)

/-- The first task of a bank's directory whose image does not verify (R146 steps 1 to 5); a bank that holds no directory holds
no image. -/
def Module.bankBad (m : Module) (b : Nat) : Option Nat :=
  if m.mn (norBase b) 4 ≠ 0x52494451 then none
  else if !m.dirCrcOk b then some 0
  else (List.range 512).find? (fun t => match m.dirEntry b t with
    | some (a, n) => !m.imageVerified a n
    | none => false)

/-- Test 0x03 (R42): failures and notes with what the images of the active bank give: a note if the other bank holds a complete
signed set, else a failure. -/
def Module.testImages (m : Module) (failures notes : List Nat) : List Nat × List Nat :=
  let b := m.nvm.bootBank
  let found := if hasTest 3 failures then none
    else match notes.find? (fun c => c / 256 == 3) with
      | some c => some (c % 256)
      | none => (m.bankBad b).map (· % 256)
  let rest := notes.filter (fun c => c / 256 != 3)
  match found with
  | none => (failures, rest)
  | some d => if m.bankOk (1 - b) then (failures, (0x300 + d) :: rest)
    else (failures ++ [0x300 + d], rest)

/-- Test 0x05 (R189): it fails with detail 0x02 while no band entry covers the target. -/
def Module.testClock (m : Module) (failures : List Nat) : List Nat :=
  if hasTest 5 failures then failures
  else if (m.bandPick).isNone then failures ++ [0x502]
  else failures

/-- INSPECT finds the records of MRAM that were cut short (R49): each is discarded, the record before it stands again, and test
0x07 reports it as a note. The number of its log is not stated: a free value. -/
def Module.discardTorn (m : Module) : Module × List Nat :=
  let r := m.sys.torn.foldl (fun (x : Module × List Nat) t =>
    let f := x.1.free
    (f.2.setBytes t.1 t.2, x.2 ++ [0x700 + f.1.toNat % 256])) (m, [])
  ({ r.1 with sys := { r.1.sys with torn := [] } }, r.2)

/-- INSPECT finds a change-log entry in MRAM whose APPLY was cut short (R462): it is the newest entry, the active configuration
stands, and test 0x06 records a note, whose detail is not stated: a free value. -/
def Module.inspectLog (m : Module) : Module × List Nat :=
  let n := m.il.logSeq + 1
  let a := 0x06610000 + 32 * ((n + 127) % 128)
  if m.mn (a + 12) 4 ≠ n then (m, [])
  else
    let m := m.setIl { m.il with logSeq := n }
    if m.mn (a + 0x18) 4 = imgCrc m.il.image then (m, [])
    else
      let f := m.free
      (f.2, [0x600 + f.1.toNat % 256])

/-- Saved configuration takes effect at the end of INSPECT (R211, R239, R279, R302, R369, R418, R438, R488, R536). -/
def Module.loadSaved (m : Module) : Module :=
  let m := ((m.saved.foldl (fun m p => m.wr p.1 p.2) m).ditherFollow m).capConfigured m
  m.savedMem.foldl (fun m p => m.setMb p.1 p.2) m

/-- The time of day at the end of INSPECT (R203). -/
def Module.loadTod (m : Module) : Module :=
  if m.rtcValid && !m.keep.stopped then
    let t := m.rtc
    let m := { m with todSec := t / 32768 % 2 ^ 48, todNs := t % 32768 * 1000000000 / 32768 }
    (m.wf R.CLK_STAT F.CLK_STAT_TOD_SRC 1).setFlag R.CLK_STAT F.CLK_STAT_TOD_VALID true
  else
    ({ m with todSec := 0, todNs := 0 } : Module).setFlag R.CLK_STAT F.CLK_STAT_TOD_VALID false

/-- Test 0x05: without its failure the clock is locked, to the selected reference or, with a note, to the crystal alone. -/
def Module.inspectClock (m : Module) (failed noted : Bool) : Module :=
  if failed then m
  else
    let m := if m.clkState ≤ 1 then m.bandSelect 2 else m
    let m := if m.clkState = 2 then (if m.outerLoop then m.reacquire else m.enterLocked) else m
    m.setFlag R.CLK_STAT F.CLK_STAT_REF_OK (!noted)

/-- INSPECT_END (R42, R43, R45): the record, saved configuration, reserves and the domains' starts; then HALT with cause 1
or 2. -/
def Module.inspectEnd (m : Module) (failures notes : List Nat) (alive : Nat) : Module :=
  if !m.live ∨ !m.sys.inspecting ∨ m.sys.abandoned then m
  else
    let old := m
    let (m, cut) := m.discardTorn
    let (m, lost) := m.inspectLog
    let m := m.nvmLoad
    let (failures, notes) := m.testImages failures (notes ++ cut ++ lost)
    let failures := m.testClock failures
    let restarts := m.rf R.SYS_INSPECT F.SYS_INSPECT_RESTARTS
    let m := m.wn R.SYS_INSPECT (restarts <<< 24 + min 0xFF notes.length <<< 16 + failures.headD 0)
    let m := m.wn R.SYS_DIE_STAT alive
    let m := { m with sys := { m.sys with inspecting := false, inspectPassed := failures.isEmpty,
                                          inspectLog := failures ++ notes, frameTick := m.now },
                      voteFailed := [], upsets := [] }
    let m := m.loadSaved
    let m := (failures ++ notes).foldl (fun m c => (m.inspectMark c).inspectAfe c) m
    let m := (notes.foldl Module.inspectReserve m)
    let m := notes.foldl Module.inspectRow m
    let m := if hasTest 3 notes then m.wf R.NVM_STAT F.NVM_STAT_ACTIVE (1 - m.nvm.bootBank) else m
    let m := m.meterReload.loadTod.meterStepped
    let m := m.inspectClock (hasTest 5 failures) (hasTest 5 notes)
    let m := m.setIl { m.il with lockout := false }
    let m := if hasTest 6 failures then m.ilStart.lockout else m.ilStart
    let m := (m.pbTables old).pbStart
    let m := m.cmpPowered
    let m := (List.range 16).foldl (fun m p =>
      if m.flag (R.LN_CFG p) F.LN_CFG_EN then m.startTraining p else m) m
    let m := m.wf R.SYS_MODE F.SYS_MODE_MODE 3
    let m := (m.haltRecord (if failures.isEmpty then 1 else 2) 0).setHold true
    m.irq Irq.INSPECT_DONE

/-- INSPECT_END (R42): the failures and the notes in order, and the dies that answer. -/
def execInspectEnd (failures notes : List (BitVec 16)) (alive : BitVec 14) (s : State) :=
  s.run (·.inspectEnd (failures.map BitVec.toNat) (notes.map BitVec.toNat) alive.toNat)

/-! ### HALT, stop, departure (R35 to R37) -/

/-- HALT_ENTER (R35): a HALT decision, with a cause of R45 and its incident number, reaches the timebase. -/
def execHaltEnter (cause : BitVec 8) (inc : BitVec 16) (s : State) :=
  s.run (fun m => if 3 ≤ cause.toNat ∧ cause.toNat ≤ 0x0A then m.haltEnter cause.toNat inc.toNat else m)

/-- STOP_T_EXPIRY (R36). -/
def execStopTExpiry (s : State) :=
  s.runOn (fun m =>
    if m.flag R.SYS_MODE F.SYS_MODE_STOPPING then { m with sys := { m.sys with stopExpired := true } } else m)

/-- DEPART_TIMEOUT (R37). -/
def execDepartTimeout (s : State) :=
  s.runOn (fun m =>
    if m.mode ≠ 6 ∨ m.sys.departTimeout then m
    else ({ m with sys := { m.sys with departTimeout := true } } : Module).raiseFree FS.DEPART_TIMEOUT .none)

/-! ### Core silence (R21) -/

/-- Blocks of entry `x` may run in the present mode (R29, R44): in HALT and on the way into it only monitoring blocks, and
none after the causes that R44 names. -/
def Module.modeRuns (m : Module) (x : Entry) : Bool :=
  if m.halted then x.mon && !noBlockCauses.contains m.haltCause else decide (4 ≤ m.mode)

/-- The timebase issues block ends (R21): a copy is active, ticks run, blocks are started at all, and an enabled service books a
block that the mode lets run. -/
def Module.issuesEnds (m : Module) : Bool :=
  m.up && m.ticking && !m.sys.coreSilent && !m.sys.removed && !m.eng.noFrame && !m.hl.hold
    && match m.activeCopy with
      | some c => (m.entries c).any (fun x => m.svcEn c x.svc && m.modeRuns x)
      | none => false

/-- The timebase declares the core silent (R21): it is latched, its lines are asserted, and no block runs from now on. A
lead sends its HALT notice (R516). -/
def Module.coreSilence (m : Module) : Module :=
  if !m.issuesEnds then m
  else
    let m : Module := { m with sys := { m.sys with coreSilent := true } }
    let m := m.silentLines.foldl (fun (m : Module) l => m.requestLine l .silent) m
    let m := m.stopBlocks
    if m.role = 1 then { m with hl := { m.hl with notices := m.hl.notices ++ [8] } } else m

/-- CORE_SILENCE (R21). -/
def execCoreSilence (s : State) := s.run Module.coreSilence

/-- CORE_ANSWERS_AGAIN (R21): the collector's report, at severity 6, takes the module to HALT with cause 0x08. -/
def Module.coreAnswers (m : Module) : Module :=
  if !m.sys.coreSilent || m.reports.any (·.src == FS.CORE_SILENT) || m.haltCause == 8 then m
  else m.raiseFree FS.CORE_SILENT .none
def execCoreAnswersAgain (s : State) := s.runOn Module.coreAnswers

/-! ### Single step (R33) -/

/-- SYS_SHUNT.GO is set: with STEP = 1, every limited generator that runs waits for its N periods. -/
def Module.goShunt (m : Module) : Module :=
  let m := m.setFlag R.SYS_SHUNT F.SYS_SHUNT_GO true
  let m := if m.cflag R.SYS_SHUNT F.SYS_SHUNT_STEP then
      (List.range 34).foldl (fun m g =>
        if m.shuntLimited g && (m.gen g).running then m.setGen g { m.gen g with stepWait := some m.now } else m) m
    else m
  m.stepDone

/-- SHUNT_STEP_END (R33): a limited generator in its N-th period ends it. -/
def execShuntStepEnd (g : Fin 32) (s : State) :=
  s.runOn (fun m =>
    if m.shuntLimited g && m.cflag R.SYS_SHUNT F.SYS_SHUNT_STEP && (m.gen g).stepWait.isNone && (m.gen g).stepLeft == 1 then
      m.pwmReload g
    else m.stepDone)

/-! ### JTAG (R524) -/

/-- JTAG_INSTRUCTION: the test port is usable only in HALT, but for BYPASS and IDCODE. -/
def execJtagInstruction (i : TapInstr) (s : State) :=
  s.run (fun m =>
    let always : Bool := match i with
      | .other _ => false
      | _ => true
    if m.powered && (always || m.mode == 3) then { m with tap := i } else m)

end Sys2Proof.Machine
end

