-- ==== Sys2Proof/Machine/LibMachine.lean ====
section
/-! DEFINITION. LibMachine.lean: the machine library program's task MC_CTL (R370 to R388). -/

namespace Sys2Proof.Machine

/-- A parameter in use, by its offset (R372). -/
def McState.p (g : McState) (off : Nat) : Word := g.par.getD (off / 4) 0
def McState.n (g : McState) (off : Nat) : Nat := (g.p off).toNat
/-- MODE_SEL bits (R372). -/
def McState.torque (g : McState) : Bool := (g.n 0).testBit 0
def McState.wait (g : McState) : Bool := (g.n 0).testBit 1
def McState.measured (g : McState) : Bool := (g.n 0).testBit 2
def McState.fwen (g : McState) : Bool := (g.n 0).testBit 3
/-- VMEAS none (R374): FLAGS.CFG. -/
def McState.cfgBad (g : McState) : Bool := g.n 8 % 256 == 0xFF

end Sys2Proof.Machine

namespace Sys2Proof.Machine.Mach

open Sys2Proof.Machine Lib Fp

/-- The states of R385. -/
abbrev IDLE := 0
abbrev LISTEN := 1
abbrev SYNC := 2
abbrev ALIGN := 3
abbrev IF := 4
abbrev RUN := 5
abbrev BRAKE := 6
abbrev ASC := 7
abbrev RELISTEN := 8
abbrev RETRY := 9
abbrev STOPPING := 10
abbrev STOPPED := 11
abbrev FAULT := 15

/-! ### Parameters (R372) -/

def pars : List Par :=
  let r := ratio
  let k (v : Word) : (Nat → Word) → Word := fun _ => v
  let at' (off : Nat) : (Nat → Word) → Word := fun g => g (off / 4)
  [pu 0 true 0 0xFFFFFFFF, pu 1 true 0 0xFFFFFFFF, pu 2 true 0 0xFFFFFFFF, pu 3 true 1 40, pf 4 true 0 pInf, pf 5 true 0 pInf,
    pf 6 true 0 pInf, pf 7 true 0 pInf, pf 8 true 0 pInf, Grid.pg 9 true (at' 0x20) (k pInf), pf 10 true (neg pInf) pInf,
    Grid.pg 11 true (at' 0x28) (k pInf), pf 12 true one (ofNat 2000), pf 13 true half one, pf 14 true half (r 98 100),
    pu 15 true 10 60000] ++
  [pu 16 false 20 200, pf 17 false (r 1 10) (ofNat 100), pf 18 false (r 1 10) (ofNat 200), Grid.pg 19 false (k (r 1 10)) (at' 0x48),
    Grid.pg 20 false (k 0) (at' 0x20), pu 21 false 10 5000, Grid.pg 22 false (k 0) (at' 0x20), pf 23 false (r 1 10) (ofNat 1000),
    pf 24 false half (ofNat 100), Grid.pg 25 false (k (r 2 10)) (at' 0x60), pu 26 false 1 65535, pf 27 false 0 (r 31416 10000),
    pu 28 false 100 60000, pu 29 false 0 15, pf 30 false (r 5 100) one, pu 31 false 1 100,
    Grid.pg 32 false (fun g => neg (g 12)) (at' 0x30), Grid.pg 33 false (fun g => neg (g 8)) (at' 0x20)] ++
  [pf 34 false (r 1 10) (ofNat 10000), pf 35 false (r 1 100) (ofNat 10000), pf 36 false (r 8 10) one, Grid.pg 37 false (k 0) (at' 0x20),
    Grid.pg 38 false (k 0) (at' 0x20), Grid.pg 39 false (at' 0x28) (at' 0x2C), pf 40 false one (ofNat 1000),
    Grid.pg 41 false (k (r 1 100)) (at' 0x20)]

def init (mode : Nat) : McState where
  par := []
  clamped := false
  dpend := false
  frame := 0
  prevMode := mode
  st := 0
  cause := 0
  since := 0
  last := none
  psiA := 0
  psiB := 0
  theta := 0
  omega := 0
  mag := 0
  res := 0
  emf := 0
  cls := 0
  revSent := false
  fListen := 0
  retries := 0
  ifF := 0
  ifTheta := 0
  ifAt := none
  back := 0
  obsRun := 0
  resFrom := none
  goodOmega := 0
  wRef := 0
  iqRef := 0
  idRef := 0
  vAbs := 0
  duty1 := []
  duty2 := []
  fwAt := none
  raising := false
  raisedFrame := 0
  ascAngle := none
  ascRates := []
  freewheel := false
  vHi := 0
  vLo := 0
  fast := 0
  iqNow := 0

/-- Parameters for a frame (R306, R371). -/
def takeFrame (t : Time) (g : McState) : Lib (McState × Bool) :=
  if g.frame = t.frame then pure (g, false)
  else do
    let raw ← getTs 0 0 42
    let idle := g.st == IDLE
    let r := takePars pars idle g.par raw
    pure ({ g with frame := t.frame, par := r.1, clamped := r.2.1, dpend := !idle && (g.dpend || r.2.2) }, true)

/-! ### Measurement (R374) -/

/-- What a period measures: phase currents, their vector, the link, and whether a current clipped. -/
structure Meas where
  i : Word × Word × Word
  al : Word
  be : Word
  vdc : Word
  clip : Bool

def measure (c : McInst) (g : McState) : Lib Meas := do
  let core := g.n 4 % 4
  let slot := bitsN (g.n 4) 7 4
  let i ← sample3 core slot
  let vdc ← sample core (bitsN (g.n 4) 11 8)
  let fl ← sampleWord core 35
  let ab ← xfm2 c.xfm 0 [i.1, i.2.1, i.2.2]
  let clip := [slot, slot + 1, slot + 2].any (fun k => decide (k < 16) && fl.toNat.testBit k)
  pure ⟨i, ab.1, ab.2, vdc, clip⟩

/-- The measured source is in use (R374). -/
def useMeasured (t : Time) (frame : Nat) (g : McState) : Bool :=
  g.measured || g.st == LISTEN || g.st == RELISTEN ||
    (match g.fwAt with
     | some f => decide (t.now < f + ms (g.n 0x3C) + 2 * frame)
     | none => false)

/-- The αβ voltage of the period just ended (R374). -/
def voltage (c : McInst) (t : Time) (frame : Nat) (x : Meas) (g : McState) : Lib (Word × Word) :=
  if useMeasured t frame g then do
    let core := bitsN (g.n 8) 5 4
    let slot := bitsN (g.n 8) 3 0
    let ab ← sample core slot
    let bc ← sample core (slot + 1)
    pure (divV (addV (mulV two ab) bc) three, divV bc rt3)
  else
    let d (k : Nat) : Word := mulV (subV (g.duty2.getD k half) half) x.vdc
    xfm2 c.xfm 0 [d 0, d 1, d 2]

/-! ### The observer (R375, R376) -/

/-- E_LL from a rate (R375). -/
def emfOf (g : McState) (om : Word) : Word := mulV (mulV rt3 (Fp.abs om)) (g.p 0x1C)

/-- Periods that passed since the last committed block (R376). -/
def passed (t : Time) (g : McState) : Nat :=
  match g.last with
  | some l => max 1 ((t.now - l) / t.dt)
  | none => 1

/-- One observer step. With `free'` psi0 is the magnitude seen, and E_LL comes from the voltage. Below OBS_F the residual is not
evaluated and stands. -/
def observe (c : McInst) (t : Time) (x : Meas) (v : Word × Word) (free' : Bool) (g : McState) : Lib McState := do
  let th ← wrap c.xfm (addV g.theta (mulV (mulV (ofNat (passed t g - 1)) g.omega) t.T))
  let sc ← xfm2 c.xfm 6 [th]
  let dq ← xfm2 c.xfm 2 [x.al, x.be, th]
  let psi0 := if free' then g.mag else addV (g.p 0x1C) (mulV (subV (g.p 0x14) (g.p 0x18)) dq.1)
  let lq := g.p 0x18
  let tk := mulV t.T (g.p 0xA0)
  let pa := addV (addV g.psiA (mulV t.T (subV v.1 (mulV (g.p 0x10) x.al))))
    (mulV tk (subV (addV (mulV lq x.al) (mulV psi0 sc.2)) g.psiA))
  let pb := addV (addV g.psiB (mulV t.T (subV v.2 (mulV (g.p 0x10) x.be))))
    (mulV tk (subV (addV (mulV lq x.be) (mulV psi0 sc.1)) g.psiB))
  let am ← xfm2 c.xfm 7 [subV pa (mulV lq x.al), subV pb (mulV lq x.be)]
  let e ← wrap c.xfm (subV am.1 th)
  let om ← stepOrHold c.lu e 0
  let th' ← wrap c.xfm (addV th (mulV om t.T))
  let psi0 := if free' then am.2 else psi0
  let r := addV (divV (Fp.abs (subV am.2 psi0)) psi0) (divV (Fp.abs e) Lib.pi)
  let emf := if free' then mulV rt3 (hypot v.1 v.2) else emfOf g om
  pure { g with psiA := pa, psiB := pb, theta := th', omega := om, mag := am.2, emf := emf
                res := if ge (Fp.abs om) (rad (g.p 0x64)) then r else g.res }

/-- f̂ in Hz. -/
def freq (g : McState) : Word := divV g.omega twoPi

/-- The residual is judged (R375). -/
def judged (g : McState) : Bool := ge (Fp.abs g.omega) (rad (g.p 0x64))

/-- The speed in ASC (R384): the rate of the current vector's angle, filtered over 8 periods. -/
def ascSpeed (c : McInst) (t : Time) (x : Meas) (g : McState) : Lib McState := do
  let am ← xfm2 c.xfm 7 [x.al, x.be]
  match g.ascAngle with
  | none => pure { g with ascAngle := some am.1 }
  | some a => do
    let d ← wrap c.xfm (subV am.1 a)
    let rate := divV d (mulV (ofNat (passed t g)) t.T)
    let rs := (rate :: g.ascRates).take 8
    let om := divV (rs.foldr (fun r s => addV s r) 0) (ofNat rs.length)
    pure { g with ascAngle := some am.1, ascRates := rs, omega := om, emf := emfOf g om }

/-! ### Classification (R378) -/

/-- 0 REST, 1 CATCH, 2 BACK. -/
def classOf (g : McState) : Nat :=
  let f := freq g
  let back := lt f (neg (g.p 0x4C))
  if lt g.emf (g.p 0x44) || (le (Fp.abs f) (g.p 0x48) && !back) then 0
  else if gt f (g.p 0x48) then 1
  else if back then 2
  else 0

/-- Classify, and raise MCH_REVERSE at the first BACK. -/
def classify (g : McState) : Lib McState := do
  let k := classOf g
  let g := { g with cls := k, fListen := freq g }
  if k = 2 then do
    if !g.revSent then evt FS.MCH_REVERSE (freq g).toNat
    pure { g with revSent := true }
  else pure { g with revSent := false }

/-! ### Duties (R377, R380) -/

/-- Stage the three phases from a dq voltage at an angle (R380), and remember the duties (R374). -/
def stage (c : McInst) (x : Meas) (vd vq ang : Word) (g : McState) : Lib McState := do
  let abc ← xfm c.xfm 5 [vd, vq, 0, ang]
  let u := abc.getD 0 0
  let v := abc.getD 1 0
  let w := abc.getD 2 0
  let v0 := neg (divV (addV (max3 u v w) (min3 u v w)) two)
  let d (y : Word) : Word := clampV (addV half (divV (addV y v0) x.vdc)) 0 one
  duty c.gen (d u)
  duty (c.gen + 1) (d v)
  duty (c.gen + 2) (d w)
  pure { g with duty1 := [d u, d v, d w] }

/-- The lead of R380: θ + 1.5 ω T. -/
def lead (t : Time) (th om : Word) : Word := addV th (mulV (mulV (ratio 3 2) om) t.T)

/-- Duties equal to the back-EMF at zero current, current loops TRACKed with it (R377, R378). -/
def emfDuties (c : McInst) (t : Time) (x : Meas) (th : Word) (g : McState) : Lib McState := do
  let psi := if g.st = LISTEN ∨ g.st = RELISTEN then g.mag else g.p 0x1C
  let vq := mulV g.omega psi
  let _ ← track (c.lu + 1) 0 0
  let _ ← track (c.lu + 2) vq vq
  track0 (c.lu + 3)
  track0 (c.lu + 4)
  let g ← stage c x 0 vq (lead t th g.omega) g
  pure { g with idRef := 0, iqRef := 0, vAbs := Fp.abs vq }

/-- Current control in a frame (R373, R380): units +1 and +2 with their feed-forward, |v*| limited. -/
def control (c : McInst) (t : Time) (x : Meas) (th om id iq : Word) (g : McState) : Lib McState := do
  let ffd := neg (mulV (mulV g.omega (g.p 0x18)) iq)
  let ffq := mulV g.omega (addV (mulV (g.p 0x14) id) (g.p 0x1C))
  let vd ← step (c.lu + 1) (subV g.idRef id) ffd
  let vq ← step (c.lu + 2) (subV g.iqRef iq) ffq
  let lim := divV (mulV (g.p 0x90) x.vdc) rt3
  let mag := hypot vd vq
  if gt mag lim then do
    let k := divV lim mag
    let _ ← track (c.lu + 1) (mulV vd k) ffd
    let _ ← track (c.lu + 2) (mulV vq k) ffq
    let g ← stage c x (mulV vd k) (mulV vq k) (lead t th om) g
    pure { g with vAbs := lim }
  else do
    let g ← stage c x vd vq (lead t th om) g
    pure { g with vAbs := mag }

/-- id* from unit +4 (R373). -/
def fieldWeak (c : McInst) (x : Meas) (g : McState) : Lib McState :=
  if g.fwen then do
    let id ← step (c.lu + 4) (subV (divV (mulV (g.p 0x90) x.vdc) rt3) g.vAbs) 0
    pure { g with idRef := id }
  else do
    track0 (c.lu + 4)
    pure { g with idRef := 0 }

/-- iq* within what id* leaves of I_MAX, and within `cap`; the reduction of R380 above VDC_BRK. The second result is
ILIM, the third BRKLIM. -/
def iqLimit (x : Meas) (cap iq : Word) (g : McState) : Word × Bool × Bool :=
  let im := g.p 0x20
  let room := minV cap (sqrtV (maxV 0 (subV (mulV im im) (mulV g.idRef g.idRef))))
  let y := clampV iq (neg room) room
  let gives := gt x.vdc (g.p 0x9C) && lt (mulV y g.omega) 0
  let k := clampV (divV (subV (g.p 0x2C) x.vdc) (subV (g.p 0x2C) (g.p 0x9C))) 0 one
  (if gives then mulV y k else y, !eq y iq, gives)

/-- Speed control: ω* moves toward `target`, unit +3 gives iq*, TRACKed where it is limited. -/
def speedLoop (c : McInst) (t : Time) (x : Meas) (target cap : Word) (g : McState) : Lib (McState × Bool × Bool) := do
  let w := toward g.wRef target (mulV (rad (g.p 0x88)) t.T)
  let iq ← step (c.lu + 3) (subV w g.omega) 0
  let l := iqLimit x cap iq g
  if l.2.1 || l.2.2 then do
    let _ ← track (c.lu + 3) l.1 0
    pure ()
  pure ({ g with wRef := w, iqRef := l.1 }, l.2.1, l.2.2)

/-- Torque control: iq* moves toward `target`, unit +3 is TRACKed. -/
def torqueLoop (c : McInst) (t : Time) (x : Meas) (target : Word) (g : McState) : Lib (McState × Bool × Bool) := do
  let q := toward g.iqRef target (mulV (g.p 0x8C) (ratio (2 * t.dt : Nat) 1000000))
  let l := iqLimit x (g.p 0x20) q g
  let _ ← track (c.lu + 3) l.1 0
  pure ({ g with iqRef := l.1 }, l.2.1, l.2.2)

/-! ### States (R379, R381 to R386) -/

def enter (t : Time) (st : Nat) (g : McState) : McState := { g with st := st, since := t.now }

/-- A start from rest begins (R379). -/
def toAlign (t : Time) (g : McState) : McState :=
  { enter t ALIGN g with ifF := 0, ifTheta := 0, ifAt := none, back := 0, obsRun := 0 }

/-- RUN begins with the rotor caught (R381). -/
def toRun (t : Time) (g : McState) : McState := { enter t RUN g with wRef := g.omega, resFrom := none }

/-- BRAKE begins (R381). -/
def toBrake (t : Time) (g : McState) : McState := { enter t BRAKE g with wRef := g.omega, resFrom := none }

/-- By the class: RUN, BRAKE or ALIGN (R378, R384). -/
def byClass (t : Time) (g : McState) : McState :=
  if g.cls = 1 then toRun t g else if g.cls = 2 then toBrake t g else toAlign t g

/-- Raise MCH_ASC or MCH_FW in the first period of the state and of every frame (R383). -/
def raise (c : McInst) (t : Time) (fw first : Bool) (g : McState) : Lib McState := do
  if first || g.raisedFrame != t.frame then do
    evt (if fw then FS.MCH_FW else FS.MCH_ASC) (g.st + 256 * c.mch)
    pure { g with raisedFrame := t.frame, fwAt := if fw then some t.now else g.fwAt }
  else pure g

/-- The current and speed units are TRACKed while nothing steps them, and with `all` unit +0 too (R373, R382). -/
def hold (c : McInst) (all : Bool) (g : McState) : Lib Unit := do
  if all then do
    let _ ← track c.lu g.omega 0
    pure ()
  track0 (c.lu + 1)
  track0 (c.lu + 2)
  track0 (c.lu + 3)
  track0 (c.lu + 4)

/-- The transitions that the mode commands (R377, R378, R385, R386). -/
def machine (t : Time) (first : Bool) (g : McState) : McState :=
  let idle := t.mode != 6 && t.mode != 7
  let g := if idle && (g.st != FAULT || first) && g.st != IDLE then enter t IDLE g else g
  let g := if g.st == IDLE then { g with dpend := false } else g
  let g := if g.st == IDLE && t.mode == 6 && g.prevMode != 6 then
      { enter t LISTEN g with psiA := 0, psiB := 0, theta := 0, omega := 0, mag := 0, revSent := false, fwAt := none }
    else g
  let g := if g.st == SYNC && t.mode == 7 && !(g.cls == 2 && g.wait) then
      byClass t { g with retries := 0 } else g
  let g := if t.stopping && (3 ≤ g.st && g.st ≤ 6 || g.st == RETRY) then
      { enter t STOPPING g with wRef := g.omega } else g
  { g with prevMode := t.mode }

/-- The causes of R385 that stand, in its order. -/
def causes (x : Meas) (g : McState) : List (Nat × Nat) :=
  let past (y : Word) (lim : Word) : Bool := gt (Fp.abs y) lim
  let any (lim : Word) : Bool := past x.i.1 lim || past x.i.2.1 lim || past x.i.2.2 lim
  (if any (g.p 0x24) || x.clip then [(1, FS.MCH_OVERCURRENT)] else [])
    ++ (if 3 ≤ g.vHi then [(2, FS.MCH_VDC)] else [])
    ++ (if 3 ≤ g.vLo then [(3, FS.MCH_VDC)] else [])
    ++ (if 3 ≤ g.fast then [(4, FS.MCH_OVERSPEED)] else [])
    ++ (if g.st == RETRY && g.n 0x74 < g.retries then [(5, FS.MCH_START_FAIL)] else [])
    ++ (if g.st == LISTEN && any (g.p 0xA4) then [(7, FS.MCH_LISTEN)] else [])

/-- The counts behind the causes. -/
def counts (x : Meas) (g : McState) : McState :=
  let live := 3 ≤ g.st && g.st ≤ STOPPING
  { g with vHi := if gt x.vdc (g.p 0x2C) then g.vHi + 1 else 0
           vLo := if live && lt x.vdc (g.p 0x28) then g.vLo + 1 else 0
           fast := if g.st != IDLE && gt (Fp.abs (freq g)) (g.p 0x30) then g.fast + 1 else 0 }

/-- Stage the sources, the first cause last. -/
def stageCauses (c : McInst) : List (Nat × Nat) → Lib Unit
  | [] => pure ()
  | x :: r => do
    stageCauses c r
    evt x.2 (x.1 + 256 * c.mch)

/-- E_LL calls for ASC (R382). -/
def high (x : Meas) (g : McState) : Bool := gt g.emf (mulV x.vdc (g.p 0x34))
/-- E_LL allows ASC to end (R384). -/
def low (x : Meas) (g : McState) : Bool := lt g.emf (mulV (mulV x.vdc (g.p 0x34)) (g.p 0x38))

/-- An observer loss (R382). -/
def lose (c : McInst) (t : Time) (x : Meas) (g : McState) : Lib McState := do
  evt FS.MCH_OBS_LOST (g.st + 256 * c.mch)
  let g := { g with omega := g.goodOmega, emf := emfOf g g.goodOmega, resFrom := none }
  if high x g then do
    let g := { enter t ASC g with ascAngle := none, ascRates := [] }
    raise c t false true g
  else raise c t true true { enter t RELISTEN g with raising := true }

/-- The residual of RUN and BRAKE (R382): whether the observer is lost. -/
def watch (t : Time) (g : McState) : McState × Bool :=
  let good := le g.res (g.p 0x78)
  let g := if good then { g with goodOmega := g.omega } else g
  let g := { g with resFrom := since (judged g && !good) g.resFrom t.now }
  (g, ran g.resFrom t.now (ms (g.n 0x7C) - t.dt))

/-- RELISTEN (R384). -/
def relisten (c : McInst) (t : Time) (frame : Nat) (x : Meas) (th : Word) (g : McState) : Lib McState := do
  if high x g then raise c t false true { enter t ASC g with ascAngle := none, ascRates := [] }
  else if g.raising then do
    let heard := decide (g.since + ms (g.n 0x40) ≤ t.now)
    let g ← (if heard then classify g else pure g)
    if heard && !(g.cls = 2 && g.wait) then do
      let g := { g with raising := false }
      emfDuties c t x th g
    else do
      let g ← raise c t true false g
      emfDuties c t x th g
  else
    let due := match g.fwAt with
      | some f => decide (f + ms (g.n 0x3C) + 2 * frame ≤ t.now)
      | none => true
    if t.stopping then emfDuties c t x th (enter t STOPPED g)
    else if due then emfDuties c t x th (byClass t g)
    else emfDuties c t x th g

/-- ALIGN and IF (R379): the direction is that of SPEED_SET, forward in torque control. -/
def startStep (c : McInst) (t : Time) (x : Meas) (g : McState) : Lib McState := do
  let dir := if g.torque then one else sgn (g.p 0x80)
  let live := ge g.emf (g.p 0x44)
  -- movement of the observer's angle against the direction of the start
  let mv := mulV (mulV g.omega t.T) dir
  let g := if live && lt mv 0 then { g with back := subV g.back mv } else g
  let g := if g.st = ALIGN && decide (g.since + ms (g.n 0x54) ≤ t.now) then enter t IF g else g
  let g := if g.st = IF then
      let f := toward g.ifF (mulV (g.p 0x60) dir) (mulV (g.p 0x5C) t.T)
      { g with ifF := f, ifAt := since (eq (Fp.abs f) (g.p 0x60)) g.ifAt t.now } else g
  let failed := gt g.back (g.p 0x6C) || ran g.ifAt t.now 500000000
  if failed then
    let g := { enter t RETRY g with retries := g.retries + 1 }
    emfDuties c t x g.theta g
  else do
    let f := freq g
    let near := ge (mulV f g.ifF) 0 && le (Fp.abs (subV f g.ifF)) (mulV (ratio 2 10) (Fp.abs g.ifF))
    let ok := g.st == IF && judged g && le g.res (g.p 0x78) && near
    let n := if ok then g.obsRun + 1 else 0
    let g := { g with obsRun := n }
    let th := g.ifTheta
    let om := rad g.ifF
    let dq ← xfm2 c.xfm 2 [x.al, x.be, th]
    track0 (c.lu + 4)
    let g := { g with idRef := if g.st = ALIGN then g.p 0x50 else 0
                      iqRef := if g.st = ALIGN then 0 else mulV (g.p 0x58) dir, iqNow := dq.2 }
    let _ ← track (c.lu + 3) g.iqRef 0
    let g ← control c t x th om dq.1 dq.2 g
    let th' ← wrap c.xfm (addV th (mulV om t.T))
    let g := { g with ifTheta := th' }
    if g.st = IF ∧ g.n 0x68 ≤ n then pure (toRun t g) else pure g

/-- RUN, BRAKE and STOPPING (R380, R381, R386) at θ̂. -/
def runStep (c : McInst) (t : Time) (x : Meas) (th : Word) (g : McState) : Lib (McState × Bool × Bool) := do
  let dq ← xfm2 c.xfm 2 [x.al, x.be, th]
  let g := { g with iqNow := dq.2 }
  let g ← fieldWeak c x g
  let r ← (
    if g.st = BRAKE then speedLoop c t x 0 (g.p 0x98) g
    else if g.torque then torqueLoop c t x (if g.st = STOPPING then 0 else g.p 0x84) g
    else speedLoop c t x (if g.st = STOPPING then 0 else rad (g.p 0x80)) (g.p 0x20) g)
  let g ← control c t x th r.1.omega dq.1 dq.2 r.1
  pure (g, r.2)

/-- STOPPED may be staged (R386). -/
def stopDone (x : Meas) (g : McState) : Bool :=
  let small := lt (Fp.abs g.iqNow) (mulV (ratio 2 100) (g.p 0x20))
  if g.torque then small && !high x g else small && lt (Fp.abs (freq g)) (g.p 0x4C)

/-- The block's work in its state. The two results beside the state are ILIM and BRKLIM. -/
def work (c : McInst) (t : Time) (frame : Nat) (x : Meas) (th : Word) (g : McState) : Lib (McState × Bool × Bool) := do
  let no (g : McState) : McState × Bool × Bool := (g, false, false)
  match g.st with
  | 1 => do
    if g.since + ms (g.n 0x40) ≤ t.now then do
      let g ← classify g
      let g ← emfDuties c t x th (enter t SYNC g)
      pure (no g)
    else do
      let g ← emfDuties c t x th g
      pure (no g)
  | 2 => do
    let g ← classify g
    let g ← emfDuties c t x th g
    pure (no g)
  | 3 | 4 => do
    let g ← startStep c t x g
    pure (no g)
  | 5 | 6 => do
    let (g, lost) := watch t g
    if lost then do
      let g ← lose c t x g
      hold c true g
      pure (no g)
    else if g.st = BRAKE ∧ lt (Fp.abs (freq g)) (g.p 0x4C) then do
      let g ← startStep c t x (toAlign t g)
      pure (no g)
    else runStep c t x th g
  | 7 => do
    hold c true g
    if low x g then do
      let g ← raise c t true true { enter t RELISTEN g with raising := true }
      pure (no g)
    else do
      let g ← raise c t false false g
      pure (no g)
  | 8 => do
    let g ← relisten c t frame x th g
    pure (no g)
  | 9 => do
    if g.since + ms (g.n 0x70) ≤ t.now then do
      let g ← startStep c t x (toAlign t g)
      pure (no g)
    else do
      let g ← emfDuties c t x th g
      pure (no g)
  | 10 => do
    let r ← runStep c t x th g
    if stopDone x r.1 then pure (enter t STOPPED r.1, r.2) else pure r
  | 11 => do
    let g ← emfDuties c t x th g
    pure (no g)
  | 15 => do
    hold c (!g.freewheel) g
    let fw := if g.freewheel then !high x g else low x g
    let first := fw != g.freewheel
    let g := { g with freewheel := fw, ascAngle := if first then none else g.ascAngle, ascRates := if first then [] else g.ascRates }
    let g ← raise c t fw first g
    pure (no g)
  | _ => do
    hold c true { g with omega := 0 }
    pure (no { g with duty1 := [] })

/-- FAULT is entered (R385): ASC or freewheel by E_LL. -/
def toFault (c : McInst) (t : Time) (x : Meas) (cause : Nat) (g : McState) : Lib McState :=
  let g := { enter t FAULT g with cause := cause, freewheel := !high x g, ascAngle := none, ascRates := [] }
  raise c t g.freewheel true g

/-- The conditions of READY (R374, R378). -/
def readyNow (x : Meas) (g : McState) : Bool :=
  g.st == SYNC && !(g.cls == 2 && g.wait) && ge x.vdc (g.p 0x28) && le x.vdc (g.p 0x2C) && !g.cfgBad

/-- The estimate of a block (R375, R376, R384). -/
def estimate (c : McInst) (t : Time) (frame : Nat) (x : Meas) (g : McState) : Lib McState := do
  if g.st = IDLE then pure { g with omega := 0, emf := 0, res := 0 }
  else if g.st = ASC ∨ (g.st = FAULT ∧ !g.freewheel) then ascSpeed c t x g
  else do
    let v ← voltage c t frame x g
    let open' := g.st == LISTEN || g.st == RELISTEN || g.st == FAULT
    observe c t x v open' g

/-- MC_CTL, one block (R370 to R388). -/
def ctl (c : McInst) : Lib Unit := do
  let t ← time
  let frame ← ask (fun m _ _ => m.frameLen)
  let k ← kept
  let g0 := match k with
    | some (.mc s) => s
    | _ => init t.mode
  let (g, first) ← takeFrame t g0
  let x ← measure c g
  let vmeas := useMeasured t frame g
  let g := machine t first g
  let th ← wrap c.xfm (addV g.theta (mulV (mulV (ofNat (passed t g - 1)) g.omega) t.T))
  let g ← estimate c t frame x g
  let g := counts x g
  let cs := if g.st = FAULT then [] else causes x g
  stageCauses c cs
  let g ← (match cs with
    | [] => pure g
    | q :: _ => toFault c t x q.1 g)
  let was := g
  let (g, ilim, brk) ← work c t frame x th g
  -- a function that was told to stop and is not running (any more) enters FAULT (R491)
  let g ← (if t.fnstop && (g.st == LISTEN || g.st == SYNC || g.st == STOPPED) then toFault c t x stopCause g else pure g)
  let g := { g with duty2 := was.duty1, last := some t.now }
  let rdy := readyNow x g
  if rdy then ready
  if g.st = STOPPED then stopped
  let dq ← xfm2 c.xfm 2 [x.al, x.be, th]
  let e ← ask (fun _ e _ => e)
  let pa ← tblWord 0 0 false
  let sa ← tblWord 1 0 false
  let n (v : Nat) : Word := BitVec.ofNat 32 v
  let fl := flag 0 rdy + flag 1 (le g.res (g.p 0x78)) + flag 2 (lt g.idRef 0) + flag 3 ilim + flag 4 brk + flag 5 vmeas
    + flag 6 g.dpend + flag 7 g.clamped + flag 8 g.cfgBad
  putTs 1 0 [n (g.st + 16 * g.cls + 256 * g.cause), n fl, freq g, g.emf, dq.1, dq.2, x.vdc, g.res, g.fListen, n g.retries,
    n e, n c.gen, n c.group, n (c.lu + 256 * c.xfm + 65536 * c.mch), n pa, n sa]
  keep (.mc g)

end Sys2Proof.Machine.Mach
end

