-- ==== Sys2Proof/Machine/LibMeter.lean ====
section
/-! DEFINITION. LibMeter.lean: the metering library program's task ME_PT (R431, R432). -/

namespace Sys2Proof.Machine.Meter

open Sys2Proof.Machine Lib Fp

def init : MeState := ⟨[], 0, none, none, none, [], [], false⟩

/-- Parameters for a frame (R306, R431); every one is class R. -/
def takeFrame (t : Time) (s : MeState) : Lib MeState :=
  if s.frame = t.frame then pure s
  else do
    let raw ← getTs 0 0 3
    pure { s with frame := t.frame, par := (fitAll [pu 2 false 1 4] raw).1 }

def n (s : MeState) (k : Nat) : Nat := (s.par.getD k 0).toNat
/-- The AFE is the source (R431). -/
def afe (s : MeState) : Bool := (n s 0).testBit 31

/-- One sample of the six channels: its instant in ns, voltages, currents, voltages a quarter period before, and whether it is
usable (R432). -/
structure Taken where
  t : Nat
  v : List Word
  i : List Word
  d : List Word
  ok : Bool

/-- f, averaged over up to 10 cycles (R432). -/
def freq (s : MeState) : Option Word :=
  match s.cross, s.cross.getLast? with
  | a :: _ :: _, some b => if a ≤ b then none else some (divV (ofNat ((s.cross.length - 1) * 1000000000)) (ofNat (a - b)))
  | _, _ => none

/-- 1/(4f) in ns. -/
def quarter (f : Word) : Nat := (toIntRne (divV (ofNat 250000000) f)).1.toNat

/-- Note a voltage of phase a: a positive zero crossing is placed by linear interpolation. -/
def note (t : Nat) (va : Word) (s : MeState) : MeState :=
  let c := match s.prev with
    | some (t0, v0) =>
      if lt v0 0 && ge va 0 then
        let k := divV (neg v0) (subV va v0)
        ((t0 + (toIntRne (mulV k (ofNat (t - t0)))).1.toNat) :: s.cross).take 11
      else s.cross
    | none => s.cross
  { s with prev := some (t, va), cross := c }

/-- Channels of a stream from `ch` on at time `t`: values, and whether all are VALID. -/
def channels (interp : Bool) (t : Int) (sub ch : Nat) : Nat → Lib (List Word × Bool)
  | 0 => pure ([], true)
  | k + 1 => do
    let a ← svAt interp t sub ch
    let r ← channels interp t sub (ch + 1) k
    pure (a.1 :: r.1, a.2.toNat.testBit 0 && r.2)

/-- The sample of a stream at an instant. -/
def takeSv (s : MeState) (t : Nat) : Lib Taken := do
  let w := n s 0
  let v ← channels false t (bitsN w 4 0) (bitsN w 9 5) 3
  let i ← channels false t (bitsN w 14 10) (bitsN w 19 15) 3
  match freq s with
  | none => pure ⟨t, v.1, i.1, [], false⟩
  | some f => do
    let d ← channels true ((t : Int) - quarter f) (bitsN w 4 0) (bitsN w 9 5) 3
    pure ⟨t, v.1, i.1, d.1, v.2 && i.2 && d.2⟩

/-- Voltages at an instant between two of the AFE's past samples. -/
def between (h : List (Nat × List Word)) (t : Nat) : List Word :=
  match h.find? (fun p => decide (p.1 ≤ t)), (h.filter (fun p => decide (t < p.1))).getLast? with
  | some a, some b =>
    let k := divV (ofNat (t - a.1)) (ofNat (b.1 - a.1))
    (List.range 3).map (fun x => addV (a.2.getD x 0) (mulV k (subV (b.2.getD x 0) (a.2.getD x 0))))
  | some a, none => a.2
  | none, _ => []

/-- The AFE's sequence of the period. -/
def takeAfe (s : MeState) : Lib Taken := do
  let w := n s 1
  let v ← sample3 (w % 4) (bitsN w 7 4)
  let i ← sample3 (w % 4) (bitsN w 11 8)
  let ns ← sampleWord (w % 4) 33
  let sec ← sampleWord (w % 4) 34
  let t := sec.toNat * 1000000000 + ns.toNat
  let vs := [v.1, v.2.1, v.2.2]
  let is := [i.1, i.2.1, i.2.2]
  let d := match freq s with
    | some f => between ((t, vs) :: s.hist) (t - quarter f)
    | none => []
  pure ⟨t, vs, is, d, d.length == 3 && (vs ++ is).all isFinite⟩

/-- The instants of a stream's samples to take: those after the last one used, at most 8, in order. -/
def instants (s : MeState) : Lib (List Nat) := ask (fun m _ b =>
  let p := (m.view b).platform (bitsN (n s 0) 4 0)
  let ts := sortBy (fun (x y : Nat) => decide (x ≤ y)) (p.samples.map SvSample.nanos)
  match s.last with
  | some l => (ts.filter (fun x => decide (l < x))).take 8
  | none => ts.reverse.take 1)

/-- Take samples in order, noting the zero crossings. -/
def takeAll : List Nat → MeState → Lib (List Taken × MeState)
  | [], s => pure ([], s)
  | t :: r, s => do
    let x ← takeSv s t
    let (xs, s) ← takeAll r (note t (x.v.getD 0 0) s)
    pure (x :: xs, s)

/-- A mean over the usable samples. -/
def mean (xs : List Taken) (f : Taken → Word) : Word :=
  divV (xs.foldl (fun a x => addV a (f x)) 0) (ofNat xs.length)

/-- The twelve values of a set (R162, R432): P, Q, I and V of each phase. -/
def values (xs : List Taken) : List Word :=
  let ph := List.range 3
  let g (l : List Word) (k : Nat) : Word := l.getD k 0
  ph.map (fun k => mean xs (fun x => mulV (g x.v k) (g x.i k)))
    ++ ph.map (fun k => mean xs (fun x => mulV (g x.i k) (g x.d k)))
    ++ ph.map (fun k => sqrtV (mean xs (fun x => mulV (g x.i k) (g x.i k))))
    ++ ph.map (fun k => sqrtV (mean xs (fun x => mulV (g x.v k) (g x.v k))))

/-- Stage a set of a duration, within the bounds of R162. -/
def set (mp : Nat) (vals : List Word) (ns : Nat) : Lib Unit :=
  if ns = 0 then pure () else macc mp vals (min 10000000 ns)

/-- A gap set (R429). -/
def gapSet (mp ns : Nat) : Lib Unit := set mp (List.replicate 12 qNaN) ns

/-- P / √(P² + Q²), and 1.0 where both are 0. -/
def pf (p q : Word) : Word := if isZero p && isZero q then one else divV p (hypot p q)

/-- The status block (R432). -/
def status (s : MeState) (vs : List Word) : List Word :=
  let g (k : Nat) : Word := vs.getD k qNaN
  let sum (k : Nat) : Word := addV (addV (g k) (g (k + 1))) (g (k + 2))
  [if s.gap then 1 else 0, (freq s).getD qNaN, g 9, g 10, g 11, g 6, g 7, g 8, g 0, g 1, g 2, sum 0, g 3, g 4, g 5, sum 3,
    pf (g 0) (g 3), pf (g 1) (g 4), pf (g 2) (g 5), pf (sum 0) (sum 3)]

/-- ME_PT, one block (R432). The minor period in ns and the block's lost periods (R376) set the durations. -/
def block (point : Fin 4) : Lib Unit := do
  let t ← time
  let k ← kept
  let s := match k with
    | some (.me s) => s
    | _ => init
  let s ← takeFrame t s
  let base := 2 * t.dt
  let lost := match s.period with
    | some p => (t.now - p) / t.dt - 1
    | none => 0
  let over' := base * (lost - n s 2)
  let (xs, s) ← (if afe s then do
      let x ← takeAfe s
      let s := note x.t (x.v.getD 0 0) { s with hist := ((x.t, x.v) :: s.hist).take 64 }
      pure ([x], s)
    else do
      let ts ← instants s
      takeAll ts s)
  let s := { s with period := some t.now }
  match xs.getLast? with
  | none => do
    let now ← ask (fun m _ _ => m.todNanos)
    match s.last with
    | some l =>
      if l + 10000000 < now then do
        gapSet point base
        keep (.me { s with last := some (l + base), gap := true })
      else keep (.me s)
    | none => keep (.me s)
  | some z => do
    let full := if afe s then base * (1 + min lost (n s 2)) else
      match s.last with
      | some l => (z.t - l) - over'
      | none => base
    let good := xs.filter (·.ok)
    let use := full * good.length / xs.length
    let vs := values good
    set point vs use
    gapSet point (full - use)
    gapSet point over'
    let s := { s with last := some z.t, gap := decide (good.length < xs.length ∨ 0 < over') }
    putTs 1 0 (status s (if good.isEmpty then [] else vs))
    keep (.me s)

end Sys2Proof.Machine.Meter
end

