-- ==== Sys2Proof/Machine/LibMppt.lean ====
section
/-! DEFINITION. LibMppt.lean: maximum power point tracking and the global scan (R320, R321, R357). -/

namespace Sys2Proof.Machine.Mppt

open Sys2Proof.Machine Lib Fp

/-- What a block of GC_MPPT or DP_MPPT works with: the instance, the time, parameters in use, the present voltage, current
and power, and whether the converter runs, is held at its power limit, or abandons a scan. -/
structure In where
  inst : Nat
  now : Nat
  period : Nat
  dv : Word
  vmin : Word
  vmax : Word
  scanT : Nat
  scanDur : Nat
  scanMin : Word
  imax : Word
  v : Word
  i : Word
  run : Bool
  held : Bool
  abandon : Bool

def init (inst : Nat) (v : Word) : MpptState := ⟨inst, v, none, 0, 0, 0, 0, none, none⟩

/-- The step of R320 from the last averages to the present ones. -/
def move (x : In) (vl il v i : Word) : Word :=
  let dv := subV v vl
  let di := subV i il
  if lt (Fp.abs dv) (mulV (ratio 1 10) x.dv) then
    if lt (Fp.abs di) (mulV (ratio 1 1000) x.imax) then 0 else if gt di 0 then x.dv else neg x.dv
  else
    let g := addV (divV di dv) (divV i v)
    if lt (Fp.abs g) (divV (mulV (ratio 1 1000) x.imax) v) then 0 else if gt g 0 then x.dv else neg x.dv

/-- Restart the averages. -/
def fresh (now : Nat) (s : MpptState) : MpptState := { s with sumV := 0, sumI := 0, n := 0, from' := now }

/-- Incremental conductance: a decision each MPPT_T on the averages since the last one. -/
def conduct (x : In) (s : MpptState) : MpptState :=
  let s := { s with sumV := addV s.sumV x.v, sumI := addV s.sumI x.i, n := s.n + 1 }
  if x.now < s.from' + x.period then s
  else
    let v := divV s.sumV (ofNat s.n)
    let i := divV s.sumI (ofNat s.n)
    let st := match s.last with
      | some l => if x.held then 0 else move x l.1 l.2 v i
      | none => 0
    let vref := if x.held then s.vref else clampV (addV s.vref st) x.vmin x.vmax
    fresh x.now { s with vref := vref, last := some (v, i) }

/-- The reference `t` ticks into a scan: linear from VMPP_MAX to VMPP_MIN. -/
def sweep (x : In) (t : Nat) : Word :=
  subV x.vmax (mulV (subV x.vmax x.vmin) (divV (ofNat t) (ofNat (ms x.scanDur))))

/-- Close the interval of 10 ms under way: its mean power is compared, at the reference of its middle. -/
def closeSlot (x : In) (c : Scan) : Scan :=
  if c.n = 0 then c
  else
    let p := divV c.sumP (ofNat c.n)
    let mid := sweep x (ms 10 * c.slot + ms 5)
    let c := if gt p c.best then { c with best := p, bestV := mid } else c
    { c with sumP := 0, n := 0 }

/-- The scan ends or is abandoned at `v`: the next falls SCAN_T later. -/
def endScan (x : In) (v : Word) (s : MpptState) : MpptState :=
  fresh x.now { s with vref := clampV v x.vmin x.vmax, scan := none, scanFrom := some x.now, last := none }

/-- A block of a scan (R321). -/
def scanStep (x : In) (c : Scan) (s : MpptState) : MpptState :=
  if x.abandon || x.held then endScan x c.v0 s
  else
    let t := x.now - c.start
    let slot := t / ms 10
    let c := if slot = c.slot then c else { closeSlot x c with slot := slot }
    if ms x.scanDur ≤ t then
      let c := closeSlot x c
      endScan x (if gt c.best (mulV c.p0 (addV one x.scanMin)) then c.bestV else c.v0) s
    else
      let c := { c with sumP := addV c.sumP (mulV x.v x.i), n := c.n + 1 }
      { s with scan := some c, vref := clampV (sweep x t) x.vmin x.vmax }

/-- One block: outside RUN the reference follows the measured voltage. -/
def next (x : In) (s : MpptState) : MpptState :=
  if !x.run then
    fresh x.now { s with vref := clampV x.v x.vmin x.vmax, last := none, scan := none, scanFrom := none }
  else
    let s := { s with scanFrom := some (s.scanFrom.getD x.now) }
    match s.scan with
    | some c => scanStep x c s
    | none =>
      if x.scanT != 0 && !x.held && !x.abandon && ran s.scanFrom x.now (500000000 * x.scanT) then
        { s with scan := some ⟨x.now, mulV x.v x.i, s.vref, 0, 0, 0, neg pInf, s.vref⟩, vref := x.vmax }
      else conduct x s

/-- Run a block: the reference is committed to the yard word that the control task reads (R319, R357). -/
def block (x : In) : Lib Unit := do
  let k ← kept
  let s := match k with
    | some (.mppt s) => s
    | _ => init x.inst x.v
  let s := next x s
  sty x.inst s.vref
  keep (.mppt s)

/-- GC_MPPT (R320, R321): VDC and P are those of the instance's last committed block. -/
def grid (c : GcInst) : Lib Unit := do
  let t ← time
  let g ← other (fun s => match s with
    | .gc x => if x.inst = c.vref.toNat then some x else none
    | _ => none)
  match g with
  | none => pure ()
  | some g =>
    let p (off : Nat) : Word := g.par.getD (off / 4) 0
    let n (off : Nat) : Nat := (p off).toNat
    block
      { inst := c.vref.toNat, now := t.now, period := ms (n 0x94), dv := p 0x98, vmin := p 0x9C, vmax := p 0xA0
        scanT := n 0xA4, scanDur := n 0xA8, scanMin := p 0xAC, imax := p 0x20, v := g.vdcNow, i := divV g.pNow g.vdcNow
        run := g.st == 4 && !g.rt.island, held := g.plim, abandon := g.rt.active || t.wasShed }

/-- DP_MPPT (R357): v is V_PORT and i is −I_PORT. -/
def port (c : DpInst) : Lib Unit := do
  let t ← time
  let g ← other (fun s => match s with
    | .dp x => if x.inst = c.vref.toNat then some x else none
    | _ => none)
  match g with
  | none => pure ()
  | some g =>
    let p (off : Nat) : Word := g.par.getD (off / 4) 0
    let n (off : Nat) : Nat := (p off).toNat
    if bitsN (n 0) 7 6 != 2 then pure ()
    else block (
      { inst := c.vref.toNat, now := t.now, period := ms (n 0x7C), dv := p 0x80, vmin := p 0x84, vmax := p 0x88
        scanT := n 0x8C, scanDur := n 0x90, scanMin := p 0x94, imax := p 0x20, v := g.vPort, i := neg g.iPort
        run := g.st == 2, held := false, abandon := t.wasShed } : In)

end Sys2Proof.Machine.Mppt
end

