-- ==== Sys2Proof/Machine/Library.lean ====
section
/-! DEFINITION. Library.lean: the library programs as tasks (R303, R352, R370, R431): which program a block of a library
task runs, and what it keeps and records at its commit point. -/

namespace Sys2Proof.Machine

/-- The program of a library task. -/
def LibTask.program : LibTask → Lib Unit
  | .gcCtl c => Grid.ctl c
  | .gcMppt c => Mppt.grid c
  | .gcMon c => Grid.mon c
  | .dpCtl c => DcPort.ctl c
  | .dpMppt c => Mppt.port c
  | .mcCtl c => Mach.ctl c
  | .mePt p => Meter.block p

/-- The block on `e` is open and running. -/
def Module.running (m : Module) (e : Nat) : Bool := (m.blk e).any (fun b => b.state == .running)

/-- The evaluation of a library block, with up to `n` runs: its whole evaluation stands at its start tick, and its commit-ready
mark leaves `ready` ticks later (R17, R88), which covers what it waits for drains (R106, R107). What stops a program stops
it (R108, R116, R141). -/
def Module.evalLib (m : Module) (e : Nat) (r : LibRun) : Nat → Module
  | 0 => m
  | n + 1 =>
    match m.blk e with
    | none => m
    | some b =>
      match r.task.program ⟨{ m with eng := { m.eng with draining := [] } }, e, b⟩ with
      | .ok (_, c) =>
        ({ c.m with eng := { c.m.eng with draining := m.eng.draining } } : Module).setBlk e
          (some { c.b with state := .ready, readyAt := c.m.now + r.ready.toNat })
      | .error (.violation reason sp off w) => m.violate e b reason sp off w
      | .error .shape => m.detect e b ⟨0, BitVec.ofNat 24 (m.imOff e b b.pc), false⟩
      | .error (.bad d) =>
        let m := m.detect e b d
        if m.running e then m.evalLib e r n else m
      | .error .wait => m

/-- A block of a library task runs on engine `e`: a detection stops its run, and one its re-run (R108, R109). -/
def Module.runLib (m : Module) (e : Nat) (r : LibRun) : Module :=
  match r.det, m.blk e with
  | some d, some b =>
    let m := m.detect e b d
    match m.running e, m.blk e, r.again with
    | true, some b, some d => m.detect e b d
    | true, _, _ => m.evalLib e r 1
    | false, _, _ => m
  | _, _ => m.evalLib e r 2

/-- What a library task keeps for `e`, `task` is dropped: its DM area is loaded afresh (R100, R110). -/
def Module.dropLib (m : Module) (e task : Nat) : Module :=
  { m with eng := { m.eng with libs := SMap.setD none m.eng.libs (e * 512 + task) none } }

/-- At the commit point a library task's own state is kept, and a last-fault record goes to the log writer with the time of day
of the commit point and its CRC (R366). -/
def Module.commitLib (m : Module) (e task : Nat) (s : Staged) : Module :=
  let m := match s.lib with
    | some l => { m with eng := { m.eng with libs := SMap.setD none m.eng.libs (e * 512 + task) (some l) } }
    | none => m
  s.recs.foldl (fun (m : Module) r =>
    m.logRecord (0x06600000 + 256 * r.1) (sealed (leBytes 8 (m.todSec % 2 ^ 48) ++ leBytes 4 m.todNs ++ r.2))) m

end Sys2Proof.Machine
end

