-- ==== Sys2Proof/Machine/Blocks.lean ====
section
/-! DEFINITION. Blocks.lean: a block's start tick, its commit point, danger, and the drain of its words (R17, R44, R71, R73,
R88, R89, R104 to R107, R121, R148, R149, R163, R164). -/

namespace Sys2Proof.Machine

/-! ### Start (R73, R104, R121, R149) -/

/-- The frame boundary is held back after a step, past the frame's length (R197). -/
def Module.heldBack (m : Module) : Bool := m.sys.alignHold && decide (m.sys.frameTick + m.frameLen ≤ m.now)

/-- The timebase issues a block start of entry `x` (R21, R47, R72, R83, R96, R197, R515). -/
def Module.blockRuns (m : Module) (c e : Nat) (x : Entry) : Bool :=
  x.engine == e && m.svcEn c x.svc && m.up && m.ticking && !m.sys.coreSilent && !m.sys.removed && !m.sys.holdUp
    && !m.eng.noFrame && !m.heldBack && !m.hl.hold && (m.blk e).isNone && m.modeRuns x
    && (x.firm || !m.eng.shedNow.contains x.task)

/-- The frame-start word of a task (R87): bit 11 says that it was shed in the frame before. -/
def Module.taskWord (m : Module) (task : Nat) : Nat :=
  m.sys.frameStart.toNat + if m.eng.shedPrev.contains task then 2048 else 0

/-- The task's DM area is loaded afresh from its image (R100, R110). -/
def Module.reinitDm (m : Module) (e task : Nat) : Module :=
  if !m.eng.reinit.contains (e, task) then m
  else
    let m : Module := { m with eng := { m.eng with reinit := m.eng.reinit.filter (· ≠ (e, task)) } }
    let m := m.dropLib e task
    match m.taskInfo e task with
    | some t => m.setBytes (m.dmAddr e t.dmBase) (m.mbytes t.dataOff t.dmSize)
    | none => m

/-- The block of entry `x` as it stands at its start tick. -/
def Module.openBlk (m : Module) (e : Nat) (x : Entry) : Blk :=
  let p := max 1 (m.svcPeriod x.svc)
  let idx := (m.now - m.sys.frameTick) / p
  let regs := startRegs (m.taskWord x.task) idx (((m.taskInfo e x.task).map (·.dmBase)).getD 0)
  { entry := x.idx, task := x.task, svc := x.svc, firm := x.firm, prot := x.prot, mon := x.mon
    start := m.now, periodStart := m.sys.frameTick + idx * p, periodIdx := idx
    state := .running, readyAt := 0, rerun := false
    regs := regs, shadow := regs, pc := 0, calls := [], reps := [], journal := [], st := Staged.empty, wait := none
    viewMem := m.mem, viewSv := m.pb.sv, viewCyc := (List.range 16).map (fun p => (m.port p).done), viewAfe := [] }

/-- BLOCK_START (R73). -/
def Module.blockStart (m : Module) (e i : Nat) (lib : Option LibRun) : Module :=
  match m.activeCopy with
  | none => m
  | some c =>
    match m.entry c i with
    | none => m
    | some x =>
      if !m.blockRuns c e x then m
      else
        let m := m.reinitDm e x.task
        let m := (m.setBlk e (some (m.openBlk e x))).engState e 1
        match lib with
        | some r => m.runLib e r
        | none => m

/-- BLOCK_START (R73): the block of entry `entry` of the active copy starts on logical engine `le`. `lib` says that its task is
a library task, whose program then runs; any other task's code comes as instruction commands. -/
def execBlockStart (le : Fin 8) (entry : Fin 512) (lib : Option LibRun) (s : State) := s.run (·.blockStart le entry lib)

/-! ### Commit (R106, R148) -/

/-- The staged words are written, and drain (R106, R107). A CAN row or a publication row written is taken by its unit
(R228, R365). -/
def Module.commitWords (m : Module) (e : Nat) (ws : List (Nat × Word)) : Module :=
  if ws.isEmpty then m
  else
    let m := ws.foldr (fun w (m : Module) => m.setMw w.1 w.2) m
    let as := ws.map (·.1)
    let m : Module := { m with eng := { m.eng with draining := m.eng.draining ++ [(e, as)] } }
    let m := m.canCommit as
    (List.range 32).foldl (fun m k =>
      if as.any (fun a => decide (0x01860000 + 512 * k ≤ a ∧ a < 0x01860200 + 512 * k)) then m.gpCompare k else m) m

/-- Loop units take their staged state and are supervised (R152, R176, R182). -/
def Module.commitLu (m : Module) (o : Owner) (lu : SMap (Option LuState)) : Module :=
  lu.foldl (fun m p => match p.2 with
    | none => m
    | some l =>
      let m := m.luStore p.1 l
      let m := if l.nanSteps = 0 then m
        else (m.setFlag (R.LU_FLAG p.1) F.LU_FLAG_NAN true).raise FS.LU_NAN p.1 o
      m.luSupervise p.1 o l.feHit l.satHit) m

/-- The selection of the arms a block named is committed (R155, R156, R171). -/
def Module.commitSel (m : Module) (sel : List (Nat × List Nat × Bool)) : Module :=
  if sel.isEmpty then m
  else
    let m := sel.foldl (fun m s =>
      let m := m.setMn (0x0183A000 + 4 * s.1) 4 (s.2.1.length + if s.2.2 then 0x10000 else 0)
      let m := m.setBit R.XS_SEL_ARMS s.1 s.2.2
      (List.range 4096).foldl (fun m i =>
        if m.cellArm i = s.1 ∧ m.inserted i ≠ s.2.1.contains i then
          m.setMn (0x0183A040 + i / 8) 1 (setBitN (m.mn (0x0183A040 + i / 8) 1) (i % 8) (s.2.1.contains i))
        else m) m) m
    if sel.any (fun s => s.2.2) then m.bump R.XS_SEL_SHORT R.XS_SAT 0 else m

/-- Staged consist fields move to the shadow registers (R158, R263). -/
def Module.commitFields (m : Module) (fs : List StagedField) : Module :=
  fs.foldr (fun f (m : Module) =>
    if f.field = 0 ∧ m.periodIgnored f.group f.inst then m.setFlag (R.PWM_STAT f.inst) F.PWM_STAT_PER_IGN true
    else
      let x := m.gen f.inst
      m.setGen f.inst { x with commits := x.commits ++ [⟨consistReg f.field f.inst, f.val, m.now, true⟩] }) m

/-- Ring commands, apply offsets and slow requests are released (R158, R161). -/
def Module.commitRings (m : Module) (s : Staged) : Module :=
  let m := s.cmds.foldl (fun m c =>
    let x := m.port c.1
    m.setPort c.1 { x with waiting := x.waiting ++ [(m.now, c.2.1, c.2.2)] }) m
  let m := s.apply.foldl (fun m a =>
    let x := m.port a.1
    m.setPort a.1 { x with applies := x.applies ++ [(m.now, a.2)] }) m
  s.slow.foldl (fun m r => m.queueSlow r.1 r.2.1 r.2.2) m

/-- Events are raised with the task's identity; READY and STOPPED count at the next boundary (R163, R335). -/
def Module.commitEvents (m : Module) (b : Blk) (es : List (Nat × Nat × Word)) : Module :=
  es.foldl (fun (m : Module) e =>
    if e.1 = 0 then
      let m := if e.2.1 = FS.GC_RT_STATE then { m with sys := { m.sys with rtWord := e.2.2.toNat } } else m
      m.raise e.2.1 e.2.2.toNat b.owner
    else if e.2.1 = 0 then { m with sys := { m.sys with readySeen := m.sys.readySeen ++ [b.task] } }
    else { m with sys := { m.sys with stoppedSeen := m.sys.stoppedSeen ++ [b.task] } }) m

/-- Mailboxes are posted (R164). -/
def Module.commitPosts (m : Module) (e task : Nat) (ps : List (Nat × Word × Word)) : Module :=
  ps.foldl (fun m p =>
    let a := 0x01839000 + 16 * p.1
    let m := (m.setMw a p.2.1).setMw (a + 4) p.2.2
    let m := m.setMn (a + 8) 4 ((m.mn (a + 8) 4 + 1) % 2 ^ 32)
    let m := m.setMn (a + 12) 4 (e <<< 28 + task)
    let m := if m.bit R.XS_MBX_PEND p.1 then m.bump R.XS_MBX_LOST R.XS_SAT 1 else m
    (m.setBit R.XS_MBX_PEND p.1 true).irq Irq.MBX) m

/-- Everything a block staged takes effect together (R148). -/
def Module.commit (m : Module) (e : Nat) (b : Blk) : Module :=
  let m := m.commitWords e b.st.words
  let m := m.commitLu b.owner b.st.lu
  let m := m.commitSel b.st.sel
  let m := m.commitFields b.st.fields
  let m := m.commitRings b.st
  let m := b.st.sets.foldl (fun m x => m.meterSet x.mp x.vals x.dur) m
  let m := m.commitEvents b b.st.evts
  let m := m.commitLib e b.task b.st
  m.commitPosts e b.task b.st.posts

/-! ### The tick -/

/-- Time passes with no command waiting: a tick, or without ticks a crystal mark (R190); a held-back frame boundary brings the
mode hold (R197). -/
def Module.tick (m : Module) : Module :=
  let m := m.clockTick
  if m.heldBack && !m.sys.modeHold then m.setHold true else m

/-! ### The block's end (R17, R88, R89) -/

/-- The detection that ENG_nn_LAST_DET records. -/
def Module.lastDet (m : Module) (p : Nat) : Detection :=
  ⟨Fin.ofNat 9 (m.rf (R.ENG_LAST_DET p) F.ENG_LAST_DET_SRC), BitVec.ofNat 24 (m.rf (R.ENG_DET_ADDR p) F.ENG_DET_ADDR_ADDR), false⟩

/-- Danger (R88): nothing is applied, the snapshot is restored, the overrun counted; a re-run that overran is also a
second detection (R89, R109). -/
def Module.danger (m : Module) (e : Nat) (b : Blk) : Module :=
  let p := m.phys e
  let (m, b) := m.restore e b
  let m := (m.setBlk e none).engState e 0
  let m := m.bump (R.TTB_OVR e) R.TTB_SAT e
  let m := (m.raiseFree FS.TT_OVERRUN b.owner).subDanger p
  if b.rerun then
    (m.wf (R.ENG_LAST_DET p) F.ENG_LAST_DET_OUT 3).detectRepeat e b (m.lastDet p)
  else m

/-- BLOCK_END (R17): at the end tick a block whose mark has crossed commits; a stopped one ends with nothing; any other is
at danger. A silent core commits nothing (R21). -/
def Module.blockEnd (m : Module) (e : Nat) : Module :=
  match m.blk e with
  | none => m
  | some b =>
    match b.state with
    | .stopped => m.setBlk e none
    | .ready =>
      if m.sys.coreSilent then (m.stopBlk e b).setBlk e none
      else if b.readyAt + 4 ≤ m.now then ((m.setBlk e none).engState e 0).commit e b
      else m.danger e b
    | .running => m.danger e b

/-- BLOCK_END (R17). -/
def execBlockEnd (le : Fin 8) (s : State) := s.run (·.blockEnd le)

end Sys2Proof.Machine
end

