-- ==== Sys2Proof/Machine/EngineCtl.lean ====
section
/-! DEFINITION. EngineCtl.lean: control flow (R137 to R141) and `cmt` (R166). -/

namespace Sys2Proof.Machine

/-- The innermost `rep` level opened in the present function (R138). -/
def Blk.ownRep (b : Blk) : Option (Rep × List Rep) :=
  match b.reps with
  | r :: rs => if r.depth = b.calls.length then some (r, rs) else none
  | [] => none

/-- A taken `bt`, `bf` or `sw` (R137, R140): a target at the word after the innermost body ends that `rep`;
one beyond it is a shape fault. -/
def Blk.jump (b : Blk) (target : Nat) : Except Stop Blk :=
  match b.ownRep with
  | some (r, rs) =>
    if target = r.stop then { b with reps := rs }.goto target
    else if r.stop < target then .error .shape
    else b.goto target
  | none => b.goto target

/-- `bt` and `bf`: to the word OFF words after the branch when c[CF] equals SENSE (R137). OFF is 1 or more (R123):
an OFF of 0 is an undefined encoding. -/
def Module.branch (m : Module) (x : Issue) (sense : Bool) (c off : Nat) : Module :=
  m.issueRaw x (fun m b =>
    if off = 0 then .error .shape
    else do
      let b ← if b.regs.rc c = sense then b.jump (b.pc + off) else b.goto (b.pc + 1)
      pure (m, b))

/-- `bt` (R137). -/
def execBt (x : Issue) (c : Fin 8) (off : BitVec 22) (s : State) := s.run (·.branch x true c off.toNat)
/-- `bf` (R137). -/
def execBf (x : Issue) (c : Fin 8) (off : BitVec 22) (s : State) := s.run (·.branch x false c off.toNat)

/-- `rep` (R138): LEN 0 is a shape fault; COUNT 0 skips the body and opens no level; a fifth open level is
violation 0x47. -/
def Module.rep (m : Module) (x : Issue) (len count : Nat) : Module :=
  m.issueRaw x (fun m b =>
    if len = 0 then .error .shape
    else if count = 0 then do
      let b ← b.goto (b.pc + 1 + len)
      pure (m, b)
    else if 4 ≤ b.reps.length then .error (.violation 0x47 3 (m.imOff x.le b b.pc) false)
    else .ok (m, { b with pc := b.pc + 1
                          reps := ⟨b.pc + 1, b.pc + 1 + len, count, b.calls.length⟩ :: b.reps }))

/-- `rep` (R138). -/
def execRep (x : Issue) (len : Fin 1024) (count : BitVec 16) (s : State) := s.run (·.rep x len count.toNat)

/-- `brk` (R138): with no level of its own function open it is a shape fault, whatever its condition. -/
def Module.brk (m : Module) (x : Issue) (sense : Bool) (c : Nat) : Module :=
  m.issueRaw x (fun m b =>
    match b.ownRep with
    | none => .error .shape
    | some (r, rs) => do
      let b ← if b.regs.rc c = sense then (Blk.goto { b with reps := rs } r.stop) else b.goto (b.pc + 1)
      pure (m, b))

/-- `brk` (R138). -/
def execBrk (x : Issue) (sense : Bool) (c : Fin 8) (s : State) := s.run (·.brk x sense c)

/-- `call` (R139): the ninth is violation 0x46. -/
def Module.callTo (m : Module) (x : Issue) (tgt : Nat) : Module :=
  m.issueRaw x (fun m b =>
    if 8 ≤ b.calls.length then .error (.violation 0x46 3 (m.imOff x.le b b.pc) false)
    else .ok (m, { b with pc := tgt, calls := (b.pc + 1) :: b.calls }))

/-- `call` (R139). -/
def execCall (x : Issue) (tgt : BitVec 14) (s : State) := s.run (·.callTo x tgt.toNat)

/-- `ret` (R139, R141): an empty call stack, or a level of the function still open, is a shape fault. -/
def Module.retFrom (m : Module) (x : Issue) : Module :=
  m.issueRaw x (fun m b =>
    match b.calls with
    | [] => .error .shape
    | a :: cs =>
      if b.ownRep.isSome then .error .shape
      else do
        let b ← { b with calls := cs }.goto a
        pure (m, b))

/-- `ret` (R139). -/
def execRet (x : Issue) (s : State) := s.run (·.retFrom x)

/-- `sw` (R140): to the target of entry min(gA, NM1), whose word is read from IM; bits 31:16 of it set are a
shape fault. -/
def Module.switch (m : Module) (x : Issue) (a nm1 : Nat) : Module :=
  m.issueRaw x (fun m b =>
    let k := min (b.regs.rg a).toNat nm1
    let w := m.mn (m.imAddr x.le (m.imOff x.le b (b.pc + 1 + k))) 4
    if 0x10000 ≤ w then .error .shape
    else do
      let b ← b.jump (b.pc + 1 + (nm1 + 1) + w)
      pure (m, b))

/-- `sw` (R140). -/
def execSw (x : Issue) (a : Fin 32) (nm1 : Fin 64) (s : State) := s.run (·.switch x a nm1)

/-- `cmt` (R166): the task's execution in the block ends and the commit-ready mark leaves. -/
def execCmt (x : Issue) (s : State) :=
  s.run (·.issueRaw x (fun m b => .ok (m.engState x.le 0, { b with state := .ready, readyAt := m.now })))

end Sys2Proof.Machine
end

