-- ==== Sys2Proof/Machine/EngineFp.lean ====
section
/-! DEFINITION. EngineFp.lean: the FP group (R129 to R131). -/

namespace Sys2Proof.Machine

/-- A + B (R130). -/
def execFadd (x : Issue) (d a b : Fin 32) (s : State) := s.run (·.issueRegs x 1 (fRR d a b Fp.add))
/-- A − B (R130). -/
def execFsub (x : Issue) (d a b : Fin 32) (s : State) := s.run (·.issueRegs x 1 (fRR d a b Fp.sub))
/-- A × B (R130). -/
def execFmul (x : Issue) (d a b : Fin 32) (s : State) := s.run (·.issueRegs x 1 (fRR d a b Fp.mul))
/-- A / B (R130). -/
def execFdiv (x : Issue) (d a b : Fin 32) (s : State) := s.run (·.issueRegs x 1 (fRR d a b Fp.div))
/-- √A (R130). -/
def execFsqrt (x : Issue) (d a : Fin 32) (s : State) := s.run (·.issueRegs x 1 (fR d a Fp.sqrt))
/-- A × B + C, rounded once (R129, R130). -/
def execFma (x : Issue) (d a b c : Fin 32) (s : State) := s.run (·.issueRegs x 1 (fRRR d a b c Fp.fma))
/-- A × B − C (R130). -/
def execFms (x : Issue) (d a b c : Fin 32) (s : State) := s.run (·.issueRegs x 1 (fRRR d a b c Fp.fms))
/-- −(A × B) + C (R130). -/
def execFnma (x : Issue) (d a b c : Fin 32) (s : State) := s.run (·.issueRegs x 1 (fRRR d a b c Fp.fnma))
/-- The smaller of A and B (R130). -/
def execFmin (x : Issue) (d a b : Fin 32) (s : State) := s.run (·.issueRegs x 1 (fRR d a b Fp.min'))
/-- The larger of A and B (R130). -/
def execFmax (x : Issue) (d a b : Fin 32) (s : State) := s.run (·.issueRegs x 1 (fRR d a b Fp.max'))
/-- A with its sign bit cleared; no flag (R129, R130). -/
def execFabs (x : Issue) (d a : Fin 32) (s : State) := s.run (·.issueRegs x 1 (fR d a (fun p => (Fp.abs p, 0))))
/-- A with its sign bit inverted; no flag (R129, R130). -/
def execFneg (x : Issue) (d a : Fin 32) (s : State) := s.run (·.issueRegs x 1 (fR d a (fun p => (Fp.neg p, 0))))
/-- fmin(fmax(A, B), C) (R130). -/
def execFclamp (x : Issue) (d a b c : Fin 32) (s : State) := s.run (·.issueRegs x 1 (fRRR d a b c Fp.clamp))
/-- A if c[C] = 1, else B (R130). -/
def execFsel (x : Issue) (d a b : Fin 32) (c : Fin 8) (s : State) :=
  s.run (·.issueRegs x 1 (fun r => r.setF d (if r.rc c then r.rF a else r.rF b)))
/-- A write of f from g: fD := op gA, with flags. -/
def fOfG (d a : Nat) (op : Word → Fp.Res) (r : RegFile) : RegFile :=
  let v := op (r.rg a)
  (r.setF d v.1).orX v.2
/-- fD := gA as a signed integer, rounded (R130). -/
def execFcvtSW (x : Issue) (d a : Fin 32) (s : State) := s.run (·.issueRegs x 1 (fOfG d a Fp.ofInt))
/-- fD := gA as an unsigned integer, rounded (R130). -/
def execFcvtSWu (x : Issue) (d a : Fin 32) (s : State) := s.run (·.issueRegs x 1 (fOfG d a Fp.ofUInt))
/-- gD := fA rounded to a signed integer (R131). -/
def execFcvtWS (x : Issue) (d a : Fin 32) (s : State) :=
  s.run (·.issueRegs x 1 (fun r => (r.setG d (Fp.toInt (r.rF a)).1).orX (Fp.toInt (r.rF a)).2))
/-- fD := bits of gA (R130). -/
def execFmvFG (x : Issue) (d a : Fin 32) (s : State) := s.run (·.issueRegs x 1 (fun r => r.setF d (r.rg a)))
/-- gD := bits of fA (R130). -/
def execFmvGF (x : Issue) (d a : Fin 32) (s : State) := s.run (·.issueRegs x 1 (fun r => r.setG d (r.rF a)))
/-- gD := FPX flags in bits 4:0 (R130). -/
def execFxs (x : Issue) (d : Fin 32) (s : State) :=
  s.run (·.issueRegs x 1 (fun r => r.setG d (BitVec.ofNat 32 (r.fpx % 32))))
/-- fD := IMM32 as bits; a long form (R124, R130). -/
def execLiF (x : Issue) (d : Fin 32) (imm : BitVec 32) (s : State) :=
  s.run (·.issueRegs x 2 (fun r => r.setF d imm))

end Sys2Proof.Machine
end

