-- ==== Sys2Proof/Machine/EngineInt.lean ====
section
/-! DEFINITION. EngineInt.lean: the integer instructions, the compares and the flag group (R125 to R128). -/

namespace Sys2Proof.Machine

/-- NOP (R125). -/
def execNop (x : Issue) (s : State) := s.run (·.issueRegs x 1 id)

/-- A + B modulo 2^32 (R126). -/
def execAdd (x : Issue) (d a b : Fin 32) (s : State) := s.run (·.issueRegs x 1 (gRR d a b (· + ·)))
/-- A − B modulo 2^32 (R126). -/
def execSub (x : Issue) (d a b : Fin 32) (s : State) := s.run (·.issueRegs x 1 (gRR d a b (· - ·)))
/-- A AND B (R126). -/
def execAnd (x : Issue) (d a b : Fin 32) (s : State) := s.run (·.issueRegs x 1 (gRR d a b (· &&& ·)))
/-- A OR B (R126). -/
def execOr (x : Issue) (d a b : Fin 32) (s : State) := s.run (·.issueRegs x 1 (gRR d a b (· ||| ·)))
/-- A XOR B (R126). -/
def execXor (x : Issue) (d a b : Fin 32) (s : State) := s.run (·.issueRegs x 1 (gRR d a b (· ^^^ ·)))
/-- A AND NOT B (R126). -/
def execAndn (x : Issue) (d a b : Fin 32) (s : State) :=
  s.run (·.issueRegs x 1 (gRR d a b (fun p q => p &&& ~~~ q)))

/-- The shift amount B[4:0] (R126). -/
def shamt (b : Word) : Nat := b.toNat % 32

/-- Shift left by B[4:0] (R126). -/
def execShl (x : Issue) (d a b : Fin 32) (s : State) :=
  s.run (·.issueRegs x 1 (gRR d a b (fun p q => p <<< shamt q)))
/-- Logical shift right by B[4:0] (R126). -/
def execShr (x : Issue) (d a b : Fin 32) (s : State) :=
  s.run (·.issueRegs x 1 (gRR d a b (fun p q => p >>> shamt q)))
/-- Arithmetic shift right by B[4:0] (R126). -/
def execSar (x : Issue) (d a b : Fin 32) (s : State) :=
  s.run (·.issueRegs x 1 (gRR d a b (fun p q => p.sshiftRight (shamt q))))
/-- A + B, saturated (R126). -/
def execAdds (x : Issue) (d a b : Fin 32) (s : State) :=
  s.run (·.issueRegs x 1 (gRR d a b (fun p q => satInt (p.toInt + q.toInt))))
/-- A − B, saturated (R126). -/
def execSubs (x : Issue) (d a b : Fin 32) (s : State) :=
  s.run (·.issueRegs x 1 (gRR d a b (fun p q => satInt (p.toInt - q.toInt))))
/-- Signed minimum (R126). -/
def execMin (x : Issue) (d a b : Fin 32) (s : State) :=
  s.run (·.issueRegs x 1 (gRR d a b (fun p q => if p.toInt ≤ q.toInt then p else q)))
/-- Signed maximum (R126). -/
def execMax (x : Issue) (d a b : Fin 32) (s : State) :=
  s.run (·.issueRegs x 1 (gRR d a b (fun p q => if p.toInt ≤ q.toInt then q else p)))
/-- Unsigned minimum (R126). -/
def execMinu (x : Issue) (d a b : Fin 32) (s : State) :=
  s.run (·.issueRegs x 1 (gRR d a b (fun p q => if p.toNat ≤ q.toNat then p else q)))
/-- Unsigned maximum (R126). -/
def execMaxu (x : Issue) (d a b : Fin 32) (s : State) :=
  s.run (·.issueRegs x 1 (gRR d a b (fun p q => if p.toNat ≤ q.toNat then q else p)))
/-- abs(A); 0x8000_0000 gives 0x7FFF_FFFF (R126). -/
def execAbs (x : Issue) (d a : Fin 32) (s : State) :=
  s.run (·.issueRegs x 1 (gR d a (fun p => satInt |p.toInt|)))
/-- The low 32 bits of A × B (R126). -/
def execMul (x : Issue) (d a b : Fin 32) (s : State) := s.run (·.issueRegs x 1 (gRR d a b (· * ·)))
/-- The high 32 bits of signed A × B (R126). -/
def execMulh (x : Issue) (d a b : Fin 32) (s : State) :=
  s.run (·.issueRegs x 1 (gRR d a b (fun p q => BitVec.ofInt 32 (p.toInt * q.toInt / 2 ^ 32))))
/-- The high 32 bits of unsigned A × B (R126). -/
def execMulhu (x : Issue) (d a b : Fin 32) (s : State) :=
  s.run (·.issueRegs x 1 (gRR d a b (fun p q => BitVec.ofNat 32 (p.toNat * q.toNat / 2 ^ 32))))

/-- Signed quotient toward zero, with the results of R127 for division by zero and overflow. -/
def divS (p q : Word) : Word :=
  if q = 0 then (if p.toInt < 0 then 0x80000000 else 0x7FFFFFFF)
  else if p = 0x80000000 ∧ q = 0xFFFFFFFF then 0x7FFFFFFF
  else BitVec.ofInt 32 (p.toInt.tdiv q.toInt)

/-- Unsigned quotient (R127). -/
def divU (p q : Word) : Word := if q = 0 then 0xFFFFFFFF else BitVec.ofNat 32 (p.toNat / q.toNat)

/-- Signed remainder with the sign of A (R127). -/
def remS (p q : Word) : Word :=
  if q = 0 then p
  else if p = 0x80000000 ∧ q = 0xFFFFFFFF then 0
  else BitVec.ofInt 32 (p.toInt.tmod q.toInt)

/-- Unsigned remainder (R127). -/
def remU (p q : Word) : Word := if q = 0 then p else BitVec.ofNat 32 (p.toNat % q.toNat)

/-- Signed quotient (R126, R127). -/
def execDiv (x : Issue) (d a b : Fin 32) (s : State) := s.run (·.issueRegs x 1 (gRR d a b divS))
/-- Unsigned quotient (R126, R127). -/
def execDivu (x : Issue) (d a b : Fin 32) (s : State) := s.run (·.issueRegs x 1 (gRR d a b divU))
/-- Signed remainder (R126, R127). -/
def execRem (x : Issue) (d a b : Fin 32) (s : State) := s.run (·.issueRegs x 1 (gRR d a b remS))
/-- Unsigned remainder (R126, R127). -/
def execRemu (x : Issue) (d a b : Fin 32) (s : State) := s.run (·.issueRegs x 1 (gRR d a b remU))

/-- Leading zeros of a word, 0 to 32 (R126). -/
def clzWord (w : Word) : Nat := if w = 0 then 32 else 31 - Nat.log2 w.toNat

/-- Leading zeros of A (R126). -/
def execClz (x : Issue) (d a : Fin 32) (s : State) :=
  s.run (·.issueRegs x 1 (gR d a (fun p => BitVec.ofNat 32 (clzWord p))))
/-- A if c[C] = 1, else B (R126). -/
def execSel (x : Issue) (d a b : Fin 32) (c : Fin 8) (s : State) :=
  s.run (·.issueRegs x 1 (fun r => r.setG d (if r.rc c then r.rg a else r.rg b)))

/-- A + IMM, sign-extended (R126). -/
def execAddi (x : Issue) (d a : Fin 32) (imm : BitVec 16) (s : State) :=
  s.run (·.issueRegs x 1 (gR d a (· + sx imm)))
/-- A AND IMM, zero-extended (R126). -/
def execAndi (x : Issue) (d a : Fin 32) (imm : BitVec 16) (s : State) :=
  s.run (·.issueRegs x 1 (gR d a (· &&& zx imm)))
/-- A OR IMM, zero-extended (R126). -/
def execOri (x : Issue) (d a : Fin 32) (imm : BitVec 16) (s : State) :=
  s.run (·.issueRegs x 1 (gR d a (· ||| zx imm)))
/-- A XOR IMM, zero-extended (R126). -/
def execXori (x : Issue) (d a : Fin 32) (imm : BitVec 16) (s : State) :=
  s.run (·.issueRegs x 1 (gR d a (· ^^^ zx imm)))
/-- A shifted left by IMM[4:0] (R126). -/
def execShli (x : Issue) (d a : Fin 32) (imm : BitVec 5) (s : State) :=
  s.run (·.issueRegs x 1 (gR d a (· <<< imm.toNat)))
/-- A shifted right by IMM[4:0], zeros in (R126). -/
def execShri (x : Issue) (d a : Fin 32) (imm : BitVec 5) (s : State) :=
  s.run (·.issueRegs x 1 (gR d a (· >>> imm.toNat)))
/-- A shifted right by IMM[4:0], sign in (R126). -/
def execSari (x : Issue) (d a : Fin 32) (imm : BitVec 5) (s : State) :=
  s.run (·.issueRegs x 1 (gR d a (·.sshiftRight imm.toNat)))
/-- IMM shifted left by 16 (R126). -/
def execLui (x : Issue) (d : Fin 32) (imm : BitVec 16) (s : State) :=
  s.run (·.issueRegs x 1 (fun r => r.setG d (zx imm <<< 16)))
/-- The low 32 bits of A × IMM, sign-extended (R126). -/
def execMuli (x : Issue) (d a : Fin 32) (imm : BitVec 16) (s : State) :=
  s.run (·.issueRegs x 1 (gR d a (· * sx imm)))
/-- gD := IMM32; a long form of two words (R124, R126). -/
def execLiG (x : Issue) (d : Fin 32) (imm : BitVec 32) (s : State) :=
  s.run (·.issueRegs x 2 (fun r => r.setG d imm))
/-- A + IMM32; a long form (R124, R126). -/
def execAddi32 (x : Issue) (d a : Fin 32) (imm : BitVec 32) (s : State) :=
  s.run (·.issueRegs x 2 (gR d a (· + imm)))

/-- The condition CC of `cmp` and `cmpi` (R128). -/
def intCond (cc : Nat) (p q : Word) : Bool :=
  match cc with
  | 0 => p == q
  | 1 => p != q
  | 2 => decide (p.toInt < q.toInt)
  | 3 => decide (q.toInt ≤ p.toInt)
  | 4 => decide (p.toNat < q.toNat)
  | 5 => decide (q.toNat ≤ p.toNat)
  | 6 => p &&& q != 0
  | _ => p &&& q == 0

/-- Integer compare into a flag (R128). -/
def execCmp (x : Issue) (cd cc : Fin 8) (a b : Fin 32) (s : State) :=
  s.run (·.issueRegs x 1 (cOf cd (fun r => intCond cc (r.rg a) (r.rg b))))
/-- Integer compare with a signed 15-bit immediate (R123, R128). -/
def execCmpi (x : Issue) (cd cc : Fin 8) (a : Fin 32) (imm : BitVec 15) (s : State) :=
  s.run (·.issueRegs x 1 (cOf cd (fun r => intCond cc (r.rg a) (sx imm))))
/-- FP compare into a flag; no FPX flag is set (R128). -/
def execFcmp (x : Issue) (cd cc : Fin 8) (a b : Fin 32) (s : State) :=
  s.run (·.issueRegs x 1 (cOf cd (fun r => Fp.cond cc (r.rF a) (r.rF b))))

/-- Flag function 0 (R128). -/
def execFlagAnd (x : Issue) (cd ca cb : Fin 8) (s : State) :=
  s.run (·.issueRegs x 1 (cOf cd (fun r => r.rc ca && r.rc cb)))
/-- Flag function 1 (R128). -/
def execFlagOr (x : Issue) (cd ca cb : Fin 8) (s : State) :=
  s.run (·.issueRegs x 1 (cOf cd (fun r => r.rc ca || r.rc cb)))
/-- Flag function 2 (R128). -/
def execFlagXor (x : Issue) (cd ca cb : Fin 8) (s : State) :=
  s.run (·.issueRegs x 1 (cOf cd (fun r => r.rc ca != r.rc cb)))
/-- Flag function 3 (R128). -/
def execFlagAndn (x : Issue) (cd ca cb : Fin 8) (s : State) :=
  s.run (·.issueRegs x 1 (cOf cd (fun r => r.rc ca && !r.rc cb)))
/-- Flag function 4 (R128). -/
def execFlagCopy (x : Issue) (cd ca : Fin 8) (s : State) :=
  s.run (·.issueRegs x 1 (cOf cd (fun r => r.rc ca)))
/-- Flag function 5 (R128). -/
def execFlagNot (x : Issue) (cd ca : Fin 8) (s : State) :=
  s.run (·.issueRegs x 1 (cOf cd (fun r => !r.rc ca)))

end Sys2Proof.Machine
end

