-- ==== Sys2Proof/Machine/Save.lean ====
section
/-! DEFINITION. Save.lean: pending values, and the configuration that SAVE stores (R55, R61, R67, R211, R239, R279, R302,
R369, R418, R438, R488, R536). -/

namespace Sys2Proof.Machine

/-! ### Pending values (R55, R56, R61, R265) -/

/-- The generator whose consist holds the register at `a`, if one does (R263, R283). -/
def consistGen (a : Nat) : Option Nat :=
  if R.PWM_PERIOD 0 ≤ a ∧ a < R.PWM_PERIOD 0 + 0x200 * 34 then
    let g := (a - R.PWM_PERIOD 0) / 0x200
    if (List.range 8).any (fun f => consistReg f g == a) || a == R.PWM_PERFR g || a == R.PWM_FORCE g then some g else none
  else none

/-- The value of a register with its pending writes laid over it: what the staged view shows, and what an alias write
acts on (R55, R56). -/
def Module.pendView (m : Module) (a : Nat) : DWord :=
  match consistGen a with
  | some g => ((m.gen g).commits.filter (fun c => c.addr == a)).foldl (fun _ c => c.val.setWidth 64) (m.rd a)
  | none => m.rdP a

/-! ### SAVE (R536) -/

/-- The bits of a register that its host writes and that hold configuration. -/
def RegDef.cfgMask (d : RegDef) : DWord :=
  d.fields.foldl (fun v f => match f.acc with
    | .ro | .wo | .w1c => v
    | _ => v ||| fmask ⟨f.hi, f.lo⟩) 0

/-- What SAVE stores of a register: the configuration bits as last written, the others at reset. -/
def Module.saveValue (m : Module) (a : Nat) : DWord :=
  let mask := match findReg a regTable with
    | some f => f.reg.cfgMask
    | none => 0
  let mask := if a = R.CLK_PTP then fmask F.CLK_PTP_DOMAIN
    else if a = R.SYS_SHUNT then mask &&& ~~~ fmask F.SYS_SHUNT_GO
    else mask
  (regReset a &&& ~~~ mask) ||| (m.pendView a &&& mask)

/-- Store registers in MRAM. -/
def Module.saveRegs (m : Module) (as : List Nat) : Module :=
  { m with saved := m.saved.filter (fun p => !as.contains p.1) ++ as.map (fun a => (a, m.saveValue a)) }

/-- Store the bytes of a table in MRAM: those that something has written. -/
def Module.saveBytes (m : Module) (want : Nat → Bool) : Module :=
  { m with savedMem := m.savedMem.filter (fun p => !want p.1) ++ m.mem.filter (fun p => want p.1) }

/-- The blocks that SAVE stores, by number: AFE, CAN, CLK, FLT, GD, LN, MTR, PB, PWM (R536). -/
def saveCtrl : Nat → Nat
  | 0 => R.AFE_CTRL
  | 1 => R.CAN_CTRL
  | 2 => R.CLK_CTRL
  | 3 => R.FLT_CTRL
  | 4 => R.GD_CTRL
  | 5 => R.LN_CTRL
  | 6 => R.MTR_CTRL
  | 7 => R.PB_CTRL
  | _ => R.PWM_CTRL

/-- The place of SAVE in that register. -/
def saveBit : Nat → Field
  | 0 => F.AFE_CTRL_SAVE
  | 1 => F.CAN_CTRL_SAVE
  | 2 => F.CLK_CTRL_SAVE
  | 3 => F.FLT_CTRL_SAVE
  | 4 => F.GD_CTRL_SAVE
  | 5 => F.LN_CTRL_SAVE
  | 6 => F.MTR_CTRL_SAVE
  | 7 => F.PB_CTRL_SAVE
  | _ => F.PWM_CTRL_SAVE

/-- One register of each instance. -/
def each (n : Nat) (rs : List (Nat → Nat)) : List Nat := (List.range n).flatMap (fun i => rs.map (fun r => r i))

/-- The registers a block saves. -/
def saveScope : Nat → List Nat
  | 0 => each 8 [R.AFE_TRIG] ++ each 4 [R.AFE_SEQ] ++ [R.AFE_CFG] ++ each 24 [R.AFE_CMP_CFG]
  | 1 => each 2 [R.CAN_CFG]
  | 2 => [R.CLK_CFG, R.CLK_LOCK, R.CLK_SLEW, R.CLK_SERVO, R.CLK_PTP]
  | 3 => [R.FLT_CFG] ++ each 5 [R.FLT_REACT]
  | 4 => each 24 [R.GD_EDGE, R.GD_PROT] ++ each 12 [R.GD_HB_CFG]
  | 5 => each 16 [R.LN_CFG, R.LN_CELLS, R.LN_RING, R.LN_APPLY, R.LN_FLMASK, R.LN_PTBASE, R.LN_POLL]
  | 6 => each 4 [R.MTR_MP_CFG, R.MTR_MP_IN] ++ each 8 [R.MTR_PO_CFG, R.MTR_PO_K] ++ [R.MTR_CORR]
  | 7 => [R.PB_CFG]
  | _ => each 34 [R.PWM_CFG, R.PWM_PERIOD, R.PWM_PERFR, R.PWM_DTR, R.PWM_DTF, R.PWM_DTMIN, R.PWM_MINP]
      ++ each 32 [R.PWM_FL_MASK, R.PWM_FL_CFG] ++ [R.PWM_FL_SYS, R.PWM_FL_SILENT]
      ++ each 16 [R.CAP_CFG] ++ each 32 [R.PWM_GRP_MEM, R.PWM_TT]

/-- The table bytes a block saves. -/
def saveTable (b a : Nat) : Bool :=
  match b with
  | 0 => decide (0x01870000 ≤ a ∧ a < 0x01870400)
  | 3 => decide (0x018B0000 ≤ a ∧ a < 0x018B1000) || decide (0x018B2000 ≤ a ∧ a < 0x018B2200)
  | 5 => decide (0x01800000 ≤ a ∧ a < 0x01830000) && [0x05, 0x28, 0x29].contains ((a - 0x01800000) % 48)
  | 7 => decide (0x01840000 ≤ a ∧ a < 0x01840C00) || decide (0x01840E00 ≤ a ∧ a < 0x01841000)
      || decide (0x01844000 ≤ a ∧ a < 0x0184A000)
  | _ => false

/-- A block's SAVE (R536): its configuration as last written; the go bit clears when done. -/
def Module.goSave (m : Module) (b : Nat) : Module :=
  ((m.saveRegs (saveScope b)).saveBytes (saveTable b)).setFlag (saveCtrl b) (saveBit b) false

end Sys2Proof.Machine
end

