-- ==== Sys2Proof/Machine/HostRegs.lean ====
section
/-! DEFINITION. HostRegs.lean: register accesses of the host: windows, the decision table, and what a write does (R51, R55,
R56, R58, R61, R62, R63, and the rules of each chapter for its registers). -/

namespace Sys2Proof.Machine

/-! ### Windows (R55) -/

/-- The windows of BAR0, by their code in HOST_VIOL_INFO (R68). -/
abbrev Win.normal : Nat := 0
abbrev Win.staged : Nat := 1
abbrev Win.set : Nat := 2
abbrev Win.clear : Nat := 3
abbrev Win.toggle : Nat := 4

/-- The offset of a window (R55). -/
def winBase : Nat → Nat
  | 0 => 0
  | 1 => 0x400000
  | 2 => 0x800000
  | 3 => 0x1000000
  | _ => 0x1800000

/-- Window and normal address of a BAR0 offset. -/
def winOf (a : Nat) : Option (Nat × Nat) :=
  ((List.range 5).find? (fun w => decide (winBase w ≤ a ∧ a < winBase w + 0x400000))).map (fun w => (w, a - winBase w))

/-- What an access is answered (R58, R59): data, done, or a violation's reason. -/
inductive Res where
  | data (v : DWord)
  | done
  | viol (reason : Nat)
  deriving DecidableEq, Repr

/-- The host port serves accesses (R50): not without the supply, and not while the hold-up sequence has shed the load
(R47). -/
def Module.hostServed (m : Module) : Bool := m.live

/-! ### The rows that reads and writes share (R58) -/

/-- Where an access goes: window, normal address, and its register; or a violation. -/
structure Place where
  win : Nat
  addr : Nat
  found : Found

/-- The rows of R58 up to the alignment. -/
def Module.place (m : Module) (a bytes : Nat) : Except Nat Place :=
  match winOf a with
  | none => .error (if m.sys.inspecting then 9 else 1)
  | some (w, n) =>
    if m.sys.inspecting ∧ 0x20000 ≤ n then .error 9
    else match findReg n regTable with
      | none => .error 1
      | some f => if n % bytes ≠ 0 then .error 2 else .ok ⟨w, n, f⟩

/-- The initiator's latched high word (R58). -/
def Module.highOf (m : Module) (i : Initiator) : Option HighLatch := SMap.getD none m.host.high i.code

/-- Latch, or forget, an initiator's high word: any access but the low-word read forgets it. -/
def Module.setHigh (m : Module) (i : Initiator) (h : Option HighLatch) : Module :=
  { m with host := { m.host with high := SMap.setD none m.host.high i.code h } }

/-- Registers that show a value the hardware keeps elsewhere. -/
def Module.fresh (m : Module) (a : Nat) : Module :=
  if a / 8 = R.KEEP_RTC / 8 then m.showRtc
  else if a = R.NVM_STAT then m.showLocks
  else m

/-- The bytes `lo` to `lo + n − 1` of a value. -/
def lanes (v : DWord) (lo n : Nat) : DWord := BitVec.ofNat 64 ((v.toNat >>> (8 * lo)) % 2 ^ (8 * n))

/-! ### Votes (R62) -/

/-- A field's access code is triplicated. -/
def Access.voted : Access → Bool
  | .rt | .rtb => true
  | _ => false

/-- The key of a triplicated field among those held at reset after a three-way disagreement (R62). -/
def voteKey (a lo : Nat) : Nat := 64 * a + lo

/-- The triplicated field of a register that begins at bit `lo`, unless a three-way disagreement holds it at reset. -/
def Module.votedField (m : Module) (a : Nat) (lo : Fin 64) : Option FieldDef :=
  match findReg a regTable with
  | none => none
  | some f =>
    if f.byte ≠ 0 ∨ m.voteFailed.contains (voteKey a lo) then none
    else f.reg.fields.find? (fun d => d.lo == lo.val && d.acc.voted)

/-- A triplicated field is held at its reset value from a three-way disagreement on. -/
def Module.voteFail (m : Module) (a : Nat) (f : FieldDef) : Module :=
  let mask := fmask ⟨f.hi, f.lo⟩
  let reset (v : DWord) : DWord := (v &&& ~~~ mask) ||| (regReset a &&& mask)
  let m := { m with
    held := m.held.map (fun (h : HeldReg) => if h.addr = a then { h with old := reset h.old } else h),
    pendF := m.pendF.map (fun (p : PendField) => if p.addr = a then { p with mask := p.mask &&& ~~~ mask } else p),
    voteFailed := m.voteFailed ++ [voteKey a f.lo] }
  (m.wr a (reset (m.rd a))).raiseFree FS.VOTE_FAIL .none

/-- One copy is outvoted and rewritten: the field holds what the other two hold. -/
def Module.voteFix (m : Module) (a : Nat) (f : FieldDef) (v : Nat) : Module :=
  let m := m.wf a ⟨f.hi, f.lo⟩ v
  let m := m.bump R.HOST_VOTE_FIX R.HOST_SAT 1
  ((m.wn R.HOST_VOTE_ADDR a).irq Irq.VOTE).raiseFree FS.VOTE_FIX .none

/-- What copy `k` of a field holds: what it was disturbed to, or the field's value. -/
def Module.copyOf (m : Module) (a : Nat) (f : FieldDef) (k : Nat) : Nat :=
  match m.upsets.find? (fun u => u.addr.toNat == a && u.lo.val == f.lo && u.copy.val == k) with
  | some u => u.val.toNat % 2 ^ (f.hi + 1 - f.lo)
  | none => m.rf a ⟨f.hi, f.lo⟩

/-- The three copies of a field are voted: they hold one value afterwards. -/
def Module.voteField (m : Module) (a : Nat) (lo : Fin 64) : Module :=
  match m.votedField a lo with
  | none => m
  | some f =>
    let c0 := m.copyOf a f 0
    let c1 := m.copyOf a f 1
    let c2 := m.copyOf a f 2
    let m := m.dropUpsets a (fmask ⟨f.lo, f.lo⟩)
    if c0 = c1 ∧ c1 = c2 then m.wf a ⟨f.hi, f.lo⟩ c0
    else if c0 = c1 ∨ c0 = c2 then m.voteFix a f c0
    else if c1 = c2 then m.voteFix a f c1
    else m.voteFail a f

/-- Every triplicated field of a register is voted (R62). -/
def Module.voteReg (m : Module) (a : Nat) : Module :=
  (m.upsets.filter (fun u => u.addr.toNat == a)).foldl (fun m u => m.voteField a u.lo) m

/-! ### Reads (R58) -/

/-- A read of SYS_MODE in the normal window over PCIe or SPI clears REFUSE (R67). -/
def Module.readEffect (m : Module) (i : Initiator) (p : Place) : Module :=
  if p.win = Win.normal ∧ p.addr / 4 = R.SYS_MODE / 4 ∧ (i = .pcie ∨ i = .spi) then
    m.wf R.SYS_MODE F.SYS_MODE_REFUSE 0
  else m

/-- The value a read works on: the pending value in the staged view, else the current one (R55). -/
def Module.readValue (m : Module) (p : Place) : DWord :=
  let base := p.addr - p.found.byte
  if p.win = Win.staged then m.pendView base else m.rd base

/-- A register read (R58). -/
def Module.regRead (m : Module) (i : Initiator) (a bytes : Nat) : Module × Res :=
  match m.place a bytes with
  | .error r => (m.setHigh i none, .viol r)
  | .ok p =>
    if bytes = 8 ∧ !p.found.reg.wide then (m.setHigh i none, .viol 4)
    else
      let base := p.addr - p.found.byte
      let m := (m.voteReg base).fresh p.addr
      let v := m.readValue p
      let m' := (m.readEffect i p).setHigh i none
      if !p.found.reg.wide ∨ bytes = 8 then (m', .data (lanes v p.found.byte bytes))
      else if p.found.byte < 4 then
        (m'.setHigh i (some ⟨base, BitVec.ofNat 32 (v.toNat >>> 32)⟩), .data (lanes v p.found.byte bytes))
      else
        let hi : Word := match m.highOf i with
          | some h => if h.addr = base then h.high else BitVec.ofNat 32 (v.toNat >>> 32)
          | none => BitVec.ofNat 32 (v.toNat >>> 32)
        (m', .data (lanes (hi.setWidth 64) (p.found.byte - 4) bytes))

/-! ### Writes: what the value does to the fields (R10, R56) -/

/-- A field's access code is buffered. -/
def Access.buffered : Access → Bool
  | .rb | .rtb => true
  | _ => false

/-- The bits of the fields that satisfy `p`. -/
def RegDef.maskOf (d : RegDef) (p : FieldDef → Bool) : DWord :=
  d.fields.foldl (fun v f => if p f then v ||| fmask ⟨f.hi, f.lo⟩ else v) 0

/-- Every bit that a field covers; the others are reserved. -/
def RegDef.used (d : RegDef) : DWord := d.maskOf (fun _ => true)

/-- What bits become under a window's operation on `old` (R55, R56). -/
def winOp (w : Nat) (old v : DWord) : DWord :=
  match w with
  | 0 => v
  | 2 => old ||| v
  | 3 => old &&& ~~~ v
  | _ => old ^^^ v

/-- The counters that a host may write (R65): event counters, whose one field is CNT. -/
def counterRegs : List Nat :=
  [R.HOST_VIOL_CNT, R.HOST_VOTE_FIX, R.TTB_SHED_FR, R.YARD_DETECT, R.XS_SEL_SHORT, R.XS_MBX_LOST, R.CLK_SWALLOW, R.CLK_LOSSES,
    R.CLK_STEPS, R.GD_XC_CNT, R.KEEP_DENIES, R.KEEP_ABORTS, R.FLT_REC_G, R.SID_SUBS, R.SID_FAILS, R.SID_HL_MISS,
    R.TTB_OVR 0, R.TTB_DLY 0, R.ENG_DETECT 0, R.ENG_RECOMP 0, R.ENG_REPEAT 0, R.ENG_VIOL 0, R.LU_SATCNT 0, R.LU_FECNT 0,
    R.LU_NANCNT 0, R.PB_RXDISC 0, R.PB_CRCERR 0, R.PB_SVS_MISS 0, R.PB_SVS_LATE 0, R.PB_SVS_DISC 0, R.AFE_OVR 0,
    R.CAP_OVR 0, R.PWM_LATE 0, R.PWM_SHORT 0, R.PWM_FL_CNT 0, R.GD_SC 0, R.CAN_DISC 0, R.CAN_BUSOFF 0, R.LN_CRCERR 0,
    R.LN_LOSTFR 0, R.LN_QFULL 0]

/-- A register of the table is a counter. -/
def RegDef.counter (d : RegDef) : Bool := counterRegs.contains d.base

/-- A register holds a wo field. -/
def RegDef.holdsWo (d : RegDef) : Bool := d.fields.any (fun f => f.acc == .wo)

/-- The bits of the triplicated fields of a register that are held at their reset value (R62). -/
def Module.heldBits (m : Module) (f : Found) (a : Nat) : DWord :=
  f.reg.maskOf (fun d => d.acc.voted && m.voteFailed.contains (voteKey a d.lo))

/-- A write as the decision table sees it: the register and its address, the window, the value, the bits that the write
sets to 1 by writing a 1, and the whole value that results for its rw, rb, rt and rtb fields. -/
structure Wr where
  found : Found
  addr : Nat
  win : Nat
  val : DWord
  ones : DWord
  new : DWord

/-- A bit of the ones that a write sets. -/
def Wr.sets (w : Wr) (f : Field) : Bool := fget w.ones f != 0

/-! ### Modes and conditions of each register (R58, reason 0x0A) -/

/-- HALT or DEPOT. -/
def Module.inHd (m : Module) : Bool := m.mode == 3 || m.mode == 4

/-- Does the write change a field, against what was last written? -/
def Module.changes (m : Module) (w : Wr) (mask : DWord) : Bool := (m.pendView w.addr &&& mask) != (w.new &&& mask)

/-- The consist of generator `g` has no writer in the active copy (R265). -/
def Module.consistFree (m : Module) (g : Nat) : Bool := !m.activeOuts.contains (1, g)

/-- The register's write rule holds. -/
def Module.mayWrite (m : Module) (w : Wr) : Bool :=
  let g := w.found.inst
  match w.found.reg.rule with
  | .any => true
  | .haltDepot => m.inHd
  | .haltDepotIfChanged => m.inHd || !m.changes w w.found.reg.used
  | .sysShunt =>
    if m.inHd then !w.sets F.SYS_SHUNT_GO
    else !m.changes w (w.found.reg.used &&& ~~~ fmask F.SYS_SHUNT_GO) && (m.mode == 5 || !w.sets F.SYS_SHUNT_GO)
  | .modeReq => m.role != 2
  | .luOpen => m.luMode g == 1
  | .pbCfg => m.inHd || !m.changes w (fmask F.PB_CFG_PAIR0 ||| fmask F.PB_CFG_PAIR1 ||| fmask F.PB_CFG_SGMII)
  | .afeCtrl => m.inHd || !(w.sets F.AFE_CTRL_OWTEST || w.sets F.AFE_CTRL_CMPTEST)
  | .pwmPeriod => m.consistFree g && !((m.groupOf g).any (fun k => m.groupBound k))
  | .pwmConsist => m.consistFree g
  | .pwmForce => m.mode == 5 && m.consistFree g
  | .lnTrain => m.inHd || !w.sets F.LN_PORT_CTRL_TRAIN
  | .mtrCtrl => !w.sets F.MTR_MP_CTRL_CLR || (m.inHd && fget w.val F.MTR_MP_CTRL_KEY == 0x5A3C)
  | .ttbArm => m.inHd || m.activeCopy.isSome || !w.sets F.TTB_CTRL_ARM

/-- The reason for which a write is refused, from the alias rows on (R58), if any. -/
def Module.writeReason (m : Module) (w : Wr) : Option Nat :=
  let d := w.found.reg
  let viaAlias := w.win ≠ Win.normal
  if w.win = Win.staged then some 8
  else if d.fields.all (fun f => f.acc == .ro) ∨ w.addr / 0x10000 = 0xD then some 5
  else if viaAlias ∧ (d.counter || d.holdsWo) then some 7
  else if w.val &&& ~~~ d.used ≠ 0 then some 6
  else if viaAlias ∧ w.val &&& d.maskOf (fun f => f.acc == .ro || f.acc == .wo || f.acc == .w1c) ≠ 0 then some 7
  else if !m.mayWrite w then some 0x0A
  else
    let held := m.heldBits w.found w.addr
    if (if viaAlias then held &&& w.val else held) ≠ 0 then some 0x0A else none

/-! ### Effects of a write -/

/-- A configuration write waits for its frame boundary: until then the hardware acts with what was last written before
it (R67, R279, R302, R369, R418, R438). -/
def Module.deferReg (m : Module) (a : Nat) : Module :=
  { m with held := m.held ++ [⟨a, m.rd a, m.now⟩] }

/-- The fields of a register take the values a write gives them: w1c bits clear, rb and rtb fields wait for their boundary,
a consist register for its reload (R10, R61, R265). -/
def Module.writeFields (m : Module) (w : Wr) : Module :=
  let d := w.found.reg
  let a := w.addr
  let plain := d.maskOf (fun f => f.acc == .rw || f.acc == .rt)
  let clear := d.maskOf (fun f => f.acc == .w1c) &&& w.val
  let buf := d.maskOf (fun f => f.acc.buffered
    && (w.win == Win.normal || fget w.val ⟨f.hi, f.lo⟩ != 0))
  let m := if d.deferred then m.deferReg a else m
  let m := (m.wr a (((m.rd a &&& ~~~ plain) ||| (w.new &&& plain)) &&& ~~~ clear)).dropUpsets a plain
  if buf = 0 then m
  else match consistGen a with
    | some g =>
      let x := m.gen g
      m.setGen g { x with commits := x.commits ++ [⟨a, w.new.setWidth 32, m.now, false⟩] }
    | none => { m with pendF := m.pendF ++ [⟨a, buf, w.new &&& buf, m.now⟩] }

/-- A member written to one group leaves the others (R258). -/
def Module.groupWritten (m : Module) (k : Nat) : Module :=
  let mem := m.rd (R.PWM_GRP_MEM k)
  (List.range 32).foldl (fun m j =>
    if j = k ∨ m.rd (R.PWM_GRP_MEM j) &&& mem = 0 then m
    else (m.deferReg (R.PWM_GRP_MEM j)).wr (R.PWM_GRP_MEM j) (m.rd (R.PWM_GRP_MEM j) &&& ~~~ mem)) m

/-- A mode request (R34, R35): HALT at once, any other at its frame boundary, with its key. -/
def Module.modeWritten (m : Module) (w : Wr) : Module :=
  let code := fget w.val F.SYS_MODE_REQ_REQ
  let m := { m with pendF := m.pendF.filter (fun p => p.addr ≠ R.SYS_MODE_REQ || decide (p.at' < m.now)) }
  if code = 3 then (m.wf R.SYS_MODE_REQ F.SYS_MODE_REQ_REQ 3).haltEnter 3 0
  else
    ({ m with pendF := m.pendF ++ [⟨R.SYS_MODE_REQ, fmask F.SYS_MODE_REQ_REQ, w.val, m.now⟩] } : Module).setFlag
      R.SYS_MODE_REQ F.SYS_MODE_REQ_PEND true

/-- SNAP of a loop unit (R185): OUT and state latched in one instant. -/
def Module.goLuSnap (m : Module) (u : Nat) : Module :=
  let c := m.luCore u
  let m := m.wr (R.LU_SOUT u) (m.rd (R.LU_OUT u))
  let m := [c.s0, c.s1, c.s2, c.s3].zipIdx.foldl (fun m s => m.wn (R.LU_S u s.2) s.1.toNat) m
  m.setFlag (R.LU_CTRL u) F.LU_CTRL_SNAP false

/-- Enabling a bit of HOST_IRQ_STAT that is already 1 sends its message (R51). -/
def Module.irqEnabled (m old : Module) : Module :=
  (List.range 8).foldl (fun m n =>
    if m.bit R.HOST_IRQ_EN n && !old.bit R.HOST_IRQ_EN n && m.bit R.HOST_IRQ_STAT n then m.message n else m) m

/-- Run `f` for a go bit that the write sets. -/
def Module.goIf (m : Module) (w : Wr) (f : Field) (g : Module → Module) : Module := if w.sets f then g m else m

/-- A write to a register of the SYS, HOST, TTB, LU, CLK or PB block does what its chapter gives beside its fields. -/
def Module.afterCore (m old : Module) (w : Wr) : Module :=
  let b := w.found.reg.base
  let i := w.found.inst
  if b = R.SYS_MODE_REQ then m.modeWritten w
  else if b = R.SYS_SHUNT then (m.saveRegs [R.SYS_SHUNT]).goIf w F.SYS_SHUNT_GO Module.goShunt
  else if b = R.SYS_TIMES ∨ b = R.SYS_SHUNT_EX then m.saveRegs [b]
  else if b = R.HOST_IRQ_EN then m.irqEnabled old
  else if b = R.TTB_CTRL then (m.goIf w F.TTB_CTRL_ARM Module.goArm).goIf w F.TTB_CTRL_CANCEL Module.goCancel
  else if b = R.LU_CTRL 0 then
    (m.setFlag (R.LU_STAT i) F.LU_STAT_PEND (m.luPending i)).goIf w F.LU_CTRL_SNAP
      (·.goLuSnap i)
  else if b = R.CLK_CFG then m.ditherFollow old
  else if b = R.CLK_CTRL then (m.goIf w F.CLK_CTRL_SNAP Module.goSnap).goIf w F.CLK_CTRL_SAVE (·.goSave 2)
  else if b = R.ENG_GAUGE 0 then
    if w.win = Win.normal ∨ fget w.val F.ENG_GAUGE_MAX ≠ 0 then
      { m with eng := { m.eng with maxFresh := if m.eng.maxFresh.contains i then m.eng.maxFresh else i :: m.eng.maxFresh } }
    else m
  else if b = R.PB_CTRL then m.goIf w F.PB_CTRL_SAVE (·.goSave 7)
  else if b = R.PB_GPUB_SEND then
    (List.range 32).foldl (fun m k => m.goIf w ⟨k, k⟩ (·.goPubSend k)) m
  else m

/-- The same for AFE, PWM, CAP, GD, LN, CAN. -/
def Module.afterIo (m old : Module) (w : Wr) : Module :=
  let b := w.found.reg.base
  let i := w.found.inst
  if b = R.AFE_CTRL then
    ((m.goIf w F.AFE_CTRL_SAVE (·.goSave 0)).goIf w F.AFE_CTRL_OWTEST Module.goOwtest).goIf w F.AFE_CTRL_CMPTEST Module.goCmptest
  else if b = R.AFE_CMP_CFG 0 then m.cmpConfigured old i
  else if b = R.PWM_GRP_MEM 0 then m.groupWritten i
  else if b = R.PWM_FL_HOST then (m.wr b (old.rd b)).flHost w.new.toNat
  else if b = R.PWM_FL_STAT 0 then
    if fget w.val F.PWM_FL_STAT_LATCHED = 0 then m else (m.wr w.addr (old.rd w.addr)).clearLatch i
  else if b = R.PWM_CTRL then m.goIf w F.PWM_CTRL_SAVE (·.goSave 8)
  else if b = R.CAP_CTRL 0 then m.goIf w F.CAP_CTRL_ARM (·.goCapArm i)
  else if b = R.GD_CLEAR then (List.range 24).foldl (fun m k => m.goIf w ⟨k, k⟩ (·.goGdClear k)) m
  else if b = R.GD_CTRL then m.goIf w F.GD_CTRL_SAVE (·.goSave 4)
  else if b = R.LN_PORT_CTRL 0 then m.goIf w F.LN_PORT_CTRL_TRAIN (·.startTraining i)
  else if b = R.LN_HREQ 0 then
    m.goIf w F.LN_HREQ_GO (fun m => m.setPort i { m.port i with hostTries := 0 })
  else if b = R.LN_CTRL then m.goIf w F.LN_CTRL_SAVE (·.goSave 5)
  else if b = R.CAN_CTRL then m.goIf w F.CAN_CTRL_SAVE (·.goSave 1)
  else m

/-- The same for MTR, KEEP, FLT, SID and NVM. -/
def Module.afterRest (m old : Module) (w : Wr) : Module :=
  let b := w.found.reg.base
  let i := w.found.inst
  if b = R.MTR_MP_CTRL 0 then (m.goIf w F.MTR_MP_CTRL_SNAP (·.goMtrSnap i)).goIf w F.MTR_MP_CTRL_CLR (·.goMtrClr i)
  else if b = R.MTR_CTRL then m.goIf w F.MTR_CTRL_SAVE (·.goSave 6)
  else if b = R.KEEP_CAP then m.keepCapChanged
  else if b = R.KEEP_KCMP_CFG 0 then m.kcmpConfigured old i
  else if b = R.FLT_CTRL then
    (((m.goIf w F.FLT_CTRL_SAVE (·.goSave 3)).goIf w F.FLT_CTRL_CLRCNT Module.goFltClrcnt).goIf w F.FLT_CTRL_CLRALL
      Module.goFltClrall).goIf w F.FLT_CTRL_CLEAR Module.goFltClear
  else if b = R.SID_CTRL then m.goIf w F.SID_CTRL_ABORT Module.goSidAbort
  else if b = R.NVM_CMD then m.goIf w F.NVM_CMD_GO Module.goNvm
  else m

/-- What a write does beside its fields. -/
def Module.afterWrite (m old : Module) (w : Wr) : Module :=
  let blk := w.addr / 0x10000
  if blk < 8 then m.afterCore old w
  else if blk < 0xC ∨ blk = 0x11 then m.afterIo old w
  else m.afterRest old w

/-- A write takes effect (R58, last row). A mode request is not one of the fields that wait here. -/
def Module.writeEffect (m : Module) (w : Wr) : Module :=
  (if w.addr = R.SYS_MODE_REQ then m else m.writeFields w).afterWrite m w

/-- A register write (R58). -/
def Module.regWrite (m : Module) (i : Initiator) (a bytes : Nat) (v : DWord) : Module × Res :=
  let m := m.setHigh i none
  match m.place a bytes with
  | .error r => (m, .viol r)
  | .ok p =>
    if bytes < 4 then (m, .viol 3)
    else if (bytes = 8) ≠ (p.found.reg.wide = true) then (m, .viol 4)
    else
      let v := lanes v 0 bytes
      let m := if p.win = Win.normal ∨ p.win = Win.staged then m else m.voteReg p.addr
      let old := m.pendView p.addr
      let new := winOp p.win old v
      let ones := if p.win = Win.clear then 0 else v &&& new
      let w : Wr := ⟨p.found, p.addr, p.win, v, ones, new⟩
      match m.writeReason w with
      | some r => (m, .viol r)
      | none => (m.writeEffect w, .done)

end Sys2Proof.Machine
end

