-- ==== Sys2Proof/Machine/HostTables.lean ====
section
/-! DEFINITION. HostTables.lean: BAR2 accesses of the host: regions, the rule of each word, the yard budget (R52, R57, R58,
R74, R90 to R93, R112 to R115, and the rules of each chapter for its tables). -/

namespace Sys2Proof.Machine

/-! ### How the host may write a word -/

/-- How the host may write one word of BAR2: not at all (0x05); or the bits that a write changes, the bits whose setting is
violation 0x06, whether the present mode and state allow the write (else 0x0A), and whether it waits for a frame boundary. -/
structure WordRule where
  ro : Bool
  bits : Nat
  reserved : Nat
  allowed : Bool
  deferred : Bool

/-- A word that the host may not write. -/
def WordRule.readOnly : WordRule := ⟨true, 0, 0, true, false⟩

/-- A word that the host may write whole when `b`. -/
def WordRule.free (b : Bool) : WordRule := ⟨false, 0xFFFFFFFF, 0, b, false⟩

/-- A word of configuration that the host may write whole in HALT and DEPOT, from the next frame boundary on. -/
def Module.cfgWord (m : Module) : WordRule := ⟨false, 0xFFFFFFFF, 0, m.inHd, true⟩

/-- A word of the cell table (R405). -/
def Module.cellWord (m : Module) (a : Nat) : WordRule :=
  match (a - 0x01800000) % 48 with
  | 0x04 => ⟨false, 0xF000, 0, m.inHd, true⟩
  | 0x28 => ⟨false, 0xFFFF, 0, m.inHd, true⟩
  | 0x2C => ⟨false, 0x80000000, 0, true, false⟩
  | _ => .readOnly

/-- Copy `c` of the timetable may be written: it is neither active nor armed (R74). -/
def Module.copyOpen (m : Module) (c : Nat) : Bool :=
  m.activeCopy != some c && !(m.flag R.TTB_STAT F.TTB_STAT_ARMED && m.eng.armCopy == some c)

/-- Words of timetables, region tables, mailboxes and selections (R74, R113, R156, R164). -/
def Module.ttWord (m : Module) (a : Nat) : Option WordRule :=
  if a < 0x01832100 then some (.free (m.copyOpen 0))
  else if 0x01834000 ≤ a ∧ a < 0x01836100 then some (.free (m.copyOpen 1))
  else if 0x01838000 ≤ a ∧ a < 0x01838800 then some .readOnly
  else if 0x01839000 ≤ a ∧ a < 0x01839080 then some .readOnly
  else if 0x0183A000 ≤ a ∧ a < 0x0183A240 then some .readOnly
  else none

/-- A GOOSE publication that an enabled Token connection writes (R458). -/
def Module.tokenRow (m : Module) (k : Nat) : Bool :=
  (List.range 16).any (fun c => tkEn m.il.image c && tkCarrier m.il.image c == 0 && bitsN (tkArg m.il.image c) 16 12 == k)

/-- Words of the process bus (R211, R458). -/
def Module.pbWord (m : Module) (a : Nat) : Option WordRule :=
  if a < 0x01840C00 then some m.cfgWord
  else if a < 0x01840D80 then some .readOnly
  else if 0x01840E00 ≤ a ∧ a < 0x01841000 then some m.cfgWord
  else if 0x01844000 ≤ a ∧ a < 0x01848000 then some m.cfgWord
  else if 0x01848000 ≤ a ∧ a < 0x0184A000 then
    some { m.cfgWord with allowed := m.inHd && !m.tokenRow ((a - 0x01848000) / 256) }
  else if 0x01850000 ≤ a ∧ a < 0x01860000 then some .readOnly
  else if 0x01860000 ≤ a ∧ a < 0x01864000 then
    let k := (a - 0x01860000) / 512
    some (.free (m.gpHost k && !m.tokenRow k))
  else none

/-- Words of the AFE, the CAN rows and metering (R239, R240, R365, R421). -/
def Module.ioWord (m : Module) (a : Nat) : Option WordRule :=
  if 0x01870000 ≤ a ∧ a < 0x01870400 then
    some (match a % 16 with
      | 0 => { m.cfgWord with reserved := 0xFFFFFFE0 }
      | 12 => { m.cfgWord with reserved := 0xFFFFFFFF }
      | _ => m.cfgWord)
  else if 0x01871000 ≤ a ∧ a < 0x01871400 then some .readOnly
  else if 0x01880000 ≤ a ∧ a < 0x01880400 then some .readOnly
  else if 0x01890000 ≤ a ∧ a < 0x01891200 then some (.free (m.rf R.MTR_CORR F.MTR_CORR_ACT != 0))
  else if 0x01892000 ≤ a ∧ a < 0x01893200 then some (.free (m.rf R.MTR_CORR F.MTR_CORR_ACT != 1))
  else if 0x01894000 ≤ a ∧ a < 0x01894060 then some (.free true)
  else none

/-- The bits of a source-table word that a write changes (R488); none in an entry of a source not assigned. -/
def sourceBits (src w : Nat) : Nat :=
  if !sourceDefined src then 0
  else match w with
    | 0 => 0xB8FCFF00
    | 1 => 0xFFFFFC00
    | 2 => 0x0001FFFF
    | _ => 0

/-- Words of the Interlocking, the collector and NVM (R458, R460, R488, R489, R491, R500, R509). -/
def Module.restWord (m : Module) (a : Nat) : Option WordRule :=
  if 0x018A0000 ≤ a ∧ a < 0x018A1000 then some (.free m.inHd)
  else if 0x018A1000 ≤ a ∧ a < 0x018A1100 then some .readOnly
  else if 0x018A2000 ≤ a ∧ a < 0x018A2384 then some .readOnly
  else if 0x018A3000 ≤ a ∧ a < 0x018A3800 then some (.free true)
  else if 0x018A3800 ≤ a ∧ a < 0x018A4000 then some .readOnly
  else if 0x018B0000 ≤ a ∧ a < 0x018B1000 then
    some { m.cfgWord with bits := sourceBits ((a - 0x018B0000) / 16) (a % 16 / 4) }
  else if 0x018B1000 ≤ a ∧ a < 0x018B2000 then some .readOnly
  else if 0x018B2000 ≤ a ∧ a < 0x018B2200 then some { m.cfgWord with bits := 0x9F9F9F9F }
  else if 0x018B2200 ≤ a ∧ a < 0x018B2A00 then some .readOnly
  else if 0x018C0000 ≤ a ∧ a < 0x018C0100 then some (.free true)
  else none

/-- A hardware-table word (R57); none where no table lies. -/
def Module.tableWord (m : Module) (a : Nat) : Option WordRule :=
  if a < 0x01830000 then some (m.cellWord a)
  else if a < 0x01840000 then m.ttWord a
  else if a < 0x01870000 then m.pbWord a
  else if a < 0x018A0000 then m.ioWord a
  else m.restWord a

/-! ### The yard (R57, R114, R115, R512) -/

/-- The host's right to a yard byte: 1 read, 2 read and write (R114). With no active copy no region table is in force, and no
region grants the host anything (DESIGN CHOICE, log 83). -/
def Module.hostGrant (m : Module) (a : Nat) : Nat :=
  match m.activeCopy with
  | none => 0
  | some c => (List.range 64).foldl (fun g i =>
      let e := 0x01838000 + 0x400 * c + 16 * i
      let w := m.mn e 4
      let base := bitsN w 11 0 * 4096
      if w.testBit 31 ∧ base ≤ a ∧ a < base + bitsN w 28 16 * 4096 then max g (bitsN (m.mn (e + 4) 4) 15 14) else g) 0

/-- A write meets the copy in force of a double-buffered table, or a table whose change is pending (R512). -/
def Module.doubleBusy (m : Module) (a : Nat) : Bool :=
  m.activeList.any (fun t => t.tbl.any (fun i => match i.dbl with
    | none => false
    | some p =>
      let size := 4 * i.size * i.count
      let now := m.bit R.SID_PTSEL p
      let pending := (m.pendView R.SID_PTSEL).toNat.testBit p != now
      let lo := if pending then i.base else i.base + (if now then size else 0)
      let len := if pending then 2 * size else size
      decide (lo ≤ a ∧ a < lo + len)))

/-- A yard word. -/
def Module.yardWord (m : Module) (a : Nat) : WordRule := .free (!m.doubleBusy a)

/-! ### The decision (R58) -/

/-- The regions of R57. -/
def bar2Mapped (a : Nat) : Bool :=
  a < 0x01500000 || (0x01800000 ≤ a && a < 0x01C00000) || (0x02000000 ≤ a && a < 0x06800000)

/-- The rule of the word at `a`, where a region or a table gives one. -/
def Module.wordRule (m : Module) (a : Nat) : Option WordRule :=
  if a < 0x01000000 then some (m.yardWord a)
  else if 0x01800000 ≤ a ∧ a < 0x01C00000 then m.tableWord a
  else some .readOnly

/-- The words that an access touches. -/
def wordsAt (off bytes : Nat) : List Nat := if bytes = 8 then [off, off + 4] else [off / 4 * 4]

/-- The 32 bits that a write puts into the word at `a`. -/
def wordVal (off a : Nat) (v : DWord) : Nat := (v.toNat >>> (8 * (a - off))) % 2 ^ 32

/-- The reason for which a BAR2 access is refused (R58), if any. A table offset where no table lies is unmapped. A region whose
HOST holds the reserved code 0b11 grants the host nothing: R115 counts it as granted, but no code says for which accesses
(DESIGN CHOICE, log 83). -/
def Module.bar2Reason (m : Module) (off bytes : Nat) (v : Option DWord) : Option Nat :=
  let ws := wordsAt off bytes
  let rules := ws.filterMap m.wordRule
  if m.sys.inspecting then some 9
  else if !bar2Mapped off then some 1
  else if off % bytes ≠ 0 then some 2
  else if v.isSome ∧ bytes < 4 then some 3
  else if rules.length < ws.length then some 1
  else if off < 0x01000000 ∧ ws.any (fun a => m.hostGrant a < (if v.isSome then 2 else 1) || m.hostGrant a == 3) then some 0x0B
  else match v with
    | none => if 0x01000000 ≤ off ∧ off < 0x01500000 ∧ !m.inHd then some 0x0A else none
    | some v =>
      if rules.any (fun r => r.ro) then some 5
      else if ws.any (fun a => (m.wordRule a).any (fun r => r.reserved &&& wordVal off a v != 0)) then some 6
      else if rules.any (fun r => !r.allowed) then some 0x0A
      else none

/-! ### Performing an access -/

/-- Values of the source table outside their range are clamped to it (R485, R488). -/
def sourceClamp (a n : Nat) : Nat :=
  if a < 0x018B0000 ∨ 0x018B1000 ≤ a then n
  else
    let clamp (f : Field) (lo hi : Nat) : Nat := fget (fset (BitVec.ofNat 64 n) f (min hi (max lo (bitsN n f.hi f.lo)))) ⟨31, 0⟩
    match a % 16 / 4 with
    | 0 =>
      let n := clamp ⟨29, 27⟩ (sourceFloor ((a - 0x018B0000) / 16)) 7
      fget (fset (BitVec.ofNat 64 n) ⟨15, 8⟩ (max 1 (bitsN n 15 8))) ⟨31, 0⟩
    | 1 => clamp ⟨31, 10⟩ 10 3600000
    | 2 => clamp ⟨16, 0⟩ 1 86400
    | _ => n

/-- A configuration byte waits for its frame boundary (R211, R239, R405, R488). -/
def Module.deferBytes (m : Module) (a n : Nat) : Module :=
  { m with heldMem := m.heldMem ++ (List.range n).map (fun k => ⟨a + k, m.mb (a + k), m.now⟩) }

/-- The host writes one word. -/
def Module.hostWord (m : Module) (a v : Nat) : Module :=
  match m.wordRule a with
  | none => m
  | some r =>
    if r.bits = 0 then m
    else
      let old := m.mn a 4
      let new := sourceClamp a ((old &&& (0xFFFFFFFF - r.bits)) ||| (v &&& r.bits))
      let m := if r.deferred then m.deferBytes a 4 else m
      m.setMn a 4 new

/-- A word that a read touches fails parity: as the access finds it, or as it has since it was found (R111, R112). -/
def Module.bar2Bad (m : Module) (x : Bar2Access) : Bool :=
  (x.off < 0x01000000 || (0x01800000 ≤ x.off && x.off < 0x01C00000))
    && (x.bad || (wordsAt x.off x.bytes).any (fun a => m.eng.failing.contains a))

/-- A read of a source's status entry finds there the recoveries within its window as they are now (R500). -/
def Module.freshRecs (m : Module) (a : Nat) : Module :=
  if 0x018B1000 ≤ a ∧ a < 0x018B2000 then m.showRecs ((a - 0x018B1000) / 16) else m

/-- A BAR2 access is served (R57, R59, R112). -/
def Module.serveBar2 (m : Module) (x : Bar2Access) : Module :=
  match x.data with
  | some v => (wordsAt x.off x.bytes).foldl (fun m a => m.hostWord a (wordVal x.off a v)) m
  | none =>
    if m.bar2Bad x then
      let m := if x.bad then m.failWord (x.off / 4 * 4) else m
      let m := (m.yardDetect 0xA (x.off % 0x01800000)).raiseFree FS.YARD_DETECT .none
      let m := if x.off < 0x01000000 then m.rowHit (.yard (x.off / 1024)) else m
      { m with host := { m.host with pcie := .abort } }
    else
      let m := m.freshRecs x.off
      { m with host := { m.host with pcie := .data (BitVec.ofNat 64 (m.mn x.off x.bytes)) } }

/-- A host read reaches a word of a draining block, and waits for the end of the drain (R107). -/
def Module.bar2Drains (m : Module) (x : Bar2Access) : Bool :=
  x.data.isNone && (wordsAt x.off x.bytes).any (fun a => m.eng.draining.any (fun d => d.2.contains a))

/-- Serve the oldest access held, if the budget allows (R91). -/
def Module.serveHeld (m : Module) : Module :=
  match m.host.queue with
  | [] => m
  | x :: rest =>
    if m.bar2Drains x then m else
    let g := m.grant Bus.host (beatsOf x.off x.bytes)
    if g.1 then ({ g.2 with host := { g.2.host with queue := rest } } : Module).serveBar2 x else g.2

/-- Serve the accesses held, oldest first, while the budget allows. -/
def Module.serveQueue (m : Module) : Nat → Module
  | 0 => m
  | n + 1 => m.serveHeld.serveQueue n

/-- An access that the decision allows is served, or waits behind the others for the budget (R52, R91). -/
def Module.offerBar2 (m : Module) (x : Bar2Access) : Module :=
  ({ m with host := { m.host with queue := m.host.queue ++ [x], pcie := .none } } : Module).serveQueue (m.host.queue.length + 1)

end Sys2Proof.Machine
end

