-- ==== Sys2Proof/Machine/Masters.lean ====
section
/-! DEFINITION. Masters.lean: what bus masters do with the beats of a new budget period, and the end of a drain (R26, R90 to
R93, R107, R415, R505). -/

namespace Sys2Proof.Machine

/-- An access that waited for its budget is made. -/
def BusOp.run (m : Module) : BusOp → Module
  | .record => m.writeOldest
  | .gsRow n f gap ns => m.gsStore n f gap ns
  | .gsLost n => m.gsShowLost n
  | .gsNew n never => m.gsShowNew n never
  | .gsSim n on => m.gsShowSim n on
  | .goose k => (m.masterRead 0xB (0x01860000 + 512 * k) (8 * bitsN (m.gpEntry k 0) 6 0)).gpCompareNow k
  | .sv k => (m.masterRead 0xB (0x01840C00 + 96 * k) 96).svPublishNow k
  | .set n vals dur tc => (m.masterRead 0xD (0x01894000 + 0x18 * n) 24).meterTake n vals dur tc

/-- Serve up to `n` waiting accesses of master `b`, oldest first, while its budget lasts (R91); one that the budget covers in
part takes that part, and waits on. -/
def Module.serveBus (m : Module) (b : Nat) : Nat → Module
  | 0 => m
  | n + 1 =>
    match m.eng.busWait.find? (fun w => w.1 == b) with
    | none => m
    | some w =>
      let free := m.budget b - m.used b
      let rest := m.eng.busWait.erase w
      if w.2.1 ≤ free then
        (w.2.2.run (({ m with eng := { m.eng with busWait := rest } } : Module).charge b w.2.1)).serveBus b n
      else
        let wait := m.eng.busWait.map (fun x => if x = w then (b, w.2.1 - free, w.2.2) else x)
        (({ m with eng := { m.eng with busWait := wait } } : Module).charge b free).delay b

/-- What waits at the start of a master's period goes first in it (R91). -/
def Module.serveMaster (m : Module) (b : Nat) : Module :=
  if b = Bus.host then m.serveQueue m.host.queue.length
  else if b = Bus.ring then m.serveRing
  else if b = Bus.reserve then m.serveCopy
  else m.serveBus b m.eng.busWait.length

/-- A master's count starts anew; a period in which it was delayed counts (R91). -/
def Module.newPeriod (m : Module) (b : Nat) : Module :=
  let m := if m.eng.delayed.contains b then m.bump (R.TTB_DLY b) R.TTB_SAT (8 + b) else m
  { m with eng := { m.eng with budgetUsed := SMap.setD 0 m.eng.budgetUsed b 0, delayed := m.eng.delayed.filter (· ≠ b) } }

/-- A budget period starts (R90, R91). While no copy is active every master's 10 µs are the host's, and the masters share them
in the order of R93; a start named for another master then is none. -/
def Module.budgetPeriod (m : Module) (b : Nat) : Module :=
  if m.activeCopy.isSome then (m.newPeriod b).serveMaster b
  else if b = Bus.host then busOrder.foldl Module.serveMaster (busOrder.foldl Module.newPeriod m)
  else m

/-- BUDGET_PERIOD_START (R91): of bus master `b`, by its BUD number. -/
def execBudgetPeriodStart (b : Fin 6) (s : State) := s.runUp (·.budgetPeriod b)

/-- COMMIT_DRAIN_COMPLETE (R107): the oldest draining block of the engine has drained, and host reads that waited for it are
served. -/
def execCommitDrainComplete (le : Fin 8) (s : State) :=
  s.run (fun m => match m.eng.draining.find? (fun d => d.1 == le.val) with
    | some d =>
      let m : Module := { m with eng := { m.eng with draining := m.eng.draining.erase d } }
      if m.hostServed then m.serveQueue m.host.queue.length else m
    | none => m)

end Sys2Proof.Machine
end

