-- ==== Sys2Proof/Machine/Host.lean ====
section
/-! DEFINITION. Host.lean: the host's commands: PCIe, SPI and UART accesses, their answers, votes, saved configuration, and
the accesses that have a row of their own (R34, R50 to R68, R92, R536, and the registers that each row names). -/

namespace Sys2Proof.Machine

/-! ### Answers (R59) -/

/-- A register access over PCIe is refused: a read is answered with completer abort, a posted write marks HOST_PWERR. -/
def Module.pcieRefused (m : Module) (write : Bool) : Module :=
  if !write then { m with host := { m.host with pcie := .abort } }
  else if m.flag R.HOST_PWERR F.HOST_PWERR_ERR then m.setFlag R.HOST_PWERR F.HOST_PWERR_OVF true
  else (m.setFlag R.HOST_PWERR F.HOST_PWERR_ERR true).irq Irq.PWERR

/-- A violation in BAR0 (R59, R68); an offset in no window reports window 0. -/
def Module.bar0Violation (m : Module) (i : Initiator) (a bytes : Nat) (write : Bool) (reason : Nat) : Module :=
  m.hostViolation (violAddr 0 a) (violInfo (((winOf a).map (·.1)).getD 0) write bytes i reason)

/-- A register read over PCIe (R52, R58). -/
def Module.pcieRead (m : Module) (a bytes : Nat) : Module :=
  if !m.hostServed then m
  else
    let (m, r) := m.regRead .pcie a bytes
    match r with
    | .viol n => (m.bar0Violation .pcie a bytes false n).pcieRefused false
    | .data v => { m with host := { m.host with pcie := .data v } }
    | .done => m

/-- A register write over PCIe (R58, R59). -/
def Module.pcieWrite (m : Module) (a bytes : Nat) (v : DWord) : Module :=
  if !m.hostServed then m
  else
    let (m, r) := m.regWrite .pcie a bytes v
    match r with
    | .viol n => (m.bar0Violation .pcie a bytes true n).pcieRefused true
    | _ => m

/-- A 32-bit write of a register in the normal window. -/
def Module.write32 (m : Module) (a v : Nat) : Module := m.pcieWrite a 4 (BitVec.ofNat 64 v)

/-- A 32-bit write to a register's SET alias: the host sets one bit and touches no other. -/
def Module.setBitHost (m : Module) (a : Nat) (f : Field) : Module := m.pcieWrite (winBase Win.set + a) 4 (fmask f)

/-! ### Hardware updates within the arbitration window (R63) -/

/-- The SAT flag of each event counter (R65), for its instance `i`: the register and the bit. -/
def satFlags (i : Nat) : List (Nat × Nat × Nat) :=
  [(R.HOST_VIOL_CNT, R.HOST_SAT, 0), (R.HOST_VOTE_FIX, R.HOST_SAT, 1), (R.TTB_OVR 0, R.TTB_SAT, i), (R.TTB_DLY 0, R.TTB_SAT, 8 + i),
    (R.TTB_SHED_FR, R.TTB_SAT, 14), (R.ENG_DETECT 0, R.ENG_SAT i, 0), (R.ENG_RECOMP 0, R.ENG_SAT i, 1),
    (R.ENG_REPEAT 0, R.ENG_SAT i, 2), (R.ENG_VIOL 0, R.ENG_SAT i, 3), (R.YARD_DETECT, R.YARD_SAT, 0), (R.XS_SEL_SHORT, R.XS_SAT, 0),
    (R.XS_MBX_LOST, R.XS_SAT, 1), (R.LU_SATCNT 0, R.LU_SAT i, 0), (R.LU_FECNT 0, R.LU_SAT i, 1)]
  ++ [(R.LU_NANCNT 0, R.LU_SAT i, 2), (R.CLK_SWALLOW, R.CLK_SAT, 0), (R.CLK_LOSSES, R.CLK_SAT, 1), (R.CLK_STEPS, R.CLK_SAT, 2),
    (R.PB_RXDISC 0, R.PB_SAT, i), (R.PB_CRCERR 0, R.PB_SAT, 4 + i), (R.PB_SVS_MISS 0, R.PB_SVS_STAT i, 20),
    (R.PB_SVS_LATE 0, R.PB_SVS_STAT i, 21), (R.PB_SVS_DISC 0, R.PB_SVS_STAT i, 22), (R.AFE_OVR 0, R.AFE_SAT, i),
    (R.CAP_OVR 0, R.CAP_SAT i, 0), (R.PWM_LATE 0, R.PWM_SAT i, 0), (R.PWM_SHORT 0, R.PWM_SAT i, 1)]
  ++ [(R.PWM_FL_CNT 0, R.PWM_FL_SAT, i), (R.GD_SC 0, R.GD_SAT, i), (R.GD_XC_CNT, R.GD_SAT, 24), (R.CAN_DISC 0, R.CAN_SAT i, 0),
    (R.CAN_BUSOFF 0, R.CAN_SAT i, 1), (R.LN_CRCERR 0, R.LN_SAT i, 0), (R.LN_LOSTFR 0, R.LN_SAT i, 1), (R.LN_QFULL 0, R.LN_SAT i, 2),
    (R.KEEP_DENIES, R.KEEP_SAT, 0), (R.KEEP_ABORTS, R.KEEP_SAT, 1), (R.FLT_REC_G, R.FLT_SAT, 0), (R.SID_SUBS, R.SID_SAT, 0),
    (R.SID_FAILS, R.SID_SAT, 1), (R.SID_HL_MISS, R.SID_SAT, 2)]

/-- The register of an access and its w1c bits that a hardware update sets in the same window. -/
def Race.place (r : Race) (a : Nat) : Option (Found × Nat × DWord) :=
  (winOf a).bind (fun w => (findReg w.2 regTable).map (fun f =>
    (f, w.2 - f.byte, f.reg.maskOf (fun d => d.acc == .w1c) &&& r.sets)))

/-- What the software leaves of a write that meets hardware updates: it clears no flag that is being set. -/
def Race.left (r : Race) (a : Nat) (v : DWord) : DWord :=
  match r.place a with
  | some p => v &&& ~~~ p.2.2
  | none => v

/-- What the hardware updates leave after the write: a flag set in the window stays set (of HOST_IRQ_STAT, with a message where
it was 0), and a counter takes its increments on top of the value written. -/
def Race.after (r : Race) (m : Module) (a : Nat) : Module :=
  match r.place a with
  | none => m
  | some (f, base, sets) =>
    let m := if base = R.HOST_IRQ_STAT then
        (List.range 8).foldl (fun m n => if sets.getLsbD n then m.irq n else m) m
      else m.wr base (m.rd base ||| sets)
    match if f.reg.counter then (satFlags f.inst).find? (fun t => t.1 == f.reg.base) else none with
    | some t => m.bumpN base t.2.1 t.2.2 r.incs.toNat
    | none => m

/-- A PCIe write that hardware updates of the same register meet in its arbitration window (R63). The other two outcomes of R63, a
go bit set against its completion and any other field, are those of the update followed by the write. -/
def Module.pcieWriteRace (m : Module) (a bytes : Nat) (v : DWord) (r : Race) : Module :=
  if !m.hostServed then m else r.after (m.pcieWrite a bytes (r.left a v)) a

/-- REGISTER_WRITE (R58): a PCIe write of 2^`k` bytes at a BAR0 offset, in any window. -/
def execRegisterWrite (k : Fin 4) (addr : BitVec 25) (v : BitVec 64) (s : State) (race : Option Race := none) :=
  s.run (fun m => match race with
    | none => m.pcieWrite addr.toNat (2 ^ k.val) v
    | some r => m.pcieWriteRace addr.toNat (2 ^ k.val) v r)

/-- ALIAS_SET_WRITE (R56), at a normal address. -/
def execAliasSetWrite (k : Fin 4) (addr : BitVec 22) (v : BitVec 64) (s : State) :=
  s.run (·.pcieWrite (winBase Win.set + addr.toNat) (2 ^ k.val) v)

/-- ALIAS_CLEAR_WRITE (R56), at a normal address. -/
def execAliasClearWrite (k : Fin 4) (addr : BitVec 22) (v : BitVec 64) (s : State) :=
  s.run (·.pcieWrite (winBase Win.clear + addr.toNat) (2 ^ k.val) v)

/-- ALIAS_TOGGLE_WRITE (R56), at a normal address. -/
def execAliasToggleWrite (k : Fin 4) (addr : BitVec 22) (v : BitVec 64) (s : State) :=
  s.run (·.pcieWrite (winBase Win.toggle + addr.toNat) (2 ^ k.val) v)

/-- LOW_WORD_READ (R58): a 32-bit PCIe read in the normal window. -/
def execLowWordRead (addr : BitVec 22) (s : State) := s.run (·.pcieRead addr.toNat 4)

/-- HIGH_WORD_READ (R58): a 32-bit PCIe read in the normal window. -/
def execHighWordRead (addr : BitVec 22) (s : State) := s.run (·.pcieRead addr.toNat 4)

/-- SYS_MODE_READ (R67): a 32-bit PCIe read of SYS_MODE in the normal window. -/
def execSysModeRead (s : State) := s.run (·.pcieRead R.SYS_MODE 4)

/-- HOST_IRQ_EN_WRITE (R51). -/
def execHostIrqEnWrite (v : BitVec 32) (s : State) := s.run (·.write32 R.HOST_IRQ_EN v.toNat)

/-! ### BAR2 (R57, R58, R92) -/

/-- A BAR2 access is decided; one that is allowed draws on the budget. -/
def Module.bar2Access (m : Module) (x : Bar2Access) : Module :=
  if !m.hostServed then m
  else
    let m := m.setHigh .pcie none
    match m.bar2Reason x.off x.bytes x.data with
    | some r =>
      (m.hostViolation (violAddr 1 x.off) (violInfo 5 x.data.isSome x.bytes .pcie r)).pcieRefused x.data.isSome
    | none => m.offerBar2 x

/-- BAR2_READ (R57): of 2^`k` bytes; `bad` when a word read fails parity (R112). -/
def execBar2Read (k : Fin 4) (off : BitVec 28) (bad : Bool) (s : State) :=
  s.run (·.bar2Access ⟨off.toNat, 2 ^ k.val, none, bad⟩)

/-- BAR2_WRITE (R57): of 2^`k` bytes. -/
def execBar2Write (k : Fin 4) (off : BitVec 28) (v : BitVec 64) (s : State) :=
  s.run (·.bar2Access ⟨off.toNat, 2 ^ k.val, some v, false⟩)

/-- BAR2_ACCESS_COMPLETE (R92): the oldest access held completes, if the budget of the present period has beats for it. -/
def execBar2AccessComplete (s : State) := s.run Module.serveHeld


/-! ### SPI (R53) -/

/-- A byte string with its CRC behind it, low byte first (R53). -/
def withCrc (bs : List Byte) : List Byte := bs ++ leBytes 2 (crc16 bs)

/-- Replace the SPI slot. -/
def Module.setSpi (m : Module) (x : SpiSlot) : Module := { m with host := { m.host with spi := x } }

/-- A request frame: its bytes before the CRC, and the CRC it carried (R53). A completed status that no status frame has taken yet
gives way to it: the slot holds one status (DESIGN CHOICE, log 83). -/
def Module.spiRequest (m : Module) (cmd : Nat) (r : SpiReq) (crc : Nat) : Module :=
  if !m.hostServed then m
  else if m.host.spi.req.isSome then m.setSpi { m.host.spi with ovf := true }
  else
    let bytes := BitVec.ofNat 8 cmd :: leBytes 4 r.addr ++ (if r.write then leBytes r.bytes r.data.toNat else [])
    if crc16 bytes = crc then m.setSpi { m.host.spi with stat := 1, data := 0, req := some r }
    else m.setSpi { m.host.spi with stat := 0x81, data := 0 }

/-- The pending SPI transaction completes (R52, R53, R59). -/
def Module.spiServe (m : Module) : Module :=
  if !m.hostServed then m
  else match m.host.spi.req with
  | none => m
  | some r =>
    let (m, x) := if r.write then m.regWrite .spi r.addr r.bytes r.data else m.regRead .spi r.addr r.bytes
    let fin (m : Module) (stat : Byte) (v : DWord) : Module :=
      m.setSpi { m.host.spi with stat := stat, data := v, req := none }
    match x with
    | .data v => fin m 2 v
    | .done => fin m 2 0
    | .viol n => fin (m.bar0Violation .spi r.addr r.bytes r.write n) 0x80 0

/-- A status frame (R53): a completed status is returned once; a discarded request is reported once, before it. -/
def Module.spiStatus (m : Module) : Module :=
  if !m.hostServed then m
  else
    let x := m.host.spi
    let frame (stat : Byte) (v : DWord) : List Byte := 0#8 :: withCrc (stat :: leBytes 8 v.toNat)
    if x.ovf then m.setSpi { x with ovf := false, out := frame 0x83 0 }
    else if x.req.isSome then m.setSpi { x with out := frame 1 0 }
    else m.setSpi { x with stat := 0, data := 0, out := frame x.stat x.data }

/-- A request frame with a CMD that is none of a request's (R53): STATUS 0x81, as an invalid one. -/
def Module.spiInvalid (m : Module) : Module :=
  if !m.hostServed then m
  else if m.host.spi.req.isSome then m.setSpi { m.host.spi with ovf := true }
  else m.setSpi { m.host.spi with stat := 0x81, data := 0 }

/-- SPI_READ_32 (R53): a request frame without DATA, by its CMD. -/
def execSpiRead32 (addr : BitVec 32) (crc : BitVec 16) (s : State) (cmd : BitVec 8 := 0x0B) :=
  s.run (fun m => match cmd.toNat with
    | 0x0B => m.spiRequest 0x0B ⟨false, 4, addr.toNat, 0⟩ crc.toNat
    | 0x0C => m.spiRequest 0x0C ⟨false, 8, addr.toNat, 0⟩ crc.toNat
    | 0x05 => m.spiStatus
    | _ => m.spiInvalid)

/-- SPI_READ_64 (R53). -/
def execSpiRead64 (addr : BitVec 32) (crc : BitVec 16) (s : State) :=
  s.run (·.spiRequest 0x0C ⟨false, 8, addr.toNat, 0⟩ crc.toNat)

/-- SPI_WRITE_32 (R53). -/
def execSpiWrite32 (addr v : BitVec 32) (crc : BitVec 16) (s : State) :=
  s.run (·.spiRequest 0x02 ⟨true, 4, addr.toNat, v.setWidth 64⟩ crc.toNat)

/-- SPI_WRITE_64 (R53). -/
def execSpiWrite64 (addr : BitVec 32) (v : BitVec 64) (crc : BitVec 16) (s : State) :=
  s.run (·.spiRequest 0x03 ⟨true, 8, addr.toNat, v⟩ crc.toNat)

/-- SPI_STATUS (R53). -/
def execSpiStatus (s : State) := s.run Module.spiStatus

/-! ### Maintenance UART (R54) -/

/-- The response frame. -/
def Module.uartAnswer (m : Module) (stat : Nat) (data : List Byte) : Module :=
  { m with host := { m.host with
    uart := withCrc (0x5A#8 :: BitVec.ofNat 8 stat :: leBytes 2 data.length ++ data) } }

/-- The CRC of a request frame is right. -/
def uartCrcOk (cmd arg crc : Nat) : Bool := crc16 (0xA5#8 :: BitVec.ofNat 8 cmd :: leBytes 2 arg) == crc

/-- A violation over the UART. -/
def Module.uartViolation (m : Module) (arg bytes reason : Nat) : Module :=
  (m.hostViolation (violAddr 2 arg) (violInfo 5 false bytes .uart reason)).uartAnswer 0x80 []

/-- A read of the SYS block (R54, R58). -/
def Module.uartRead (m : Module) (cmd bytes arg crc : Nat) : Module :=
  if !m.hostServed then m
  else if !uartCrcOk cmd arg crc then m.uartAnswer 0x81 []
  else if 0x10000 < arg + bytes then m.uartViolation arg bytes 0x0C
  else
    let (m, r) := m.regRead .uart arg bytes
    match r with
    | .data v => m.uartAnswer 0 (leBytes bytes v.toNat)
    | .viol n => m.uartViolation arg bytes n
    | .done => m

/-- The number of the incident `k` before number `n` (R494): 1 follows 0xFFFF. -/
def incidentBack (n k : Nat) : Nat := (n + 0xFFFF - 1 - k) % 0xFFFF + 1

/-- A read of one of the last 8 incident records as MRAM holds it (R54, R494). -/
def Module.uartIncident (m : Module) (arg crc : Nat) : Module :=
  if !m.hostServed then m
  else if !uartCrcOk 0x10 arg crc then m.uartAnswer 0x81 []
  else
    let newest := m.rf R.FLT_STAT F.FLT_STAT_INC
    let n := incidentBack newest arg
    let a := 0x06630000 + 128 * (n % 256)
    if 8 ≤ arg ∨ newest = 0 ∨ m.mn a 4 ≠ n then m.uartAnswer 0x82 []
    else m.uartAnswer 0 (m.mbytes a 128)

/-- A request over the UART by its CMD (R54): an unknown one is answered with 0x81. -/
def Module.uartRequest (m : Module) (cmd arg crc : Nat) : Module :=
  match cmd with
  | 0x01 => m.uartRead 1 4 arg crc
  | 0x02 => m.uartRead 2 8 arg crc
  | 0x10 => m.uartIncident arg crc
  | _ => if !m.hostServed then m else m.uartAnswer 0x81 []

/-- UART_READ_SYS_32 (R54): a request, by its CMD. -/
def execUartReadSys32 (arg crc : BitVec 16) (s : State) (cmd : BitVec 8 := 0x01) :=
  s.run (·.uartRequest cmd.toNat arg.toNat crc.toNat)

/-- UART_READ_SYS_64 (R54). -/
def execUartReadSys64 (arg crc : BitVec 16) (s : State) := s.run (·.uartRead 2 8 arg.toNat crc.toNat)

/-- UART_READ_INCIDENT (R54). -/
def execUartReadIncident (arg crc : BitVec 16) (s : State) := s.run (·.uartIncident arg.toNat crc.toNat)

/-- An access over PCIe: a write where it carries data, else a read. -/
def Module.pcieAccess (m : Module) (x : Fin 4 × BitVec 25 × Option (BitVec 64)) : Module :=
  match x.2.2 with
  | some v => m.pcieWrite x.2.1.toNat (2 ^ x.1.val) v
  | none => m.pcieRead x.2.1.toNat (2 ^ x.1.val)

/-- Accesses that reach one register together (R64): PCIe goes before SPI, and SPI before the UART; each completes whole. -/
def Module.tie (m : Module) (pcie : Option (Fin 4 × BitVec 25 × Option (BitVec 64))) (spi : Bool)
    (uart : Option (BitVec 8 × BitVec 16 × BitVec 16)) : Module :=
  let m := (pcie.map m.pcieAccess).getD m
  let m := if spi then m.spiServe else m
  (uart.map (fun u => m.uartRequest u.1.toNat u.2.1.toNat u.2.2.toNat)).getD m

/-- HOST_ACCESS_COMPLETE (R52, R64): a PCIe read of a register, the pending SPI transaction, or accesses that tie. -/
def execHostAccessComplete (a : HostAccess) (s : State) :=
  s.run (fun m => match a with
    | .pcie k addr => m.pcieRead addr.toNat (2 ^ k.val)
    | .spi => m.spiServe
    | .tie p spi u => m.tie p spi u)

/-! ### The PCIe link (R51, R532) -/

/-- Show the link (R68): none is down. -/
def Module.showLink (m : Module) (l : Option (Nat × Nat)) : Module :=
  match l with
  | some (w, sp) => m.wn R.HOST_LINK ((1 <<< 8) + (2 ^ w) <<< 4 + (sp + 1))
  | none => m.wn R.HOST_LINK 0

/-- PCIE_RESET (R532): PCIE_PERST rises, and link training starts. -/
def execPcieReset (s : State) :=
  s.run (fun m => if !m.hostServed then m
    else ({ m with host := { m.host with linkTraining := true, msix := false } } : Module).showLink none)

/-- PCIE_LINK_UP (R51): training completes with a width of 2^`w` lanes at Gen `g` + 1, and the host's choice of MSI-X or
MSI; or the link goes down. -/
def execPcieLinkUp (link : Option (Fin 3 × Fin 3 × Bool)) (s : State) :=
  s.run (fun m => if !m.hostServed then m
    else
      let m : Module := { m with host := { m.host with linkTraining := false, msix := (link.map (·.2.2)).getD false } }
      m.showLink (link.map (fun l => (l.1.val, l.2.1.val))))

/-! ### Scrubs (R62) -/

/-- A copy of a triplicated field comes to hold another value. -/
def Module.strike (m : Module) (u : Upset) : Module :=
  let a := u.addr.toNat
  if (m.votedField a u.lo).isNone then m
  else
    let others := m.upsets.filter (fun v => !(v.addr == u.addr && v.lo == u.lo && v.copy == u.copy))
    { m with upsets := others ++ [u] }

/-- A scrub votes every field; one that meets a write at the same field skips it until the next pass. -/
def Module.scrub (m : Module) (written : List Nat) : Module :=
  (m.upsets.filter (fun u => !written.contains u.addr.toNat)).foldl (fun m u => m.voteField u.addr.toNat u.lo) m

/-- VOTE_SCRUB (R62): a copy is disturbed, or a scrub passes. -/
def execVoteScrub (e : Scrub) (s : State) :=
  s.runOn (fun m => match e with
    | .strike u => m.strike u
    | .pass written => m.scrub (written.map BitVec.toNat))

/-! ### Rows for single registers -/

/-- CONFIG_SAVE (R536): the host sets the SAVE bit of block `b`. -/
def execConfigSave (b : Fin 9) (s : State) := s.run (·.setBitHost (saveCtrl b) (saveBit b))

/-- A request code written to SYS_MODE_REQ with a key. -/
def Module.requestMode (m : Module) (key code : Nat) : Module := m.write32 R.SYS_MODE_REQ (key <<< 16 + code)

/-- MODE_REQ_INSPECT (R34). -/
def execModeReqInspect (s : State) := s.run (·.requestMode 0 2)

/-- MODE_REQ_HALT (R35). -/
def execModeReqHalt (s : State) := s.run (·.requestMode 0 3)

/-- MODE_REQ_DEPOT (R36). -/
def execModeReqDepot (s : State) := s.run (·.requestMode 0 4)

/-- MODE_REQ_SHUNT (R34), with its key. -/
def execModeReqShunt (s : State) := s.run (·.requestMode 0x3C96 5)

/-- MODE_REQ_DEPART (R34). -/
def execModeReqDepart (s : State) := s.run (·.requestMode 0 6)

/-- MODE_REQ_RUN (R34). -/
def execModeReqRun (s : State) := s.run (·.requestMode 0 7)

/-- MODE_REQ_INVALID (R67): any code, among them those outside the table of R34. -/
def execModeReqInvalid (code : BitVec 4) (s : State) := s.run (·.requestMode 0 code.toNat)

/-- SHUNT_GO (R33). -/
def execShuntGo (s : State) := s.run (·.setBitHost R.SYS_SHUNT F.SYS_SHUNT_GO)

/-- TTB_ARM (R94). -/
def execTtbArm (s : State) := s.run (·.setBitHost R.TTB_CTRL F.TTB_CTRL_ARM)

/-- TTB_CANCEL (R95). -/
def execTtbCancel (s : State) := s.run (·.setBitHost R.TTB_CTRL F.TTB_CTRL_CANCEL)

/-- LU_REQ_OPEN (R179). -/
def execLuReqOpen (u : Fin 96) (s : State) := s.run (·.write32 (R.LU_CTRL u) 1)

/-- LU_REQ_HELD (R179). -/
def execLuReqHeld (u : Fin 96) (s : State) := s.run (·.write32 (R.LU_CTRL u) 2)

/-- LU_REQ_CLOSED (R180). -/
def execLuReqClosed (u : Fin 96) (s : State) := s.run (·.write32 (R.LU_CTRL u) 3)

/-- LU_SNAP (R185). -/
def execLuSnap (u : Fin 96) (s : State) := s.run (·.setBitHost (R.LU_CTRL u) F.LU_CTRL_SNAP)

/-- CLK_STEP_CMD (R197). -/
def execClkStepCmd (s : State) := s.run (·.setBitHost R.CLK_CTRL F.CLK_CTRL_STEP)

/-- CLK_SET (R197). -/
def execClkSet (s : State) := s.run (·.setBitHost R.CLK_CTRL F.CLK_CTRL_SET)

/-- CLK_SNAP (R203). -/
def execClkSnap (s : State) := s.run (·.setBitHost R.CLK_CTRL F.CLK_CTRL_SNAP)

/-- PB_GPUB_SEND (R228): one bit. -/
def execPbGpubSend (k : Fin 32) (s : State) := s.run (·.setBitHost R.PB_GPUB_SEND ⟨k, k⟩)

/-- OWTEST (R244). -/
def execOwtest (s : State) := s.run (·.setBitHost R.AFE_CTRL F.AFE_CTRL_OWTEST)

/-- CMPTEST (R251). -/
def execCmptest (s : State) := s.run (·.setBitHost R.AFE_CTRL F.AFE_CTRL_CMPTEST)

/-- PWM_FL_HOST (R273). -/
def execPwmFlHost (v : BitVec 32) (s : State) := s.run (·.write32 R.PWM_FL_HOST v.toNat)

/-- FL_LATCH_CLEAR (R273). -/
def execFlLatchClear (l : Fin 32) (s : State) := s.run (·.write32 (R.PWM_FL_STAT l) 2)

/-- CAP_ARM (R280). -/
def execCapArm (u : Fin 16) (s : State) := s.run (·.setBitHost (R.CAP_CTRL u) F.CAP_CTRL_ARM)

/-- GD_CLEAR (R296): one bit. -/
def execGdClear (ch : Fin 24) (s : State) := s.run (·.setBitHost R.GD_CLEAR ⟨ch, ch⟩)

/-- LN_TRAIN (R402). -/
def execLnTrain (p : Fin 16) (s : State) := s.run (·.setBitHost (R.LN_PORT_CTRL p) F.LN_PORT_CTRL_TRAIN)

/-- LN_HOST_REQUEST (R415). -/
def execLnHostRequest (p : Fin 16) (wr : Bool) (point : BitVec 8) (pos : Fin 512) (s : State) :=
  s.run (·.write32 (R.LN_HREQ p) (1 <<< 31 + (if wr then 1 <<< 30 else 0) + point.toNat <<< 16 + pos.val))

/-- MTR_SNAP (R427). -/
def execMtrSnap (n : Fin 4) (s : State) := s.run (·.write32 (R.MTR_MP_CTRL n) 1)

/-- MTR_CLR (R427), with the key written. -/
def execMtrClr (n : Fin 4) (key : BitVec 16) (s : State) :=
  s.run (·.write32 (R.MTR_MP_CTRL n) (key.toNat <<< 16 + 2))

/-- FLT_CLEAR (R497). -/
def execFltClear (src : BitVec 8) (s : State) := s.run (·.write32 R.FLT_CTRL (1 <<< 31 + src.toNat))

/-- FLT_CLRALL (R497). -/
def execFltClrall (s : State) := s.run (·.setBitHost R.FLT_CTRL F.FLT_CTRL_CLRALL)

/-- FLT_CLRCNT (R500). -/
def execFltClrcnt (s : State) := s.run (·.setBitHost R.FLT_CTRL F.FLT_CTRL_CLRCNT)

/-- SID_SUB (R504). -/
def execSidSub (unit : BitVec 8) (s : State) := s.run (·.write32 R.SID_CTRL (1 <<< 31 + unit.toNat))

/-- SID_ABORT (R507). -/
def execSidAbort (s : State) := s.run (·.setBitHost R.SID_CTRL F.SID_CTRL_ABORT)

/-- A command written to NVM_CMD (R509). -/
def Module.nvmCommand (m : Module) (cmd : Nat) (bank : Bool) (addr : Nat) : Module :=
  m.write32 R.NVM_CMD (1 <<< 31 + cmd <<< 24 + (if bank then 1 <<< 20 else 0) + addr)

/-- NVM_ERASE (R509). -/
def execNvmErase (bank : Bool) (sector : BitVec 17) (s : State) := s.run (·.nvmCommand 1 bank sector.toNat)

/-- NVM_PROGRAM (R509). -/
def execNvmProgram (bank : Bool) (page : BitVec 17) (s : State) := s.run (·.nvmCommand 2 bank page.toNat)

/-- NVM_CHECK (R509). -/
def execNvmCheck (bank : Bool) (s : State) := s.run (·.nvmCommand 3 bank 0)

/-- NVM_ACTIVATE (R509). -/
def execNvmActivate (bank : Bool) (s : State) := s.run (·.nvmCommand 4 bank 0)

/-- NVM_ENROL (R511). -/
def execNvmEnrol (slot : Fin 4) (s : State) := s.run (·.nvmCommand 5 false slot.val)

/-- NVM_REVOKE (R511). -/
def execNvmRevoke (slot : Fin 4) (s : State) := s.run (·.nvmCommand 6 false slot.val)

end Sys2Proof.Machine
end

