-- ==== Sys2Proof/Machine/Dispatch.lean ====
section
/-! DEFINITION. Dispatch.lean: one arm per command, each a direct call of that command's meaning. -/

namespace Sys2Proof.Machine

def exec (i : Instr) (s : State) : Host.Outcome State Fault Refusal :=
  match i with
  | .vmainValid => Sys2Proof.Machine.execVmainValid s
  | .vmainInvalid => Sys2Proof.Machine.execVmainInvalid s
  | .seatedClosed => Sys2Proof.Machine.execSeatedClosed s
  | .seatedOpen => Sys2Proof.Machine.execSeatedOpen s
  | .removalDeclared => Sys2Proof.Machine.execRemovalDeclared s
  | .holdupCommitDone cut => Sys2Proof.Machine.execHoldupCommitDone s cut
  | .inspectStart => Sys2Proof.Machine.execInspectStart s
  | .inspectEnd failures notes alive => Sys2Proof.Machine.execInspectEnd failures notes alive s
  | .frameBoundary peer mismatch => Sys2Proof.Machine.execFrameBoundary peer mismatch s
  | .haltEnter cause inc => Sys2Proof.Machine.execHaltEnter cause inc s
  | .stopTExpiry => Sys2Proof.Machine.execStopTExpiry s
  | .departTimeout => Sys2Proof.Machine.execDepartTimeout s
  | .modeReqInspect => Sys2Proof.Machine.execModeReqInspect s
  | .modeReqHalt => Sys2Proof.Machine.execModeReqHalt s
  | .modeReqDepot => Sys2Proof.Machine.execModeReqDepot s
  | .modeReqShunt => Sys2Proof.Machine.execModeReqShunt s
  | .modeReqDepart => Sys2Proof.Machine.execModeReqDepart s
  | .modeReqRun => Sys2Proof.Machine.execModeReqRun s
  | .shuntGo => Sys2Proof.Machine.execShuntGo s
  | .shuntStepEnd g => Sys2Proof.Machine.execShuntStepEnd g s
  | .registerWrite k addr v race => Sys2Proof.Machine.execRegisterWrite k addr v s race
  | .aliasSetWrite k addr v => Sys2Proof.Machine.execAliasSetWrite k addr v s
  | .aliasClearWrite k addr v => Sys2Proof.Machine.execAliasClearWrite k addr v s
  | .aliasToggleWrite k addr v => Sys2Proof.Machine.execAliasToggleWrite k addr v s
  | .lowWordRead addr => Sys2Proof.Machine.execLowWordRead addr s
  | .highWordRead addr => Sys2Proof.Machine.execHighWordRead addr s
  | .sysModeRead => Sys2Proof.Machine.execSysModeRead s
  | .hostIrqEnWrite v => Sys2Proof.Machine.execHostIrqEnWrite v s
  | .hostAccessComplete a => Sys2Proof.Machine.execHostAccessComplete a s
  | .bar2Read k off bad => Sys2Proof.Machine.execBar2Read k off bad s
  | .bar2Write k off v => Sys2Proof.Machine.execBar2Write k off v s
  | .bar2AccessComplete => Sys2Proof.Machine.execBar2AccessComplete s
  | .budgetPeriodStart b => Sys2Proof.Machine.execBudgetPeriodStart b s
  | .pcieReset => Sys2Proof.Machine.execPcieReset s
  | .spiRead32 addr crc cmd => Sys2Proof.Machine.execSpiRead32 addr crc s cmd
  | .spiRead64 addr crc => Sys2Proof.Machine.execSpiRead64 addr crc s
  | .spiWrite32 addr v crc => Sys2Proof.Machine.execSpiWrite32 addr v crc s
  | .spiWrite64 addr v crc => Sys2Proof.Machine.execSpiWrite64 addr v crc s
  | .spiStatus => Sys2Proof.Machine.execSpiStatus s
  | .uartReadSys32 arg crc cmd => Sys2Proof.Machine.execUartReadSys32 arg crc s cmd
  | .uartReadSys64 arg crc => Sys2Proof.Machine.execUartReadSys64 arg crc s
  | .uartReadIncident arg crc => Sys2Proof.Machine.execUartReadIncident arg crc s
  | .voteScrub e => Sys2Proof.Machine.execVoteScrub e s
  | .configSave b => Sys2Proof.Machine.execConfigSave b s
  | .ttbArm => Sys2Proof.Machine.execTtbArm s
  | .admissionDone regions => Sys2Proof.Machine.execAdmissionDone regions s
  | .ttbCancel => Sys2Proof.Machine.execTtbCancel s
  | .blockStart le entry lib => Sys2Proof.Machine.execBlockStart le entry lib s
  | .blockEnd le => Sys2Proof.Machine.execBlockEnd le s
  | .commitDrainComplete le => Sys2Proof.Machine.execCommitDrainComplete le s
  | .coreSilence => Sys2Proof.Machine.execCoreSilence s
  | .coreAnswersAgain => Sys2Proof.Machine.execCoreAnswersAgain s
  | .gaugeReading p r => Sys2Proof.Machine.execGaugeReading p r s
  | .imLineRewrite le line => Sys2Proof.Machine.execImLineRewrite le line s
  | .rowRetireCopyDone => Sys2Proof.Machine.execRowRetireCopyDone s
  | .nop x => Sys2Proof.Machine.execNop x s
  | .add x d a b => Sys2Proof.Machine.execAdd x d a b s
  | .sub x d a b => Sys2Proof.Machine.execSub x d a b s
  | .and x d a b => Sys2Proof.Machine.execAnd x d a b s
  | .or x d a b => Sys2Proof.Machine.execOr x d a b s
  | .xor x d a b => Sys2Proof.Machine.execXor x d a b s
  | .andn x d a b => Sys2Proof.Machine.execAndn x d a b s
  | .shl x d a b => Sys2Proof.Machine.execShl x d a b s
  | .shr x d a b => Sys2Proof.Machine.execShr x d a b s
  | .sar x d a b => Sys2Proof.Machine.execSar x d a b s
  | .adds x d a b => Sys2Proof.Machine.execAdds x d a b s
  | .subs x d a b => Sys2Proof.Machine.execSubs x d a b s
  | .min x d a b => Sys2Proof.Machine.execMin x d a b s
  | .max x d a b => Sys2Proof.Machine.execMax x d a b s
  | .minu x d a b => Sys2Proof.Machine.execMinu x d a b s
  | .maxu x d a b => Sys2Proof.Machine.execMaxu x d a b s
  | .abs x d a => Sys2Proof.Machine.execAbs x d a s
  | .mul x d a b => Sys2Proof.Machine.execMul x d a b s
  | .mulh x d a b => Sys2Proof.Machine.execMulh x d a b s
  | .mulhu x d a b => Sys2Proof.Machine.execMulhu x d a b s
  | .div x d a b => Sys2Proof.Machine.execDiv x d a b s
  | .divu x d a b => Sys2Proof.Machine.execDivu x d a b s
  | .rem x d a b => Sys2Proof.Machine.execRem x d a b s
  | .remu x d a b => Sys2Proof.Machine.execRemu x d a b s
  | .clz x d a => Sys2Proof.Machine.execClz x d a s
  | .sel x d a b c => Sys2Proof.Machine.execSel x d a b c s
  | .addi x d a imm => Sys2Proof.Machine.execAddi x d a imm s
  | .andi x d a imm => Sys2Proof.Machine.execAndi x d a imm s
  | .ori x d a imm => Sys2Proof.Machine.execOri x d a imm s
  | .xori x d a imm => Sys2Proof.Machine.execXori x d a imm s
  | .shli x d a imm => Sys2Proof.Machine.execShli x d a imm s
  | .shri x d a imm => Sys2Proof.Machine.execShri x d a imm s
  | .sari x d a imm => Sys2Proof.Machine.execSari x d a imm s
  | .lui x d imm => Sys2Proof.Machine.execLui x d imm s
  | .muli x d a imm => Sys2Proof.Machine.execMuli x d a imm s
  | .liG x d imm => Sys2Proof.Machine.execLiG x d imm s
  | .addi32 x d a imm => Sys2Proof.Machine.execAddi32 x d a imm s
  | .cmp x cd cc a b => Sys2Proof.Machine.execCmp x cd cc a b s
  | .cmpi x cd cc a imm => Sys2Proof.Machine.execCmpi x cd cc a imm s
  | .fcmp x cd cc a b => Sys2Proof.Machine.execFcmp x cd cc a b s
  | .flagAnd x cd ca cb => Sys2Proof.Machine.execFlagAnd x cd ca cb s
  | .flagOr x cd ca cb => Sys2Proof.Machine.execFlagOr x cd ca cb s
  | .flagXor x cd ca cb => Sys2Proof.Machine.execFlagXor x cd ca cb s
  | .flagAndn x cd ca cb => Sys2Proof.Machine.execFlagAndn x cd ca cb s
  | .flagCopy x cd ca => Sys2Proof.Machine.execFlagCopy x cd ca s
  | .flagNot x cd ca => Sys2Proof.Machine.execFlagNot x cd ca s
  | .fadd x d a b => Sys2Proof.Machine.execFadd x d a b s
  | .fsub x d a b => Sys2Proof.Machine.execFsub x d a b s
  | .fmul x d a b => Sys2Proof.Machine.execFmul x d a b s
  | .fdiv x d a b => Sys2Proof.Machine.execFdiv x d a b s
  | .fsqrt x d a => Sys2Proof.Machine.execFsqrt x d a s
  | .fma x d a b c => Sys2Proof.Machine.execFma x d a b c s
  | .fms x d a b c => Sys2Proof.Machine.execFms x d a b c s
  | .fnma x d a b c => Sys2Proof.Machine.execFnma x d a b c s
  | .fmin x d a b => Sys2Proof.Machine.execFmin x d a b s
  | .fmax x d a b => Sys2Proof.Machine.execFmax x d a b s
  | .fabs x d a => Sys2Proof.Machine.execFabs x d a s
  | .fneg x d a => Sys2Proof.Machine.execFneg x d a s
  | .fclamp x d a b c => Sys2Proof.Machine.execFclamp x d a b c s
  | .fsel x d a b c => Sys2Proof.Machine.execFsel x d a b c s
  | .fcvtSW x d a => Sys2Proof.Machine.execFcvtSW x d a s
  | .fcvtSWu x d a => Sys2Proof.Machine.execFcvtSWu x d a s
  | .fcvtWS x d a => Sys2Proof.Machine.execFcvtWS x d a s
  | .fmvFG x d a => Sys2Proof.Machine.execFmvFG x d a s
  | .fmvGF x d a => Sys2Proof.Machine.execFmvGF x d a s
  | .fxs x d => Sys2Proof.Machine.execFxs x d s
  | .liF x d imm => Sys2Proof.Machine.execLiF x d imm s
  | .ld x d a imm => Sys2Proof.Machine.execLd x d a imm s
  | .ldf x d a imm => Sys2Proof.Machine.execLdf x d a imm s
  | .st x d a imm => Sys2Proof.Machine.execSt x d a imm s
  | .stf x d a imm => Sys2Proof.Machine.execStf x d a imm s
  | .ldy x d a imm => Sys2Proof.Machine.execLdy x d a imm s
  | .ldyf x d a imm => Sys2Proof.Machine.execLdyf x d a imm s
  | .sty x d a imm => Sys2Proof.Machine.execSty x d a imm s
  | .styf x d a imm => Sys2Proof.Machine.execStyf x d a imm s
  | .ldt x d a tbl word => Sys2Proof.Machine.execLdt x d a tbl word s
  | .ldtf x d a tbl word => Sys2Proof.Machine.execLdtf x d a tbl word s
  | .stt x d a tbl word => Sys2Proof.Machine.execStt x d a tbl word s
  | .sttf x d a tbl word => Sys2Proof.Machine.execSttf x d a tbl word s
  | .ldyb x d a nm1 => Sys2Proof.Machine.execLdyb x d a nm1 s
  | .styb x d a nm1 => Sys2Proof.Machine.execStyb x d a nm1 s
  | .ldyAbs x d imm => Sys2Proof.Machine.execLdyAbs x d imm s
  | .ldyfAbs x d imm => Sys2Proof.Machine.execLdyfAbs x d imm s
  | .styAbs x d imm => Sys2Proof.Machine.execStyAbs x d imm s
  | .styfAbs x d imm => Sys2Proof.Machine.execStyfAbs x d imm s
  | .bt x c off => Sys2Proof.Machine.execBt x c off s
  | .bf x c off => Sys2Proof.Machine.execBf x c off s
  | .rep x len count => Sys2Proof.Machine.execRep x len count s
  | .brk x sense c => Sys2Proof.Machine.execBrk x sense c s
  | .call x tgt => Sys2Proof.Machine.execCall x tgt s
  | .ret x => Sys2Proof.Machine.execRet x s
  | .sw x a nm1 => Sys2Proof.Machine.execSw x a nm1 s
  | .loopStep x d a b u => Sys2Proof.Machine.execLoopStep x d a b u s
  | .loopStepDiff x d a b u => Sys2Proof.Machine.execLoopStepDiff x d a b u s
  | .loopTrack x d a b u => Sys2Proof.Machine.execLoopTrack x d a b u s
  | .loopPeek x d u => Sys2Proof.Machine.execLoopPeek x d u s
  | .loopStatus x d u => Sys2Proof.Machine.execLoopStatus x d u s
  | .xfmClarke x d a b u => Sys2Proof.Machine.execXfmClarke x d a b u s
  | .xfmIclarke x d a b u => Sys2Proof.Machine.execXfmIclarke x d a b u s
  | .xfmPark x d a b u => Sys2Proof.Machine.execXfmPark x d a b u s
  | .xfmIpark x d a b u => Sys2Proof.Machine.execXfmIpark x d a b u s
  | .xfmAbc2dq x d a b u => Sys2Proof.Machine.execXfmAbc2dq x d a b u s
  | .xfmDq2abc x d a b u => Sys2Proof.Machine.execXfmDq2abc x d a b u s
  | .xfmSincos x d a b u => Sys2Proof.Machine.execXfmSincos x d a b u s
  | .xfmAtan2 x d a b u => Sys2Proof.Machine.execXfmAtan2 x d a b u s
  | .xfmSeq x d a b u => Sys2Proof.Machine.execXfmSeq x d a b u s
  | .xfmWrap x d a b u => Sys2Proof.Machine.execXfmWrap x d a b u s
  | .selSelection x d a b n => Sys2Proof.Machine.execSelSelection x d a b n s
  | .pwst x grp frac a inst field => Sys2Proof.Machine.execPwst x grp frac a inst field s
  | .svrdNearest x d a q stream chan => Sys2Proof.Machine.execSvrdNearest x d a q stream chan s
  | .svrdInterp x d a q stream chan => Sys2Proof.Machine.execSvrdInterp x d a q stream chan s
  | .lnxCmd x a b port => Sys2Proof.Machine.execLnxCmd x a b port s
  | .lnxResp x d a port => Sys2Proof.Machine.execLnxResp x d a port s
  | .lnxRstat x d a port => Sys2Proof.Machine.execLnxRstat x d a port s
  | .lnxApply x b port => Sys2Proof.Machine.execLnxApply x b port s
  | .lnxArm x a b port => Sys2Proof.Machine.execLnxArm x a b port s
  | .lnxSlow x a b port => Sys2Proof.Machine.execLnxSlow x a b port s
  | .macc x mp a b => Sys2Proof.Machine.execMacc x mp a b s
  | .evtFault x code a => Sys2Proof.Machine.execEvtFault x code a s
  | .evtReady x a => Sys2Proof.Machine.execEvtReady x a s
  | .evtStopped x a => Sys2Proof.Machine.execEvtStopped x a s
  | .hpost x mbx a b => Sys2Proof.Machine.execHpost x mbx a b s
  | .cmt x => Sys2Proof.Machine.execCmt x s
  | .waitDelay x d n w => Sys2Proof.Machine.execWaitDelay x d n w s
  | .waitAdc x d n w => Sys2Proof.Machine.execWaitAdc x d n w s
  | .waitArmCapture x d n w => Sys2Proof.Machine.execWaitArmCapture x d n w s
  | .waitCapture x d n w => Sys2Proof.Machine.execWaitCapture x d n w s
  | .waitReload x d n w => Sys2Proof.Machine.execWaitReload x d n w s
  | .waitComparator x d n w => Sys2Proof.Machine.execWaitComparator x d n w s
  | .waitRingCycle x d n w => Sys2Proof.Machine.execWaitRingCycle x d n w s
  | .waitRelease le => Sys2Proof.Machine.execWaitRelease le s
  | .luReqOpen u => Sys2Proof.Machine.execLuReqOpen u s
  | .luReqHeld u => Sys2Proof.Machine.execLuReqHeld u s
  | .luReqClosed u => Sys2Proof.Machine.execLuReqClosed u s
  | .luSnap u => Sys2Proof.Machine.execLuSnap u s
  | .lockDeclared run => Sys2Proof.Machine.execLockDeclared run s
  | .lossOfLock run => Sys2Proof.Machine.execLossOfLock run s
  | .lossOfReference l => Sys2Proof.Machine.execLossOfReference l s
  | .referenceReturn => Sys2Proof.Machine.execReferenceReturn s
  | .frequencyReacquired run => Sys2Proof.Machine.execFrequencyReacquired run s
  | .dividerApply edges => Sys2Proof.Machine.execDividerApply s edges
  | .ptpSync port f => Sys2Proof.Machine.execPtpSync port f s
  | .ppsPulse => Sys2Proof.Machine.execPpsPulse s
  | .ptpAnnounce port a => Sys2Proof.Machine.execPtpAnnounce port a s
  | .pdelayExchange port delay => Sys2Proof.Machine.execPdelayExchange port delay s
  | .clkStepCmd => Sys2Proof.Machine.execClkStepCmd s
  | .clkSet => Sys2Proof.Machine.execClkSet s
  | .clkSnap => Sys2Proof.Machine.execClkSnap s
  | .svFrameReceived p f => Sys2Proof.Machine.execSvFrameReceived p f s
  | .svSlotTimeout n => Sys2Proof.Machine.execSvSlotTimeout n s
  | .svPublicationSend k => Sys2Proof.Machine.execSvPublicationSend k s
  | .gooseFrameReceived p f => Sys2Proof.Machine.execGooseFrameReceived p f s
  | .gooseTalExpiry n => Sys2Proof.Machine.execGooseTalExpiry n s
  | .gooseRetransmit k => Sys2Proof.Machine.execGooseRetransmit k s
  | .pbGpubSend k => Sys2Proof.Machine.execPbGpubSend k s
  | .supervisionFrameSend p => Sys2Proof.Machine.execSupervisionFrameSend p s
  | .lanSupervisionTimeout p => Sys2Proof.Machine.execLanSupervisionTimeout p s
  | .pbLinkDown p => Sys2Proof.Machine.execPbLinkDown p s
  | .triggerFire t => Sys2Proof.Machine.execTriggerFire t s
  | .sequenceComplete c codes => Sys2Proof.Machine.execSequenceComplete c codes s
  | .driftCheck core dev => Sys2Proof.Machine.execDriftCheck core dev s
  | .owtest => Sys2Proof.Machine.execOwtest s
  | .openWireDone readings => Sys2Proof.Machine.execOpenWireDone readings s
  | .cmptest => Sys2Proof.Machine.execCmptest s
  | .cmpTestDone offsets => Sys2Proof.Machine.execCmpTestDone offsets s
  | .comparatorCrossing n pn => Sys2Proof.Machine.execComparatorCrossing n pn s
  | .pwmReload g => Sys2Proof.Machine.execPwmReload g s
  | .faultLineRequest l r => Sys2Proof.Machine.execFaultLineRequest l r s
  | .faultLineRelease l r => Sys2Proof.Machine.execFaultLineRelease l r s
  | .generatorResume g => Sys2Proof.Machine.execGeneratorResume g s
  | .pwmFlHost v => Sys2Proof.Machine.execPwmFlHost v s
  | .flLatchClear l => Sys2Proof.Machine.execFlLatchClear l s
  | .captureEdge u rising => Sys2Proof.Machine.execCaptureEdge u rising s
  | .capArm u => Sys2Proof.Machine.execCapArm u s
  | .gateCommandRise ch => Sys2Proof.Machine.execGateCommandRise ch s
  | .bothOffWindowEnd hb => Sys2Proof.Machine.execBothOffWindowEnd hb s
  | .desatDetect d => Sys2Proof.Machine.execDesatDetect d s
  | .didtDetect d => Sys2Proof.Machine.execDidtDetect d s
  | .supplyCheckFail ch c => Sys2Proof.Machine.execSupplyCheckFail ch c s
  | .supplyCheckPass ch c => Sys2Proof.Machine.execSupplyCheckPass ch c s
  | .softTurnoffDone ch => Sys2Proof.Machine.execSoftTurnoffDone ch s
  | .gdClear ch => Sys2Proof.Machine.execGdClear ch s
  | .gateLinkLoss die => Sys2Proof.Machine.execGateLinkLoss die s
  | .gateLinkReturn die => Sys2Proof.Machine.execGateLinkReturn die s
  | .canVcmdReceived c port data => Sys2Proof.Machine.execCanVcmdReceived c port data s
  | .canBmsReceived c port data => Sys2Proof.Machine.execCanBmsReceived c port data s
  | .canAckSend c port => Sys2Proof.Machine.execCanAckSend c port s
  | .canStatusSend c port => Sys2Proof.Machine.execCanStatusSend c port s
  | .canFaultSend c port => Sys2Proof.Machine.execCanFaultSend c port s
  | .canBusOff c => Sys2Proof.Machine.execCanBusOff c s
  | .canBusoffRecovery c => Sys2Proof.Machine.execCanBusoffRecovery c s
  | .ringCycleStart p => Sys2Proof.Machine.execRingCycleStart p s
  | .cycleComplete p fa fb => Sys2Proof.Machine.execCycleComplete p fa fb s
  | .slowFrameReturn p origin f => Sys2Proof.Machine.execSlowFrameReturn p origin f s
  | .lnTrain p => Sys2Proof.Machine.execLnTrain p s
  | .trainingComplete p r => Sys2Proof.Machine.execTrainingComplete p r s
  | .trainingStepTimeout p => Sys2Proof.Machine.execTrainingStepTimeout p s
  | .lnHostRequest p wr point pos => Sys2Proof.Machine.execLnHostRequest p wr point pos s
  | .demandIntervalEnd n => Sys2Proof.Machine.execDemandIntervalEnd n s
  | .meterMramCommit => Sys2Proof.Machine.execMeterMramCommit s
  | .mtrSnap n => Sys2Proof.Machine.execMtrSnap n s
  | .mtrClr n key => Sys2Proof.Machine.execMtrClr n key s
  | .pulseOutputStart n => Sys2Proof.Machine.execPulseOutputStart n s
  | .pulseInputAccept n r => Sys2Proof.Machine.execPulseInputAccept n r s
  | .safeInputChange n b level => Sys2Proof.Machine.execSafeInputChange n b level s
  | .discrepancyTimeout n => Sys2Proof.Machine.execDiscrepancyTimeout n s
  | .testPulseCheck t low => Sys2Proof.Machine.execTestPulseCheck t low s
  | .fbReset k => Sys2Proof.Machine.execFbReset k s
  | .stop1DelayEnd k => Sys2Proof.Machine.execStop1DelayEnd k s
  | .mutingTimeout k => Sys2Proof.Machine.execMutingTimeout k s
  | .offDelayEnd j => Sys2Proof.Machine.execOffDelayEnd j s
  | .edmTimeout j => Sys2Proof.Machine.execEdmTimeout j s
  | .darkPulseTest failed => Sys2Proof.Machine.execDarkPulseTest failed s
  | .channelCompare agree selfTest => Sys2Proof.Machine.execChannelCompare agree selfTest s
  | .stopSignal active => Sys2Proof.Machine.execStopSignal active s
  | .tokenProduce c => Sys2Proof.Machine.execTokenProduce c s
  | .tokenFrameReceived c frame => Sys2Proof.Machine.execTokenFrameReceived c frame s
  | .tokenWatchdog c => Sys2Proof.Machine.execTokenWatchdog c s
  | .tokenHostSlotRead => Sys2Proof.Machine.execTokenHostSlotRead s
  | .safeRequestFetch => Sys2Proof.Machine.execSafeRequestFetch s
  | .safeCheck => Sys2Proof.Machine.execSafeCheck s
  | .safeApply => Sys2Proof.Machine.execSafeApply s
  | .applyLogConfirmed => Sys2Proof.Machine.execApplyLogConfirmed s
  | .safeSetpw => Sys2Proof.Machine.execSafeSetpw s
  | .safeUnknownCommand => Sys2Proof.Machine.execSafeUnknownCommand s
  | .editLockExpiry => Sys2Proof.Machine.execEditLockExpiry s
  | .safeMirrorRefresh => Sys2Proof.Machine.execSafeMirrorRefresh s
  | .keeperColdStart => Sys2Proof.Machine.execKeeperColdStart s
  | .kstReading mv => Sys2Proof.Machine.execKstReading mv s
  | .lampPowerOff => Sys2Proof.Machine.execLampPowerOff s
  | .burstDecide mv => Sys2Proof.Machine.execBurstDecide mv s
  | .burstDurationEnd => Sys2Proof.Machine.execBurstDurationEnd s
  | .lampPing q => Sys2Proof.Machine.execLampPing q s
  | .lampBurstReq q cls energy dur => Sys2Proof.Machine.execLampBurstReq q cls energy dur s
  | .lampDone q => Sys2Proof.Machine.execLampDone q s
  | .lampReadTamp q index => Sys2Proof.Machine.execLampReadTamp q index s
  | .statusReportSend => Sys2Proof.Machine.execStatusReportSend s
  | .wakeTimer => Sys2Proof.Machine.execWakeTimer s
  | .tamperInputAccept e => Sys2Proof.Machine.execTamperInputAccept e s
  | .keeperRecordWrite => Sys2Proof.Machine.execKeeperRecordWrite s
  | .rtcWrite => Sys2Proof.Machine.execRtcWrite s
  | .darknessSequence => Sys2Proof.Machine.execDarknessSequence s
  | .faultReport => Sys2Proof.Machine.execFaultReport s
  | .quietExpiry src => Sys2Proof.Machine.execQuietExpiry src s
  | .gdRecoveryEnd ch => Sys2Proof.Machine.execGdRecoveryEnd ch s
  | .fltClear src => Sys2Proof.Machine.execFltClear src s
  | .fltClrall => Sys2Proof.Machine.execFltClrall s
  | .fltClrcnt => Sys2Proof.Machine.execFltClrcnt s
  | .occurrenceRecordWrite => Sys2Proof.Machine.execOccurrenceRecordWrite s
  | .sidSub unit => Sys2Proof.Machine.execSidSub unit s
  | .sidAbort => Sys2Proof.Machine.execSidAbort s
  | .substitutionCopyDone => Sys2Proof.Machine.execSubstitutionCopyDone s
  | .generatorLoopbackCheck bad => Sys2Proof.Machine.execGeneratorLoopbackCheck bad s
  | .nvmErase bank sector => Sys2Proof.Machine.execNvmErase bank sector s
  | .nvmProgram bank page => Sys2Proof.Machine.execNvmProgram bank page s
  | .nvmCheck bank => Sys2Proof.Machine.execNvmCheck bank s
  | .nvmActivate bank => Sys2Proof.Machine.execNvmActivate bank s
  | .nvmEnrol slot => Sys2Proof.Machine.execNvmEnrol slot s
  | .nvmRevoke slot => Sys2Proof.Machine.execNvmRevoke slot s
  | .nvmCommandDone readBack => Sys2Proof.Machine.execNvmCommandDone readBack s
  | .snapshotSend => Sys2Proof.Machine.execSnapshotSend s
  | .snapshotReceived snap => Sys2Proof.Machine.execSnapshotReceived snap s
  | .haltNoticeReceived cause => Sys2Proof.Machine.execHaltNoticeReceived cause s
  | .headingLaneLoss lane => Sys2Proof.Machine.execHeadingLaneLoss lane s
  | .jtagInstruction t => Sys2Proof.Machine.execJtagInstruction t s
  | .gateCommandFall ch => Sys2Proof.Machine.execGateCommandFall ch s
  | .edmInputChange j high => Sys2Proof.Machine.execEdmInputChange j high s
  | .switchReadbackFail j => Sys2Proof.Machine.execSwitchReadbackFail j s
  | .interlockingSupplyLoss => Sys2Proof.Machine.execInterlockingSupplyLoss s
  | .applyLogTimeout => Sys2Proof.Machine.execApplyLogTimeout s
  | .hlActInChange active => Sys2Proof.Machine.execHlActInChange active s
  | .pbLinkUp p => Sys2Proof.Machine.execPbLinkUp p s
  | .pcieLinkUp link => Sys2Proof.Machine.execPcieLinkUp link s
  | .pdelayReqReceived port => Sys2Proof.Machine.execPdelayReqReceived port s
  | .pbFrameDiscard p f => Sys2Proof.Machine.execPbFrameDiscard p f s
  | .canFrameDiscard c => Sys2Proof.Machine.execCanFrameDiscard c s
  | .modeReqInvalid code => Sys2Proof.Machine.execModeReqInvalid code s
  | .afeReferenceSettled => Sys2Proof.Machine.execAfeReferenceSettled s

end Sys2Proof.Machine
end

