-- ==== Sys2Proof/Machine/Step.lean ====
section
/-! DEFINITION. Step.lean: one step takes the command at the front of the queue; with none waiting, time passes. -/

namespace Sys2Proof.Machine

/-- One step: the oldest command waiting is carried out on the state with the rest of the queue; on an empty queue a
tick of 2 ns passes, or without ticks a crystal mark of 40 ns (DESIGN CHOICE, log 2). -/
def step (s : State) : Host.Outcome State Fault Refusal :=
  match s.pending with
  | [] => s.run Module.tick
  | c :: rest => exec c { s with pending := rest }

/-- The state with the command that a word spells put at the front of its queue. No row of the opcode table has bits, so
no word spells one, and the state stands as it is. -/
def State.withFetchWord (s : State) (nbits w : Nat) : State :=
  match decodeTableWord nbits w with
  | some c => { s with pending := c :: s.pending }
  | none => s

end Sys2Proof.Machine
end

