-- ==== Sys2Proof/Safety.lean ====
section
/-! DEFINITION. Safety.lean: what counts as a safe state of the module, in the terms that statements use: the stores keep
their canonical form; and when an instruction issues. -/

namespace Sys2Proof.Machine

/-- The memories and the register store are in canonical form: keys strictly rising, nothing listed that an unlisted key
reads as. -/
def Module.canonical (m : Module) : Bool := SMap.wf memReset m.mem && SMap.wf regReset m.regs

/-- A command is answered: with a next state, whose queue is the one the command found. -/
def Answers (c : Instr) (s : State) : Prop := ∃ m, exec c s = .next ⟨m, s.pending⟩

/-- A command is answered with a next state whose module satisfies `P`; the queue is the one the command found. -/
def Leads (c : Instr) (s : State) (P : Module → Prop) : Prop := ∃ m, exec c s = .next ⟨m, s.pending⟩ ∧ P m

/-- Between two modules one report has been sent to the collector, the newest: of source `src` for owner `o`, stamped with
the present instant; its information word is left open. -/
def Raised (m m' : Module) (src : Nat) (o : Owner) : Prop :=
  ∃ w, m'.reports = m.reports ++ [⟨src, w, o, m.now, m.todSec, m.todNs⟩]

/-- The engine and detection with which a Ranzor instruction issues; none for any other command. -/
def issueOf : Instr → Option Issue
  | .nop x => some x
  | .add x _ _ _ => some x
  | .sub x _ _ _ => some x
  | .and x _ _ _ => some x
  | .or x _ _ _ => some x
  | .xor x _ _ _ => some x
  | .andn x _ _ _ => some x
  | .shl x _ _ _ => some x
  | .shr x _ _ _ => some x
  | .sar x _ _ _ => some x
  | .adds x _ _ _ => some x
  | .subs x _ _ _ => some x
  | .min x _ _ _ => some x
  | .max x _ _ _ => some x
  | .minu x _ _ _ => some x
  | .maxu x _ _ _ => some x
  | .abs x _ _ => some x
  | .mul x _ _ _ => some x
  | .mulh x _ _ _ => some x
  | .mulhu x _ _ _ => some x
  | .div x _ _ _ => some x
  | .divu x _ _ _ => some x
  | .rem x _ _ _ => some x
  | .remu x _ _ _ => some x
  | .clz x _ _ => some x
  | .sel x _ _ _ _ => some x
  | .addi x _ _ _ => some x
  | .andi x _ _ _ => some x
  | .ori x _ _ _ => some x
  | .xori x _ _ _ => some x
  | .shli x _ _ _ => some x
  | .shri x _ _ _ => some x
  | .sari x _ _ _ => some x
  | .lui x _ _ => some x
  | .muli x _ _ _ => some x
  | .liG x _ _ => some x
  | .addi32 x _ _ _ => some x
  | .cmp x _ _ _ _ => some x
  | .cmpi x _ _ _ _ => some x
  | .fcmp x _ _ _ _ => some x
  | .flagAnd x _ _ _ => some x
  | .flagOr x _ _ _ => some x
  | .flagXor x _ _ _ => some x
  | .flagAndn x _ _ _ => some x
  | .flagCopy x _ _ => some x
  | .flagNot x _ _ => some x
  | .fadd x _ _ _ => some x
  | .fsub x _ _ _ => some x
  | .fmul x _ _ _ => some x
  | .fdiv x _ _ _ => some x
  | .fsqrt x _ _ => some x
  | .fma x _ _ _ _ => some x
  | .fms x _ _ _ _ => some x
  | .fnma x _ _ _ _ => some x
  | .fmin x _ _ _ => some x
  | .fmax x _ _ _ => some x
  | .fabs x _ _ => some x
  | .fneg x _ _ => some x
  | .fclamp x _ _ _ _ => some x
  | .fsel x _ _ _ _ => some x
  | .fcvtSW x _ _ => some x
  | .fcvtSWu x _ _ => some x
  | .fcvtWS x _ _ => some x
  | .fmvFG x _ _ => some x
  | .fmvGF x _ _ => some x
  | .fxs x _ => some x
  | .liF x _ _ => some x
  | .ld x _ _ _ => some x
  | .ldf x _ _ _ => some x
  | .st x _ _ _ => some x
  | .stf x _ _ _ => some x
  | .ldy x _ _ _ => some x
  | .ldyf x _ _ _ => some x
  | .sty x _ _ _ => some x
  | .styf x _ _ _ => some x
  | .ldt x _ _ _ _ => some x
  | .ldtf x _ _ _ _ => some x
  | .stt x _ _ _ _ => some x
  | .sttf x _ _ _ _ => some x
  | .ldyb x _ _ _ => some x
  | .styb x _ _ _ => some x
  | .ldyAbs x _ _ => some x
  | .ldyfAbs x _ _ => some x
  | .styAbs x _ _ => some x
  | .styfAbs x _ _ => some x
  | .bt x _ _ => some x
  | .bf x _ _ => some x
  | .rep x _ _ => some x
  | .brk x _ _ => some x
  | .call x _ => some x
  | .ret x => some x
  | .sw x _ _ => some x
  | .loopStep x _ _ _ _ => some x
  | .loopStepDiff x _ _ _ _ => some x
  | .loopTrack x _ _ _ _ => some x
  | .loopPeek x _ _ => some x
  | .loopStatus x _ _ => some x
  | .xfmClarke x _ _ _ _ => some x
  | .xfmIclarke x _ _ _ _ => some x
  | .xfmPark x _ _ _ _ => some x
  | .xfmIpark x _ _ _ _ => some x
  | .xfmAbc2dq x _ _ _ _ => some x
  | .xfmDq2abc x _ _ _ _ => some x
  | .xfmSincos x _ _ _ _ => some x
  | .xfmAtan2 x _ _ _ _ => some x
  | .xfmSeq x _ _ _ _ => some x
  | .xfmWrap x _ _ _ _ => some x
  | .selSelection x _ _ _ _ => some x
  | .pwst x _ _ _ _ _ => some x
  | .svrdNearest x _ _ _ _ _ => some x
  | .svrdInterp x _ _ _ _ _ => some x
  | .lnxCmd x _ _ _ => some x
  | .lnxResp x _ _ _ => some x
  | .lnxRstat x _ _ _ => some x
  | .lnxApply x _ _ => some x
  | .lnxArm x _ _ _ => some x
  | .lnxSlow x _ _ _ => some x
  | .macc x _ _ _ => some x
  | .evtFault x _ _ => some x
  | .evtReady x _ => some x
  | .evtStopped x _ => some x
  | .hpost x _ _ _ => some x
  | .cmt x => some x
  | .waitDelay x _ _ _ => some x
  | .waitAdc x _ _ _ => some x
  | .waitArmCapture x _ _ _ => some x
  | .waitCapture x _ _ _ => some x
  | .waitReload x _ _ _ => some x
  | .waitComparator x _ _ _ => some x
  | .waitRingCycle x _ _ _ => some x
  | _ => none

/-- An instruction issues without a stop on its engine (R73, R108, R116): a block runs there and waits for nothing, no
detector fires, its line of IM waits for no rewrite, and the fetch lies within the task's code. -/
structure Issues (m : Module) (x : Issue) (b : Blk) : Prop where
  isOpen : m.blk x.le = some b
  running : b.state = .running
  free : b.wait = none
  undetected : m.fetchDet x b = none
  inCode : b.pc < m.codeWords x.le b

/-- An instruction of `len` words issues without a stop, and the block goes on at word `pc` with the levels `reps` open:
those of R138 once the bodies that end behind the instruction have closed or begun again. -/
structure GoesOn (m : Module) (x : Issue) (len : Nat) (b : Blk) (pc : Nat) (reps : List Rep) : Prop where
  issues : Issues m x b
  goes : closeBody b.calls.length b.reps (b.pc + len) = some (pc, reps)

/-- A block finds the yard or table word at once (R106 to R108): it has staged it itself, or no block of another engine drains
it and its parity holds. -/
def Module.finds (m : Module) (e : Nat) (b : Blk) (a : Nat) : Prop :=
  b.staged a = true ∨ (m.drains e a = false ∧ a ∉ m.eng.failing)

/-- There is room to stage `n` words more (R106). -/
def Module.room (m : Module) (e : Nat) (b : Blk) (n : Nat) : Prop :=
  b.st.words.length + n ≤ 1024 ∧ m.drainCount e + b.st.words.length + n ≤ 2048

/-- From every state in which it issues, a command of `len` words changes the block's registers by `f` and its place in
the code, and nothing else of the module. -/
def RunsRegs (c : Instr) (x : Issue) (len : Nat) (f : RegFile → RegFile) : Prop :=
  ∀ s b pc reps, GoesOn s.mod x len b pc reps →
    exec c s = .next ⟨s.mod.setBlk x.le (some { b with regs := f b.regs, pc := pc, reps := reps }), s.pending⟩

/-- The same with the block changed by `f`, which may look at the module, where `ok` holds of the module and the block. -/
def RunsBlk (c : Instr) (x : Issue) (len : Nat) (ok : Module → Blk → Prop) (f : Module → Blk → Blk) : Prop :=
  ∀ s b pc reps, GoesOn s.mod x len b pc reps → ok s.mod b →
    exec c s = .next ⟨s.mod.setBlk x.le (some { f s.mod b with pc := pc, reps := reps }), s.pending⟩

end Sys2Proof.Machine
end

