-- ==== Sys2Proof/WellFormed.lean ====
section
/-! DEFINITION. WellFormed.lean: the operands that an event or an access of the manual can carry. The types of Syntax.lean
bound the numbers; here stand the bounds on lists and the codes that a manual's table leaves out. A step does not ask for
them: a command that is not well-formed is answered like any other. -/

namespace Sys2Proof

open Machine

/-- A fast frame names no position twice (R394). -/
def ringOk : Option RingFrame → Bool
  | none => true
  | some f => decide ((f.slots.map (·.1)).Nodup)

/-- An SV frame has an svID of up to 32 characters and 1 to 8 ASDUs, each of up to 24 channels (R210). -/
def svOk (f : SvFrame) : Bool :=
  decide (f.svid.length ≤ 32) && decide (1 ≤ f.asdus.length) && decide (f.asdus.length ≤ 8)
    && f.asdus.all (fun a => decide (a.data.length ≤ 192))

/-- The operands of a command are such as the manual's event or access carries. -/
def Instr.wellFormed : Instr → Bool
  | .admissionDone regions => decide (regions.length ≤ 64)
  | .sequenceComplete _ codes => decide (codes.length ≤ 16)
  | .openWireDone readings => decide ((readings.map (·.1)).Nodup)
  | .cmpTestDone offsets => decide ((offsets.map (·.1)).Nodup)
  | .canVcmdReceived _ _ data => decide (data.length ≤ 64)
  | .canBmsReceived _ _ data => decide (data.length ≤ 64)
  | .cycleComplete _ fa fb => ringOk fa && ringOk fb
  | .trainingComplete _ r => match r with
    | .failed code _ => decide (code.val ≠ 0 ∧ code.val ≠ 4)
    | .found cells _ => decide (cells.length ≤ 512)
  | .svFrameReceived _ f => svOk f
  | .tokenFrameReceived _ frame => decide (frame.length ≤ 128)
  | .testPulseCheck _ low => decide low.Nodup
  | .darkPulseTest failed => decide failed.Nodup
  | .generatorLoopbackCheck bad => decide bad.Nodup
  | .inspectEnd failures notes _ => failures.all (· != 0) && notes.all (· != 0)
  | .haltEnter cause _ => decide (3 ≤ cause.toNat ∧ cause.toNat ≤ 0x0A)
  | .voteScrub e => match e with
    | .strike _ => true
    | .pass written => decide written.Nodup
  | _ => true

end Sys2Proof
end

