-- ==== Sys2Proof/Certificates/Slice0/Obligations.lean ====
section
/-! DEFINITION. Obligations.lean: the statements for the provers, each over all states that meet its hypotheses. -/

open Sys2Proof Sys2Proof.Machine

/-- Integer arithmetic, division and immediate forms: Where one of these instructions issues, gD takes the result of R126, computed exactly over the integers and then reduced modulo 2^32 or saturated; the block goes on at the next word, and nothing else of the module changes. g0 reads 0 and discards writes. Where a division issues, gD takes the quotient or remainder of R126 and R127, with the results that the table of R127 gives for a divisor of 0 and for signed overflow; no operand stops it. Where an immediate instruction issues, gD takes the result of R126 with IMM sign-extended for addi and muli and zero-extended for andi, ori and xori; long forms go on two words further. (R122, R124, R126, R127, 06_ranzor_instructions.md) -/
def Obligations.IntegerArithmeticAndImmediates : Prop :=
  (
    (
      let sat (n : Int) : Word := BitVec.ofInt 32 (max (-2147483648) (min 2147483647 n))
      (∀ (r : RegFile) (v : Word), r.rg 0 = 0 ∧ r.setG 0 v = r)
      ∧ ∀ (x : Issue) (d a b : Fin 32),
        let two (c : Instr) (f : Word → Word → Word) : Prop :=
          RunsRegs c x 1 (fun r => r.setG d (f (r.rg a) (r.rg b)))
        two (.add x d a b) (fun p q => BitVec.ofNat 32 (p.toNat + q.toNat))
        ∧ two (.sub x d a b) (fun p q => BitVec.ofInt 32 ((p.toNat : Int) - q.toNat))
        ∧ two (.and x d a b) (fun p q => BitVec.ofBoolListLE ((List.range 32).map (fun i => p.getLsbD i && q.getLsbD i)))
        ∧ two (.or x d a b) (fun p q => BitVec.ofBoolListLE ((List.range 32).map (fun i => p.getLsbD i || q.getLsbD i)))
        ∧ two (.xor x d a b) (fun p q => BitVec.ofBoolListLE ((List.range 32).map (fun i => p.getLsbD i != q.getLsbD i)))
        ∧ two (.andn x d a b) (fun p q => BitVec.ofBoolListLE ((List.range 32).map (fun i => p.getLsbD i && !q.getLsbD i)))
        ∧ two (.shl x d a b) (fun p q => BitVec.ofNat 32 (p.toNat * 2 ^ (q.toNat % 32)))
        ∧ two (.shr x d a b) (fun p q => BitVec.ofNat 32 (p.toNat / 2 ^ (q.toNat % 32)))
        ∧ two (.sar x d a b) (fun p q => BitVec.ofInt 32 (p.toInt / 2 ^ (q.toNat % 32)))
        ∧ two (.adds x d a b) (fun p q => sat (p.toInt + q.toInt))
        ∧ two (.subs x d a b) (fun p q => sat (p.toInt - q.toInt))
        ∧ two (.min x d a b) (fun p q => BitVec.ofInt 32 (min p.toInt q.toInt))
        ∧ two (.max x d a b) (fun p q => BitVec.ofInt 32 (max p.toInt q.toInt))
        ∧ two (.minu x d a b) (fun p q => BitVec.ofNat 32 (min p.toNat q.toNat))
        ∧ two (.maxu x d a b) (fun p q => BitVec.ofNat 32 (max p.toNat q.toNat))
        ∧ two (.mul x d a b) (fun p q => BitVec.ofNat 32 (p.toNat * q.toNat))
        ∧ two (.mulh x d a b) (fun p q => BitVec.ofInt 32 (p.toInt * q.toInt / 4294967296))
        ∧ two (.mulhu x d a b) (fun p q => BitVec.ofNat 32 (p.toNat * q.toNat / 4294967296))
        ∧ RunsRegs (.abs x d a) x 1 (fun r => r.setG d (sat |(r.rg a).toInt|))
        ∧ RunsRegs (.clz x d a) x 1 (fun r => r.setG d (BitVec.ofNat 32
            ((List.range 32).takeWhile (fun i => !(r.rg a).getLsbD (31 - i))).length))
        ∧ (∀ c : Fin 8, RunsRegs (.sel x d a b c) x 1 (fun r => r.setG d (if r.rc c then r.rg a else r.rg b)))
        ∧ RunsRegs (.nop x) x 1 id)
    ∧ (
      ∀ (x : Issue) (d a b : Fin 32),
        let two (c : Instr) (f : Word → Word → Word) : Prop :=
          RunsRegs c x 1 (fun r => r.setG d (f (r.rg a) (r.rg b)))
        two (.div x d a b) (fun p q =>
            if q = 0 then (if 0 ≤ p.toInt then 0x7FFFFFFF else 0x80000000)
            else BitVec.ofInt 32 (min 2147483647 (p.toInt.tdiv q.toInt)))
        ∧ two (.divu x d a b) (fun p q => if q = 0 then 0xFFFFFFFF else BitVec.ofNat 32 (p.toNat / q.toNat))
        ∧ two (.rem x d a b) (fun p q => BitVec.ofInt 32 (p.toInt.tmod q.toInt))
        ∧ two (.remu x d a b) (fun p q => BitVec.ofNat 32 (p.toNat % q.toNat))))
  ∧ (
    ∀ (x : Issue) (d a : Fin 32) (imm : BitVec 16) (k : BitVec 5) (w : BitVec 32),
      RunsRegs (.addi x d a imm) x 1 (fun r => r.setG d (r.rg a + imm.signExtend 32))
      ∧ RunsRegs (.andi x d a imm) x 1 (fun r => r.setG d (r.rg a &&& imm.zeroExtend 32))
      ∧ RunsRegs (.ori x d a imm) x 1 (fun r => r.setG d (r.rg a ||| imm.zeroExtend 32))
      ∧ RunsRegs (.xori x d a imm) x 1 (fun r => r.setG d (r.rg a ^^^ imm.zeroExtend 32))
      ∧ RunsRegs (.shli x d a k) x 1 (fun r => r.setG d (r.rg a <<< k))
      ∧ RunsRegs (.shri x d a k) x 1 (fun r => r.setG d (r.rg a >>> k))
      ∧ RunsRegs (.sari x d a k) x 1 (fun r => r.setG d ((r.rg a).sshiftRight' k))
      ∧ RunsRegs (.lui x d imm) x 1 (fun r => r.setG d (imm ++ (0 : BitVec 16)))
      ∧ RunsRegs (.muli x d a imm) x 1 (fun r => r.setG d (r.rg a * imm.signExtend 32))
      ∧ RunsRegs (.liG x d w) x 2 (fun r => r.setG d w)
      ∧ RunsRegs (.addi32 x d a w) x 2 (fun r => r.setG d (r.rg a + w)))

/-- Compares and the flag group: A compare writes c[CD] with the condition CC of R128, and the flag group combines flags; c7 reads 1 and discards writes. For fcmp, eq, lt, le, gt, ge and ord are false with a NaN and -0 equals +0, and no FPX flag is set. Nothing else of the module changes. (R128, R122) -/
def Obligations.ComparesAndFlags : Prop :=
  (∀ (r : RegFile) (v : Bool), r.rc 7 = true ∧ r.setC 7 v = r)
  ∧ ∀ (x : Issue) (cd cc ca cb : Fin 8) (a b : Fin 32) (imm : BitVec 15),
    let int (p q : Word) : Bool :=
      [p == q, p != q, p.slt q, q.sle p, p.ult q, q.ule p, p &&& q != 0, p &&& q == 0].getD cc false
    let fp (p q : Word) : Bool :=
      let un := Fp.isNaN p || Fp.isNaN q
      let v (w : Word) : ℚ := if Fp.isInf w then (if Fp.sign w then -1 else 1) * 2 ^ 200
        else (Fp.sMant w : ℚ) * 2 ^ (Fp.exp2 w)
      [!un && v p == v q, un || v p != v q, !un && decide (v p < v q), !un && decide (v p ≤ v q),
        !un && decide (v q < v p), !un && decide (v q ≤ v p), un, !un].getD cc false
    RunsRegs (.cmp x cd cc a b) x 1 (fun r => r.setC cd (int (r.rg a) (r.rg b)))
    ∧ RunsRegs (.cmpi x cd cc a imm) x 1 (fun r => r.setC cd (int (r.rg a) (imm.signExtend 32)))
    ∧ RunsRegs (.fcmp x cd cc a b) x 1 (fun r => r.setC cd (fp (r.rF a) (r.rF b)))
    ∧ RunsRegs (.flagAnd x cd ca cb) x 1 (fun r => r.setC cd (r.rc ca && r.rc cb))
    ∧ RunsRegs (.flagOr x cd ca cb) x 1 (fun r => r.setC cd (r.rc ca || r.rc cb))
    ∧ RunsRegs (.flagXor x cd ca cb) x 1 (fun r => r.setC cd (r.rc ca ^^ r.rc cb))
    ∧ RunsRegs (.flagAndn x cd ca cb) x 1 (fun r => r.setC cd (r.rc ca && !r.rc cb))
    ∧ RunsRegs (.flagCopy x cd ca) x 1 (fun r => r.setC cd (r.rc ca))
    ∧ RunsRegs (.flagNot x cd ca) x 1 (fun r => r.setC cd (!r.rc ca))

/-- FP32 arithmetic, selection and bit operations: Where an FP instruction issues, fD takes the result and the exceptions are ORed into FPX; for finite operands fadd, fsub and fmul give the correctly rounded value of the exact result, and fma, fms, fnma round once. Every arithmetic result that is a NaN is 0x7FC0_0000. fmin and fmax give the other operand for one NaN and the canonical NaN for two, take -0 below +0, and set invalid for a signalling NaN and no other flag; fclamp is fmin(fmax(A, B), C), so a NaN in A gives fmin(B, C). fabs, fneg, fsel, fmv.f.g, fmv.g.f and li.f act on bits and set no flag; fxs reads the flags; the integer conversions round once. (R129, R130) -/
def Obligations.FpArithmeticSelectionAndBits : Prop :=
  (
    (∀ (x : Issue) (d a b c : Fin 32),
      let res (v : Fp.Res) (r : RegFile) : RegFile := (r.setF d v.1).orX v.2
      RunsRegs (.fadd x d a b) x 1 (fun r => res (Fp.add (r.rF a) (r.rF b)) r)
      ∧ RunsRegs (.fsub x d a b) x 1 (fun r => res (Fp.sub (r.rF a) (r.rF b)) r)
      ∧ RunsRegs (.fmul x d a b) x 1 (fun r => res (Fp.mul (r.rF a) (r.rF b)) r)
      ∧ RunsRegs (.fdiv x d a b) x 1 (fun r => res (Fp.div (r.rF a) (r.rF b)) r)
      ∧ RunsRegs (.fsqrt x d a) x 1 (fun r => res (Fp.sqrt (r.rF a)) r)
      ∧ RunsRegs (.fma x d a b c) x 1 (fun r => res (Fp.fma (r.rF a) (r.rF b) (r.rF c)) r)
      ∧ RunsRegs (.fms x d a b c) x 1 (fun r => res (Fp.fms (r.rF a) (r.rF b) (r.rF c)) r)
      ∧ RunsRegs (.fnma x d a b c) x 1 (fun r => res (Fp.fnma (r.rF a) (r.rF b) (r.rF c)) r))
    ∧ (∀ p q : Word, Fp.isFinite p = true → Fp.isFinite q = true →
      Fp.add p q = Fp.add q p ∧ Fp.mul p q = Fp.mul q p
      ∧ Fp.mul p q = Fp.round (Fp.sign p != Fp.sign q) (Fp.mant p * Fp.mant q) (Fp.exp2 p + Fp.exp2 q)
      ∧ Fp.sub p q = Fp.add p (q ^^^ 0x80000000))
    ∧ ∀ p q t v : Word,
      v ∈ [(Fp.add p q).1, (Fp.sub p q).1, (Fp.mul p q).1, (Fp.div p q).1, (Fp.sqrt p).1, (Fp.fma p q t).1,
        (Fp.fms p q t).1, (Fp.fnma p q t).1] → Fp.isNaN v = true → v = 0x7FC00000)
  ∧ (
    (∀ (x : Issue) (d a b c : Fin 32) (cf : Fin 8) (w : BitVec 32),
      let res (v : Fp.Res) (r : RegFile) : RegFile := (r.setF d v.1).orX v.2
      RunsRegs (.fmin x d a b) x 1 (fun r => res (Fp.min' (r.rF a) (r.rF b)) r)
      ∧ RunsRegs (.fmax x d a b) x 1 (fun r => res (Fp.max' (r.rF a) (r.rF b)) r)
      ∧ RunsRegs (.fclamp x d a b c) x 1 (fun r => res (Fp.clamp (r.rF a) (r.rF b) (r.rF c)) r)
      ∧ RunsRegs (.fabs x d a) x 1 (fun r => r.setF d (r.rF a &&& 0x7FFFFFFF))
      ∧ RunsRegs (.fneg x d a) x 1 (fun r => r.setF d (r.rF a ^^^ 0x80000000))
      ∧ RunsRegs (.fsel x d a b cf) x 1 (fun r => r.setF d (if r.rc cf then r.rF a else r.rF b))
      ∧ RunsRegs (.fmvFG x d a) x 1 (fun r => r.setF d (r.rg a))
      ∧ RunsRegs (.fmvGF x d a) x 1 (fun r => r.setG d (r.rF a))
      ∧ RunsRegs (.fxs x d) x 1 (fun r => r.setG d (BitVec.ofNat 32 (r.fpx % 32)))
      ∧ RunsRegs (.liF x d w) x 2 (fun r => r.setF d w)
      ∧ RunsRegs (.fcvtSW x d a) x 1 (fun r => res (Fp.round (decide ((r.rg a).toInt < 0)) (r.rg a).toInt.natAbs 0) r)
      ∧ RunsRegs (.fcvtSWu x d a) x 1 (fun r => res (Fp.round false (r.rg a).toNat 0) r))
    ∧ (∀ p q : Word,
      (Fp.isNaN p = true → Fp.isNaN q = true → (Fp.min' p q).1 = 0x7FC00000 ∧ (Fp.max' p q).1 = 0x7FC00000)
      ∧ (Fp.isNaN p = true → Fp.isNaN q = false → (Fp.min' p q).1 = q ∧ (Fp.max' p q).1 = q)
      ∧ (Fp.isNaN p = false → Fp.isNaN q = true → (Fp.min' p q).1 = p ∧ (Fp.max' p q).1 = p)
      ∧ (Fp.lt p q = true → (Fp.min' p q).1 = p ∧ (Fp.max' p q).1 = q)
      ∧ (Fp.lt q p = true → (Fp.min' p q).1 = q ∧ (Fp.max' p q).1 = p)
      ∧ (Fp.min' 0 0x80000000).1 = 0x80000000 ∧ (Fp.max' 0x80000000 0).1 = 0
      ∧ (Fp.min' p q).2 = (if Fp.isSNaN p || Fp.isSNaN q then 16 else 0)
      ∧ (Fp.max' p q).2 = (if Fp.isSNaN p || Fp.isSNaN q then 16 else 0))
    ∧ ∀ p q t : Word, (Fp.clamp p q t).1 = (Fp.min' (Fp.max' p q).1 t).1
      ∧ (Fp.isNaN p = true → Fp.isNaN q = false → (Fp.clamp p q t).1 = (Fp.min' q t).1))

/-- fcvt.w.s: Where fcvt.w.s issues, gD takes fA rounded to the nearest integer, ties to even; results outside the 32-bit range saturate, a NaN gives 0; saturation and NaN set invalid, any other inexact result sets inexact, and nothing else of the module changes. (R131) -/
def Obligations.FcvtRoundsAndSaturates : Prop :=
  ∀ (s : State) (x : Issue) (d a : Fin 32) (b : Blk) (pc : Nat) (reps : List Rep), GoesOn s.mod x 1 b pc reps →
    ∃ (v : Word) (fl : Nat),
      exec (.fcvtWS x d a) s = .next ⟨s.mod.setBlk x.le (some
        { b with regs := (b.regs.setG d v).orX fl, pc := pc, reps := reps }), s.pending⟩
      ∧ (let w := b.regs.rF a
        let q : ℚ := (Fp.sMant w : ℚ) * 2 ^ (Fp.exp2 w)
        if Fp.isNaN w then v = 0 ∧ fl = 16
        else if Fp.isInf w then v = (if Fp.sign w then 0x80000000 else 0x7FFFFFFF) ∧ fl = 16
        else ∃ n : Int, |q - n| ≤ 1 / 2 ∧ (|q - n| = 1 / 2 → n % 2 = 0)
          ∧ (0x7FFFFFFF < n → v = 0x7FFFFFFF ∧ fl = 16)
          ∧ (n < -0x80000000 → v = 0x80000000 ∧ fl = 16)
          ∧ (-0x80000000 ≤ n → n ≤ 0x7FFFFFFF → v.toInt = n ∧ fl = if q = n then 0 else 1))

/-- Loads from DM and yard, and table accesses: Where a load issues and its address passes the checks of R132 (a multiple of 4 inside the DM area of the task, or in a yard region that the engine may read), gD or fD takes the word there: for the yard the value the block itself staged there, if it did. Its parity holds, and no block of another engine drains it. Nothing else of the module changes. Where a table access issues and names an item of the task, an entry below its count, a word below its size and an address that is a multiple of 4, a load of a word whose parity holds and that nothing drains gives the word as the block sees it and a store that the item allows is staged, with room in the staging buffer. A load of the AFE sample table also freezes its entry for the block. (R106, R107, R108, R132, R133, R134, R136, R240) -/
def Obligations.LoadsAndTableAccesses : Prop :=
  (
    ∀ (x : Issue) (d a : Fin 32) (imm : BitVec 16) (w : BitVec 32),
      let ea (b : Blk) : Nat := (b.regs.rg a + imm.signExtend 32).toNat
      let inDm (p : Blk → Nat) (m : Module) (b : Blk) : Prop := p b % 4 = 0 ∧ ∃ t, m.taskInfo x.le b.task = some t
        ∧ t.dmBase ≤ p b ∧ p b < t.dmBase + t.dmSize ∧ m.dmAddr x.le (p b) ∉ m.eng.failing
      let inYard (p : Blk → Nat) (m : Module) (b : Blk) : Prop := p b % 4 = 0 ∧ m.yardReadable x.le (p b) = true
        ∧ m.finds x.le b (p b)
      let dm (p : Blk → Nat) (m : Module) (b : Blk) : Word := m.mw (m.dmAddr x.le (p b))
      let yard (p : Blk → Nat) (m : Module) (b : Blk) : Word :=
        ((b.st.words.find? (fun q => q.1 == p b)).map (·.2)).getD (m.mw (p b))
      let g (v : Module → Blk → Word) (m : Module) (b : Blk) : Blk := { b with regs := b.regs.setG d (v m b) }
      let f (v : Module → Blk → Word) (m : Module) (b : Blk) : Blk := { b with regs := b.regs.setF d (v m b) }
      RunsBlk (.ld x d a imm) x 1 (inDm ea) (g (dm ea))
      ∧ RunsBlk (.ldf x d a imm) x 1 (inDm ea) (f (dm ea))
      ∧ RunsBlk (.ldy x d a imm) x 1 (inYard ea) (g (yard ea))
      ∧ RunsBlk (.ldyf x d a imm) x 1 (inYard ea) (f (yard ea))
      ∧ RunsBlk (.ldyAbs x d w) x 2 (inYard (fun _ => w.toNat)) (g (yard (fun _ => w.toNat)))
      ∧ RunsBlk (.ldyfAbs x d w) x 2 (inYard (fun _ => w.toNat)) (f (yard (fun _ => w.toNat))))
  ∧ (
    ∀ (x : Issue) (d a : Fin 32) (tbl : Fin 64) (word : Fin 1024),
      let at' (m : Module) (b : Blk) (i : TblItem) : Nat := m.tblAddr i (b.regs.rg a).toNat word
      let named (m : Module) (b : Blk) (i : TblItem) : Prop := ∃ t, m.taskInfo x.le b.task = some t ∧ t.tbl[tbl.val]? = some i
        ∧ (b.regs.rg a).toNat < i.count ∧ word.val < i.size ∧ at' m b i % 4 = 0
      let loads (c : Instr) (set : RegFile → Word → RegFile) : Prop := ∀ s b pc reps i, GoesOn s.mod x 1 b pc reps →
        named s.mod b i → s.mod.finds x.le b (at' s.mod b i) → exec c s = .next ⟨s.mod.setBlk x.le (some { s.mod.seeAfe b (at' s.mod b i) with
          regs := set b.regs (s.mod.tblRead (s.mod.seeAfe b (at' s.mod b i)) (at' s.mod b i)), pc := pc, reps := reps }), s.pending⟩
      let stores (c : Instr) (v : Blk → Word) : Prop := ∀ s b pc reps i, GoesOn s.mod x 1 b pc reps →
        named s.mod b i → i.access = 2 → (b.staged (at' s.mod b i) = true ∨ s.mod.room x.le b 1) →
        exec c s = .next ⟨s.mod.setBlk x.le (some { b with pc := pc, reps := reps, st := { b.st with
          words := (at' s.mod b i, v b) :: b.st.words.filter (fun q => q.1 ≠ at' s.mod b i) } }), s.pending⟩
      loads (.ldt x d a tbl word) (·.setG d)
      ∧ loads (.ldtf x d a tbl word) (·.setF d)
      ∧ stores (.stt x d a tbl word) (fun b => b.regs.rg d)
      ∧ stores (.sttf x d a tbl word) (fun b => b.regs.rF d))

/-- Stores to DM and yard; an abandoned block: Where a DM store issues and passes the checks of R132, with room in the journal, the word at its address takes gD or fD, the journal takes the old word, and every byte of BAR2 outside those four stays as it was. A yard store that passes its checks, with room in the staging buffer, changes no byte: the word waits in the block, replacing one staged for the same address. A violation leaves the block stopped with the registers it started with, no journal and nothing staged; each DM word that the journal names (once, in the DM of the engine) has its old value back, and every byte of BAR2 that no journalled word covers stays as it was. (R104, R105, R106, R116, R132, R133, R134) -/
def Obligations.StoresAreJournalledOrStaged : Prop :=
  (
    ∀ (x : Issue) (d a : Fin 32) (imm : BitVec 16) (w : BitVec 32),
      let ea (b : Blk) : Nat := (b.regs.rg a + imm.signExtend 32).toNat
      let dmStores (c : Instr) (v : Blk → Word) : Prop := ∀ s b pc reps t, GoesOn s.mod x 1 b pc reps →
        ea b % 4 = 0 → s.mod.taskInfo x.le b.task = some t → t.dmBase ≤ ea b → ea b < t.dmBase + t.dmSize →
        b.journal.length < 2048 → ∃ m, exec c s = .next ⟨m, s.pending⟩
          ∧ m = { s.mod with mem := m.mem, eng := m.eng }
          ∧ m.eng = { (s.mod.setBlk x.le (some { b with
              journal := (ea b, s.mod.mw (s.mod.dmAddr x.le (ea b))) :: b.journal, pc := pc, reps := reps })).eng with
                failing := s.mod.eng.failing.filter (fun k => k ≠ s.mod.dmAddr x.le (ea b)) }
          ∧ m.mw (s.mod.dmAddr x.le (ea b)) = v b
          ∧ ∀ k, k < s.mod.dmAddr x.le (ea b) ∨ s.mod.dmAddr x.le (ea b) + 4 ≤ k → m.mb k = s.mod.mb k
      let yardStores (c : Instr) (len : Nat) (p : Blk → Nat) (v : Blk → Word) : Prop :=
        RunsBlk c x len (fun m b => p b % 4 = 0 ∧ m.yardWritable x.le (p b) = true
            ∧ (b.staged (p b) = true ∨ m.room x.le b 1))
          (fun _ b => { b with st := { b.st with words := (p b, v b) :: b.st.words.filter (fun q => q.1 ≠ p b) } })
      dmStores (.st x d a imm) (fun b => b.regs.rg d)
      ∧ dmStores (.stf x d a imm) (fun b => b.regs.rF d)
      ∧ yardStores (.sty x d a imm) 1 ea (fun b => b.regs.rg d)
      ∧ yardStores (.styf x d a imm) 1 ea (fun b => b.regs.rF d)
      ∧ yardStores (.styAbs x d w) 2 (fun _ => w.toNat) (fun b => b.regs.rg d)
      ∧ yardStores (.styfAbs x d w) 2 (fun _ => w.toNat) (fun b => b.regs.rF d))
  ∧ (
    ∀ (m : Module) (e reason space off : Nat) (b : Blk) (write : Bool),
      let m' := m.violate e b reason space off write
      (∃ b', m'.blk e = some b' ∧ b'.state = .stopped ∧ b'.regs = b.shadow ∧ b'.journal = [] ∧ b'.st = Staged.empty)
      ∧ (∀ k, (∀ p ∈ b.journal, k < m.dmAddr e p.1 ∨ m.dmAddr e p.1 + 4 ≤ k) → m'.mb k = m.mb k)
      ∧ (∀ p ∈ b.journal, (∀ q ∈ b.journal, q = p ∨ q.1 + 4 ≤ p.1 ∨ p.1 + 4 ≤ q.1) → m'.mw (m.dmAddr e p.1) = p.2)
      ∧ (∀ e', e' ≠ e → m'.blk e' = m.blk e'))

/-- Block moves between yard and DM: Where ldyb or styb issues, every word of both ranges passes its check (the DM words lying among the engine memories of R57), every word read holds its parity and is drained by no other engine, and there is room, ldyb moves NM1 + 1 yard words, as the block sees them, into DM with one journal entry each, and styb stages NM1 + 1 DM words as yard writes; no byte of BAR2 outside the DM words changes. (R133, R104, R106, R107, R108, R57) -/
def Obligations.BlockMovesCopyWords : Prop :=
  ∀ (x : Issue) (d a : Fin 32) (nm1 : Fin 64) (s : State) (b : Blk) (pc : Nat) (reps : List Rep) (t : TaskInfo),
    let n := nm1.val + 1
    let dm := (b.regs.rg d).toNat
    let y := (b.regs.rg a).toNat
    GoesOn s.mod x 1 b pc reps → s.mod.taskInfo x.le b.task = some t → dm % 4 = 0 → y % 4 = 0 →
    t.dmBase ≤ dm → dm + 4 * nm1.val < t.dmBase + t.dmSize → s.mod.dmAddr x.le dm + 4 * n ≤ 0x01500000 →
    ((∀ k < n, s.mod.yardReadable x.le (y + 4 * k) = true ∧ s.mod.finds x.le b (y + 4 * k)) → b.journal.length + n ≤ 2048 →
      Leads (.ldyb x d a nm1) s (fun m =>
        m = { s.mod with mem := m.mem, eng := { (s.mod.setBlk x.le (m.blk x.le)).eng with failing := m.eng.failing } }
        ∧ (∀ k < n, m.mw (s.mod.dmAddr x.le (dm + 4 * k)) = s.mod.stagedRead b (y + 4 * k))
        ∧ (∀ k, k < s.mod.dmAddr x.le dm ∨ s.mod.dmAddr x.le dm + 4 * n ≤ k → m.mb k = s.mod.mb k)
        ∧ ∃ j, m.blk x.le = some { b with journal := j ++ b.journal, pc := pc, reps := reps } ∧ j.length = n))
    ∧ ((∀ k < n, s.mod.yardWritable x.le (y + 4 * k) = true ∧ s.mod.dmAddr x.le (dm + 4 * k) ∉ s.mod.eng.failing) → s.mod.room x.le b n →
      Leads (.styb x d a nm1) s (fun m =>
        m = s.mod.setBlk x.le (m.blk x.le)
        ∧ ∃ b', m.blk x.le = some b' ∧ b'.regs = b.regs ∧ b'.journal = b.journal ∧ b'.pc = pc
          ∧ (∀ k < n, m.stagedRead b' (y + 4 * k) = s.mod.mw (s.mod.dmAddr x.le (dm + 4 * k)))
          ∧ (∀ p, p < y ∨ y + 4 * n ≤ p → m.stagedRead b' p = s.mod.stagedRead b p)))

/-- Branches, rep, brk, call, ret, sw and cmt; the end of a rep body: Where a control-flow instruction issues, execution goes where R137 to R140 send it: a taken branch OFF words on (inside the innermost body of its function, or with none open), a rep into its body or past it, a brk behind the body it ends, a call to TGT with the next word pushed, a ret to the word popped, a sw to the target of entry min(gA, NM1); cmt ends the execution. Nothing else of the module changes. An instruction that ends at the last word of the innermost body of its function goes back to the start of the body with one iteration fewer while more than one is left; after the last the level closes and execution goes on behind the body, where an enclosing body that ends there does the same. (R137, R138, R139, R140, R166) -/
def Obligations.ControlFlowAndRepeatedBodies : Prop :=
  (
    ∀ (x : Issue) (s : State) (b : Blk),
      let inside (t : Nat) : Prop := ∀ r rs, b.reps = r :: rs → r.depth = b.calls.length → t < r.stop
      let goes (c : Instr) (b' : Blk) : Prop := exec c s = .next ⟨s.mod.setBlk x.le (some b'), s.pending⟩
      Issues s.mod x b →
      (∀ (c : Fin 8) (off : BitVec 22), off ≠ 0 → inside (b.pc + off.toNat) →
        (b.regs.rc c = true → goes (.bt x c off) { b with pc := b.pc + off.toNat })
        ∧ (b.regs.rc c = false → goes (.bf x c off) { b with pc := b.pc + off.toNat }))
      ∧ (∀ (c : Fin 8) (off : BitVec 22) (r : Rep) (rs : List Rep) (pc : Nat) (reps : List Rep), b.reps = r :: rs →
        r.depth = b.calls.length → b.pc + off.toNat = r.stop → off ≠ 0 →
        closeBody b.calls.length rs r.stop = some (pc, reps) →
        (b.regs.rc c = true → goes (.bt x c off) { b with pc := pc, reps := reps })
        ∧ (b.regs.rc c = false → goes (.bf x c off) { b with pc := pc, reps := reps }))
      ∧ (∀ (c : Fin 8) (off : BitVec 22) (pc : Nat) (reps : List Rep), off ≠ 0 →
        closeBody b.calls.length b.reps (b.pc + 1) = some (pc, reps) →
        (b.regs.rc c = false → goes (.bt x c off) { b with pc := pc, reps := reps })
        ∧ (b.regs.rc c = true → goes (.bf x c off) { b with pc := pc, reps := reps }))
      ∧ (∀ (len : Fin 1024) (count : BitVec 16), len ≠ 0 →
        (count ≠ 0 → b.reps.length < 4 → goes (.rep x len count) { b with pc := b.pc + 1
                                                                          reps := ⟨b.pc + 1, b.pc + 1 + len.val, count.toNat, b.calls.length⟩ :: b.reps })
        ∧ ∀ pc reps, count = 0 → closeBody b.calls.length b.reps (b.pc + 1 + len.val) = some (pc, reps) →
          goes (.rep x len count) { b with pc := pc, reps := reps })
      ∧ (∀ (sense : Bool) (c : Fin 8) (r : Rep) (rs : List Rep) (pc : Nat) (reps : List Rep), b.reps = r :: rs →
        r.depth = b.calls.length →
        (b.regs.rc c = sense → closeBody b.calls.length rs r.stop = some (pc, reps) →
          goes (.brk x sense c) { b with pc := pc, reps := reps })
        ∧ (b.regs.rc c ≠ sense → closeBody b.calls.length b.reps (b.pc + 1) = some (pc, reps) →
          goes (.brk x sense c) { b with pc := pc, reps := reps }))
      ∧ (∀ tgt : BitVec 14, b.calls.length < 8 →
        goes (.call x tgt) { b with pc := tgt.toNat, calls := (b.pc + 1) :: b.calls })
      ∧ (∀ (r : Nat) (cs : List Nat) (pc : Nat) (reps : List Rep), b.calls = r :: cs →
        (∀ l ls, b.reps = l :: ls → l.depth ≠ b.calls.length) → closeBody cs.length b.reps r = some (pc, reps) →
        goes (.ret x) { b with pc := pc, reps := reps, calls := cs })
      ∧ (∀ (a : Fin 32) (nm1 : Fin 64),
        let k := min (b.regs.rg a).toNat nm1.val
        let w := s.mod.mn (s.mod.imAddr x.le (s.mod.imOff x.le b (b.pc + 1 + k))) 4
        w < 0x10000 → inside (b.pc + 2 + nm1.val + w) → goes (.sw x a nm1) { b with pc := b.pc + 2 + nm1.val + w })
      ∧ exec (.cmt x) s = .next ⟨(s.mod.engState x.le 0).setBlk x.le
          (some { b with state := .ready, readyAt := s.mod.now }), s.pending⟩)
  ∧ (
    ∀ (x : Issue) (s : State) (b : Blk) (r : Rep) (rs : List Rep), Issues s.mod x b → b.reps = r :: rs →
      r.depth = b.calls.length → r.stop = b.pc + 1 →
      (1 < r.left → exec (.nop x) s = .next ⟨s.mod.setBlk x.le (some { b with
        pc := r.start, reps := { r with left := r.left - 1 } :: rs }), s.pending⟩)
      ∧ (r.left ≤ 1 → (∀ q qs, rs = q :: qs → q.depth = r.depth → r.stop < q.stop) →
        exec (.nop x) s = .next ⟨s.mod.setBlk x.le (some { b with pc := r.stop, reps := rs }), s.pending⟩)
      ∧ (r.left ≤ 1 → ∀ q qs, rs = q :: qs → q.depth = r.depth → q.stop = r.stop → 1 < q.left →
        exec (.nop x) s = .next ⟨s.mod.setBlk x.le (some { b with
          pc := q.start, reps := { q with left := q.left - 1 } :: qs }), s.pending⟩))

/-- What keeps an instruction from issuing, and the checks of loads and stores: For every Ranzor instruction: with no block open on its engine, with the block stopped or at its cmt, or with a wait under way, nothing happens; a detector that fires, or a line of IM whose rewrite is not complete, stops the block with none of the effect of the instruction; a fetch at or beyond the code of the task is violation 0x45. A load or store whose address breaks a check of R132 stops its task with the violation of that check: 0x44 for an address that is no multiple of 4, 0x40 outside the DM area, 0x41 for a yard read and 0x42 for a yard write without the right of the engine, 0x43 for a table item, entry or word that does not exist; a DM store past 2,048 in the block is 0x4B. A load of a word whose parity fails is a detection, and one that finds a word draining from another engine waits, with no effect. (R73, R104, R107, R108, R110, R116, R132, R141, R143) -/
def Obligations.StopsOfInstructionsAndAccesses : Prop :=
  (
    ∀ (c : Instr) (x : Issue) (s : State), issueOf c = some x →
      (s.mod.blk x.le = none → exec c s = .next s)
      ∧ ∀ b, s.mod.blk x.le = some b →
        (b.state ≠ .running ∨ b.wait ≠ none → exec c s = .next s)
        ∧ (b.state = .running → b.wait = none →
          (let line := (x.le.val, s.mod.imOff x.le b b.pc / 64);
            (∀ d, x.det = some d → line ∉ s.mod.eng.badLines →
              exec c s = .next ⟨s.mod.detect x.le b d, s.pending⟩)
            ∧ (line ∈ s.mod.eng.badLines →
              exec c s = .next ⟨s.mod.detect x.le b ⟨0, BitVec.ofNat 24 (line.2 * 64), false⟩, s.pending⟩))
          ∧ (s.mod.fetchDet x b = none → s.mod.codeWords x.le b ≤ b.pc →
            exec c s = .next ⟨s.mod.violate x.le b 0x45 3 (s.mod.imOff x.le b b.pc) false, s.pending⟩)))
  ∧ (
    ∀ (x : Issue) (d a : Fin 32) (imm : BitVec 16) (s : State) (b : Blk) (t : TaskInfo), Issues s.mod x b →
      s.mod.taskInfo x.le b.task = some t →
      let ea := (b.regs.rg a + imm.signExtend 32).toNat
      let stops (c : Instr) (reason space off : Nat) (write : Bool) : Prop :=
        exec c s = .next ⟨s.mod.violate x.le b reason space off write, s.pending⟩
      (ea % 4 ≠ 0 → stops (.ld x d a imm) 0x44 3 (2 ^ 27 + ea % 2 ^ 27) false ∧ stops (.st x d a imm) 0x44 3 (2 ^ 27 + ea % 2 ^ 27) true
        ∧ stops (.ldy x d a imm) 0x44 1 ea false ∧ stops (.sty x d a imm) 0x44 1 ea true)
      ∧ (ea % 4 = 0 → ea < t.dmBase ∨ t.dmBase + t.dmSize ≤ ea →
        stops (.ld x d a imm) 0x40 3 (2 ^ 27 + ea % 2 ^ 27) false ∧ stops (.st x d a imm) 0x40 3 (2 ^ 27 + ea % 2 ^ 27) true)
      ∧ (ea % 4 = 0 → s.mod.yardReadable x.le ea = false → stops (.ldy x d a imm) 0x41 1 ea false)
      ∧ (ea % 4 = 0 → s.mod.yardWritable x.le ea = false → stops (.sty x d a imm) 0x42 1 ea true)
      ∧ (ea % 4 = 0 → t.dmBase ≤ ea → ea < t.dmBase + t.dmSize → 2048 ≤ b.journal.length →
        stops (.st x d a imm) 0x4B 3 (2 ^ 27 + ea) true)
      ∧ (ea % 4 = 0 → t.dmBase ≤ ea → ea < t.dmBase + t.dmSize → s.mod.dmAddr x.le ea ∈ s.mod.eng.failing →
        exec (.ld x d a imm) s = .next ⟨s.mod.detect x.le b ⟨1, BitVec.ofNat 24 ea, true⟩, s.pending⟩)
      ∧ (ea % 4 = 0 → s.mod.yardReadable x.le ea = true → b.staged ea = false →
        (s.mod.drains x.le ea = true → exec (.ldy x d a imm) s = .next s)
        ∧ (s.mod.drains x.le ea = false → ea ∈ s.mod.eng.failing →
          exec (.ldy x d a imm) s = .next ⟨s.mod.detect x.le b ⟨2, BitVec.ofNat 24 ea, true⟩, s.pending⟩))
      ∧ (∀ (tbl : Fin 64) (word : Fin 1024), t.tbl[tbl.val]? = none →
        stops (.ldt x d a tbl word) 0x43 1 0 false ∧ stops (.stt x d a tbl word) 0x43 1 0 true)
      ∧ (∀ (tbl : Fin 64) (word : Fin 1024) (i : TblItem), t.tbl[tbl.val]? = some i →
        i.count ≤ (b.regs.rg a).toNat ∨ i.size ≤ word.val →
        stops (.ldt x d a tbl word) 0x43 1 i.base false ∧ stops (.stt x d a tbl word) 0x43 1 i.base true))

/-- Loop-unit instructions: Where loop issues on a unit below 96 that the certificate books: STEP of a CLOSED unit computes R174 on the working values of the block and stages them, STEP of an OPEN or HELD unit gives OUT and computes nothing, STEP_DIFF steps on fA - fB rounded once, TRACK stages the tracked state in all three states, PEEK gives OUT and STATUS the status word; the unit itself changes at the commit point only. A step of a unit whose limits are finite and in order, on finite inputs and a finite raw output, gives an output that lies between LO and HI, and keeps it as OUT; a step with an input or raw output that is not finite holds the output and every state word and marks NAN; a raw output beyond a limit counts as saturated there too. (R147, R148, R152, R174, R175, R176, R177, R178) -/
def Obligations.LoopUnitOperationsAndLimits : Prop :=
  (
    ∀ (x : Issue) (d a b : Fin 32) (u : Fin 128),
      let booked (m : Module) (k : Blk) : Prop := u.val < 96 ∧ ∃ t, m.taskInfo x.le k.task = some t ∧ t.luMap.testBit u.val = true
      let now (m : Module) (k : Blk) : LuState := (SMap.getD none k.st.lu u.val).getD (m.luState u.val)
      let stage (r : Module → Blk → Word × LuState) (m : Module) (k : Blk) : Blk := { k with
        regs := k.regs.setF d (r m k).1, st := { k.st with lu := SMap.setD none k.st.lu u.val (some (r m k).2) } }
      let step (e ff : Blk → Word) (m : Module) (k : Blk) : Blk :=
        if m.luMode u.val = 3 then stage (fun m k => m.luStep u.val (now m k) (e k) (ff k)) m k
        else { k with regs := k.regs.setF d (now m k).out }
      RunsBlk (.loopStep x d a b u) x 1 booked (step (fun k => k.regs.rF a) (fun k => k.regs.rF b))
      ∧ RunsBlk (.loopStepDiff x d a b u) x 1 booked (step (fun k => (Fp.sub (k.regs.rF a) (k.regs.rF b)).1) (fun _ => 0))
      ∧ RunsBlk (.loopTrack x d a b u) x 1 booked
          (stage (fun m k => m.luTrack u.val (now m k) (k.regs.rF a) (k.regs.rF b)))
      ∧ RunsBlk (.loopPeek x d u) x 1 booked (fun m k => { k with regs := k.regs.setF d (now m k).out })
      ∧ RunsBlk (.loopStatus x d u) x 1 booked (fun m k => { k with regs := k.regs.setG d (m.luStatus u.val (now m k)) }))
  ∧ (
    ∀ (m : Module) (u : Nat) (l : LuState) (e ff : Word),
      let r := m.luStep u l e ff
      let raw := (Fp.add (luCand (m.luForm u) (m.luK u) l e).yc ff).1
      (Fp.isFinite e = true → Fp.isFinite ff = true → Fp.isFinite raw = true → Fp.isFinite (m.luLo u) = true →
        Fp.isFinite (m.luHi u) = true → Fp.lt (m.luLo u) (m.luHi u) = true →
        Fp.le (m.luLo u) r.1 = true ∧ Fp.le r.1 (m.luHi u) = true ∧ r.2.out = r.1 ∧ r.2.nan = false)
      ∧ (Fp.isFinite e = false ∨ Fp.isFinite ff = false ∨ Fp.isFinite raw = false →
        let hi := Fp.gt raw (m.luHi u)
        let lo := Fp.lt raw (m.luLo u)
        r.1 = l.out ∧ r.2 = { l with nan := true, satHi := hi, satLo := lo, steps := l.steps + 1, nanSteps := l.nanSteps + 1,
                                     satSteps := l.satSteps + if hi || lo then 1 else 0 }))

/-- xfm: Where xfm issues on a transform unit that the certificate books, with every register of its ranges at or below 31, the registers from fD take the outputs of the function (R153), computed from the inputs as they were before any output was written, and FPX takes its flags; an input that is not finite gives canonical NaNs and invalid. (R150, R153, R154) -/
def Obligations.TransformsWriteTheirOutputs : Prop :=
  (∀ (x : Issue) (d a b : Fin 32) (u : Fin 4),
    let fn (c : Instr) (n : Nat) : Prop := RunsBlk c x 1
      (fun m k => (∃ t, m.taskInfo x.le k.task = some t ∧ t.xsMap.testBit u.val = true)
        ∧ d.val + Xfm.outputs n ≤ 32 ∧ a.val + (Xfm.inputs n).1 ≤ 32)
      (fun _ k => { k with regs := (k.regs.setFs d (Xfm.run n (xfmInputs n a b k.regs)).1).orX (Xfm.run n (xfmInputs n a b k.regs)).2 })
    fn (.xfmClarke x d a b u) 0 ∧ fn (.xfmIclarke x d a b u) 1 ∧ fn (.xfmPark x d a b u) 2 ∧ fn (.xfmIpark x d a b u) 3
    ∧ fn (.xfmAbc2dq x d a b u) 4 ∧ fn (.xfmDq2abc x d a b u) 5 ∧ fn (.xfmSincos x d a b u) 6 ∧ fn (.xfmAtan2 x d a b u) 7
    ∧ fn (.xfmSeq x d a b u) 8 ∧ fn (.xfmWrap x d a b u) 9)
  ∧ ∀ (n : Nat) (ws : List Word), n < 10 → (∃ w ∈ ws, Fp.isFinite w = false) →
    Xfm.run n ws = (List.replicate (Xfm.outputs n) 0x7FC00000, 16)

/-- pwst, sel, svrd, macc, evt and hpost; which cells an arm inserts: Where one of these primitives issues and passes its checks, it writes its register results at once and stages the rest in its block: pwst a raw field of one generator, macc a set of twelve words, evt an entry that replaces one of the same source or event, hpost a post that replaces one to the same mailbox, sel the selection of the arms it names. svrd gives the reading at its instant. The module itself stays as it was, but for a free value that svrd may draw. The selection of an arm takes cells of that arm whose STATE in the frozen view is 1, no cell twice, as many as asked where the arm has them and else all of them, marked short; no cell left out has a better key than one taken (a higher key for DIR 0, a lower for DIR 1). (R148, R151, R155, R157, R158, R159, R162, R163, R164) -/
def Obligations.StagedPrimitivesAndSelection : Prop :=
  (
    ∀ (x : Issue) (d a b q : Fin 32) (s : State) (k : Blk) (pc : Nat) (reps : List Rep) (t : TaskInfo),
      GoesOn s.mod x 1 k pc reps → s.mod.taskInfo x.le k.task = some t →
      let goes (c : Instr) (k' : Blk) : Prop :=
        exec c s = .next ⟨s.mod.setBlk x.le (some { k' with pc := pc, reps := reps }), s.pending⟩
      let evt (c : Instr) (kind code : Nat) : Prop :=
        (∀ o ∈ k.st.evts, ¬(o.1 = kind ∧ o.2.1 = code)) → k.st.evts.length < 16 →
          goes c { k with st := { k.st with evts := k.st.evts ++ [(kind, code, k.regs.rg a)] } }
      (∀ inst field : Fin 32, field.val < 8 → k.mon = false → (1, inst.val) ∈ t.outs →
        (k.regs.rg a).toNat < 2 ^ consistWidth field →
        goes (.pwst x false false a inst field) (stageField k ⟨false, inst, field, k.regs.rg a⟩))
      ∧ (∀ mp : Fin 4, (3, mp.val) ∈ t.outs → a.val + 12 ≤ 32 → k.regs.rg b ≠ 0 → (k.regs.rg b).toNat ≤ 10000000 →
        (k.st.sets.filter (fun o => o.mp == mp.val)).length < 4 →
        goes (.macc x mp a b) { k with st := { k.st with sets := k.st.sets ++
          [⟨mp, (List.range 12).map (fun i => k.regs.rF (a + i)), (k.regs.rg b).toNat⟩] } })
      ∧ (∀ code : BitVec 8, sourceProgram code.toNat = true → evt (.evtFault x code a) 0 code.toNat)
      ∧ evt (.evtReady x a) 1 0
      ∧ evt (.evtStopped x a) 1 1
      ∧ (∀ mbx : Fin 8, goes (.hpost x mbx a b) { k with st := { k.st with
          posts := k.st.posts.filter (fun o => o.1 ≠ mbx.val) ++ [(mbx.val, k.regs.rg a, k.regs.rg b)] } })
      ∧ (∀ n : Fin 32, 0 < n.val → n.val ≤ 16 → t.xsMap.testBit 4 = true → k.regs.rg a = 0 →
        goes (.selSelection x d a b n) { k with regs := k.regs.setG d 0 })
      ∧ (∀ (n : Fin 32) (arm : Nat) (w : Word), arm < 12 → 0 < n.val → n.val ≤ 16 → t.xsMap.testBit 4 = true →
        (k.regs.rg a).toNat = 2 ^ arm → s.mod.dmLoad x.le k ((k.regs.rg b).toNat + 4 * arm) = .ok w →
        bitsN w.toNat 10 0 ≤ 1024 → ((s.mod.view k).armCells arm).length ≤ 256 * n.val →
        goes (.selSelection x d a b n) { k with
          regs := k.regs.setG d (if ((s.mod.view k).selArm arm w.toNat).2 then BitVec.ofNat 32 (2 ^ arm) else 0)
          st := { k.st with sel := k.st.sel.filter (fun p => p.1 ≠ arm) ++ [(arm, (s.mod.view k).selArm arm w.toNat)] } })
      ∧ (∀ (stream chan : Fin 32), s.mod.svUnread stream chan = false →
        (∀ m' r, s.mod.svReading k false (s.mod.periodNanos k + (k.regs.rg a).toInt) stream chan = (m', r) →
          exec (.svrdNearest x d a q stream chan) s = .next ⟨m'.setBlk x.le (some { k with
            regs := (k.regs.setF d r.1).setG q r.2, pc := pc, reps := reps }), s.pending⟩)
        ∧ (∀ m' r, s.mod.svReading k true (s.mod.periodNanos k + (k.regs.rg a).toInt) stream chan = (m', r) →
          exec (.svrdInterp x d a q stream chan) s = .next ⟨m'.setBlk x.le (some { k with
            regs := (k.regs.setF d r.1).setG q r.2, pc := pc, reps := reps }), s.pending⟩)
        ∧ ∀ i r, (s.mod.svReading k i (s.mod.periodNanos k + (k.regs.rg a).toInt) stream chan).1 = r →
          r = s.mod ∨ r = { s.mod with freeCtr := s.mod.freeCtr + 1 }))
  ∧ (
    ∀ (m : Module) (arm req : Nat),
      let r := m.selArm arm req
      let can := (m.armCells arm).filter (fun i => m.cellState i == 1)
      let key := m.selKey (req.testBit 15) (bitsN req 31 16)
      r.1.Nodup ∧ (∀ i ∈ r.1, i ∈ can) ∧ r.1.length = min (bitsN req 10 0) can.length
      ∧ (r.2 = true ↔ can.length < bitsN req 10 0)
      ∧ ∀ i ∈ r.1, ∀ j ∈ can, j ∉ r.1 → if req.testBit 15 then key i ≤ key j else key j ≤ key i)

/-- lnx: CMD, RESP, RSTAT, APPLY, ARM and SLOW; wait: Where lnx issues in a task that is no monitoring task, on a port that it may name and a cell below the count, with the output booked: CMD stages the register pair for the cell, APPLY an offset of at most 0xFFFF, SLOW a request, ARM the template with its insert bit for every cell of the arm; RESP gives the last response in the frozen view and RSTAT the cycles since, up to 0xFFFF, or with no response ever bit 31 and a free count. The module itself stays as it was, but for that free value. Where a wait issues in a firm block, with a bound that is not 0 and an instance in range, the block waits with its place unchanged, and EV 0x2 arms its capture unit. A release before the event and before the bound changes nothing; on the event, or at the bound, gD takes the release tick and bit 0 says which, and the block goes on at the next word. (R148, R151, R160, R161, R167, R168, R280) -/
def Obligations.RingPrimitivesAndWaits : Prop :=
  (
    ∀ (x : Issue) (d a b : Fin 32) (port : Fin 16) (s : State) (k : Blk) (pc : Nat) (reps : List Rep) (t : TaskInfo),
      GoesOn s.mod x 1 k pc reps → s.mod.taskInfo x.le k.task = some t → k.mon = false → s.mod.portNamed port = true →
      let goes (c : Instr) (k' : Blk) : Prop :=
        exec c s = .next ⟨s.mod.setBlk x.le (some { k' with pc := pc, reps := reps }), s.pending⟩
      let cell := (k.regs.rg a).toNat
      let entry := s.mod.cellEntry port cell
      let v := s.mod.view k
      let pair := leBytes 4 (k.regs.rg b).toNat ++ leBytes 4 (k.regs.rg (b + 1)).toNat
      ((2, port.val) ∈ t.outs → b.val + 2 ≤ 32 → cell < (s.mod.port port).cfg.count →
        goes (.lnxCmd x a b port) (stageCmd port k cell pair))
      ∧ ((2, port.val) ∈ t.outs → (k.regs.rg b).toNat ≤ 0xFFFF →
        goes (.lnxApply x b port) { k with st := { k.st with
          apply := k.st.apply.filter (fun o => o.1 ≠ port.val) ++ [(port.val, (k.regs.rg b).toNat)] } })
      ∧ ((2, port.val) ∈ t.outs → cell < (s.mod.port port).cfg.count →
        (k.regs.rg b).toNat.testBit 31 = true ∨ bitsN (k.regs.rg b).toNat 23 16 + bitsN (k.regs.rg b).toNat 27 24 ≤ 255 →
        goes (.lnxSlow x a b port) { k with st := { k.st with slow := k.st.slow ++ [(port.val, cell, k.regs.rg b)] } })
      ∧ ((2, port.val) ∈ t.outs → b.val + 2 ≤ 32 →
        let base := (s.mod.port port).cfg.base
        goes (.lnxArm x a b port) (((List.range (s.mod.port port).cfg.count).filter
          (fun c => v.cellArm (base + c) == cell)).foldl (fun k c =>
            stageCmd port k c (withIns (pairBytes k.regs b) (s.mod.armInserts k cell (base + c)))) k))
      ∧ (d.val + 2 ≤ 32 → cell < (s.mod.port port).cfg.count →
        goes (.lnxResp x d a port) { k with regs := (k.regs.setG d (v.mw (entry + 0x10))).setG (d + 1) (v.mw (entry + 0x14)) })
      ∧ (cell < (s.mod.port port).cfg.count → (v.mn (entry + 0x10) 1).testBit 7 = true →
        goes (.lnxRstat x d a port) { k with regs := k.regs.setG d (BitVec.ofNat 32
          (min 0xFFFF ((k.viewCyc.getD port 0 + 2 ^ 32 - v.mn (entry + 0x20) 4) % 2 ^ 32))) })
      ∧ (cell < (s.mod.port port).cfg.count → (v.mn (entry + 0x10) 1).testBit 7 = false →
        ∃ c < 0x10000, exec (.lnxRstat x d a port) s = .next
          ⟨({ s.mod with freeCtr := s.mod.freeCtr + 1 } : Module).setBlk x.le (some { k with
            regs := k.regs.setG d (BitVec.ofNat 32 (2 ^ 31 + c)), pc := pc, reps := reps }), s.pending⟩))
  ∧ (
    ∀ (x : Issue) (d : Fin 32) (n : Fin 16) (w : BitVec 13) (s : State) (b : Blk),
      (Issues s.mod x b → b.firm = true → w ≠ 0 →
        let waits (c : Instr) (ev : Nat) (m : Module) : Prop := n.val ≤ waitMax ev →
          exec c s = .next ⟨m.setBlk x.le (some { b with wait := some ⟨ev, n, w.toNat, s.mod.now, d⟩ }), s.pending⟩
        waits (.waitDelay x d n w) 0 s.mod ∧ waits (.waitAdc x d n w) 1 s.mod
        ∧ waits (.waitArmCapture x d n w) 2 (s.mod.armCapture n) ∧ waits (.waitCapture x d n w) 3 s.mod
        ∧ waits (.waitReload x d n w) 4 s.mod ∧ waits (.waitComparator x d n w) 5 s.mod
        ∧ waits (.waitRingCycle x d n w) 6 s.mod)
      ∧ ∀ (v : WaitFor) (pc : Nat) (reps : List Rep), s.mod.blk x.le = some b → b.state = .running → b.wait = some v →
        closeBody b.calls.length b.reps (b.pc + 1) = some (pc, reps) →
        let done (tick bit : Nat) : Prop := exec (.waitRelease x.le) s = .next ⟨s.mod.setBlk x.le (some { b with
          wait := none, pc := pc, reps := reps
          regs := b.regs.setG v.dest (BitVec.ofNat 32 ((tick - b.periodStart) % 2 ^ 24 * 256 + bit)) }), s.pending⟩
        (∀ e, s.mod.waitEvent b v = some e → done (if v.ev = 2 ∨ v.ev = 3 then e else s.mod.now) 1)
        ∧ (s.mod.waitEvent b v = none → v.from' + v.bound ≤ s.mod.now → done s.mod.now 0)
        ∧ (s.mod.waitEvent b v = none → s.mod.now < v.from' + v.bound → exec (.waitRelease x.le) s = .next s))

/-- BLOCK_START: Where the timebase issues the start of an entry of the active copy on its engine, a block opens there with g1 the frame-start word, g2 the period index, g3 the DM base, every other register 0 (c7 reads 1), no journal, nothing staged, and the memories frozen as its view; a DM area due for it is first loaded afresh from its image. A library task then runs its program in that block. Where the timebase issues no start, nothing happens. (R73, R100, R110, R121, R149) -/
def Obligations.BlockStartsFromItsEntry : Prop :=
  ∀ (s : State) (le : Fin 8) (i : Fin 512) (c : Nat) (e : Entry), s.mod.activeCopy = some c → s.mod.entry c i = some e →
    (s.mod.blockRuns c le e = false → ∀ lib, exec (.blockStart le i lib) s = .next s)
    ∧ (s.mod.blockRuns c le e = true → (le.val, e.task) ∉ s.mod.eng.reinit →
      Leads (.blockStart le i none) s (fun m =>
        m = { s.mod with eng := m.eng, regs := m.regs }
        ∧ (∀ a, a ≠ R.ENG_STAT (s.mod.phys le) → m.rd a = s.mod.rd a)
        ∧ m.rf (R.ENG_STAT (s.mod.phys le)) F.ENG_STAT_STATE = 1
        ∧ (∀ l, l ≠ le.val → m.blk l = s.mod.blk l)
        ∧ ∃ b, m.blk le = some b ∧ b.state = .running ∧ b.task = e.task ∧ b.entry = e.idx ∧ b.svc = e.svc ∧ b.firm = e.firm
          ∧ b.start = s.mod.now ∧ b.pc = 0 ∧ b.calls = [] ∧ b.reps = [] ∧ b.journal = [] ∧ b.st = Staged.empty ∧ b.wait = none
          ∧ b.viewMem = s.mod.mem ∧ b.shadow = b.regs ∧ b.regs.fpx = 0
          ∧ (∀ n, b.regs.rg n = if n = 1 then BitVec.ofNat 32 (s.mod.taskWord e.task)
              else if n = 2 then BitVec.ofNat 32 ((s.mod.now - s.mod.sys.frameTick) / max 1 (s.mod.svcPeriod e.svc))
              else if n = 3 then BitVec.ofNat 32 (((s.mod.taskInfo le e.task).map (·.dmBase)).getD 0) else 0)
          ∧ (∀ n, b.regs.rF n = 0 ∧ b.regs.rc n = (n == 7))))
    ∧ (s.mod.blockRuns c le e = true → ∀ t, (le.val, e.task) ∈ s.mod.eng.reinit → s.mod.taskInfo le e.task = some t →
      Leads (.blockStart le i none) s (fun m => (le.val, e.task) ∉ m.eng.reinit
        ∧ (∀ k < t.dmSize, m.mb (s.mod.dmAddr le t.dmBase + k) = s.mod.mb (t.dataOff + k))
        ∧ ∀ k, k < s.mod.dmAddr le t.dmBase ∨ s.mod.dmAddr le t.dmBase + t.dmSize ≤ k → m.mb k = s.mod.mb k))
    ∧ (s.mod.blockRuns c le e = true → ∀ r m, exec (.blockStart le i none) s = .next ⟨m, s.pending⟩ →
      exec (.blockStart le i (some r)) s = .next ⟨m.runLib le r, s.pending⟩)

/-- BLOCK_END: At the end tick of a block that executed cmt at least 4 ticks before, with the core answering, the block closes and what it staged takes effect: each yard word holds its staged value and no other byte changes; a staged event is reported with its code, word and task; READY and STOPPED are noted; a mailbox post is written with its sequence number counted up, pending, and interrupts the host. A block that has not executed cmt when its end tick comes, or whose mark left less than 4 ticks before, is at danger: nothing it staged is applied, each DM word of its journal has its old value back, the block closes, the overrun of its logical engine is counted and TT_OVERRUN is reported with its task. A stopped block, or none, ends with nothing; with a silent core a ready block commits nothing. (R17, R21, R88, R105, R106, R148, R163, R164) -/
def Obligations.BlocksEndWithCommitOrDanger : Prop :=
  (
    ∀ (s : State) (le : Fin 8) (b : Blk), s.mod.blk le = some b → b.state = .ready → b.readyAt + 4 ≤ s.mod.now →
      s.mod.sys.coreSilent = false →
      (∀ ws, b.st = { Staged.empty with words := ws } → (∀ w ∈ ws, w.1 % 4 = 0 ∧ w.1 < 0x01000000) → (ws.map (·.1)).Nodup →
        Leads (.blockEnd le) s (fun m => m.blk le = none ∧ (∀ w ∈ ws, m.mw w.1 = w.2)
          ∧ (∀ k, (∀ w ∈ ws, k < w.1 ∨ w.1 + 4 ≤ k) → m.mb k = s.mod.mb k)
          ∧ m = { s.mod with mem := m.mem, regs := m.regs, eng := m.eng }))
      ∧ (∀ src w, b.st = { Staged.empty with evts := [(0, src, w)] } → Leads (.blockEnd le) s (fun m =>
          m.blk le = none ∧ m.mem = s.mod.mem
          ∧ m.reports = s.mod.reports ++ [⟨src, w, .task b.task, s.mod.now, s.mod.todSec, s.mod.todNs⟩]))
      ∧ (∀ w, b.st = { Staged.empty with evts := [(1, 0, w)] } → Leads (.blockEnd le) s (fun m =>
          m.blk le = none ∧ m.sys = { s.mod.sys with readySeen := s.mod.sys.readySeen ++ [b.task] }))
      ∧ (∀ w, b.st = { Staged.empty with evts := [(1, 1, w)] } → Leads (.blockEnd le) s (fun m =>
          m.blk le = none ∧ m.sys = { s.mod.sys with stoppedSeen := s.mod.sys.stoppedSeen ++ [b.task] }))
      ∧ (∀ k v w, k < 8 → b.st = { Staged.empty with posts := [(k, v, w)] } → Leads (.blockEnd le) s (fun m =>
          m.blk le = none ∧ m.mw (0x01839000 + 16 * k) = v ∧ m.mw (0x01839004 + 16 * k) = w
          ∧ m.mn (0x01839008 + 16 * k) 4 = (s.mod.mn (0x01839008 + 16 * k) 4 + 1) % 2 ^ 32
          ∧ m.bit R.XS_MBX_PEND k = true ∧ m.bit R.HOST_IRQ_STAT 1 = true)))
  ∧ (
    ∀ (s : State) (le : Fin 8),
      (s.mod.blk le = none → exec (.blockEnd le) s = .next s)
      ∧ ∀ b, s.mod.blk le = some b →
        (b.state = .stopped → exec (.blockEnd le) s = .next ⟨s.mod.setBlk le none, s.pending⟩)
        ∧ (b.state = .ready → s.mod.sys.coreSilent = true → Leads (.blockEnd le) s (fun m => m.blk le = none
          ∧ m = { s.mod with mem := m.mem, regs := m.regs, eng := m.eng }
          ∧ ∀ k, (∀ p ∈ b.journal, k < s.mod.dmAddr le p.1 ∨ s.mod.dmAddr le p.1 + 4 ≤ k) → m.mb k = s.mod.mb k))
        ∧ (b.state = .running ∨ (b.state = .ready ∧ s.mod.sys.coreSilent = false ∧ s.mod.now < b.readyAt + 4) →
          b.rerun = false → s.mod.rn (R.TTB_OVR le) < 0xFFFFFFFE → Leads (.blockEnd le) s (fun m =>
          m.blk le = none
          ∧ m.rn (R.TTB_OVR le) = s.mod.rn (R.TTB_OVR le) + 1
          ∧ Raised s.mod m FS.TT_OVERRUN (.task b.task)
          ∧ (∀ k, (∀ p ∈ b.journal, k < s.mod.dmAddr le p.1 ∨ s.mod.dmAddr le p.1 + 4 ≤ k) → m.mb k = s.mod.mb k)
          ∧ (∀ p ∈ b.journal, (∀ q ∈ b.journal, q = p ∨ q.1 + 4 ≤ p.1 ∨ p.1 + 4 ≤ q.1) →
              m.mw (s.mod.dmAddr le p.1) = p.2)
          ∧ m = { s.mod with mem := m.mem, regs := m.regs, eng := m.eng, sid := m.sid, reports := m.reports, freeCtr := m.freeCtr })))

/-- Drains, gauges, IM lines, rows and substitution copies: The oldest draining block of an engine leaves the drain; a gauge reading is shown as LAST and raises MAX, or starts it afresh after a write of MAX, an absent one is counted and the third is reported; a failing IM line is rewritten in its own 64 bytes only; a row under retirement, with a spare left, is done and reported with memory as it was, and with none left it stays; a substitution copy that waits for no beats is noted; a generator off its placement is marked and reported. (R101, R107, R110, R111, R503, R505) -/
def Obligations.EngineUpkeep : Prop :=
  ∀ (s : State),
    (∀ (le : Fin 8) d, s.mod.eng.draining.find? (fun d => d.1 == le.val) = some d →
      (s.mod.host.queue = [] → exec (.commitDrainComplete le) s = .next ⟨{ s.mod with eng := { s.mod.eng with
        draining := s.mod.eng.draining.erase d } }, s.pending⟩)
      ∧ Leads (.commitDrainComplete le) s (fun m => m.eng.draining = s.mod.eng.draining.erase d))
    ∧ (s.mod.powered = true → ∀ (p : Fin 10) (v : BitVec 16), Leads (.gaugeReading p (some v)) s (fun m =>
        m.rf (R.ENG_GAUGE p) F.ENG_GAUGE_LAST = v.toNat
        ∧ m.rf (R.ENG_GAUGE p) F.ENG_GAUGE_MAX = (if p.val ∈ s.mod.eng.maxFresh then v.toNat
            else max v.toNat (s.mod.rf (R.ENG_GAUGE p) F.ENG_GAUGE_MAX))
        ∧ SMap.getD 0 m.eng.gaugeMiss p = 0 ∧ m.mem = s.mod.mem))
    ∧ (s.mod.powered = true → ∀ p : Fin 10, Leads (.gaugeReading p none) s (fun m =>
        SMap.getD 0 m.eng.gaugeMiss p = SMap.getD 0 s.mod.eng.gaugeMiss p + 1 ∧ m.regs = s.mod.regs ∧ m.mem = s.mod.mem
        ∧ (if SMap.getD 0 s.mod.eng.gaugeMiss p = 2 then Raised s.mod m FS.ENG_GAUGE_LOST (s.mod.engOwner p)
          else m.reports = s.mod.reports)))
    ∧ (s.mod.powered = true → ∀ (le : Fin 8) (line : Fin 2048), (le.val, line.val) ∈ s.mod.eng.badLines → Leads (.imLineRewrite le line) s (fun m =>
        (le.val, line.val) ∉ m.eng.badLines ∧ m = { s.mod with mem := m.mem, eng := m.eng }
        ∧ ∀ k, k < s.mod.imAddr le (64 * line.val) ∨ s.mod.imAddr le (64 * line.val) + 64 ≤ k → m.mb k = s.mod.mb k))
    ∧ (s.mod.powered = true → ∀ r rs, s.mod.eng.retiring = r :: rs → s.mod.spareLeft r = false →
      exec .rowRetireCopyDone s = .next ⟨{ s.mod with eng := { s.mod.eng with retiring := rs } }, s.pending⟩)
    ∧ (s.mod.powered = true → ∀ r rs, s.mod.eng.retiring = r :: rs → s.mod.spareLeft r = true → Leads (.rowRetireCopyDone) s (fun m =>
        m.eng.retiring = rs ∧ (∀ h ∈ m.eng.hits, h.1 ≠ r) ∧ m.mem = s.mod.mem ∧ ∃ l w, m.reports = l ++
          [⟨FS.ROW_RETIRED, w, .none, s.mod.now, s.mod.todSec, s.mod.todNs⟩]))
    ∧ (s.mod.up = true → s.mod.rf R.SID_STAT F.SID_STAT_STATE = 1 → s.mod.sid.copyLeft = 0 →
      Leads .substitutionCopyDone s (fun m => m.sid = { s.mod.sid with copied := true }
        ∧ m = { s.mod with mem := m.mem, regs := m.regs, sid := m.sid, eng := { s.mod.eng with failing := m.eng.failing } }))
    ∧ (s.mod.up = true → s.mod.rf R.SID_STAT F.SID_STAT_STATE = 1 → s.mod.sid.copyLeft ≠ 0 →
      exec .substitutionCopyDone s = .next s)
    ∧ (∀ g : Fin 34, s.mod.up = true → s.mod.marked .generator g = false → Leads (.generatorLoopbackCheck [g]) s (fun m =>
        m.marked .generator g = true
        ∧ m.reports = s.mod.reports ++ [⟨FS.SID_WEAR, BitVec.ofNat 32 (0x10 + g.val), .none, s.mod.now, s.mod.todSec, s.mod.todNs⟩]
        ∧ m = { s.mod with regs := m.regs, reports := m.reports }))

/-- ADMISSION_DONE: While a copy is in admission, its end shows RESULT, clears BUSY and ARM, and sets ARMED exactly where RESULT is 0; a copy that fails is armed no longer, and every byte of BAR2 stays as it was. With no admission under way, or without supply, nothing happens. (R81, R94, R97) -/
def Obligations.AdmissionShowsItsResult : Prop :=
  ∀ (s : State) (regions : List (BitVec 32 × BitVec 32)),
    ((s.mod.powered = false ∨ s.mod.eng.armCopy = none ∨ s.mod.flag R.TTB_STAT F.TTB_STAT_BUSY = false) → exec (.admissionDone regions) s = .next s)
    ∧ ∀ c, s.mod.powered = true → s.mod.eng.armCopy = some c → s.mod.flag R.TTB_STAT F.TTB_STAT_BUSY = true →
      let r := s.mod.admission c ((regions.map (fun r => (r.1.toNat, r.2.toNat))).take 64)
      Leads (.admissionDone regions) s (fun m =>
        m.flag R.TTB_STAT F.TTB_STAT_BUSY = false
        ∧ m.flag R.TTB_STAT F.TTB_STAT_ARMED = (r.1 == 0)
        ∧ m.flag R.TTB_CTRL F.TTB_CTRL_ARM = false
        ∧ m.rf R.TTB_STAT F.TTB_STAT_RESULT = r.1 % 256
        ∧ (r.1 = 0 → m.eng.armTick = s.mod.now ∧ m.eng.armCopy = some c)
        ∧ (r.1 ≠ 0 → m.eng.armCopy = none ∧ m.mem = s.mod.mem)
        ∧ m = { s.mod with mem := m.mem, regs := m.regs, eng := m.eng })

/-- FRAME_BOUNDARY and the frame-start word: A frame boundary of a module that INSPECT does not hold is answered with a next state; unless the boundary itself led to INSPECT, the frame-start word that each task reads from then on has the layout of R87: the mode in bits 3:0, the sub-state in 7:4, STOPPING in bit 8, the active copy in bit 9, SHED_ACT in bit 10, WAS_SHED of the task in bit 11, the shed level in 15:12 when SHED_ACT is 1, and the low 16 bits of TTB_FRAMES in 31:16. (R87) -/
def Obligations.FrameStartWordTellsTheFrame : Prop :=
  ∀ (s : State) (peer : Option Peer) (mismatch : Bool), s.mod.up = true →
    Leads (.frameBoundary peer mismatch) s (fun m => m.up = true → ∀ t : Nat,
      let w := m.taskWord t
      bitsN w 3 0 = m.rf R.SYS_MODE F.SYS_MODE_MODE ∧ bitsN w 7 4 = m.rf R.SYS_MODE F.SYS_MODE_SUB
      ∧ w.testBit 8 = m.flag R.SYS_MODE F.SYS_MODE_STOPPING
      ∧ w.testBit 9 = (!m.flag R.TTB_STAT F.TTB_STAT_NONE && m.rf R.TTB_STAT F.TTB_STAT_ACTIVE == 1)
      ∧ w.testBit 10 = m.flag R.TTB_SHED F.TTB_SHED_ACT
      ∧ w.testBit 11 = m.eng.shedPrev.contains t
      ∧ (w.testBit 10 = true → bitsN w 15 12 = m.rf R.TTB_SHED F.TTB_SHED_LEVEL)
      ∧ bitsN w 31 16 = m.rn R.TTB_FRAMES % 65536 ∧ w < 2 ^ 32)

/-- Register writes and the SET, CLEAR and TOGGLE aliases, on HOST_IRQ_EN: A 32-bit write in the normal window gives the fields the value written; the SET, CLEAR and TOGGLE windows set, clear and invert the bits that are 1 against the value last written. Enabling a bit of HOST_IRQ_STAT that is 1 sends its message, with its own vector or vector 0; no other register changes. A hardware update within the arbitration window of a write wins over it: a flag of HOST_IRQ_STAT set there stays 1, and a counter takes its increments on top of the value written. (R51, R55, R56, R63, R68) -/
def Obligations.HostRegisterWritesAndTheirAliases : Prop :=
  ∀ (s : State) (v : BitVec 32), s.mod.live = true → v.toNat < 256 →
    let shows (en : Nat → Bool) (m : Module) : Prop :=
      (∀ n < 8, m.bit R.HOST_IRQ_EN n = en n) ∧ (∀ a, a ≠ R.HOST_IRQ_EN → m.rd a = s.mod.rd a)
      ∧ m.host.msi = s.mod.host.msi ++ ((List.range 8).filter (fun n =>
          en n && !s.mod.bit R.HOST_IRQ_EN n && s.mod.bit R.HOST_IRQ_STAT n)).map (fun n => if s.mod.host.msix then n else 0)
      ∧ m = { s.mod with regs := m.regs, upsets := m.upsets, host := { s.mod.host with high := m.host.high, msi := m.host.msi } }
    let last := s.mod.pendView R.HOST_IRQ_EN
    Leads (.hostIrqEnWrite v) s (shows (fun n => v.getLsbD n))
    ∧ Leads (.registerWrite 2 0x10008 (v.setWidth 64) none) s (shows (fun n => v.getLsbD n))
    ∧ Leads (.registerWrite 2 0x810008 (v.setWidth 64) none) s (shows (fun n => last.getLsbD n || v.getLsbD n))
    ∧ Leads (.aliasSetWrite 2 0x10008 (v.setWidth 64)) s (shows (fun n => last.getLsbD n || v.getLsbD n))
    ∧ Leads (.aliasClearWrite 2 0x10008 (v.setWidth 64)) s (shows (fun n => last.getLsbD n && !v.getLsbD n))
    ∧ Leads (.aliasToggleWrite 2 0x10008 (v.setWidth 64)) s (shows (fun n => last.getLsbD n ^^ v.getLsbD n))
    ∧ (∀ sets : BitVec 64, Leads (.registerWrite 2 (BitVec.ofNat 25 R.HOST_IRQ_STAT) (v.setWidth 64) (some ⟨sets, 0⟩)) s (fun m =>
        ∀ n < 8, m.bit R.HOST_IRQ_STAT n = ((s.mod.bit R.HOST_IRQ_STAT n && !v.getLsbD n) || sets.getLsbD n)))
    ∧ (∀ n : BitVec 8, Leads (.registerWrite 2 (BitVec.ofNat 25 R.HOST_VOTE_FIX) (v.setWidth 64) (some ⟨0, n⟩)) s (fun m =>
        m.rn R.HOST_VOTE_FIX = v.toNat + n.toNat))

/-- LOW_WORD_READ, HIGH_WORD_READ, HOST_ACCESS_COMPLETE and SYS_MODE_READ: A 32-bit read of the low word of a 64-bit register answers the low word and latches the high word; the next access, a read of that high word, answers the latched word, and any other reading the current one; a 64-bit read answers both. Each such access forgets the latch, and none changes a register. A read of SYS_MODE in the normal window answers the register as it stood and clears its REFUSE field; no other field and no other register changes. A module that is not supplied, or that has shed its load for the hold-up sequence, answers nothing. (R34, R47, R52, R58, R67) -/
def Obligations.RegisterReadsAndTheirEffects : Prop :=
  (
    ∀ (s : State), s.mod.live = true → s.mod.sys.inspecting = false →
      ∀ a ∈ [R.SYS_UID, R.HOST_VIOL_TIME, R.TTB_FRAMES, R.CLK_TOD_SEC, R.CLK_GMID, R.PB_GS_LOST, R.SID_MARK_G],
        let answers (v : Nat) (h : Option HighLatch) (m : Module) : Prop :=
          m.host.pcie = .data (BitVec.ofNat 64 v) ∧ m.highOf .pcie = h ∧ m = { s.mod with host := m.host }
        Leads (.lowWordRead (BitVec.ofNat 22 a)) s
          (answers (s.mod.rn a % 2 ^ 32) (some ⟨a, BitVec.ofNat 32 (s.mod.rn a / 2 ^ 32)⟩))
        ∧ (∀ h, s.mod.highOf .pcie = some ⟨a, h⟩ → Leads (.highWordRead (BitVec.ofNat 22 (a + 4))) s (answers h.toNat none))
        ∧ ((∀ h, s.mod.highOf .pcie ≠ some ⟨a, h⟩) →
            Leads (.highWordRead (BitVec.ofNat 22 (a + 4))) s (answers (s.mod.rn a / 2 ^ 32) none))
        ∧ Leads (.hostAccessComplete (.pcie 3 (BitVec.ofNat 25 a))) s (answers (s.mod.rn a) none))
  ∧ (
    ∀ (s : State),
      (s.mod.live = false → exec .sysModeRead s = .next s)
      ∧ (s.mod.live = true → Leads .sysModeRead s (fun m =>
          m.host.pcie = .data (BitVec.ofNat 64 (s.mod.rn R.SYS_MODE % 2 ^ 32))
          ∧ m.rf R.SYS_MODE F.SYS_MODE_REFUSE = 0 ∧ m.rf R.SYS_MODE F.SYS_MODE_MODE = s.mod.rf R.SYS_MODE F.SYS_MODE_MODE
          ∧ m.rf R.SYS_MODE F.SYS_MODE_SUB = s.mod.rf R.SYS_MODE F.SYS_MODE_SUB
          ∧ m.flag R.SYS_MODE F.SYS_MODE_STOPPING = s.mod.flag R.SYS_MODE F.SYS_MODE_STOPPING
          ∧ m.flag R.SYS_MODE F.SYS_MODE_HALTING = s.mod.flag R.SYS_MODE F.SYS_MODE_HALTING
          ∧ (∀ a, a ≠ R.SYS_MODE → m.rd a = s.mod.rd a)
          ∧ m = { s.mod with regs := m.regs, host := { s.mod.host with pcie := m.host.pcie, high := m.host.high } })))

/-- Register accesses that the decision table refuses: An access that a row of the decision table refuses leaves every register but those of the violation as it was: HOST_VIOL_ADDR and HOST_VIOL_INFO name its address, window, width and the first reason that holds, HOST_VIOL_CNT counts it, VIOL interrupts, HOST_VIOL is reported; a posted write marks HOST_PWERR.ERR, and a read is answered with completer abort. (R50, R58, R59, R65, R68) -/
def Obligations.RefusedRegisterAccesses : Prop :=
  ∀ (s : State) (v : BitVec 64), s.mod.live = true → s.mod.flag R.HOST_PWERR F.HOST_PWERR_ERR = false →
    let refused (write : Bool) (addr win width reason : Nat) (m : Module) : Prop :=
      m.rn R.HOST_VIOL_ADDR = addr
      ∧ m.rf R.HOST_VIOL_INFO F.HOST_VIOL_INFO_WINDOW = win
      ∧ m.flag R.HOST_VIOL_INFO F.HOST_VIOL_INFO_WRITE = write
      ∧ m.rf R.HOST_VIOL_INFO F.HOST_VIOL_INFO_WIDTH = width
      ∧ m.rf R.HOST_VIOL_INFO F.HOST_VIOL_INFO_INITIATOR = 0
      ∧ m.rf R.HOST_VIOL_INFO F.HOST_VIOL_INFO_REASON = reason
      ∧ m.rn R.HOST_VIOL_CNT = (if s.mod.rn R.HOST_VIOL_CNT < 0xFFFFFFFF then s.mod.rn R.HOST_VIOL_CNT + 1
          else s.mod.rn R.HOST_VIOL_CNT)
      ∧ m.bit R.HOST_IRQ_STAT 3 = true ∧ Raised s.mod m FS.HOST_VIOL .none ∧ m.mem = s.mod.mem
      ∧ (if write then m.flag R.HOST_PWERR F.HOST_PWERR_ERR = true ∧ m.host.pcie = s.mod.host.pcie
          else m.flag R.HOST_PWERR F.HOST_PWERR_ERR = false ∧ m.host.pcie = .abort)
      ∧ ∀ a, a ∉ [R.HOST_VIOL_ADDR, R.HOST_VIOL_INFO, R.HOST_VIOL_TIME, R.HOST_VIOL_CNT, R.HOST_SAT, R.HOST_IRQ_STAT,
          R.HOST_PWERR] → m.rd a = s.mod.rd a
    (∀ addr : BitVec 25, 0xC00000 ≤ addr.toNat → addr.toNat < 0x1000000 → s.mod.sys.inspecting = false →
      (∀ k : Fin 4, Leads (.registerWrite k addr v none) s (refused true addr.toNat 0 (2 ^ k.val) 1))
      ∧ ∀ k : Fin 4, Leads (.hostAccessComplete (.pcie k addr)) s (refused false addr.toNat 0 (2 ^ k.val) 1))
    ∧ (∀ addr : BitVec 25, 0x20000 ≤ addr.toNat → addr.toNat < 0x400000 → s.mod.sys.inspecting = true →
      ∀ k : Fin 4, Leads (.registerWrite k addr v none) s (refused true addr.toNat 0 (2 ^ k.val) 9))
    ∧ Leads (.registerWrite 2 0x34 v none) s (refused true 0x34 0 4 1)
    ∧ Leads (.registerWrite 2 0x1000A v none) s (refused true 0x1000A 0 4 2)
    ∧ Leads (.registerWrite 1 0x10008 v none) s (refused true 0x10008 0 2 3)
    ∧ Leads (.registerWrite 3 0x10008 v none) s (refused true 0x10008 0 8 4)
    ∧ Leads (.hostAccessComplete (.pcie 3 0x10008)) s (refused false 0x10008 0 8 4)
    ∧ Leads (.registerWrite 2 0x10000 v none) s (refused true 0x10000 0 4 5)
    ∧ (256 ≤ v.toNat % 2 ^ 32 → Leads (.registerWrite 2 0x10008 v none) s (refused true 0x10008 0 4 6))
    ∧ Leads (.aliasSetWrite 2 0x10020 v) s (refused true 0x810020 2 4 7)
    ∧ Leads (.registerWrite 2 0x410008 v none) s (refused true 0x410008 1 4 8)
    ∧ (s.mod.rf R.SID_HL_STAT F.SID_HL_STAT_ROLE = 2 → v.toNat < 8 →
        Leads (.registerWrite 2 0x14 v none) s (refused true 0x14 0 4 0xA))

/-- BAR2_READ, BAR2_WRITE, BAR2_ACCESS_COMPLETE and BUDGET_PERIOD_START: An access to a writable table within the budget of the period is served at once, where no word of it fails parity or drains: a read answers the bytes little-endian, a write stores them and no other byte; one that exceeds it is held in order with nothing done, and completes when the budget allows; a read of a draining word waits as well. A period start of the active copy gives a master for which nothing waits its whole budget again and counts a period in which it was delayed; with no copy active the one period of all masters is the host's. Between the regions an access is refused with reason 1. (R57, R58, R75, R90, R91, R92, R93, R107, R112) -/
def Obligations.Bar2AccessesAndTheYardBudget : Prop :=
  ∀ (s : State), s.mod.live = true → s.mod.sys.inspecting = false →
    let fits (off n : Nat) : Prop := s.mod.used Bus.host + ((off + n + 15) / 16 - off / 16) ≤ s.mod.budget Bus.host
    let quiet (off n : Nat) : Prop := ∀ w ∈ wordsAt off n, w ∉ s.mod.eng.failing ∧ ∀ d ∈ s.mod.eng.draining, w ∉ d.2
    (∀ (k : Fin 4) (off : BitVec 28) (v : BitVec 64), 0x018A3000 ≤ off.toNat → off.toNat < 0x018A3800 → off.toNat % 2 ^ k.val = 0 →
      s.mod.host.queue = [] →
      (fits off.toNat (2 ^ k.val) → quiet off.toNat (2 ^ k.val) → Leads (.bar2Read k off false) s (fun m =>
          m.host.pcie = .data (BitVec.ofNat 64 (s.mod.mn off.toNat (2 ^ k.val)))
          ∧ m.used Bus.host = s.mod.used Bus.host + ((off.toNat + 2 ^ k.val + 15) / 16 - off.toNat / 16)
          ∧ m = { s.mod with host := m.host, eng := { s.mod.eng with budgetUsed := m.eng.budgetUsed } }))
      ∧ (fits off.toNat (2 ^ k.val) → 2 ≤ k.val → Leads (.bar2Write k off v) s (fun m =>
          (∀ j < 2 ^ k.val, m.mb (off.toNat + j) = BitVec.ofNat 8 (v.toNat / 256 ^ j))
          ∧ (∀ a, a < off.toNat ∨ off.toNat + 2 ^ k.val ≤ a → m.mb a = s.mod.mb a)
          ∧ m = { s.mod with mem := m.mem, host := m.host,
                             eng := { s.mod.eng with budgetUsed := m.eng.budgetUsed, failing := m.eng.failing } }))
      ∧ ((∃ w ∈ wordsAt off.toNat (2 ^ k.val), ∃ d ∈ s.mod.eng.draining, w ∈ d.2) → Leads (.bar2Read k off false) s (fun m =>
          m.host.queue = [⟨off.toNat, 2 ^ k.val, none, false⟩] ∧ m.host.pcie = .none ∧ m = { s.mod with host := m.host }))
      ∧ (¬ fits off.toNat (2 ^ k.val) → 2 ≤ k.val → Leads (.bar2Write k off v) s (fun m =>
          m.host.queue = [⟨off.toNat, 2 ^ k.val, some v, false⟩] ∧ m.host.pcie = .none
          ∧ m = { s.mod with host := m.host, eng := { s.mod.eng with delayed := m.eng.delayed } })))
    ∧ (∀ (off : Nat) (q : List Bar2Access), off < 0x06800000 → (off < 0x018B1000 ∨ 0x018B2000 ≤ off) →
      s.mod.host.queue = ⟨off, 4, none, false⟩ :: q → fits off 4 → quiet off 4 →
        Leads .bar2AccessComplete s (fun m => m.host.queue = q ∧ m.host.pcie = .data (BitVec.ofNat 64 (s.mod.mn off 4))
          ∧ m = { s.mod with host := m.host, eng := { s.mod.eng with budgetUsed := m.eng.budgetUsed } }))
    ∧ (s.mod.activeCopy = none → ∀ b : Fin 6, b ≠ 0 → exec (.budgetPeriodStart b) s = .next s)
    ∧ (∀ b : Fin 6, s.mod.activeCopy ≠ none → s.mod.host.queue = [] → s.mod.eng.busWait = [] → s.mod.sid.copyLeft = 0 →
      (∀ p < 16, (s.mod.port p).results = []) → s.mod.rn (R.TTB_DLY b) < 0xFFFFFFFE → Leads (.budgetPeriodStart b) s (fun m =>
        m.used b = 0 ∧ b.val ∉ m.eng.delayed
        ∧ m.rn (R.TTB_DLY b) = s.mod.rn (R.TTB_DLY b) + (if b.val ∈ s.mod.eng.delayed then 1 else 0)
        ∧ (∀ a, a ≠ R.TTB_DLY b → m.rd a = s.mod.rd a)
        ∧ m = { s.mod with regs := m.regs, rings := m.rings, eng := { s.mod.eng with budgetUsed := m.eng.budgetUsed, delayed := m.eng.delayed } }))
    ∧ (∀ (k : Fin 4) (off : BitVec 28), 0x01500000 ≤ off.toNat → off.toNat < 0x01800000 →
        Leads (.bar2Read k off false) s (fun m => m.host.pcie = .abort
          ∧ m.rf R.HOST_VIOL_INFO F.HOST_VIOL_INFO_REASON = 1
          ∧ m.rf R.HOST_VIOL_ADDR F.HOST_VIOL_ADDR_SPACE = 1
          ∧ m.rf R.HOST_VIOL_ADDR F.HOST_VIOL_ADDR_OFFSET = off.toNat
          ∧ m.mem = s.mod.mem ∧ m.host.queue = s.mod.host.queue))

/-- The SPI slot and the maintenance UART: A request frame with its CRC while none is pending becomes the pending transaction, with status BUSY; a wrong CRC leaves status 0x81; a request while one is pending is discarded and reported once as 0x83. A status frame answers status and data with their CRC, and returns a completed status once; a request with no valid CMD leaves 0x81. The transaction completes with status 2 and its data. Of accesses that tie, PCIe goes before SPI and SPI before the UART. A request with its CRC for the SYS block is answered with status 0, the length and the bytes; a wrong CRC or an unknown CMD is answered with 0x81; a read beyond the SYS block is refused with 0x80 and reason 0x0C; an incident that MRAM does not hold is answered with 0x82, one it holds with its 128 bytes. Each response carries its CRC. (R53, R54, R64, R68, R494) -/
def Obligations.SpiAndMaintenanceUart : Prop :=
  (
    ∀ (s : State), s.mod.live = true →
      let slot (x : SpiSlot) : Host.Outcome State Fault Refusal :=
        .next ⟨{ s.mod with host := { s.mod.host with spi := x } }, s.pending⟩
      let spi := s.mod.host.spi
      let takes (c : BitVec 16 → Instr) (bytes : List Byte) (r : SpiReq) : Prop :=
        (spi.req = none → exec (c (BitVec.ofNat 16 (crc16 bytes))) s = slot { spi with stat := 1, data := 0, req := some r })
        ∧ (spi.req = none → ∀ crc : BitVec 16, crc.toNat ≠ crc16 bytes →
            exec (c crc) s = slot { spi with stat := 0x81, data := 0 })
        ∧ (spi.req ≠ none → ∀ crc, exec (c crc) s = slot { spi with ovf := true })
      (∀ (cmd : BitVec 8) (a : BitVec 32) (crc : BitVec 16), cmd ∉ [0x0B, 0x0C, 0x05] →
        exec (.spiRead32 a crc cmd) s = slot (if spi.req = none then { spi with stat := 0x81, data := 0 } else { spi with ovf := true }))
      ∧ (∀ a : BitVec 32, takes (fun crc => .spiRead32 a crc) (0x0B :: leBytes 4 a.toNat) ⟨false, 4, a.toNat, 0⟩)
      ∧ (∀ a : BitVec 32, takes (.spiRead64 a) (0x0C :: leBytes 4 a.toNat) ⟨false, 8, a.toNat, 0⟩)
      ∧ (∀ a v : BitVec 32, takes (.spiWrite32 a v) (0x02 :: leBytes 4 a.toNat ++ leBytes 4 v.toNat)
          ⟨true, 4, a.toNat, v.setWidth 64⟩)
      ∧ (∀ (a : BitVec 32) (v : BitVec 64), takes (.spiWrite64 a v) (0x03 :: leBytes 4 a.toNat ++ leBytes 8 v.toNat)
          ⟨true, 8, a.toNat, v⟩)
      ∧ (let frame (stat : Byte) (v : Nat) : List Byte :=
          0 :: (stat :: leBytes 8 v) ++ leBytes 2 (crc16 (stat :: leBytes 8 v))
        (spi.ovf = true → exec .spiStatus s = slot { spi with ovf := false, out := frame 0x83 0 })
        ∧ (spi.ovf = false → spi.req ≠ none → exec .spiStatus s = slot { spi with out := frame 1 0 })
        ∧ (spi.ovf = false → spi.req = none →
            exec .spiStatus s = slot { spi with stat := 0, data := 0, out := frame spi.stat spi.data.toNat }))
      ∧ (spi.req = none → exec (.hostAccessComplete .spi) s = .next s)
      ∧ (spi.req = some ⟨false, 8, R.SYS_UID, 0⟩ → Leads (.hostAccessComplete .spi) s (fun m =>
          m.host.spi = { spi with stat := 2, data := s.mod.rd R.SYS_UID, req := none }
          ∧ m = { s.mod with host := { s.mod.host with spi := m.host.spi, high := m.host.high } }))
      ∧ (∀ (k : Fin 4) (a : BitVec 25) (c : BitVec 8) (arg crc : BitVec 16), ∀ m1,
        exec (.hostAccessComplete (.pcie k a)) s = .next ⟨m1, s.pending⟩ → ∀ m2,
        exec (.hostAccessComplete .spi) ⟨m1, s.pending⟩ = .next ⟨m2, s.pending⟩ →
        exec (.hostAccessComplete (.tie (some (k, a, none)) true (some (c, arg, crc)))) s
          = exec (.uartReadSys32 arg crc c) ⟨m2, s.pending⟩))
  ∧ (
    ∀ (s : State), s.mod.live = true →
      let crcOf (cmd arg : Nat) : BitVec 16 := BitVec.ofNat 16 (crc16 (0xA5 :: BitVec.ofNat 8 cmd :: leBytes 2 arg))
      let answer (stat : Byte) (data : List Byte) : List Byte :=
        let f := 0x5A :: stat :: leBytes 2 data.length ++ data
        f ++ leBytes 2 (crc16 f)
      let shows (stat : Byte) (data : List Byte) (m : Module) : Prop :=
        m.host.uart = answer stat data ∧ m = { s.mod with host := { s.mod.host with uart := m.host.uart, high := m.host.high } }
      (∀ a ∈ [R.SYS_ID, R.SYS_REV, R.SYS_MODE, R.SYS_HALT_CAUSE, R.SYS_TIMES],
        (∀ u ∈ s.mod.upsets, u.addr.toNat ≠ a) →
        Leads (.uartReadSys32 (BitVec.ofNat 16 a) (crcOf 1 a)) s (shows 0 (leBytes 4 (s.mod.rn a))))
      ∧ Leads (.uartReadSys64 (BitVec.ofNat 16 R.SYS_UID) (crcOf 2 R.SYS_UID)) s (shows 0 (leBytes 8 (s.mod.rn R.SYS_UID)))
      ∧ (∀ a crc : BitVec 16, crc ≠ crcOf 1 a.toNat → Leads (.uartReadSys32 a crc) s (shows 0x81 []))
      ∧ (∀ (c : BitVec 8) (a crc : BitVec 16), c ∉ [1, 2, 0x10] → Leads (.uartReadSys32 a crc c) s (shows 0x81 []))
      ∧ (∀ a crc : BitVec 16, crc ≠ crcOf 2 a.toNat → Leads (.uartReadSys64 a crc) s (shows 0x81 []))
      ∧ (∀ a : BitVec 16, 0xFFF8 < a.toNat → Leads (.uartReadSys64 a (crcOf 2 a.toNat)) s (fun m =>
          m.host.uart = answer 0x80 [] ∧ m.rf R.HOST_VIOL_INFO F.HOST_VIOL_INFO_REASON = 0xC
          ∧ m.rf R.HOST_VIOL_INFO F.HOST_VIOL_INFO_INITIATOR = 2
          ∧ m.rf R.HOST_VIOL_ADDR F.HOST_VIOL_ADDR_SPACE = 2 ∧ m.mem = s.mod.mem))
      ∧ (∀ a crc : BitVec 16, crc ≠ crcOf 0x10 a.toNat → Leads (.uartReadIncident a crc) s (shows 0x81 []))
      ∧ (∀ a : BitVec 16, 8 ≤ a.toNat ∨ s.mod.rf R.FLT_STAT F.FLT_STAT_INC = 0 →
          Leads (.uartReadIncident a (crcOf 0x10 a.toNat)) s (shows 0x82 []))
      ∧ (∀ n, n = s.mod.rf R.FLT_STAT F.FLT_STAT_INC → n ≠ 0 → s.mod.mn (0x06630000 + 128 * (n % 256)) 4 = n →
          Leads (.uartReadIncident 0 (crcOf 0x10 0)) s (shows 0 (s.mod.mbytes (0x06630000 + 128 * (n % 256)) 128))))

/-- PCIE_RESET, PCIE_LINK_UP, VOTE_SCRUB and CONFIG_SAVE: The reset pin starts link training with the link shown down; a trained link shows its width and speed. A copy of a triplicated field that is disturbed changes no register. A scrub that outvotes one copy changes no field, counts, names its address, interrupts and is reported; a three-way disagreement puts the field at its reset value and is reported; a field that a write meets is skipped. SAVE of a block stores its configuration registers as last written, in MRAM, and clears the bit. (R51, R62, R65, R68, R532, R536) -/
def Obligations.LinkVotesAndSavedConfiguration : Prop :=
  ∀ (s : State), s.mod.live = true →
    Leads .pcieReset s (fun m => m.rn R.HOST_LINK = 0 ∧ (∀ a, a ≠ R.HOST_LINK → m.rd a = s.mod.rd a)
      ∧ m = { s.mod with regs := m.regs, host := { s.mod.host with linkTraining := true, msix := false } })
    ∧ (∀ (w g : Fin 3) (x : Bool), Leads (.pcieLinkUp (some (w, g, x))) s (fun m =>
        m.flag R.HOST_LINK F.HOST_LINK_UP = true ∧ m.rf R.HOST_LINK F.HOST_LINK_WIDTH = 2 ^ w.val
        ∧ m.rf R.HOST_LINK F.HOST_LINK_SPEED = g.val + 1 ∧ (∀ a, a ≠ R.HOST_LINK → m.rd a = s.mod.rd a)
        ∧ m = { s.mod with regs := m.regs, host := { s.mod.host with linkTraining := false, msix := x } }))
    ∧ Leads (.pcieLinkUp none) s (fun m => m.rn R.HOST_LINK = 0
        ∧ m = { s.mod with regs := m.regs, host := { s.mod.host with linkTraining := false, msix := false } })
    ∧ (s.mod.upsets = [] → exec (.voteScrub (.pass [])) s = .next s)
    ∧ (∀ a ∈ [R.SYS_TIMES, R.CLK_CFG], ∀ (k : Fin 3) (v : BitVec 64), ∀ l : Fin 64, (s.mod.votedField a l).isSome = true →
      exec (.voteScrub (.strike ⟨BitVec.ofNat 22 a, l, k, v⟩)) s = .next ⟨{ s.mod with upsets := s.mod.upsets.filter (fun u =>
        !(u.addr == BitVec.ofNat 22 a && u.lo == l && u.copy == k)) ++ [⟨BitVec.ofNat 22 a, l, k, v⟩] }, s.pending⟩)
    ∧ (voteKey R.SYS_TIMES 0 ∉ s.mod.voteFailed → s.mod.rn R.HOST_VOTE_FIX < 0xFFFFFFFE →
        let bad (k : Fin 3) (v : BitVec 64) : Upset := ⟨BitVec.ofNat 22 R.SYS_TIMES, 0, k, v⟩
        let now := s.mod.rf R.SYS_TIMES ⟨9, 0⟩
        (∀ us, s.mod.upsets = us → (∀ u ∈ us, u.addr.toNat = R.SYS_TIMES) →
          exec (.voteScrub (.pass [BitVec.ofNat 22 R.SYS_TIMES])) s = .next s)
        ∧ (∀ k v, s.mod.upsets = [bad k v] → v.toNat % 1024 ≠ now → Leads (.voteScrub (.pass [])) s (fun m =>
          m.rn R.HOST_VOTE_FIX = s.mod.rn R.HOST_VOTE_FIX + 1 ∧ m.rn R.HOST_VOTE_ADDR = R.SYS_TIMES
          ∧ m.bit R.HOST_IRQ_STAT 7 = true ∧ Raised s.mod m FS.VOTE_FIX .none
          ∧ m.upsets = [] ∧ (∀ a, a ∉ [R.HOST_VOTE_FIX, R.HOST_VOTE_ADDR, R.HOST_IRQ_STAT] → m.rd a = s.mod.rd a)))
        ∧ (∀ k l v w, s.mod.upsets = [bad k v, bad l w] → k ≠ l → v.toNat % 1024 ≠ now → w.toNat % 1024 ≠ now →
          v.toNat % 1024 ≠ w.toNat % 1024 → Leads (.voteScrub (.pass [])) s (fun m =>
          m.rf R.SYS_TIMES ⟨9, 0⟩ = 0x3C ∧ m.rf R.SYS_TIMES ⟨29, 16⟩ = s.mod.rf R.SYS_TIMES ⟨29, 16⟩
          ∧ m.voteFailed = s.mod.voteFailed ++ [voteKey R.SYS_TIMES 0] ∧ Raised s.mod m FS.VOTE_FAIL .none
          ∧ m.upsets = [] ∧ (∀ a, a ≠ R.SYS_TIMES → m.rd a = s.mod.rd a))))
    ∧ (s.mod.sys.inspecting = false → ∀ b : Fin 9, (∀ u ∈ s.mod.upsets, u.addr.toNat ≠ saveCtrl b) → Leads (.configSave b) s (fun m =>
        m.saved = s.mod.saved.filter (fun p => !(saveScope b).contains p.1)
          ++ (saveScope b).map (fun a => (a, s.mod.saveValue a))
        ∧ m.flag (saveCtrl b) (saveBit b) = false
        ∧ (∀ a, a ≠ saveCtrl b → m.rd a = s.mod.rd a)
        ∧ m = { s.mod with regs := m.regs, saved := m.saved, savedMem := m.savedMem,
                           host := { s.mod.host with high := m.host.high } }))

/-- MODE_REQ_INSPECT, MODE_REQ_HALT, MODE_REQ_DEPOT, MODE_REQ_SHUNT, MODE_REQ_DEPART, MODE_REQ_RUN, MODE_REQ_INVALID and HALT_ENTER: A mode request other than HALT, made to a module that is not the standby of a pair, is held with its code and key for its frame boundary and shown in PEND; a request of the same instant replaces it; the mode and every other register stay as they were until then. A HALT decision acts at once on a module that is not halted: the cause and its incident are recorded, the mode hold puts every generator under OFF with both outputs inactive and takes the command from every gate channel, every block under way is stopped, and HALTING shows until the boundary at which SYS_MODE becomes HALT; during INSPECT, which has no boundary, HALT stands at once. A module already halted keeps its cause, but for a removal. (R14, R30, R34, R35, R45, R61, R67, R107, R278) -/
def Obligations.ModeRequestsAndHalt : Prop :=
  (
    ∀ (s : State), s.mod.live = true → s.mod.rf R.SID_HL_STAT F.SID_HL_STAT_ROLE ≠ 2 →
      let asks (key code : Nat) (m : Module) : Prop :=
        m.pendF = s.mod.pendF.filter (fun p => p.addr ≠ R.SYS_MODE_REQ || decide (p.at' < s.mod.now))
          ++ [⟨R.SYS_MODE_REQ, fmask F.SYS_MODE_REQ_REQ, BitVec.ofNat 64 (0x10000 * key + code), s.mod.now⟩]
        ∧ m.flag R.SYS_MODE_REQ F.SYS_MODE_REQ_PEND = true
        ∧ (∀ a, a ≠ R.SYS_MODE_REQ → m.rd a = s.mod.rd a)
        ∧ m = { s.mod with regs := m.regs, pendF := m.pendF, host := { s.mod.host with high := m.host.high } }
      Leads .modeReqInspect s (asks 0 2) ∧ Leads .modeReqDepot s (asks 0 4) ∧ Leads .modeReqShunt s (asks 0x3C96 5)
      ∧ Leads .modeReqDepart s (asks 0 6) ∧ Leads .modeReqRun s (asks 0 7)
      ∧ ∀ c : BitVec 4, c ≠ 3 → Leads (.modeReqInvalid c) s (asks 0 c.toNat))
  ∧ (
    ∀ (s : State), s.mod.sys.power = .on →
      let halts (cause inc : Nat) (m : Module) : Prop :=
        m.rf R.SYS_HALT_CAUSE F.SYS_HALT_CAUSE_CAUSE = cause ∧ m.rf R.SYS_HALT_INC F.SYS_HALT_INC_INC = inc
        ∧ m.sys.modeHold = true ∧ (∀ l < 8, ∀ b, m.blk l = some b → b.state = .stopped)
        ∧ (∀ ch < 24, m.gateLevel ch = false)
        ∧ (∀ g < 34, (m.gen g).act = some .off ∧ (m.gen g).heldA = .inactive ∧ (m.gen g).heldB = .inactive)
        ∧ (s.mod.sys.inspecting = false → m.flag R.SYS_MODE F.SYS_MODE_HALTING = true
            ∧ m.rf R.SYS_MODE F.SYS_MODE_MODE = s.mod.rf R.SYS_MODE F.SYS_MODE_MODE)
        ∧ (s.mod.sys.inspecting = true → m.rf R.SYS_MODE F.SYS_MODE_MODE = 3 ∧ m.sys.inspecting = false)
      let halted : Prop := s.mod.rf R.SYS_MODE F.SYS_MODE_MODE = 3 ∨ s.mod.flag R.SYS_MODE F.SYS_MODE_HALTING = true
      (¬ halted → s.mod.sys.holdUp = false → s.mod.rf R.SID_HL_STAT F.SID_HL_STAT_ROLE ≠ 2 → Leads .modeReqHalt s (halts 3 0))
      ∧ ∀ (cause : BitVec 8) (inc : BitVec 16), 3 ≤ cause.toNat → cause.toNat ≤ 0xA →
        (¬ halted → Leads (.haltEnter cause inc) s (halts cause.toNat inc.toNat))
        ∧ (halted → cause.toNat ≠ 0xA → exec (.haltEnter cause inc) s = .next s)
        ∧ (halted → cause.toNat = 0xA → Leads (.haltEnter cause inc) s (fun m =>
            m.rf R.SYS_HALT_CAUSE F.SYS_HALT_CAUSE_CAUSE = 0xA ∧ m.rf R.SYS_HALT_INC F.SYS_HALT_INC_INC = inc.toNat
            ∧ (∀ a, a ≠ R.SYS_HALT_CAUSE → a ≠ R.SYS_HALT_INC → m.rd a = s.mod.rd a)
            ∧ m = { s.mod with regs := m.regs })))

/-- VMAIN_VALID, VMAIN_INVALID, SEATED_CLOSED, SEATED_OPEN, REMOVAL_DECLARED and HOLDUP_COMMIT_DONE: Supply and seating are noted; a valid VMAIN ends a burst of class REC. The Keeper records the time of a loss of VMAIN. A loss of VMAIN, or 5 µs of an open SEATED, in a powered mode starts the hold-up sequence, once: the removal line active, the stop signal at the Interlocking, every block stopped and no frame marked; a removal is reported. Its end closes the incident, writes every waiting record, and leaves the module in HALT where SEATED is open and VMAIN valid, else on its way to WATCH; a loss of VMAIN after it takes the module there without a second one. A record whose commit the exhausted store cuts short is marked, with the record before it kept. (R40, R46, R47, R48, R49, R494) -/
def Obligations.SupplySeatingAndHoldUp : Prop :=
  ∀ (s : State),
    let hold (m : Module) : Prop := m.sys.holdUp = true ∧ m.eng.noFrame = true ∧ m.il.stopSig = true
      ∧ m.bit R.PWM_FL_ACT (s.mod.cf R.PWM_FL_SYS F.PWM_FL_SYS_REM) = true
      ∧ (∀ l < 8, ∀ b, m.blk l = some b → b.state = .stopped)
    let noted : Keep := if s.mod.sys.vmainValid && !s.mod.keep.stopped then { s.mod.keep with lostAt := some s.mod.rtc }
      else s.mod.keep
    ((s.mod.sys.vmainValid = true ∨ ∀ b, s.mod.keep.burst = some b → b.req.cls ≠ 2) → exec .vmainValid s =
      .next ⟨{ s.mod with sys := { s.mod.sys with vmainValid := true } }, s.pending⟩)
    ∧ (s.mod.sys.vmainValid = false → ∀ b, s.mod.keep.burst = some b → b.req.cls = 2 → Leads .vmainValid s (fun m =>
        m.sys = { s.mod.sys with vmainValid := true } ∧ m.keep.burst = none ∧ m.mem = s.mod.mem))
    ∧ (s.mod.sys.power ≠ .on ∨ (s.mod.sys.shed = false ∧ s.mod.sys.holdUp = true) → exec .vmainInvalid s =
        .next ⟨{ s.mod with sys := { s.mod.sys with vmainValid := false }, keep := noted }, s.pending⟩)
    ∧ (s.mod.sys.power = .on → s.mod.sys.shed = true → exec .vmainInvalid s =
        .next ⟨{ s.mod with sys := { s.mod.sys with vmainValid := false, power := .watch }, keep := noted }, s.pending⟩)
    ∧ (s.mod.sys.power = .on → s.mod.sys.shed = false → s.mod.sys.holdUp = false → Leads .vmainInvalid s (fun m =>
        m.sys.vmainValid = false ∧ m.keep = noted ∧ hold m))
    ∧ exec .seatedClosed s = .next ⟨{ s.mod with sys := { s.mod.sys with seated := true } }, s.pending⟩
    ∧ (let lost : Bool := s.mod.sys.abandoned || (s.mod.sys.power == .on && s.mod.sys.inspecting)
      exec .seatedOpen s = .next ⟨{ s.mod with sys := { s.mod.sys with seated := false, abandoned := lost } }, s.pending⟩)
    ∧ (s.mod.sys.power ≠ .on ∨ s.mod.sys.seated = true ∨ s.mod.sys.removed = true → exec .removalDeclared s = .next s)
    ∧ (s.mod.sys.power = .on → s.mod.sys.seated = false → s.mod.sys.removed = false → s.mod.sys.holdUp = false →
        Leads .removalDeclared s (fun m => m.sys.removed = true ∧ hold m
          ∧ m.reports.getLast?.map (fun r => (r.src, r.at')) = some (FS.SYS_REMOVAL, s.mod.now)))
    ∧ (∀ cut, s.mod.sys.holdUp = false → exec (.holdupCommitDone cut) s = .next s)
    ∧ (∀ a bs, s.mod.sys.holdUp = true → s.mod.sys.vmainValid = false → s.mod.coll.inc = none → s.mod.logq = [(a, bs)] →
        Leads (.holdupCommitDone (some 0)) s (fun m => m.sys.torn = s.mod.sys.torn ++ [(a, s.mod.mbytes a bs.length)]
          ∧ m.sys.holdUp = false ∧ m.sys.power = .watch ∧ ∀ k, k < a ∨ a + bs.length ≤ k → m.mb k = s.mod.mb k))
    ∧ (∀ cut, s.mod.sys.holdUp = true → s.mod.sys.vmainValid = true ∨ cut = none → Leads (.holdupCommitDone cut) s (fun m =>
        m.coll.inc = none ∧ m.logq = []
        ∧ (let p : Power := if s.mod.sys.vmainValid && !s.mod.sys.seated then s.mod.sys.power else .watch
          m.sys = { s.mod.sys with holdUp := false, shed := true, power := p })
        ∧ (s.mod.coll.inc = none → ∀ a bs, s.mod.logq = [(a, bs)] → m.mbytes a bs.length = bs)))

/-- INSPECT_START and INSPECT_END: A supplied and seated module starts INSPECT from WATCH or DARK, after a removal, or after an INSPECT that was abandoned: the mode is INSPECT, volatile memory reads as nothing written it and MRAM and NOR as before, the Keeper keeps its registers, no block runs and no report is under way; else nothing happens. The end records the failures and notes and the answering dies; test 0x03 is what the images of the active bank give, test 0x05 fails with detail 0x02 while no band covers the target, and a record of MRAM that was cut short is discarded for the one before it, with a note of test 0x07. It leads to HALT with cause 1, or 2 with a failure, under the mode hold, with INSPECT_DONE. (R40, R41, R42, R43, R45, R47, R49, R67, R189) -/
def Obligations.InspectStartsAfreshAndEndsInHalt : Prop :=
  ∀ (s : State),
    (s.mod.sys.vmainValid = true → s.mod.sys.seated = true → s.mod.sys.holdUp = false →
      s.mod.sys.power ≠ .on ∨ s.mod.sys.removed = true ∨ s.mod.sys.abandoned = true →
      Leads .inspectStart s (fun m =>
        m.sys.power = .on ∧ m.sys.inspecting = true ∧ m.rf R.SYS_MODE F.SYS_MODE_MODE = 2 ∧ m.sys.modeHold = true
        ∧ (∀ a, a < 0x02000000 → m.mb a = memReset a) ∧ (∀ a, 0x02000000 ≤ a → m.mb a = s.mod.mb a)
        ∧ (∀ a, 0xE0000 ≤ a → a < 0xF0000 → m.rd a = s.mod.rd a)
        ∧ m.keep = s.mod.keep ∧ m.saved = s.mod.saved ∧ m.now = s.mod.now ∧ m.pendF = []
        ∧ (∀ r ∈ m.reports, r.src = FS.CLK_NO_BAND)
        ∧ ∀ l < 8, m.blk l = none))
    ∧ (s.mod.sys.vmainValid = false ∨ s.mod.sys.seated = false → exec .inspectStart s = .next s)
    ∧ ∀ (failures notes : List (BitVec 16)) (alive : BitVec 14),
      (s.mod.live = false ∨ s.mod.sys.inspecting = false ∨ s.mod.sys.abandoned = true → exec (.inspectEnd failures notes alive) s = .next s)
      ∧ (s.mod.sys.power = .on → s.mod.sys.inspecting = true → s.mod.sys.abandoned = false → s.mod.sys.holdUp = false →
        let f := failures.map BitVec.toNat
        let n := notes.map BitVec.toNat
        (s.mod.bandPick = none → Leads (.inspectEnd failures notes alive) s (fun m => m.sys.inspectPassed = false
          ∧ (hasTest 5 f = false → 0x502 ∈ m.sys.inspectLog) ∧ m.rf R.SYS_MODE F.SYS_MODE_MODE = 3
          ∧ m.rf R.SYS_HALT_CAUSE F.SYS_HALT_CAUSE_CAUSE = 2))
        ∧ (∀ a old, s.mod.sys.torn = [(a, old)] → 0x06600000 ≤ a → (∀ p ∈ s.mod.savedMem, p.1 < 0x02000000) →
          Leads (.inspectEnd failures notes alive) s (fun m => m.sys.torn = [] ∧ m.mbytes a old.length = old
            ∧ ∃ c ∈ m.sys.inspectLog, c / 256 = 7))
        ∧ (s.mod.sys.torn = [] → s.mod.inspectLog = (s.mod, []) → hasTest 3 f = false → hasTest 3 n = false →
          s.mod.bankBad s.mod.nvm.bootBank = none → s.mod.bandPick.isSome = true ∨ hasTest 5 f = true →
        Leads (.inspectEnd failures notes alive) s (fun m =>
          m.sys.inspecting = false ∧ m.sys.inspectPassed = failures.isEmpty ∧ m.sys.modeHold = true
          ∧ m.sys.inspectLog = f ++ n
          ∧ m.rf R.SYS_MODE F.SYS_MODE_MODE = 3
          ∧ m.rf R.SYS_HALT_CAUSE F.SYS_HALT_CAUSE_CAUSE = (if failures.isEmpty then 1 else 2)
          ∧ m.rf R.SYS_HALT_INC F.SYS_HALT_INC_INC = 0 ∧ m.bit R.HOST_IRQ_STAT 6 = true
          ∧ ((∀ p ∈ s.mod.saved, p.1 ≠ R.SYS_INSPECT ∧ p.1 ≠ R.SYS_DIE_STAT) →
              (∀ r, s.mod.mtr.record = some r → ∀ p ∈ r.regs, p.1 ≠ R.SYS_INSPECT ∧ p.1 ≠ R.SYS_DIE_STAT) →
              m.rn R.SYS_DIE_STAT = alive.toNat ∧ m.rf R.SYS_INSPECT ⟨15, 0⟩ = (failures.map BitVec.toNat).headD 0
              ∧ m.rf R.SYS_INSPECT ⟨23, 16⟩ = min 0xFF notes.length
              ∧ m.rf R.SYS_INSPECT ⟨31, 24⟩ = s.mod.rf R.SYS_INSPECT ⟨31, 24⟩))))

/-- STOP_T_EXPIRY, DEPART_TIMEOUT, CORE_SILENCE, CORE_ANSWERS_AGAIN and JTAG_INSTRUCTION: The limit of a controlled stop is noted while STOPPING; the limit of DEPART is noted and reported once. A core silence, declared while the timebase issues the ends of blocks, is latched, asserts every line that FL_SILENT names and stops every block; once the core answers CORE_SILENT is reported. The test port takes an instruction in HALT; BYPASS and IDCODE in any powered mode. (R21, R36, R37, R276, R524) -/
def Obligations.LimitsAndCoreSilence : Prop :=
  ∀ (s : State),
    (s.mod.powered = false ∨ s.mod.flag R.SYS_MODE F.SYS_MODE_STOPPING = false → exec .stopTExpiry s = .next s)
    ∧ (s.mod.powered = true → s.mod.flag R.SYS_MODE F.SYS_MODE_STOPPING = true →
        exec .stopTExpiry s = .next ⟨{ s.mod with sys := { s.mod.sys with stopExpired := true } }, s.pending⟩)
    ∧ (s.mod.powered = false ∨ s.mod.rf R.SYS_MODE F.SYS_MODE_MODE ≠ 6 ∨ s.mod.sys.departTimeout = true → exec .departTimeout s = .next s)
    ∧ (s.mod.powered = true → s.mod.rf R.SYS_MODE F.SYS_MODE_MODE = 6 → s.mod.sys.departTimeout = false → Leads .departTimeout s (fun m =>
        m.sys = { s.mod.sys with departTimeout := true } ∧ Raised s.mod m FS.DEPART_TIMEOUT .none
        ∧ m = { s.mod with sys := m.sys, reports := m.reports, freeCtr := m.freeCtr }))
    ∧ (s.mod.issuesEnds = true → Leads .coreSilence s (fun m =>
        m.sys.coreSilent = true ∧ (∀ l < 32, (s.mod.cf R.PWM_FL_SILENT F.PWM_FL_SILENT_MASK).testBit l = true →
          m.bit R.PWM_FL_ACT l = true)
        ∧ (∀ l < 8, ∀ b, m.blk l = some b → b.state = .stopped)
        ∧ m.rf R.SYS_MODE F.SYS_MODE_MODE = s.mod.rf R.SYS_MODE F.SYS_MODE_MODE))
    ∧ (s.mod.up = false ∨ s.mod.sys.coreSilent = true ∨ s.mod.activeCopy = none ∨ s.mod.ticking = false →
        s.mod.issuesEnds = false)
    ∧ (s.mod.issuesEnds = false → exec .coreSilence s = .next s)
    ∧ (s.mod.powered = false ∨ s.mod.sys.coreSilent = false → exec .coreAnswersAgain s = .next s)
    ∧ (s.mod.powered = true → s.mod.sys.coreSilent = true → (∀ r ∈ s.mod.reports, r.src ≠ FS.CORE_SILENT) →
        s.mod.rf R.SYS_HALT_CAUSE F.SYS_HALT_CAUSE_CAUSE ≠ 8 → Leads .coreAnswersAgain s (fun m =>
        Raised s.mod m FS.CORE_SILENT .none ∧ m = { s.mod with reports := m.reports, freeCtr := m.freeCtr }))
    ∧ (s.mod.sys.power = .on → ∀ i, (s.mod.rf R.SYS_MODE F.SYS_MODE_MODE = 3 ∨ i = .bypass ∨ i = .idcode) →
        exec (.jtagInstruction i) s = .next ⟨{ s.mod with tap := i }, s.pending⟩)
    ∧ (∀ n, s.mod.rf R.SYS_MODE F.SYS_MODE_MODE ≠ 3 → exec (.jtagInstruction (.other n)) s = .next s)

/-- TTB_ARM, TTB_CANCEL, LU_REQ_OPEN, LU_REQ_HELD, LU_REQ_CLOSED and LU_SNAP: ARM starts the admission of the copy that is not active, in HALT and DEPOT and, with a copy active, in every mode from HALT on, unless an admission or an armed switch is under way, when the bit clears at once (a reading of the model, log 27). With no copy active and in no such mode the write is refused with reason 0x0A and nothing starts. CANCEL ends an admission or an armed switch with RESULT 0xFF, unreported (a reading of the model, log 83); with none it only clears. A state request to a loop unit is held for its frame boundary and shown in PEND; the unit goes on as it was. SNAP latches output and state of the unit into its snapshot registers in one instant and clears. (R58, R61, R94, R95, R97, R179, R180, R185) -/
def Obligations.ArmingAndLoopUnitRequests : Prop :=
  (
    ∀ (s : State), s.mod.up = true →
      let may : Prop := s.mod.flag R.TTB_STAT F.TTB_STAT_BUSY = false ∧ s.mod.flag R.TTB_STAT F.TTB_STAT_ARMED = false
        ∧ 3 ≤ s.mod.rf R.SYS_MODE F.SYS_MODE_MODE ∧ (s.mod.activeCopy = none → s.mod.rf R.SYS_MODE F.SYS_MODE_MODE ≤ 4)
      let only (m : Module) (e : Eng) : Prop := (∀ a, a ≠ R.TTB_CTRL → a ≠ R.TTB_STAT → m.rd a = s.mod.rd a)
        ∧ m = { s.mod with regs := m.regs, upsets := m.upsets, host := m.host, eng := e, reports := m.reports, freeCtr := m.freeCtr }
      let refused : Prop := s.mod.activeCopy = none ∧ s.mod.rf R.SYS_MODE F.SYS_MODE_MODE ≠ 3
        ∧ s.mod.rf R.SYS_MODE F.SYS_MODE_MODE ≠ 4
      (may → Leads .ttbArm s (fun m => m.flag R.TTB_STAT F.TTB_STAT_BUSY = true ∧ m.flag R.TTB_CTRL F.TTB_CTRL_ARM = true
          ∧ only m { s.mod.eng with armCopy := some (if s.mod.activeCopy = some 0 then 1 else 0) }))
      ∧ (refused → Leads .ttbArm s (fun m => m.rf R.HOST_VIOL_INFO F.HOST_VIOL_INFO_REASON = 0xA
          ∧ (∀ a, a ∉ [R.HOST_VIOL_ADDR, R.HOST_VIOL_INFO, R.HOST_VIOL_TIME, R.HOST_VIOL_CNT, R.HOST_SAT, R.HOST_IRQ_STAT,
              R.HOST_PWERR] → m.rd a = s.mod.rd a)
          ∧ m.mem = s.mod.mem ∧ m.eng = s.mod.eng))
      ∧ (¬ may → ¬ refused → Leads .ttbArm s (fun m => m.flag R.TTB_CTRL F.TTB_CTRL_ARM = false ∧ m.rd R.TTB_STAT = s.mod.rd R.TTB_STAT
          ∧ only m s.mod.eng))
      ∧ (s.mod.eng.armCopy ≠ none → Leads .ttbCancel s (fun m => m.flag R.TTB_STAT F.TTB_STAT_BUSY = false
          ∧ m.flag R.TTB_STAT F.TTB_STAT_ARMED = false ∧ m.flag R.TTB_CTRL F.TTB_CTRL_ARM = false
          ∧ m.flag R.TTB_CTRL F.TTB_CTRL_CANCEL = false ∧ m.rf R.TTB_STAT F.TTB_STAT_RESULT = 0xFF
          ∧ m.reports = s.mod.reports ∧ only m { s.mod.eng with armCopy := none, armedTasks := [] }))
      ∧ (s.mod.eng.armCopy = none → Leads .ttbCancel s (fun m => m.flag R.TTB_CTRL F.TTB_CTRL_CANCEL = false
          ∧ m.rd R.TTB_STAT = s.mod.rd R.TTB_STAT ∧ m.reports = s.mod.reports ∧ only m s.mod.eng)))
  ∧ (
    ∀ (s : State) (u : Fin 96), s.mod.up = true →
      let asks (code : Nat) (m : Module) : Prop :=
        m.pendF = s.mod.pendF ++ [⟨R.LU_CTRL u, fmask F.LU_CTRL_REQ, BitVec.ofNat 64 code, s.mod.now⟩]
        ∧ m.flag (R.LU_STAT u) F.LU_STAT_PEND = true
        ∧ m.rf (R.LU_STAT u) F.LU_STAT_STATE = s.mod.rf (R.LU_STAT u) F.LU_STAT_STATE
        ∧ (∀ a, a ≠ R.LU_CTRL u → a ≠ R.LU_STAT u → m.rd a = s.mod.rd a)
        ∧ m = { s.mod with regs := m.regs, upsets := m.upsets, pendF := m.pendF, host := m.host }
      Leads (.luReqOpen u) s (asks 1) ∧ Leads (.luReqHeld u) s (asks 2) ∧ Leads (.luReqClosed u) s (asks 3)
      ∧ Leads (.luSnap u) s (fun m =>
          m.rd (R.LU_SOUT u) = s.mod.rd (R.LU_OUT u)
          ∧ m.rn (R.LU_S u 0) = (s.mod.luCore u).s0.toNat ∧ m.rn (R.LU_S u 1) = (s.mod.luCore u).s1.toNat
          ∧ m.rn (R.LU_S u 2) = (s.mod.luCore u).s2.toNat ∧ m.rn (R.LU_S u 3) = (s.mod.luCore u).s3.toNat
          ∧ m.flag (R.LU_CTRL u) F.LU_CTRL_SNAP = false
          ∧ (∀ a, a ∉ [R.LU_SOUT u, R.LU_S u 0, R.LU_S u 1, R.LU_S u 2, R.LU_S u 3, R.LU_CTRL u, R.LU_STAT u] →
              m.rd a = s.mod.rd a)
          ∧ m = { s.mod with regs := m.regs, upsets := m.upsets, host := m.host }))

/-- LOCK_DECLARED, LOSS_OF_LOCK, LOSS_OF_REFERENCE, REFERENCE_RETURN and FREQUENCY_REACQUIRED: A phase error under LOCK_WIN for LOCK_N cycles locks a clock in ACQUIRE, or in SLEWING without an outer loop: LOCKED, with an outer loop first REACQUIRE; it withdraws FL_CLK. A cycle under 1.90 ns is suppressed and counted, the time of day adds its 2 ns, and CLK_GUARD is raised in LOCKED and SLEWING. An error above 4 LOCK_WIN on 4 cycles, and a silence of the reference or the crystal long enough, is a loss, counted in every state with a lock: under COAST the clock holds over with the generators untouched and CLK_COAST reported; under GATE, and for the crystal, FL_CLK is requested and the tick stops 32 ticks later, at once where none runs, when every generator stops. A reference that returns in HOLDOVER leads to REACQUIRE; a known offset waits for its step where one is allowed, else the clock slews. (A loss under COAST in which no tick runs changes no state: the reading of log 84.) (R190, R191, R192, R193, R194, R195, R196, R204) -/
def Obligations.ClockLocksAndLoses : Prop :=
  ∀ (s : State) (edges : List (BitVec 16)), s.mod.powered = true → (∀ e ∈ edges, 1900 ≤ e.toNat) →
    let st (m : Module) : Nat := m.rf R.CLK_STAT F.CLK_STAT_STATE
    let src : Nat := s.mod.rf R.CLK_CFG F.CLK_CFG_SRC
    let outer : Bool := src == 2 || src == 3
    let line : Nat := s.mod.rf R.CLK_CFG F.CLK_CFG_FLINE
    let win : Nat := min 500 (max 5 (s.mod.rf R.CLK_LOCK F.CLK_LOCK_LOCK_WIN))
    let lockN : Nat := max 16 (s.mod.rf R.CLK_LOCK F.CLK_LOCK_LOCK_N)
    let coast : Bool := s.mod.flag R.CLK_CFG F.CLK_CFG_POLICY
    let sameTime (m : Module) : Prop := m.todSec = s.mod.todSec ∧ m.todNs = s.mod.todNs
    let counted (m : Module) : Prop := sameTime m
      ∧ m.rn R.CLK_LOSSES = (if s.mod.rn R.CLK_LOSSES < 0xFFFFFFFF then s.mod.rn R.CLK_LOSSES + 1 else s.mod.rn R.CLK_LOSSES)
    let coasts (m : Module) : Prop := counted m ∧ m.pwm = s.mod.pwm ∧ Raised s.mod m FS.CLK_COAST .none
      ∧ (st s.mod = 3 ∨ st s.mod = 5 ∨ st s.mod = 6 → st m = 4 ∧ m.clk.holdoverAt = s.mod.now + 1)
      ∧ (¬(st s.mod = 3 ∨ st s.mod = 5 ∨ st s.mod = 6) → st m = st s.mod)
    let gates (m : Module) : Prop := counted m ∧ .clk ∈ m.lineReqs line ∧ m.bit R.PWM_FL_ACT line = true
      ∧ (∃ r ∈ m.reports, r.src = FS.CLK_GATE ∧ r.at' = s.mod.now)
      ∧ (s.mod.ticking = true → st m = st s.mod ∧ m.clk.stopAt = some (s.mod.clk.stopAt.getD (s.mod.now + 32)))
      ∧ (s.mod.ticking = false → st m = 7 ∧ ∀ g < 34, (m.gen g).running = false)
    (∀ err cycles : BitVec 32,
      let locked : Prop := s.mod.clk.stopAt = none ∧ err.toInt.natAbs < win ∧ lockN ≤ cycles.toNat
      (locked → outer = false → st s.mod = 2 ∨ st s.mod = 6 → Leads (.lockDeclared ⟨err, cycles, edges⟩) s (fun m =>
        m.rn R.CLK_PHERR = err.toNat ∧ st m = 3 ∧ m.flag R.CLK_STAT F.CLK_STAT_REF_OK = true ∧ .clk ∉ m.lineReqs line
        ∧ sameTime m))
      ∧ (locked → outer = true → st s.mod = 2 → Leads (.lockDeclared ⟨err, cycles, edges⟩) s (fun m =>
        m.rn R.CLK_PHERR = err.toNat ∧ st m = 5 ∧ m.clk.syncs = 0 ∧ m.pwm = s.mod.pwm ∧ sameTime m))
      ∧ (src ≠ 1 → (¬ locked ∨ (st s.mod ≠ 2 ∧ st s.mod ≠ 6)) → Leads (.lockDeclared ⟨err, cycles, edges⟩) s (fun m =>
        m.rn R.CLK_PHERR = err.toNat ∧ (∀ a, a ≠ R.CLK_PHERR → m.rd a = s.mod.rd a) ∧ m = { s.mod with regs := m.regs }))
      ∧ (∀ e : BitVec 16, e.toNat < 1900 → src ≠ 1 → st s.mod = 3 → Leads (.lockDeclared ⟨err, cycles, [e]⟩) s (fun m =>
        m.rn R.CLK_SWALLOW = (if s.mod.rn R.CLK_SWALLOW < 0xFFFFFFFF then s.mod.rn R.CLK_SWALLOW + 1 else s.mod.rn R.CLK_SWALLOW)
        ∧ m.now = s.mod.now ∧ (s.mod.todNs < 999999998 → m.todNs = s.mod.todNs + 2 ∧ m.todSec = s.mod.todSec)
        ∧ ∃ r ∈ m.reports, r.src = FS.CLK_GUARD ∧ r.at' = s.mod.now))
      ∧ (let lost : Prop := 3 ≤ st s.mod ∧ st s.mod ≤ 6 ∧ 4 ≤ cycles.toNat ∧ 4 * win < err.toInt.natAbs
        src ≠ 1 →
        (lost → coast = true → Leads (.lossOfLock ⟨err, cycles, edges⟩) s (fun m => m.rn R.CLK_PHERR = err.toNat ∧ coasts m))
        ∧ (lost → coast = false → Leads (.lossOfLock ⟨err, cycles, edges⟩) s (fun m => m.rn R.CLK_PHERR = err.toNat ∧ gates m))
        ∧ (¬ lost → Leads (.lossOfLock ⟨err, cycles, edges⟩) s (fun m => m.rn R.CLK_PHERR = err.toNat
          ∧ m = { s.mod with regs := m.regs }))))
    ∧ (∀ l : RefLoss, (s.mod.silent l = false → exec (.lossOfReference l) s = .next s)
      ∧ (s.mod.silent l = true → coast = true → l.isCrystal = false → Leads (.lossOfReference l) s (fun m =>
          m.flag R.CLK_STAT F.CLK_STAT_REF_OK = false ∧ coasts m))
      ∧ (s.mod.silent l = true → coast = false ∨ l.isCrystal = true → Leads (.lossOfReference l) s (fun m =>
          (l.isCrystal = false ∨ src = 0 → m.flag R.CLK_STAT F.CLK_STAT_REF_OK = false) ∧ gates m)))
    ∧ (∀ t : BitVec 32, s.mod.silent (.crystal t) = decide (800 ≤ t.toNat))
    ∧ (st s.mod = 4 → s.mod.clk.stopAt = none → Leads .referenceReturn s (fun m => st m = 5
        ∧ m.flag R.CLK_STAT F.CLK_STAT_REF_OK = true ∧ m.clk = { s.mod.clk with syncs := 0, winRun := 0, stepDue := false }
        ∧ m = { s.mod with regs := m.regs, clk := m.clk }))
    ∧ (st s.mod ≠ 4 → Leads .referenceReturn s (fun m => m.flag R.CLK_STAT F.CLK_STAT_REF_OK = true ∧ st m = st s.mod
        ∧ (∀ a, a ≠ R.CLK_STAT → m.rd a = s.mod.rd a) ∧ m = { s.mod with regs := m.regs }))
    ∧ (∀ (o : BitVec 64) (cycles : BitVec 32), st s.mod = 5 → s.mod.clk.stopAt = none →
      let known (m : Module) : Prop :=
        (let mode := s.mod.rf R.SYS_MODE F.SYS_MODE_MODE
         if s.mod.flag R.CLK_SLEW F.CLK_SLEW_STEP_OK ∧ 3 ≤ mode ∧ mode ≤ 5 then m.clk.stepDue = true ∧ st m = 5 else st m = 6)
        ∧ (∀ a, a ≠ R.CLK_TERR → a ≠ R.CLK_STAT → m.rd a = s.mod.rd a)
        ∧ m = { s.mod with regs := m.regs, clk := m.clk, reports := m.reports, freeCtr := m.freeCtr }
      (outer = false → lockN ≤ cycles.toNat → Leads (.frequencyReacquired ⟨o, cycles, edges⟩) s (fun m => m.rd R.CLK_TERR = o ∧ known m))
      ∧ (outer = false → cycles.toNat < lockN → exec (.frequencyReacquired ⟨o, cycles, edges⟩) s = .next s)
      ∧ (outer = true → max 2 (s.mod.rf R.CLK_SERVO F.CLK_SERVO_FREQ_N) ≤ s.mod.clk.syncs →
          Leads (.frequencyReacquired ⟨o, cycles, edges⟩) s known)
      ∧ (outer = true → s.mod.clk.syncs < max 2 (s.mod.rf R.CLK_SERVO F.CLK_SERVO_FREQ_N) →
          exec (.frequencyReacquired ⟨o, cycles, edges⟩) s = .next s))

/-- PTP_SYNC, PPS_PULSE, PTP_ANNOUNCE, PDELAY_EXCHANGE, PDELAY_REQ_RECEIVED, CLK_STEP_CMD, CLK_SET, CLK_SNAP and DIVIDER_APPLY: A Sync of the domain on the port in use, or a PPS pulse under its own source, shows its offset in CLK_TERR: of a Sync the time of day minus the corrected time of the master and the path delay, of a pulse the nanoseconds of the time of day; in REACQUIRE it is counted; in LOCKED it sets the correction to the clamped sum of the proportional and the integral part; a Sync elsewhere, and a frame of the module itself, does nothing. The first Announce of the domain gives grandmaster, UTC offset and port. The delay of the port in use is shown; a delay request on a port with a link is answered (that the link enables the port is the reading of log 84). STEP and SET wait, set, for their frame boundary with the time of day as it was. SNAP latches the time of day in one instant and clears. A divider pair due on a compare edge takes effect where its product is 8 to 12, and the clock locks again, else it sets DIV_BAD and leaves the divider; with none due nothing happens. (R197, R198, R200, R201, R202, R203) -/
def Obligations.ClockServoMessagesAndCommands : Prop :=
  (
    ∀ (s : State), s.mod.powered = true →
      let st : Nat := s.mod.rf R.CLK_STAT F.CLK_STAT_STATE
      let src : Nat := s.mod.rf R.CLK_CFG F.CLK_CFG_SRC
      let runs (m0 : Module) (o : Int) (m : Module) : Prop := m.rd R.CLK_TERR = BitVec.ofInt 64 o
        ∧ m = { m0 with regs := m.regs, clk := m.clk, reports := m.reports, freeCtr := m.freeCtr }
        ∧ (∀ a, a ≠ R.CLK_TERR → a ≠ R.CLK_STAT → m.rd a = m0.rd a)
        ∧ m.flag R.CLK_STAT F.CLK_STAT_REF_OK = true ∧ m.clk.refAt = s.mod.now + 1
        ∧ (st = 5 → m.clk.syncs = s.mod.clk.syncs + 1 ∧ m.clk.corr = s.mod.clk.corr)
        ∧ (st = 3 →
            let lim : Int := 65536 * 100 * (min 1000 (max 1 (s.mod.rf R.CLK_SLEW F.CLK_SLEW_PHASE_SLEW)) : Nat)
            m.clk.corr = max (-lim) (min lim (o * 2 ^ (16 - s.mod.rf R.CLK_SERVO F.CLK_SERVO_KP_SH) + s.mod.clk.integ))
            ∧ m.clk.integ = s.mod.clk.integ + o * 2 ^ (16 - s.mod.rf R.CLK_SERVO F.CLK_SERVO_KI_SH))
      (∀ (p : Fin 4) (f : PtpSync), f.tag = none →
        let here : Prop := src = 3 ∧ s.mod.rf R.CLK_PTP F.CLK_PTP_PORT = p.val
          ∧ f.domain.toNat = s.mod.rf R.CLK_PTP F.CLK_PTP_DOMAIN
        let o : Int := ((s.mod.todSec * 1000000000 + s.mod.todNs : Nat) : Int) - (f.sec.toNat * 1000000000 + f.ns.toNat : Nat)
          - f.correction.toInt - (s.mod.rn R.CLK_MPD : Nat)
        (here → st ≠ 6 → s.mod.ownFrame p f.src = false → Leads (.ptpSync p f) s (runs s.mod o))
        ∧ (¬ here ∨ s.mod.ownFrame p f.src = true → exec (.ptpSync p f) s = .next s))
      ∧ (src = 2 → st ≠ 6 → Leads .ppsPulse s (runs s.mod.ppsEdge s.mod.todNs))
      ∧ (src ≠ 2 → exec .ppsPulse s = .next ⟨s.mod.ppsEdge, s.pending⟩)
      ∧ ((∀ u < 16, s.mod.cf (R.CAP_CFG u) F.CAP_CFG_SRC ≠ 1) → s.mod.ppsEdge = s.mod)
      ∧ (∀ (p : Fin 4) (a : Announce), a.tag = none → s.mod.ownFrame p a.src = false →
          (src = 3 → a.domain.toNat = s.mod.rf R.CLK_PTP F.CLK_PTP_DOMAIN →
          s.mod.clk.announces = [] → s.mod.rn R.CLK_GMID = 0 → Leads (.ptpAnnounce p a) s (fun m =>
            m.rd R.CLK_GMID = a.identity.setWidth 64 ∧ m.rn R.CLK_UTC = a.utc.toNat ∧ m.rf R.CLK_PTP F.CLK_PTP_PORT = p.val
            ∧ m.rn R.CLK_MPD = (SMap.getD 0 s.mod.clk.pdelay p).toNat
            ∧ m.clk = { s.mod.clk with announces := [(p.val, some a)], announceAt := SMap.setD 0 s.mod.clk.announceAt p s.mod.now }
            ∧ (∀ r, r ∉ [R.CLK_GMID, R.CLK_UTC, R.CLK_PTP, R.CLK_MPD] → m.rd r = s.mod.rd r)
            ∧ m = { s.mod with regs := m.regs, clk := m.clk }))
          ∧ ((src ≠ 3 ∨ a.domain.toNat ≠ s.mod.rf R.CLK_PTP F.CLK_PTP_DOMAIN) → exec (.ptpAnnounce p a) s = .next s))
      ∧ (∀ p : Fin 4, s.mod.bit R.PB_LINK (8 * p.val + 7) = false →
          (∀ d, exec (.pdelayExchange p d) s = .next s) ∧ exec (.pdelayReqReceived p) s = .next s)
      ∧ (∀ (p : Fin 4) (d : BitVec 32), s.mod.bit R.PB_LINK (8 * p.val + 7) = true → Leads (.pdelayExchange p d) s (fun m =>
          (s.mod.rf R.CLK_PTP F.CLK_PTP_PORT = p.val → m.rn R.CLK_MPD = d.toNat)
          ∧ (s.mod.rf R.CLK_PTP F.CLK_PTP_PORT ≠ p.val → m.regs = s.mod.regs)
          ∧ (∀ a, a ≠ R.CLK_MPD → m.rd a = s.mod.rd a)
          ∧ m = { s.mod with regs := m.regs, clk := { s.mod.clk with pdelay := SMap.setD 0 s.mod.clk.pdelay p d } }))
      ∧ (∀ p : Fin 4, s.mod.bit R.PB_LINK (8 * p.val + 7) = true → Leads (.pdelayReqReceived p) s (fun m =>
          SMap.getD 0 m.clk.pdelaySent p = SMap.getD 0 s.mod.clk.pdelaySent p + 1
          ∧ (∀ q, q ≠ p.val → SMap.getD 0 m.clk.pdelaySent q = SMap.getD 0 s.mod.clk.pdelaySent q)
          ∧ m = { s.mod with clk := { s.mod.clk with pdelaySent := m.clk.pdelaySent } })))
  ∧ (
    ∀ (s : State),
      let only (m : Module) (as : List Nat) : Prop := (∀ a, a ∉ as → m.rd a = s.mod.rd a)
        ∧ m = { s.mod with regs := m.regs, upsets := m.upsets, host := m.host }
      (s.mod.up = true → Leads .clkStepCmd s (fun m => m.flag R.CLK_CTRL F.CLK_CTRL_STEP = true ∧ only m [R.CLK_CTRL])
        ∧ Leads .clkSet s (fun m => m.flag R.CLK_CTRL F.CLK_CTRL_SET = true ∧ only m [R.CLK_CTRL])
        ∧ Leads .clkSnap s (fun m => m.rd R.CLK_TOD_SEC = BitVec.ofNat 64 s.mod.todSec
            ∧ m.rd R.CLK_TOD_NS = BitVec.ofNat 64 s.mod.todNs ∧ m.flag R.CLK_CTRL F.CLK_CTRL_SNAP = false
            ∧ only m [R.CLK_CTRL, R.CLK_TOD_SEC, R.CLK_TOD_NS]))
      ∧ (s.mod.powered = true → ∀ edges : List (BitVec 16), (∀ e ∈ edges, 1900 ≤ e.toNat) →
        (s.mod.clk.divDue = none → exec (.dividerApply edges) s = .next s)
        ∧ (∀ v, s.mod.clk.divDue = some v →
          let p := bitsN v 7 4 * bitsN v 3 0
          let st (m : Module) : Nat := m.rf R.CLK_STAT F.CLK_STAT_STATE
          ((p < 8 ∨ 12 < p) → Leads (.dividerApply edges) s (fun m => m.clk.divDue = none
            ∧ m.flag R.CLK_STAT F.CLK_STAT_DIV_BAD = true ∧ (∀ a, a ≠ R.CLK_STAT → m.rd a = s.mod.rd a)))
          ∧ (8 ≤ p → p ≤ 12 → Leads (.dividerApply edges) s (fun m => m.clk.divDue = none
            ∧ m.flag R.CLK_STAT F.CLK_STAT_DIV_BAD = false ∧ m.rn R.CLK_DIV = v % 256
            ∧ (st m = 1 ∨ st m = if 3 ≤ st s.mod ∧ st s.mod ≤ 6 then 5 else 2))))))

/-- PB_FRAME_DISCARD, PB_LINK_UP, PB_LINK_DOWN, LAN_SUPERVISION_TIMEOUT and SUPERVISION_FRAME_SEND: A discarded frame is counted at its port, with a bad FCS as a CRC error; a supervision frame of another module shows that the network of a port of a pair is whole. A link that comes up or goes down is shown; one that an enabled entry names is reported when it goes down. A port of a pair that has received nothing for 3 s while its partner has loses LANOK and is reported, once; a supervision frame is sent on each port of a pair, on no other. Before the end of INSPECT no frame counts. (R65, R206, R207, R209, R231, R232) -/
def Obligations.ProcessBusPortsAndRedundancy : Prop :=
  ∀ (s : State) (p : Fin 4), s.mod.powered = true →
    let up1 (n : Nat) : Nat := if n < 0xFFFFFFFF then n + 1 else n
    let pair : Nat := s.mod.rf R.PB_CFG (if p.val < 2 then F.PB_CFG_PAIR0 else F.PB_CFG_PAIR1)
    let paired : Prop := pair = 1 ∨ pair = 2
    let link (m : Module) (b : Bool) : Prop := m.bit R.PB_LINK (8 * p + 7) = b ∧ m.bit R.PB_LINK (8 * p + 6) = b
    let lost (m : Module) : Prop := p.val ∈ m.pb.lanDown ∧ m.bit R.PB_STAT (4 + p) = false
        ∧ ∃ r ∈ m.reports, r.src = FS.PB_LAN_LOST ∧ r.at' = s.mod.now
    (s.mod.up = false → (∀ f, exec (.pbFrameDiscard p f) s = .next s) ∧ exec (.lanSupervisionTimeout p) s = .next s)
    ∧ (s.mod.up = true → Leads (.pbFrameDiscard p .badFcs) s (fun m => m.rn (R.PB_CRCERR p) = up1 (s.mod.rn (R.PB_CRCERR p))
      ∧ (∀ a, a ≠ R.PB_CRCERR p → a ≠ R.PB_SAT → m.rd a = s.mod.rd a) ∧ m = { s.mod with regs := m.regs }))
    ∧ (s.mod.up = true → Leads (.pbFrameDiscard p .other) s (fun m => m.rn (R.PB_RXDISC p) = up1 (s.mod.rn (R.PB_RXDISC p))
      ∧ (∀ a, a ≠ R.PB_RXDISC p → a ≠ R.PB_SAT → m.rd a = s.mod.rd a) ∧ m = { s.mod with regs := m.regs }))
    ∧ (s.mod.up = true → ∀ (src : BitVec 48) (tag : Option (BitVec 16)),
        (¬ paired ∨ tag = none ∨ s.mod.ownFrame p src = true → exec (.pbFrameDiscard p (.supervision src tag)) s = .next s)
        ∧ (paired → tag ≠ none → s.mod.ownFrame p src = false → Leads (.pbFrameDiscard p (.supervision src tag)) s (fun m =>
          m.bit R.PB_STAT (4 + p) = true ∧ m.tagged p = true ∧ p.val ∉ m.pb.lanDown
          ∧ (∀ a, a ≠ R.PB_STAT → m.rd a = s.mod.rd a) ∧ m = { s.mod with regs := m.regs, pb := m.pb })))
    ∧ Leads (.pbLinkUp p) s (fun m => link m true ∧ (∀ a, a ≠ R.PB_LINK → m.rd a = s.mod.rd a)
      ∧ m = { s.mod with regs := m.regs })
    ∧ Leads (.pbLinkDown p) s (fun m => link m false
      ∧ (s.mod.portUsed p = true → ∃ r ∈ m.reports, r.src = FS.PB_LINK_DOWN ∧ r.at' = s.mod.now)
      ∧ (s.mod.portUsed p = false → ¬ paired → m.reports = s.mod.reports)
      ∧ (paired → p.val ∉ s.mod.pb.lanDown → lost m)
      ∧ (∀ a, a ≠ R.PB_LINK → a ≠ R.PB_STAT → m.rd a = s.mod.rd a)
      ∧ m = { s.mod with regs := m.regs, reports := m.reports, freeCtr := m.freeCtr,
                         pb := { s.mod.pb with lanDown := m.pb.lanDown } })
    ∧ (s.mod.up = true → paired → s.mod.tagged p = false → s.mod.tagged (if p.val % 2 = 0 then p + 1 else p - 1) = true →
        p.val ∉ s.mod.pb.lanDown → Leads (.lanSupervisionTimeout p) s (fun m => lost m
        ∧ Raised s.mod m FS.PB_LAN_LOST .none ∧ (∀ a, a ≠ R.PB_STAT → m.rd a = s.mod.rd a)))
    ∧ ((¬ paired ∨ s.mod.tagged p = true ∨ p.val ∈ s.mod.pb.lanDown) → exec (.lanSupervisionTimeout p) s = .next s)
    ∧ (paired → s.mod.up = true → Leads (.supervisionFrameSend p) s (fun m =>
        SMap.getD 0 m.pb.supervision p = SMap.getD 0 s.mod.pb.supervision p + 1
        ∧ m = { s.mod with pb := { s.mod.pb with supervision := m.pb.supervision } }))
    ∧ ((¬ paired ∨ s.mod.up = false) → exec (.supervisionFrameSend p) s = .next s)

/-- SV_FRAME_RECEIVED and SV_SLOT_TIMEOUT: A frame that feeds no subscription, or carries security, is discarded and counted. The sample of a frame that feeds subscription n and passes its checks stands in the slot of its sample number, with SMPCNT shown; one later than MAXDLY is counted as late and not stored. A slot that times out is counted as missing; at LOSS_N in a row the stream is lost and reported, and its platform keeps its slots. Nothing is received before the end of INSPECT, and nothing of the frames that an HSR ring returns to the module. (R208, R210, R213, R214, R215, R216, R217) -/
def Obligations.SampledValuesReceivedAndMissed : Prop :=
  ∀ (s : State) (p : Fin 4) (f : SvFrame),
    let up1 (n : Nat) : Nat := if n < 0xFFFFFFFF then n + 1 else n
    let feeds (n : Nat) : Prop := s.mod.svFeeds n p f = true
    (s.mod.up = false ∨ s.mod.ownFrame p f.head.src = true → exec (.svFrameReceived p f) s = .next s)
    ∧ (s.mod.up = true → s.mod.ownFrame p f.head.src = false → f.head.tag = none → (f.head.secured = true ∨ ∀ n < 32, ¬ feeds n) → Leads (.svFrameReceived p f) s (fun m =>
        m.rn (R.PB_RXDISC p) = up1 (s.mod.rn (R.PB_RXDISC p))
        ∧ (∀ a, a ≠ R.PB_RXDISC p → a ≠ R.PB_SAT → m.rd a = s.mod.rd a) ∧ m = { s.mod with regs := m.regs }))
    ∧ (∀ (n : Fin 32) (a : SvAsdu), s.mod.up = true → s.mod.ownFrame p f.head.src = false → f.head.tag = none → f.head.secured = false → f.head.sim = false →
        s.mod.pb.svSim = [] → f.asdus = [a] → feeds n → (∀ k < 32, k ≠ n.val → ¬ feeds k) →
        f.confRev.toNat = s.mod.svEntry n 2 → a.data.length = 8 * bitsN (s.mod.svEntry n 0) 20 16 →
        a.smpCnt.toNat < s.mod.svRateOf n →
        let x := s.mod.svSampleOf n f 0 a
        let dly := if bitsN (s.mod.svEntry n 3) 15 0 = 0 then 2000 else bitsN (s.mod.svEntry n 3) 15 0
        (s.mod.todNanos ≤ x.nanos + 1000 * dly → SMap.getD none (s.mod.platform n).slots (x.num % 64) = none →
          SMap.getD 0 s.mod.pb.svNext n ≤ x.num + 1 → Leads (.svFrameReceived p f) s (fun m =>
            SMap.getD none (m.platform n).slots (x.num % 64) = some x
            ∧ m.rf (R.PB_SVS_STAT n) F.PB_SVS_STAT_SMPCNT = x.num % s.mod.svRateOf n
            ∧ m.flag (R.PB_SVS_STAT n) F.PB_SVS_STAT_NOSYNC = (a.synch == 0)
            ∧ (∀ k, k ≠ n.val → m.platform k = s.mod.platform k) ∧ m.mem = s.mod.mem))
        ∧ (x.nanos + 1000 * dly < s.mod.todNanos → Leads (.svFrameReceived p f) s (fun m =>
            m.rn (R.PB_SVS_LATE n) = up1 (s.mod.rn (R.PB_SVS_LATE n))
            ∧ (∀ r, r ≠ R.PB_SVS_LATE n → r ≠ R.PB_SVS_STAT n → m.rd r = s.mod.rd r)
            ∧ m = { s.mod with regs := m.regs })))
    ∧ (∀ n : Fin 32, (s.mod.up = false ∨ s.mod.svEnabled n = false ∨ SMap.getD 0 s.mod.pb.svNext n = 0) → exec (.svSlotTimeout n) s = .next s)
    ∧ (∀ n : Fin 32, s.mod.up = true → s.mod.svEnabled n = true → SMap.getD 0 s.mod.pb.svNext n ≠ 0 → Leads (.svSlotTimeout n) s (fun m =>
        let lossN := if bitsN (s.mod.svEntry n 0) 15 12 = 0 then 3 else bitsN (s.mod.svEntry n 0) 15 12
        m.rn (R.PB_SVS_MISS n) = min 0xFFFFFFFF (s.mod.rn (R.PB_SVS_MISS n) + 1)
        ∧ SMap.getD 0 m.pb.svRun n = SMap.getD 0 s.mod.pb.svRun n + 1
        ∧ SMap.getD 0 m.pb.svNext n = SMap.getD 0 s.mod.pb.svNext n + 1
        ∧ (lossN ≤ SMap.getD 0 s.mod.pb.svRun n + 1 → (s.mod.platform n).lost = false →
            (m.platform n).lost = true ∧ (m.platform n).slots = (s.mod.platform n).slots ∧ m.bit R.PB_SVS_LOST n = true
            ∧ m.reports = s.mod.reports ++ [⟨FS.PB_SV_LOST, BitVec.ofNat 32 n, .none, s.mod.now, s.mod.todSec, s.mod.todNs⟩])
        ∧ m.mem = s.mod.mem))

/-- GOOSE_FRAME_RECEIVED and GOOSE_TAL_EXPIRY: The first frame that feeds subscription n and has its shape writes row n: state and sequence numbers, timeAllowedToLive, time and each member, with UPD counted twice, and the subscription is no longer lost; a repeated frame changes nothing; a frame that feeds none, or has another shape, is discarded and counted. When timeAllowedToLive expires the subscription is lost and reported, and its values stay. A row is written at once where the budget of process-bus DMA has its beats; else it waits, and memory stays as it is. (R91, R210, R222, R223, R224, R231) -/
def Obligations.GooseReceivedAndLost : Prop :=
  ∀ (s : State) (p : Fin 4) (f : GsFrame), f.head.tag = none → f.head.secured = false → f.fixed = false → s.mod.up = true → s.mod.ownFrame p f.head.src = false →
    let up1 (n : Nat) : Nat := if n < 0xFFFFFFFF then n + 1 else n
    let feeds (n : Nat) : Prop := s.mod.gsFeeds n p f = true
    let row (n : Nat) : Nat := 0x01850000 + 1024 * n
    let room (n k : Nat) : Prop := (∀ w ∈ s.mod.eng.busWait, w.1 ≠ Bus.pb) ∧ s.mod.used Bus.pb + beatsOf (row n) k ≤ s.mod.budget Bus.pb
    let waits (m : Module) (n : Nat) : Prop := m.mem = s.mod.mem ∧ ∃ k op, m.eng.busWait = s.mod.eng.busWait ++ [(Bus.pb, k, op)]
      ∧ m.used Bus.pb + k = s.mod.used Bus.pb + n
    ((∀ n < 64, ¬ feeds n) → Leads (.gooseFrameReceived p f) s (fun m =>
        m.rn (R.PB_RXDISC p) = up1 (s.mod.rn (R.PB_RXDISC p))
        ∧ (∀ a, a ≠ R.PB_RXDISC p → a ≠ R.PB_SAT → m.rd a = s.mod.rd a) ∧ m = { s.mod with regs := m.regs }))
    ∧ (∀ n : Fin 64, feeds n → (∀ k < 64, k ≠ n.val → ¬ feeds k) → f.head.sim = false → s.mod.pb.gsSim = [] →
        (s.mod.gsShape n f = false → Leads (.gooseFrameReceived p f) s (fun m =>
          m.rn (R.PB_RXDISC p) = up1 (s.mod.rn (R.PB_RXDISC p)) ∧ m.mem = s.mod.mem
          ∧ (SMap.getD 0 s.mod.pb.gsCfgSec n ≠ s.mod.todSec + 1 → m.reports = s.mod.reports ++
              [⟨FS.PB_GOOSE_CFG, BitVec.ofNat 32 n, .none, s.mod.now, s.mod.todSec, s.mod.todNs⟩])))
        ∧ (s.mod.gsShape n f = true → f.members.length ≤ 64 → SMap.getD none s.mod.pb.gs n = none →
          room n (0x20 + 8 * f.members.length) → Leads (.gooseFrameReceived p f) s (fun m =>
            m.mn (row n) 4 = (s.mod.mn (row n) 4 + 2) % 2 ^ 32
            ∧ m.mn (row n + 4) 4 = f.st.toNat ∧ m.mn (row n + 8) 4 = f.sq.toNat ∧ m.mn (row n + 0xC) 4 = f.tal.toNat
            ∧ m.mn (row n + 0x10) 4 = f.tSec.toNat ∧ m.mn (row n + 0x1C) 4 = s.mod.todNs % 2 ^ 32
            ∧ (f.ndsCom = false → ∀ j (h : j < f.members.length), m.mw (row n + 0x20 + 8 * j) = f.members[j].word)
            ∧ (∀ a, a < row n ∨ row n + 1024 ≤ a → m.mb a = s.mod.mb a)
            ∧ m.bit R.PB_GS_LOST n = false
            ∧ SMap.getD none m.pb.gs n = some ⟨f.st.toNat, f.sq.toNat, s.mod.now + 500000 * f.tal.toNat⟩))
        ∧ (s.mod.gsShape n f = true → ∀ l, SMap.getD none s.mod.pb.gs n = some l → l.st = f.st.toNat → l.sq = f.sq.toNat →
          ¬ (f.st.toNat = 1 ∧ f.sq.toNat = 0) → s.mod.bit R.PB_GS_LOST n = false →
          exec (.gooseFrameReceived p f) s = .next s))
    ∧ (∀ n : Fin 64, (s.mod.gsEnabled n = false ∨ SMap.getD none s.mod.pb.gs n = none ∨ s.mod.bit R.PB_GS_LOST n = true) → exec (.gooseTalExpiry n) s = .next s)
    ∧ (∀ n : Fin 64, ∀ l, SMap.getD none s.mod.pb.gs n = some l → s.mod.gsEnabled n = true → s.mod.bit R.PB_GS_LOST n = false →
        Leads (.gooseTalExpiry n) s (fun m => m.bit R.PB_GS_LOST n = true
          ∧ (room n 0x20 → (m.mb (row n + 0x18)).getLsbD 0 = true ∧ m.mn (row n) 4 = (s.mod.mn (row n) 4 + 2) % 2 ^ 32
            ∧ ∀ a, a < row n ∨ (row n + 4 ≤ a ∧ a < row n + 0x18) ∨ row n + 0x1C ≤ a → m.mb a = s.mod.mb a)
          ∧ (¬ room n 0x20 → s.mod.used Bus.pb ≤ s.mod.budget Bus.pb → waits m (beatsOf (row n) 0x20))
          ∧ ∃ r ∈ m.reports, r.src = FS.PB_GOOSE_LOST ∧ r.at' = s.mod.now))

/-- SV_PUBLICATION_SEND, GOOSE_RETRANSMIT and PB_GPUB_SEND: An SV publication that is enabled and under way, for which process-bus DMA has the beats of its values, sends its NOASDU samples, numbered up to the last instant that has passed; with no tick it stops. A GOOSE retransmission counts sqNum up, doubles the interval within TMAX and states twice the interval as its time to live; a changed value set of a publication that the host owns starts the next stNum with sqNum 0; sqNum and stNum roll over to 1. A publication that is off sends nothing. (R91, R220, R221, R227, R228) -/
def Obligations.PublicationsAreSent : Prop :=
  ∀ (s : State),
    let reads (a n : Nat) : Prop := (∀ w ∈ s.mod.eng.busWait, w.1 ≠ Bus.pb)
      ∧ s.mod.used Bus.pb + beatsOf a n ≤ s.mod.budget Bus.pb ∧ ∀ w ∈ s.mod.eng.failing, w + 4 ≤ a ∨ a + n ≤ w
    let charged (m : Module) : Prop := m.eng = { s.mod.eng with budgetUsed := m.eng.budgetUsed }
    (∀ (k : Fin 4),
      let w := s.mod.mnE (0x01840800 + 256 * k.val) 4
      ((w.testBit 31 = false ∨ s.mod.up = false ∨ s.mod.hl.hold = true) → exec (.svPublicationSend k) s = .next s)
      ∧ (w.testBit 31 = true → bitsN w 25 23 ≤ 4 → s.mod.up = true → s.mod.hl.hold = false →
          reads (0x01840C00 + 96 * k.val) 96 →
        (s.mod.ticking = false → Leads (.svPublicationSend k) s (fun m => SMap.getD 0 m.pb.svPubNext k = 0 ∧ charged m
          ∧ m = { s.mod with eng := m.eng, pb := { s.mod.pb with svPubNext := m.pb.svPubNext } }))
        ∧ (let rate := [4000, 4800, 12800, 14400, 15360].getD (bitsN w 25 23) 0
          let n := max 1 (min 8 (bitsN w 19 16))
          let last := s.mod.todSec * rate + s.mod.todNs * rate / 1000000000
          s.mod.ticking = true → SMap.getD 0 s.mod.pb.svPubNext k ≠ 0 → SMap.getD 0 s.mod.pb.svPubNext k + n ≤ last + 2 →
          Leads (.svPublicationSend k) s (fun m =>
          (SMap.getD [] m.pb.sentSv k).map (·.smpCnt) = (List.range n).map (fun j => (last + 1 + j - n) % rate)
          ∧ (∀ x ∈ SMap.getD [] m.pb.sentSv k, x.vals.length = bitsN w 15 11)
          ∧ SMap.getD 0 m.pb.svPubNext k = last + 2
          ∧ SMap.getD none m.pb.svHead k = some (s.mod.svPubHead k) ∧ charged m
          ∧ m = { s.mod with eng := m.eng, pb := { s.mod.pb with sentSv := m.pb.sentSv, svPubNext := m.pb.svPubNext, svHead := m.pb.svHead, seqs := m.pb.seqs } }))))
    ∧ ∀ k : Fin 32,
      let next (n : Nat) : Nat := if n = 0xFFFFFFFF then 1 else n + 1
      let state (m : Module) : Option GoosePub := SMap.getD none m.pb.pubs k
      let w0 := s.mod.mnE (0x01848000 + 256 * k.val) 4
      let w5 := s.mod.mnE (0x01848000 + 256 * k.val + 20) 4
      let vals := s.mod.mbytes (0x01860000 + 512 * k.val) (8 * bitsN w0 6 0)
      let tmin := if bitsN w5 15 0 = 0 then 2 else bitsN w5 15 0
      ((w0.testBit 31 = false ∨ s.mod.up = false ∨ s.mod.hl.hold = true ∨ state s.mod = none) →
        exec (.gooseRetransmit k) s = .next s)
      ∧ (w0.testBit 31 = true → s.mod.up = true → s.mod.hl.hold = false → ∀ g, state s.mod = some g →
        (let i := min (2 * g.interval) (bitsN w5 31 16);
          Leads (.gooseRetransmit k) s (fun m => state m = some ⟨g.st, next g.sq, i, s.mod.now, g.vals, 2 * i⟩
            ∧ m = { s.mod with pb := { s.mod.pb with pubs := m.pb.pubs, gpHead := m.pb.gpHead, seqs := m.pb.seqs } }))
        ∧ (w0.testBit 30 = true → reads (0x01860000 + 512 * k.val) (8 * bitsN w0 6 0) → Leads (.pbGpubSend k) s (fun m =>
            state m = (if g.vals = vals then some g else some ⟨next g.st, 0, tmin, s.mod.now, vals, 2 * tmin⟩)
            ∧ m.bit R.PB_GPUB_SEND k = false ∧ m.mem = s.mod.mem))
        ∧ (w0.testBit 30 = false → Leads (.pbGpubSend k) s (fun m => state m = some g ∧ m.bit R.PB_GPUB_SEND k = false
            ∧ m.pb = s.mod.pb)))

/-- TRIGGER_FIRE and SEQUENCE_COMPLETE: An enabled trigger line that fires, at the tick that the trigger field of its generator names, starts the sequence of a core bound to it, with the tick and time of day of the trigger; while one runs the trigger is refused, counted and reported once in a frame. A line that is off, one whose generator does not count or whose field is disabled, or lies at or beyond the period, and any line without ticks or during the open-wire test, starts nothing. When a sequence completes its entry of the sample table holds values, sign-extended codes, the time of the trigger, and SEQ counted up; no other byte changes. (R236, R237, R238, R240, R244, R245, R262) -/
def Obligations.TriggersStartSequences : Prop :=
  ∀ (s : State), s.mod.powered = true →
    let idle : Prop := s.mod.flag R.AFE_STAT F.AFE_STAT_OWBUSY = false ∧ s.mod.flag R.AFE_STAT F.AFE_STAT_LPACT = false
    let ticks : Prop := s.mod.ticking = true
    let len (c : Nat) : Nat := s.mod.rf (R.AFE_SEQ c) F.AFE_SEQ_LENM1 + 1
    let field (t : Nat) : Nat := s.mod.rn ((if s.mod.flag (R.AFE_TRIG t) F.AFE_TRIG_SEL then R.PWM_TRIG1 else R.PWM_TRIG0)
      (s.mod.rf (R.AFE_TRIG t) F.AFE_TRIG_GEN))
    let gen (t : Nat) : Gen := s.mod.gen (s.mod.rf (R.AFE_TRIG t) F.AFE_TRIG_GEN)
    let fires (t : Nat) : Prop := (gen t).running = true ∧ field t ≠ 0xFFFFFFFF ∧ field t < (gen t).plan.period
      ∧ s.mod.now = (gen t).start + ((gen t).frac + field t) / 1024
    (∀ t : Fin 8, (¬ fires t ∨ s.mod.flag (R.AFE_TRIG t) F.AFE_TRIG_EN = false ∨ ¬ ticks ∨ ¬ idle) →
        exec (.triggerFire t) s = .next s)
    ∧ (∀ (t : Fin 8) (c : Fin 4), s.mod.flag (R.AFE_TRIG t) F.AFE_TRIG_EN = true → ticks → idle → fires t →
        (∀ k < 4, (s.mod.flag (R.AFE_SEQ k) F.AFE_SEQ_EN = true ∧ s.mod.rf (R.AFE_SEQ k) F.AFE_SEQ_TRG = t.val) ↔ k = c.val) →
        (SMap.getD 0 s.mod.afe.busyTo c ≤ s.mod.now → Leads (.triggerFire t) s (fun m =>
          SMap.getD [] m.afe.runs c = SMap.getD [] s.mod.afe.runs c ++ [⟨s.mod.now, s.mod.todSec, s.mod.todNs, len c, 100,
            s.mod.flag R.AFE_STAT F.AFE_STAT_SETTLING, s.mod.afe.refused.contains c.val⟩]
          ∧ SMap.getD 0 m.afe.busyTo c = s.mod.now + 100 * len c
          ∧ (∀ k, k ≠ c.val → SMap.getD [] m.afe.runs k = SMap.getD [] s.mod.afe.runs k)
          ∧ m = { s.mod with afe := m.afe }))
        ∧ (s.mod.now < SMap.getD 0 s.mod.afe.busyTo c → Leads (.triggerFire t) s (fun m =>
          m.rn (R.AFE_OVR c) = (if s.mod.rn (R.AFE_OVR c) < 0xFFFFFFFF then s.mod.rn (R.AFE_OVR c) + 1 else s.mod.rn (R.AFE_OVR c))
          ∧ m.afe.runs = s.mod.afe.runs ∧ m.afe.refused.contains c.val = true
          ∧ (SMap.getD 0 s.mod.afe.ovrFrame c ≠ s.mod.rn R.TTB_FRAMES + 1 → m.reports = s.mod.reports ++
              [⟨FS.AFE_TRIG_OVR, BitVec.ofNat 32 c, .none, s.mod.now, s.mod.todSec, s.mod.todNs⟩])
          ∧ (SMap.getD 0 s.mod.afe.ovrFrame c = s.mod.rn R.TTB_FRAMES + 1 → m.reports = s.mod.reports)
          ∧ (∀ a, a ≠ R.AFE_OVR c → a ≠ R.AFE_SAT → m.rd a = s.mod.rd a))))
    ∧ (∀ (c : Fin 4) (codes : List (BitVec 16)), idle → SMap.getD [] s.mod.afe.runs c = [] →
        exec (.sequenceComplete c codes) s = .next s)
    ∧ (∀ (c : Fin 4) (codes : List (BitVec 16)) (r : SeqRun) (rs : List SeqRun), idle →
        SMap.getD [] s.mod.afe.runs c = r :: rs → r.len ≤ 16 → Leads (.sequenceComplete c codes) s (fun m =>
          let e := 0x01871000 + 256 * c.val
          SMap.getD [] m.afe.runs c = rs
          ∧ (∀ j < r.len, m.mw (e + 64 + 4 * j) = (codes.getD j 0).signExtend 32
              ∧ m.mw (e + 4 * j) = s.mod.slotValue c j (codes.getD j 0))
          ∧ (∀ j < 16, r.len ≤ j → m.mw (e + 64 + 4 * j) = 0 ∧ m.mw (e + 4 * j) = 0)
          ∧ m.mn (e + 128) 4 = (s.mod.mn (e + 128) 4 + 1) % 2 ^ 32
          ∧ m.mn (e + 132) 4 = r.ns % 2 ^ 32 ∧ m.mn (e + 136) 4 = r.sec % 2 ^ 32
          ∧ (∀ j < r.len, (m.mn (e + 140) 4).testBit j = (codes.getD j 0 == 0x7FFF || codes.getD j 0 == 0x8000))
          ∧ (∀ a, a < e ∨ e + 144 ≤ a → m.mb a = s.mod.mb a) ∧ m.regs = s.mod.regs))

/-- DRIFT_CHECK, OWTEST, OPEN_WIRE_DONE, CMPTEST, CMP_TEST_DONE and AFE_REFERENCE_SETTLED: A drift check shows whether the reference departs by more than 500 µV, and then reports it and marks the core. The open-wire test suspends every sequence and marks the entries as test data; its end shows each selected input above 1.0 V and reports the lowest. The comparator test shows each comparator more than 3 mV off, reports and marks it. Both clear their busy bit and their command; after the comparator test an enabled comparator whose input stands outside its band is resolved to its side. (R243, R244, R245, R251, R503) -/
def Obligations.ChecksOfTheAnalogFrontEnd : Prop :=
  ∀ (s : State), s.mod.powered = true →
    (∀ core : Fin 5, Leads (.driftCheck core none) s (fun m => m.bit R.AFE_STAT (16 + core) = true
        ∧ (∀ a, a ≠ R.AFE_STAT → m.rd a = s.mod.rd a) ∧ m = { s.mod with regs := m.regs }))
    ∧ (∀ (core : Fin 5) (d : BitVec 32), Leads (.driftCheck core (some d)) s (fun m =>
        m.bit R.AFE_STAT (16 + core) = false ∧ m.bit R.AFE_STAT (8 + core) = decide (500 < d.toInt.natAbs)
        ∧ (500 < d.toInt.natAbs → m.marked .core core = true ∧ ∃ l, m.reports =
            s.mod.reports ++ ⟨FS.AFE_DRIFT, BitVec.ofNat 32 core, .none, s.mod.now, s.mod.todSec, s.mod.todNs⟩ :: l)
        ∧ (d.toInt.natAbs ≤ 500 → m.reports = s.mod.reports)
        ∧ (∀ a, a ≠ R.AFE_STAT → a ≠ R.SID_MARK_A → m.rd a = s.mod.rd a)))
    ∧ (s.mod.up = true → (s.mod.rf R.SYS_MODE F.SYS_MODE_MODE = 3 ∨ s.mod.rf R.SYS_MODE F.SYS_MODE_MODE = 4) →
        Leads .owtest s (fun m => m.flag R.AFE_STAT F.AFE_STAT_OWBUSY = true ∧ m.flag R.AFE_CTRL F.AFE_CTRL_OWTEST = true
          ∧ (∀ c < 4, SMap.getD [] m.afe.runs c = [] ∧ (m.mn (0x0187108C + 256 * c) 4).testBit 17 = true)
          ∧ (∀ a, a ≠ R.AFE_STAT → a ≠ R.AFE_CTRL → m.rd a = s.mod.rd a))
        ∧ Leads .cmptest s (fun m => m.flag R.AFE_STAT F.AFE_STAT_CMPBUSY = true ∧ m.flag R.AFE_CTRL F.AFE_CTRL_CMPTEST = true
          ∧ (∀ a, a ≠ R.AFE_STAT → a ≠ R.AFE_CTRL → m.rd a = s.mod.rd a) ∧ m.mem = s.mod.mem))
    ∧ (∀ rs, s.mod.flag R.AFE_STAT F.AFE_STAT_OWBUSY = false → exec (.openWireDone rs) s = .next s)
    ∧ (∀ rs : List (Fin 24 × BitVec 32), s.mod.flag R.AFE_STAT F.AFE_STAT_OWBUSY = true → Leads (.openWireDone rs) s (fun m =>
        let opened (i : Nat) : Bool := (s.mod.rn R.AFE_OW_SEL).testBit i
          && rs.any (fun r => r.1.val == i && decide (1000000 < r.2.toInt))
        (∀ i < 24, (m.rn R.AFE_OW_RES).testBit i = opened i)
        ∧ m.flag R.AFE_STAT F.AFE_STAT_OWBUSY = false ∧ m.flag R.AFE_CTRL F.AFE_CTRL_OWTEST = false
        ∧ m.reports = s.mod.reports ++ (((List.range 24).find? opened).map (fun i =>
            (⟨FS.AFE_OPEN, BitVec.ofNat 32 i, .none, s.mod.now, s.mod.todSec, s.mod.todNs⟩ : Report))).toList
        ∧ (∀ a, a ∉ [R.AFE_OW_RES, R.AFE_STAT, R.AFE_CTRL] → m.rd a = s.mod.rd a)))
    ∧ (∀ rs : List (Fin 28 × BitVec 32), s.mod.flag R.AFE_STAT F.AFE_STAT_CMPBUSY = true → Leads (.cmpTestDone rs) s (fun m =>
        let off (n : Nat) : Bool := rs.any (fun r => r.1.val == n && decide (3000 < r.2.toInt.natAbs))
        (∀ n < 28, (m.rn R.AFE_CMP_OFSFAIL).testBit n = off n ∧ (off n = true → m.marked .comparator n = true))
        ∧ m.flag R.AFE_STAT F.AFE_STAT_CMPBUSY = false ∧ m.flag R.AFE_CTRL F.AFE_CTRL_CMPTEST = false
        ∧ (s.mod.up = false → ∀ a, a ∉ [R.AFE_CMP_OFSFAIL, R.AFE_STAT, R.AFE_CTRL, R.SID_MARK_C] → m.rd a = s.mod.rd a)
        ∧ (s.mod.up = true → ∀ k < 24, ∀ above, s.mod.cmpEn k = true → s.mod.cmpSide k = some above →
            m.cmpUnres k = false ∧ m.afe.out.contains k = above)))
    ∧ (∀ rs, s.mod.flag R.AFE_STAT F.AFE_STAT_CMPBUSY = false → exec (.cmpTestDone rs) s = .next s)
    ∧ Leads .afeReferenceSettled s (fun m => m.flag R.AFE_STAT F.AFE_STAT_SETTLING = false
        ∧ m.flag R.AFE_STAT F.AFE_STAT_LPACT = s.mod.flag R.AFE_STAT F.AFE_STAT_LPACT
        ∧ (∀ a, a ≠ R.AFE_STAT → m.rd a = s.mod.rd a) ∧ m = { s.mod with regs := m.regs })

/-- COMPARATOR_CROSSING: An input that crosses the band of an enabled comparator, whose half width is that of its HYS code, resolves it to that side. With FLEN its fault line is requested while the comparator is asserted, and the line is active; at the other side no line keeps its request. In the band its output stays; while the offset test runs, with the comparator off, and before the end of INSPECT, only the input is noted. (R246, R247, R248, R249, R250, R273) -/
def Obligations.ComparatorsActOnTheirLines : Prop :=
  ∀ (s : State) (n : Fin 24) (x : BitVec 32), s.mod.powered = true →
    let cfg (f : Field) : Bool := s.mod.flag (R.AFE_CMP_CFG n) f
    let half : Int := [0, 2500, 7500, 20000].getD (s.mod.rf (R.AFE_CMP_CFG n) F.AFE_CMP_CFG_HYS) 0
    let noted : Afe := { s.mod.afe with pn := SMap.setD 0 s.mod.afe.pn n x.toInt }
    ((cfg F.AFE_CMP_CFG_EN = false ∨ s.mod.flag R.AFE_STAT F.AFE_STAT_CMPBUSY = true ∨ s.mod.up = false) →
      exec (.comparatorCrossing n x) s = .next ⟨{ s.mod with afe := noted }, s.pending⟩)
    ∧ (s.mod.up = true → -half < x.toInt → x.toInt < half → Leads (.comparatorCrossing n x) s (fun m =>
      (∀ k < 24, m.cmpOut k = s.mod.cmpOut k) ∧ SMap.getD 0 m.afe.pn n = x.toInt ∧ m.mem = s.mod.mem))
    ∧ (∀ above : Bool, (if above then half < x.toInt else x.toInt < -half) → cfg F.AFE_CMP_CFG_EN = true → s.mod.flag R.AFE_STAT F.AFE_STAT_CMPBUSY = false → s.mod.up = true →
      let line := s.mod.rf (R.AFE_CMP_CFG n) F.AFE_CMP_CFG_FL
      let asserted := above != cfg F.AFE_CMP_CFG_INV
      Leads (.comparatorCrossing n x) s (fun m =>
        m.bit R.AFE_CMP_UNRES n = false ∧ m.afe.out.contains n.val = above ∧ m.cmpOut n = asserted
        ∧ (cfg F.AFE_CMP_CFG_FLEN = true → asserted = true → .cmp n ∈ m.lineReqs line ∧ m.bit R.PWM_FL_ACT line = true)
        ∧ (asserted = false → cfg F.AFE_CMP_CFG_WIN = false → ∀ l < 32, .cmp n ∉ m.lineReqs l)
        ∧ (∀ k < 24, k ≠ n.val → m.cmpOut k = s.mod.cmpOut k)
        ∧ m.mem = s.mod.mem))

/-- PWM_RELOAD, GENERATOR_RESUME, SHUNT_GO and SHUNT_STEP_END: A running generator outside a group starts its next period: what was written to its consist at least 64 ns before takes effect and later writes wait, the period is counted, and no other generator changes; compare values 0 and 0xFFFF_FFFF of an independent pair place nothing and the whole period. Without ticks, and before a period is over, nothing reloads. A released action ends at a reload 64 ns later. In SHUNT with STEP, GO sets every limited generator waiting for its N periods, and the end of the last period leaves it with no pulse; without STEP, GO clears at once. (R33, R256, R259, R261, R264, R265, R277) -/
def Obligations.GeneratorsReload : Prop :=
  ∀ (s : State) (g : Fin 34), s.mod.powered = true →
    let x := s.mod.gen g
    let next : Nat := x.origin + x.plan.period
    let alone : Prop := s.mod.groupOf g = none
    let ticks : Prop := s.mod.ticking = true
    let others (m : Module) : Prop := (∀ k, k ≠ g.val → m.gen k = s.mod.gen k) ∧ m.mem = s.mod.mem
    ((¬ ticks ∨ x.running = false ∨ s.mod.now < next / 1024) → exec (.pwmReload g) s = .next s)
    ∧ (ticks → alone → x.running = true → next / 1024 ≤ s.mod.now → Leads (.pwmReload g) s (fun m => others m
        ∧ (m.gen g).running = true ∧ (m.gen g).start = next / 1024 ∧ (m.gen g).frac = next % 1024 ∧ (m.gen g).idx = (x.idx + 1) % 16
        ∧ m.rn (R.PWM_PERIODS g) = (s.mod.rn (R.PWM_PERIODS g) + 1) % 2 ^ 64
        ∧ (m.gen g).commits = x.commits.filter (fun c => !decide (c.at' + 32 ≤ s.mod.now))
        ∧ (∀ v t b, x.commits = [⟨R.PWM_CMPA g, v, t, b⟩] →
            m.rn (R.PWM_CMPA g) = if t + 32 ≤ s.mod.now then v.toNat else s.mod.rn (R.PWM_CMPA g))
        ∧ (x.commits = [] → m.rn (R.PWM_CMPA g) = s.mod.rn (R.PWM_CMPA g) ∧ m.rn (R.PWM_PERIOD g) = s.mod.rn (R.PWM_PERIOD g))
        ∧ (x.commits = [] → s.mod.cflag (R.PWM_CFG g) F.PWM_CFG_INDEP = true → x.tailA = 0 →
            s.mod.rf (R.PWM_FORCE g) F.PWM_FORCE_FA = 0 → s.mod.cflag (R.PWM_CFG g) F.PWM_CFG_SWAP = false →
            s.mod.rf R.SYS_MODE F.SYS_MODE_MODE ≠ 5 →
            (s.mod.rn (R.PWM_CMPA g) = 0 → (m.gen g).plan.outA = [])
            ∧ (s.mod.rn (R.PWM_CMPA g) = 0xFFFFFFFF → (m.gen g).plan.outA = [(0, (m.gen g).plan.period)]))))
    ∧ ((∀ t, x.released ≠ some t) ∨ x.act = none → exec (.generatorResume g) s = .next s)
    ∧ (∀ t, x.released = some t → x.act ≠ none →
        (s.mod.now < t + 32 → exec (.generatorResume g) s = .next s)
        ∧ (t + 32 ≤ s.mod.now → ticks → alone → x.running = true → next / 1024 ≤ s.mod.now → x.holdWait = false →
            Leads (.generatorResume g) s (fun m => others m ∧ (m.gen g).act = none ∧ (m.gen g).released = none
              ∧ (m.gen g).start = next / 1024)))
    ∧ (s.mod.up = true → s.mod.rf R.SYS_MODE F.SYS_MODE_MODE = 5 →
        (s.mod.cflag R.SYS_SHUNT F.SYS_SHUNT_STEP = false → Leads .shuntGo s (fun m =>
          m.flag R.SYS_SHUNT F.SYS_SHUNT_GO = false ∧ m.pwm = s.mod.pwm ∧ ∀ a, a ≠ R.SYS_SHUNT → m.rd a = s.mod.rd a))
        ∧ (s.mod.cflag R.SYS_SHUNT F.SYS_SHUNT_STEP = true → s.mod.shuntLimited g = true → x.running = true →
            Leads .shuntGo s (fun m => m.flag R.SYS_SHUNT F.SYS_SHUNT_GO = true ∧ (m.gen g).stepWait = some s.mod.now
              ∧ (m.gen g).plan = x.plan ∧ ∀ a, a ≠ R.SYS_SHUNT → m.rd a = s.mod.rd a))
        ∧ (s.mod.cflag R.SYS_SHUNT F.SYS_SHUNT_STEP = true → s.mod.shuntLimited g = true → x.running = true → ticks → alone →
            next / 1024 ≤ s.mod.now → x.stepWait = none → x.stepLeft = 1 → ∀ k : Fin 32, k.val = g.val → Leads (.shuntStepEnd k) s (fun m => others m
              ∧ (m.gen g).stepLeft = 0 ∧ (m.gen g).plan.outA = [] ∧ (m.gen g).plan.outB = [])))

/-- FAULT_LINE_REQUEST, FAULT_LINE_RELEASE, PWM_FL_HOST, FL_LATCH_CLEAR, CAPTURE_EDGE and CAP_ARM: A request makes its line active, counts the change, latches under LATCH, and puts OFF on each generator that the line forces off, both outputs inactive. The requests of other lines stay, but for one that a both-on refusal made and whose half-bridge is now off. A line releases with its last request unless it is latched; a latched line releases when the host clears the latch with no request standing. Writing PWM_FL_HOST requests lines with its new ones and withdraws with its new zeros. An armed capture unit takes an edge of its source with tick, second and nanosecond, and disarms. (R273, R274, R275, R276, R277, R280, R284) -/
def Obligations.FaultLinesAndCaptures : Prop :=
  ∀ (s : State) (l : Fin 32) (r : Req), s.mod.powered = true →
    let calm : Prop := s.mod.gate.episode = []
    let keeps (m : Module) (k : Nat) : Prop := (calm → m.lineReqs k = s.mod.lineReqs k)
      ∧ ∀ q ∈ s.mod.lineReqs k, (∀ hb, q ≠ .gd hb 2) → q ∈ m.lineReqs k
    let latch : Bool := s.mod.cflag (R.PWM_FL_CFG l) F.PWM_FL_CFG_LATCH
    let active (m : Module) : Bool := m.bit R.PWM_FL_ACT l
    let latched (m : Module) : Bool := m.flag (R.PWM_FL_STAT l) F.PWM_FL_STAT_LATCHED
    let up1 (n : Nat) : Nat := if n < 0xFFFFFFFF then n + 1 else n
    Leads (.faultLineRequest l r) s (fun m =>
      (calm ∨ (∀ hb, r ≠ .gd hb 2) → r ∈ m.lineReqs l ∧ active m = true)
      ∧ (∀ q ∈ s.mod.lineReqs l, calm ∨ (∀ hb, q ≠ .gd hb 2) → q ∈ m.lineReqs l)
      ∧ (latch = true → latched m = true)
      ∧ m.rn (R.PWM_FL_CNT l) = (if active s.mod then s.mod.rn (R.PWM_FL_CNT l) else up1 (s.mod.rn (R.PWM_FL_CNT l)))
      ∧ (∀ k, k ≠ l.val → keeps m k)
      ∧ (calm → active s.mod = false → s.mod.lineAlwaysOff l = true → ∀ g < 34, (m.gen g).act = some .off
          ∧ (m.gen g).heldA = .inactive ∧ (m.gen g).heldB = .inactive)
      ∧ m = { s.mod with regs := m.regs, pwm := m.pwm, rings := m.rings, gate := m.gate })
    ∧ (r ∉ s.mod.lineReqs l → exec (.faultLineRelease l r) s = .next s)
    ∧ (r ∈ s.mod.lineReqs l → Leads (.faultLineRelease l r) s (fun m =>
        m.lineReqs l = (s.mod.lineReqs l).filter (· ≠ r) ∧ (∀ k, k ≠ l.val → m.lineReqs k = s.mod.lineReqs k)
        ∧ ((s.mod.lineReqs l).filter (· ≠ r) = [] → latched s.mod = false → latch = false → active m = false)
        ∧ ((s.mod.lineReqs l).filter (· ≠ r) = [] → latched s.mod = true → active m = active s.mod ∧ latched m = true)
        ∧ ((s.mod.lineReqs l).filter (· ≠ r) ≠ [] → active m = active s.mod)
        ∧ m = { s.mod with regs := m.regs, pwm := m.pwm, rings := m.rings, gate := m.gate }))
    ∧ (s.mod.up = true → s.mod.lineReqs l = [] → Leads (.flLatchClear l) s (fun m => latched m = false ∧ active m = false
        ∧ m.lineReqs l = []))
    ∧ (s.mod.up = true → s.mod.lineReqs l ≠ [] → Leads (.flLatchClear l) s (fun m => m.rd (R.PWM_FL_STAT l) = s.mod.rd (R.PWM_FL_STAT l)
        ∧ m.regs = s.mod.regs ∧ m.pwm = s.mod.pwm))
    ∧ (∀ v : BitVec 32, s.mod.up = true → Leads (.pwmFlHost v) s (fun m => m.rn R.PWM_FL_HOST = v.toNat
        ∧ (v.getLsbD l = true → (s.mod.rn R.PWM_FL_HOST).testBit l = false → .host ∈ m.lineReqs l ∧ active m = true
            ∧ ⟨FS.PWM_FL_HOST, BitVec.ofNat 32 l, .none, s.mod.now, s.mod.todSec, s.mod.todNs⟩ ∈ m.reports)
        ∧ (v.getLsbD l = false → (s.mod.rn R.PWM_FL_HOST).testBit l = true → .host ∉ m.lineReqs l)
        ∧ (calm → v.getLsbD l = (s.mod.rn R.PWM_FL_HOST).testBit l → m.lineReqs l = s.mod.lineReqs l ∧ active m = active s.mod)))
    ∧ ∀ u : Fin 16,
      let cfg (f : Field) : Nat := s.mod.cf (R.CAP_CFG u) f
      let armed (m : Module) : Bool := m.flag (R.CAP_STAT u) F.CAP_STAT_ARMED
      (∀ rising : Bool, cfg F.CAP_CFG_EN ≠ 0 → (cfg F.CAP_CFG_MODE ≠ 0 ∨ armed s.mod = true) → s.mod.ticking = true →
        (1 ≤ cfg F.CAP_CFG_SRC ∧ cfg F.CAP_CFG_SRC ≤ 0x21 ∨ 0x40 ≤ cfg F.CAP_CFG_SRC ∧ cfg F.CAP_CFG_SRC ≤ 0x7F) →
        s.mod.capEdge u rising = true → (cfg F.CAP_CFG_EDGE).testBit (if rising then 0 else 1) = true →
        s.mod.lastEvent 3 u ≠ some s.mod.now → Leads (.captureEdge u rising) s (fun m =>
          m.rn (R.CAP_SEQ u) = (s.mod.rn (R.CAP_SEQ u) + 1) % 2 ^ 32
          ∧ m.rd (R.CAP_NS u) = BitVec.ofNat 64 s.mod.todNs ∧ m.rd (R.CAP_SEC u) = BitVec.ofNat 64 s.mod.todSec
          ∧ m.flag (R.CAP_STAT u) F.CAP_STAT_NEW = true ∧ armed m = (cfg F.CAP_CFG_MODE != 0)
          ∧ m.lastEvent 3 u = some s.mod.now ∧ m = { s.mod with regs := m.regs, eng := m.eng }))
      ∧ (∀ rising : Bool, (cfg F.CAP_CFG_EN = 0 ∨ cfg F.CAP_CFG_SRC = 0 ∨ s.mod.capEdge u rising = false ∨ s.mod.ticking = false
          ∨ (cfg F.CAP_CFG_MODE = 0 ∧ armed s.mod = false)) → exec (.captureEdge u rising) s = .next s)
      ∧ (s.mod.up = true → Leads (.capArm u) s (fun m =>
          (cfg F.CAP_CFG_EN ≠ 0 → cfg F.CAP_CFG_MODE = 0 → armed m = true ∧ m.flag (R.CAP_CTRL u) F.CAP_CTRL_ARM = true)
          ∧ ((cfg F.CAP_CFG_EN = 0 ∨ cfg F.CAP_CFG_MODE ≠ 0) → armed m = armed s.mod ∧ m.flag (R.CAP_CTRL u) F.CAP_CTRL_ARM = false)
          ∧ (∀ a, a ≠ R.CAP_CTRL u → a ≠ R.CAP_STAT u → m.rd a = s.mod.rd a) ∧ m = { s.mod with regs := m.regs, host := m.host, upsets := m.upsets }))

/-- Gate channels: drive commands, detectors, supplies, links and recovery: GATE_COMMAND_RISE, GATE_COMMAND_FALL, BOTH_OFF_WINDOW_END, DESAT_DETECT, DIDT_DETECT, SOFT_TURNOFF_DONE, SUPPLY_CHECK_FAIL, SUPPLY_CHECK_PASS, GD_CLEAR, GATE_LINK_LOSS, GATE_LINK_RETURN and GD_RECOVERY_END. A command acts where the turntable puts that level on the channel. A rising command turns a free channel on, with the current steps of its edge, and counts the edge; against the other channel of the half-bridge it is refused, both channels marked, counted and reported. A falling command turns the channel off. A detector of a channel that drives, above its threshold and past its blanking, turns it off softly, latches its cause, holds its partner off, requests its line and is reported; so does a supply below its level in SHUNT, DEPART and RUN; elsewhere the channel only turns off. A latch clears on the host's bit once its condition is gone, else the clear is refused. A lost link latches every channel of the die. (R287, R288, R289, R291, R292, R293, R295, R296, R298, R300, R301, R496) -/
def Obligations.GateChannelsDriveAndProtect : Prop :=
  ∀ (s : State) (ch : Fin 24), s.mod.powered = true →
    let p : Nat := if ch.val % 2 = 0 then ch.val + 1 else ch.val - 1
    let hb : Nat := ch.val / 2
    let now (c : Nat) (f : Field) : Bool := s.mod.flag (R.GD_STAT c) f
    let hbLine : Nat := s.mod.cf (R.GD_HB_CFG hb) F.GD_HB_CFG_FLINE
    let cause (m : Module) : Nat := m.rf (R.GD_STAT ch) F.GD_STAT_CAUSE
    let tripped (c kind src : Nat) (m : Module) : Prop :=
      m.gd ch F.GD_STAT_ON = false ∧ m.gd ch F.GD_STAT_LATCH = true ∧ m.gd p F.GD_STAT_ON = false
      ∧ m.gd p F.GD_STAT_HELD = true ∧ m.bit R.GD_FAULT ch = true
      ∧ (now ch F.GD_STAT_ON = true → m.gd ch F.GD_STAT_SOFT = true)
      ∧ (now ch F.GD_STAT_LATCH = false → cause m = c)
      ∧ .gd hb kind ∈ m.lineReqs hbLine ∧ m.bit R.PWM_FL_ACT hbLine = true
      ∧ m.reports = s.mod.reports ++ [⟨src, BitVec.ofNat 32 ch, .none, s.mod.now, s.mod.todSec, s.mod.todNs⟩]
    let detects (c : Instr) (en : Field) (k src : Nat) : Prop :=
      ((now ch F.GD_STAT_ON = false ∨ s.mod.cflag (R.GD_PROT ch) en = false) → exec c s = .next s)
      ∧ (now ch F.GD_STAT_ON = true → s.mod.cflag (R.GD_PROT ch) en = true → Leads c s (fun m => tripped k (ch % 2) src m
          ∧ m.rn (R.GD_SC ch) = if s.mod.rn (R.GD_SC ch) < 0xFFFFFFFF then s.mod.rn (R.GD_SC ch) + 1 else s.mod.rn (R.GD_SC ch)))
    let rises : Prop := s.mod.gateLevel ch = true ∧ now ch F.GD_STAT_CMD = false
    let step (unit : Nat) (f : Field) : Nat := unit * (s.mod.cf (R.GD_EDGE ch) f + 1)
    let running : Prop := 5 ≤ s.mod.rf R.SYS_MODE F.SYS_MODE_MODE ∧ s.mod.flag R.SYS_MODE F.SYS_MODE_HALTING = false
    (¬ rises → exec (.gateCommandRise ch) s = .next s)
    ∧ (rises → s.mod.gate.episode.contains hb = false → now p F.GD_STAT_CMD = false → s.mod.riseClears ch = false →
        s.mod.gdFree ch = true → now ch F.GD_STAT_SOFT = false → Leads (.gateCommandRise ch) s (fun m =>
          SMap.getD none m.gate.drive ch = some ⟨true, step 250 F.GD_EDGE_SRC1, some (step 20 F.GD_EDGE_TON1), step 250 F.GD_EDGE_SRC2⟩
          ∧ m.gd ch F.GD_STAT_CMD = true ∧ m.gd ch F.GD_STAT_ON = true ∧ m.gd ch F.GD_STAT_CLAMPON = false
          ∧ m.rn (R.GD_EDGES ch) = (s.mod.rn (R.GD_EDGES ch) + 1) % 2 ^ 64
          ∧ (∀ a, a ≠ R.GD_STAT ch → a ≠ R.GD_EDGES ch → m.rd a = s.mod.rd a)
          ∧ m = { s.mod with regs := m.regs, gate := m.gate }))
    ∧ (rises → s.mod.gate.episode.contains hb = false → now p F.GD_STAT_CMD = true → SMap.getD 0 s.mod.gate.roseAt p = 0 →
        Leads (.gateCommandRise ch) s (fun m => (m.gd ch F.GD_STAT_ON = true → now ch F.GD_STAT_ON = true)
          ∧ (m.gd p F.GD_STAT_ON = true → now p F.GD_STAT_ON = true) ∧ m.gd ch F.GD_STAT_XC = true ∧ m.gd p F.GD_STAT_XC = true
          ∧ m.gate.episode.contains hb = true
          ∧ (.gd hb 2 ∈ m.lineReqs hbLine ∨ (m.gd ch F.GD_STAT_CMD = false ∧ m.gd p F.GD_STAT_CMD = false))
          ∧ m.rn R.GD_XC_CNT = (if s.mod.rn R.GD_XC_CNT < 0xFFFFFFFF then s.mod.rn R.GD_XC_CNT + 1 else s.mod.rn R.GD_XC_CNT)
          ∧ m.reports = s.mod.reports ++ [⟨FS.GD_XCOND, BitVec.ofNat 32 ch, .none, s.mod.now, s.mod.todSec, s.mod.todNs⟩]))
    ∧ ((s.mod.gateLevel ch = true ∨ now ch F.GD_STAT_CMD = false) → exec (.gateCommandFall ch) s = .next s)
    ∧ (s.mod.gateLevel ch = false → now ch F.GD_STAT_CMD = true → Leads (.gateCommandFall ch) s (fun m => m.gd ch F.GD_STAT_CMD = false ∧ m.gd ch F.GD_STAT_ON = false
        ∧ m.gd p F.GD_STAT_ON = now p F.GD_STAT_ON ∧ m.mem = s.mod.mem ∧ m.reports = s.mod.reports))
    ∧ (∀ mv ns : BitVec 32,
        let above : Prop := 4000 + 500 * min 14 (s.mod.cf (R.GD_PROT ch) F.GD_PROT_DTH) < mv.toNat
          ∧ 10 * min 500 (max 15 (s.mod.cf (R.GD_PROT ch) F.GD_PROT_BLANK)) ≤ ns.toNat
        (¬ above → exec (.desatDetect ⟨ch, mv, ns⟩) s = .next s)
        ∧ (above → detects (.desatDetect ⟨ch, mv, ns⟩) F.GD_PROT_DESEN 1 FS.GD_DESAT))
    ∧ (∀ mv : BitVec 32,
        let above : Prop := 500 + 300 * s.mod.cf (R.GD_PROT ch) F.GD_PROT_KTH < mv.toNat
        (¬ above → exec (.didtDetect ⟨ch, mv⟩) s = .next s)
        ∧ (above → detects (.didtDetect ⟨ch, mv⟩) F.GD_PROT_KLVEN 2 FS.GD_DIDT))
    ∧ (now ch F.GD_STAT_SOFT = false → exec (.softTurnoffDone ch) s = .next s)
    ∧ (now ch F.GD_STAT_SOFT = true → Leads (.softTurnoffDone ch) s (fun m => m.gd ch F.GD_STAT_SOFT = false
        ∧ m.gd ch F.GD_STAT_CLAMPON = s.mod.cflag (R.GD_EDGE ch) F.GD_EDGE_CLAMP
        ∧ m.gd ch F.GD_STAT_LATCH = now ch F.GD_STAT_LATCH ∧ m.mem = s.mod.mem))
    ∧ (∀ vp vn : BitVec 32, vp.toInt < ([10000, 12000, 14000].getD (s.mod.cf (R.GD_PROT ch) F.GD_PROT_UVLO) 14000 : Int) →
        (now ch F.GD_STAT_VPOK = true → running → s.mod.cflag (R.GD_HB_CFG hb) F.GD_HB_CFG_EN = true →
        Leads (.supplyCheckFail ch ⟨0, vp, vn⟩) s (fun m => m.gd ch F.GD_STAT_VPOK = false ∧ tripped 3 (ch % 2) FS.GD_UVLO m))
        ∧ (¬ running → Leads (.supplyCheckFail ch ⟨0, vp, vn⟩) s (fun m => m.gd ch F.GD_STAT_VPOK = false
        ∧ m.gd ch F.GD_STAT_ON = false ∧ m.gd ch F.GD_STAT_LATCH = now ch F.GD_STAT_LATCH
        ∧ (∀ a, a ≠ R.GD_STAT ch → m.rd a = s.mod.rd a) ∧ m = { s.mod with regs := m.regs, gate := m.gate })))
    ∧ (∀ (k : Fin 3) (vp vn : BitVec 32), (s.mod.checkFails ch k vp.toInt vn.toInt = false → exec (.supplyCheckFail ch ⟨k, vp, vn⟩) s = .next s)
        ∧ (s.mod.checkPasses ch k vp.toInt vn.toInt = false → exec (.supplyCheckPass ch ⟨k, vp, vn⟩) s = .next s))
    ∧ (∀ (k : Fin 3) (vp vn : BitVec 32), s.mod.checkPasses ch k vp.toInt vn.toInt = true → Leads (.supplyCheckPass ch ⟨k, vp, vn⟩) s (fun m =>
        (k = 0 → m.gd ch F.GD_STAT_VPOK = true) ∧ (k = 1 → m.gd ch F.GD_STAT_VNOK = true)
        ∧ (k = 2 → m.gd ch F.GD_STAT_REV = false) ∧ m.gd ch F.GD_STAT_LATCH = now ch F.GD_STAT_LATCH
        ∧ (m.gd p F.GD_STAT_ON = true → now p F.GD_STAT_ON = true) ∧ m.mem = s.mod.mem))
    ∧ (s.mod.up = true → now ch F.GD_STAT_LATCH = true → s.mod.gdGone ch = true → Leads (.gdClear ch) s (fun m =>
        m.gd ch F.GD_STAT_LATCH = false ∧ cause m = 0 ∧ m.bit R.GD_FAULT ch = false ∧ m.bit R.GD_CLEAR ch = false
        ∧ m.gate.waitRise.contains ch.val = true ∧ m.gate.waitRise.contains p = true
        ∧ m.gd ch F.GD_STAT_ON = now ch F.GD_STAT_ON ∧ m.mem = s.mod.mem))
    ∧ (s.mod.up = true → now ch F.GD_STAT_LATCH = true → s.mod.gdGone ch = false → Leads (.gdClear ch) s (fun m =>
        m.gd ch F.GD_STAT_LATCH = true ∧ m.gd ch F.GD_STAT_CLRREF = true ∧ m.bit R.GD_CLEAR ch = false
        ∧ (∀ a, a ≠ R.GD_STAT ch → a ≠ R.GD_CLEAR → m.rd a = s.mod.rd a)))
    ∧ (∀ d : Fin 6, Leads (.gateLinkLoss d) s (fun m => m.bit R.GD_LINK d = false
        ∧ (∀ i < 4, m.gd (4 * d + i) F.GD_STAT_LATCH = true ∧ m.gd (4 * d + i) F.GD_STAT_ON = false
            ∧ m.bit R.GD_FAULT (4 * d + i) = true)
        ∧ m.reports = s.mod.reports ++ [⟨FS.GD_LINK, BitVec.ofNat 32 d, .none, s.mod.now, s.mod.todSec, s.mod.todNs⟩]))
    ∧ (∀ d : Fin 6, Leads (.gateLinkReturn d) s (fun m => m.bit R.GD_LINK d = true
        ∧ (∀ c < 24, m.gd c F.GD_STAT_LATCH = now c F.GD_STAT_LATCH) ∧ m.mem = s.mod.mem))
    ∧ (∀ h : Fin 12, (now (2 * h) F.GD_STAT_CMD = true ∨ now (2 * h + 1) F.GD_STAT_CMD = true
          ∨ s.mod.now < SMap.getD 0 s.mod.gate.fellAt (2 * h) + 9 ∨ s.mod.now < SMap.getD 0 s.mod.gate.fellAt (2 * h + 1) + 9) →
        exec (.bothOffWindowEnd h) s = .next s)
    ∧ (∀ h : Fin 12, now (2 * h) F.GD_STAT_CMD = false → now (2 * h + 1) F.GD_STAT_CMD = false →
        SMap.getD 0 s.mod.gate.fellAt (2 * h) + 9 ≤ s.mod.now → SMap.getD 0 s.mod.gate.fellAt (2 * h + 1) + 9 ≤ s.mod.now →
        Leads (.bothOffWindowEnd h) s (fun m => m.gate.episode = s.mod.gate.episode.filter (· ≠ h.val)
          ∧ m.gd (2 * h) F.GD_STAT_HELD = now (2 * h + 1) F.GD_STAT_LATCH
          ∧ m.gd (2 * h + 1) F.GD_STAT_HELD = now (2 * h) F.GD_STAT_LATCH))
    ∧ exec (.gdRecoveryEnd ch) s = .next ⟨{ s.mod with gate := { s.mod.gate with
        recovering := s.mod.gate.recovering.filter (· ≠ ch.val) } }, s.pending⟩

/-- CAN_VCMD_RECEIVED, CAN_BMS_RECEIVED, CAN_FRAME_DISCARD, CAN_ACK_SEND, CAN_STATUS_SEND, CAN_FAULT_SEND, CAN_BUS_OFF and CAN_BUSOFF_RECOVERY: A controller that is enabled and not bus-off writes a received message of 16 bytes to its row, with UPD counted before and after and the time, and counts it; one of another length is discarded and counted. It sends the oldest queued message of its kind and port and counts it. Bus-off is shown, counted and reported, and ends with the counters 0. A controller that is off does none of this. (R224, R364, R365, R369) -/
def Obligations.CanFramesAndBusOff : Prop :=
  ∀ (s : State) (c : Fin 2) (port : Fin 4),
    let on : Prop := s.mod.up = true ∧ s.mod.cflag (R.CAN_CFG c) F.CAN_CFG_EN = true
      ∧ s.mod.flag (R.CAN_STAT c) F.CAN_STAT_BUSOFF = false
    let up1 (n : Nat) : Nat := if n < 0xFFFFFFFF then n + 1 else n
    let discarded (m : Module) : Prop := m.rn (R.CAN_DISC c) = up1 (s.mod.rn (R.CAN_DISC c))
      ∧ (∀ a, a ≠ R.CAN_DISC c → a ≠ R.CAN_SAT c → m.rd a = s.mod.rd a) ∧ m = { s.mod with regs := m.regs }
    let received (data : List Byte) (row : Nat) (m : Module) : Prop :=
      m.mn row 4 = (s.mod.mn row 4 + 2) % 2 ^ 32 ∧ m.mn (row + 4) 4 = s.mod.todNs % 2 ^ 32
      ∧ m.mbytes (row + 8) 16 = data ∧ (∀ a, a < row ∨ row + 24 ≤ a → m.mb a = s.mod.mb a)
      ∧ m.rn (R.CAN_RXCNT c) = (s.mod.rn (R.CAN_RXCNT c) + 1) % 2 ^ 32
      ∧ (∀ a, a ≠ R.CAN_RXCNT c → m.rd a = s.mod.rd a) ∧ m = { s.mod with mem := m.mem, regs := m.regs, eng := { s.mod.eng with failing := m.eng.failing } }
    let q (msg : Nat) : Option (Nat × Nat × List Byte) := s.mod.can.queue.find? (fun q => q.1 == port.val && q.2.1 == msg)
    let sent (msg : Nat) (m : Module) : Prop :=
      m.can.queue = s.mod.can.queue.erase ((q msg).getD (0, 0, []))
      ∧ SMap.getD [] m.can.sent (16 * port + msg) = ((q msg).getD (0, 0, [])).2.2
      ∧ m.rn (R.CAN_TXCNT c) = (s.mod.rn (R.CAN_TXCNT c) + 1) % 2 ^ 32
      ∧ (∀ a, a ≠ R.CAN_TXCNT c → m.rd a = s.mod.rd a) ∧ m = { s.mod with regs := m.regs, can := m.can }
    (∀ data : List Byte, (¬ on → exec (.canVcmdReceived c port data) s = .next s)
      ∧ (¬ on → exec (.canBmsReceived c port data) s = .next s)
      ∧ (on → data.length ≠ 16 → Leads (.canVcmdReceived c port data) s discarded)
      ∧ (on → data.length ≠ 16 → Leads (.canBmsReceived c port data) s discarded)
      ∧ (on → data.length = 16 → Leads (.canVcmdReceived c port data) s (received data (0x01880000 + 256 * port)))
      ∧ (on → data.length = 16 → Leads (.canBmsReceived c port data) s (received data (0x01880020 + 256 * port))))
    ∧ (¬ on → exec (.canFrameDiscard c) s = .next s) ∧ (on → Leads (.canFrameDiscard c) s discarded)
    ∧ ((¬ on ∨ q 8 = none) → exec (.canAckSend c port) s = .next s)
    ∧ ((¬ on ∨ q 9 = none) → exec (.canStatusSend c port) s = .next s)
    ∧ ((¬ on ∨ q 10 = none) → exec (.canFaultSend c port) s = .next s)
    ∧ (on → q 8 ≠ none → Leads (.canAckSend c port) s (sent 8))
    ∧ (on → q 9 ≠ none → Leads (.canStatusSend c port) s (sent 9))
    ∧ (on → q 10 ≠ none → Leads (.canFaultSend c port) s (sent 10))
    ∧ (¬ on → exec (.canBusOff c) s = .next s)
    ∧ (on → Leads (.canBusOff c) s (fun m => m.flag (R.CAN_STAT c) F.CAN_STAT_BUSOFF = true
        ∧ m.rf (R.CAN_STAT c) F.CAN_STAT_TEC = 0xFF ∧ m.rn (R.CAN_BUSOFF c) = up1 (s.mod.rn (R.CAN_BUSOFF c))
        ∧ m.reports = s.mod.reports ++ [⟨FS.CAN_BUSOFF, BitVec.ofNat 32 c, .none, s.mod.now, s.mod.todSec, s.mod.todNs⟩]
        ∧ (∀ a, a ∉ [R.CAN_STAT c, R.CAN_BUSOFF c, R.CAN_SAT c] → m.rd a = s.mod.rd a)))
    ∧ (s.mod.up = false ∨ s.mod.flag (R.CAN_STAT c) F.CAN_STAT_BUSOFF = false → exec (.canBusoffRecovery c) s = .next s)
    ∧ (s.mod.up = true → s.mod.flag (R.CAN_STAT c) F.CAN_STAT_BUSOFF = true → Leads (.canBusoffRecovery c) s (fun m =>
        m.rn (R.CAN_STAT c) = 0 ∧ (∀ a, a ≠ R.CAN_STAT c → m.rd a = s.mod.rd a) ∧ m = { s.mod with regs := m.regs }))

/-- RING_CYCLE_START, CYCLE_COMPLETE, LN_TRAIN, TRAINING_COMPLETE, TRAINING_STEP_TIMEOUT, LN_HOST_REQUEST and SLOW_FRAME_RETURN: A port in RUN starts a cycle at each of its cycle ticks: it is counted, and its frame carries the apply offset within its limits and each command committed 1 µs before, the others as before. At its end each response stands in its cell's entry with the cycle number, a missing one counts as lost, and the port is up. TRAIN takes the configuration and stops the port; training ends in RUN with the cells entered, or fails with its code and position, reported. A host request waits with GO until its frame returns. (R394, R395, R399, R401, R402, R404, R405, R407, R410, R413, R415) -/
def Obligations.CellRingsCycleAndTrain : Prop :=
  ∀ (s : State) (p : Fin 16),
    let x := s.mod.port p
    let state (m : Module) : Nat := m.rf (R.LN_TRAIN p) F.LN_TRAIN_STATE
    let fails (code pos : Nat) (m : Module) : Prop := state m = 6 ∧ m.rf (R.LN_TRAIN p) F.LN_TRAIN_CODE = code
      ∧ m.rf (R.LN_TRAIN p) F.LN_TRAIN_POS = pos ∧ m.flag (R.LN_PORT_CTRL p) F.LN_PORT_CTRL_TRAIN = false
      ∧ m.reports = s.mod.reports ++ [⟨FS.LN_TRAIN_FAIL, BitVec.ofNat 32 (p + 256 * pos), .none, s.mod.now, s.mod.todSec, s.mod.todNs⟩]
      ∧ m.mem = s.mod.mem
    let runs : Prop := s.mod.up = true ∧ (s.mod.now - s.mod.sys.frameTick) % x.cycLen = 0 ∧ state s.mod = 5 ∧ s.mod.flag (R.LN_STAT p) F.LN_STAT_BADCYC = false ∧ s.mod.ticking = true
      ∧ s.mod.sys.coreSilent = false ∧ s.mod.hl.hold = false
    (¬ runs → exec (.ringCycleStart p) s = .next s)
    ∧ (runs → Leads (.ringCycleStart p) s (fun m =>
        m.rn (R.LN_CYCLES p) = (s.mod.rn (R.LN_CYCLES p) + 1) % 2 ^ 64
        ∧ (∀ k, k ≠ p.val → m.port k = s.mod.port k) ∧ m.mem = s.mod.mem
        ∧ ∃ f, (m.port p).flight = some f ∧ f.start = s.mod.now ∧ f.cycle = m.rn (R.LN_CYCLES p) % 2 ^ 32
          ∧ (x.applies = [] → f.apply = min (max (s.mod.cf (R.LN_APPLY p) F.LN_APPLY_DEF) (s.mod.rf (R.LN_APPLY p) F.LN_APPLY_MIN))
              (x.cycLen - 8))
          ∧ (∀ t pos bs, x.waiting = [(t, pos, bs)] → SMap.getD [] f.cmds pos =
              if t + 500 ≤ s.mod.now then bs else SMap.getD [] x.cmds pos)
          ∧ (x.waiting = [] → f.cmds = x.cmds)))
    ∧ (s.mod.up = false ∨ x.flight = none → ∀ fa fb, exec (.cycleComplete p fa fb) s = .next s)
    ∧ (∀ f, x.flight = some f → s.mod.now < f.start + x.cycLen - 250 → exec (.cycleComplete p none none) s = .next s)
    ∧ (∀ f (a : RingFrame), s.mod.up = true → x.flight = some f → s.mod.now ≤ f.start + x.cycLen - 250 → x.cfg.double = false → a.good = true → Leads (.cycleComplete p (some a) none) s (fun m =>
        (m.port p).flight = none ∧ (m.port p).done = f.cycle ∧ m.flag (R.LN_STAT p) F.LN_STAT_UP = true
        ∧ m.lastEvent 6 p = some s.mod.now
        ∧ ∀ i < x.cfg.count, let e := 0x01800000 + 48 * (x.cfg.base + i)
          (∀ r : BitVec 64, a.slots.find? (fun q => q.1.val == i && q.2.getLsbD 7) = some (Fin.ofNat 512 i, r) → i < 512 →
            m.mn (e + 0x10) 8 = r.toNat ∧ m.mn (e + 0x20) 4 = f.cycle % 2 ^ 32 ∧ m.mn (e + 0x24) 1 = 0)
          ∧ (a.slots.find? (fun q => q.1.val == i && q.2.getLsbD 7) = none →
            m.mn (e + 0x24) 1 = min 0xFF (s.mod.mn (e + 0x24) 1 + 1) ∧ m.mn (e + 0x10) 8 = s.mod.mn (e + 0x10) 8)))
    ∧ (s.mod.up = true → (s.mod.rf R.SYS_MODE F.SYS_MODE_MODE = 3 ∨ s.mod.rf R.SYS_MODE F.SYS_MODE_MODE = 4) →
        Leads (.lnTrain p) s (fun m => state m = 1 ∧ m.rf (R.LN_TRAIN p) F.LN_TRAIN_CODE = 0
          ∧ m.flag (R.LN_STAT p) F.LN_STAT_UP = false ∧ m.flag (R.LN_PORT_CTRL p) F.LN_PORT_CTRL_TRAIN = true
          ∧ (x.cfg.base + x.cfg.count ≤ 4096 → ∀ i < x.cfg.count, m.mn (0x01800000 + 48 * (x.cfg.base + i)) 4 < 2 ^ 31)
          ∧ (m.port p).cfg = s.mod.portConfig p ∧ (m.port p).flight = none ∧ (∀ k, k ≠ p.val → m.port k = s.mod.port k)))
    ∧ ((s.mod.up = false ∨ state s.mod = 0 ∨ 5 ≤ state s.mod) → exec (.trainingStepTimeout p) s = .next s
        ∧ ∀ r, exec (.trainingComplete p r) s = .next s)
    ∧ (s.mod.up = true → 1 ≤ state s.mod → state s.mod < 5 → Leads (.trainingStepTimeout p) s (fails 0xA 0x1FF)
        ∧ (∀ (c : Fin 6) (pos : Fin 512), c ≠ 0 → Leads (.trainingComplete p (.failed c pos)) s (fails c pos))
        ∧ (∀ (cells : List CellId) (rtt : BitVec 32), cells.length ≠ x.cfg.count → (∀ k ∈ cells, k.swapped = false) →
            Leads (.trainingComplete p (.found cells rtt)) s (fails 4 0x1FF))
        ∧ (∀ (cells : List CellId) (rtt : BitVec 32) (l : Nat), cells.length = x.cfg.count →
            (∀ k ∈ cells, k.swapped = false ∧ k.version = 1) → s.mod.rangeBad p x.cfg = false →
            (∀ h ∈ s.mod.hops x.cfg, h = 0) → s.mod.cycleLength x.cfg = some l →
            tMin x.cfg.count (rtt.toNat - x.cfg.count * 40000) x.cfg.double ≤ l * 2000 →
            Leads (.trainingComplete p (.found cells rtt)) s (fun m => state m = 5 ∧ m.rn (R.LN_RTT p) = rtt.toNat
              ∧ (m.port p).cycLen = l ∧ m.flag (R.LN_PORT_CTRL p) F.LN_PORT_CTRL_TRAIN = false ∧ m.reports = s.mod.reports
              ∧ ∀ i (h : i < cells.length), i < 2 ^ 16 → let e := 0x01800000 + 48 * (x.cfg.base + i)
                m.mn e 4 = 2 ^ 31 + 65536 * p + i ∧ m.mn (e + 8) 8 = cells[i].serial.toNat)))
    ∧ (∀ (wr : Bool) (point : BitVec 8) (pos : Fin 512), s.mod.up = true → Leads (.lnHostRequest p wr point pos) s (fun m =>
        m.flag (R.LN_HREQ p) F.LN_HREQ_GO = true ∧ m.flag (R.LN_HREQ p) F.LN_HREQ_WR = wr
        ∧ m.rf (R.LN_HREQ p) F.LN_HREQ_POINT = point.toNat ∧ m.rf (R.LN_HREQ p) F.LN_HREQ_POS = pos.val
        ∧ (∀ a, a ≠ R.LN_HREQ p → m.rd a = s.mod.rd a)))
    ∧ (s.mod.powered = true → s.mod.flag (R.LN_HREQ p) F.LN_HREQ_GO = true → ∀ w ws, Leads (.slowFrameReturn p .host (some ⟨true, true, false, w :: ws⟩)) s
        (fun m => m.flag (R.LN_HREQ p) F.LN_HREQ_GO = false ∧ m.flag (R.LN_HREQ p) F.LN_HREQ_ERR = false
          ∧ (s.mod.flag (R.LN_HREQ p) F.LN_HREQ_WR = false → m.rn (R.LN_HDATA p) = w.toNat)
          ∧ (∀ a, a ≠ R.LN_HREQ p → a ≠ R.LN_HDATA p → m.rd a = s.mod.rd a) ∧ m.mem = s.mod.mem))
    ∧ (s.mod.flag (R.LN_HREQ p) F.LN_HREQ_GO = false → exec (.slowFrameReturn p .host none) s = .next s)
    ∧ (s.mod.powered = true → s.mod.flag (R.LN_HREQ p) F.LN_HREQ_GO = false → ∀ f : SlowFrame, f.good = true →
        exec (.slowFrameReturn p .host (some f)) s = .next s)
    ∧ (s.mod.powered = true → ∀ f : SlowFrame, f.good = false → Leads (.slowFrameReturn p .host (some f)) s (fun m =>
        m.rn (R.LN_CRCERR p) = (if s.mod.rn (R.LN_CRCERR p) < 0xFFFFFFFF then s.mod.rn (R.LN_CRCERR p) + 1 else s.mod.rn (R.LN_CRCERR p))
        ∧ m.mem = s.mod.mem))

/-- DEMAND_INTERVAL_END, METER_MRAM_COMMIT, MTR_SNAP, MTR_CLR and PULSE_OUTPUT_START: At the end of a demand interval of an enabled point, a whole multiple of its length in the time of day, the interval becomes the last one and a new one starts at zero; an irregular one sets IRREG and no maximum. A commit records every meter register in MRAM. SNAP copies all energy and wrap registers in one instant with the time. A clear with its key, in HALT or DEPOT, is due at the next boundary, and is refused otherwise. A queued pulse starts where the output is enabled, ticks are delivered and twice WIDTH has passed. (R58, R426, R427, R428, R433, R434) -/
def Obligations.MeteringIntervalsSnapshotsAndPulses : Prop :=
  ∀ (s : State) (n : Fin 4),
    let due : Nat := s.mod.todNanos / (s.mod.demSeconds n * 1000000000) * (s.mod.demSeconds n * 1000000000)
    (s.mod.up = false ∨ s.mod.cflag (R.MTR_MP_CFG n) F.MTR_MP_CFG_EN = false ∨ due ≤ (s.mod.interval n).endAt → exec (.demandIntervalEnd n) s = .next s)
    ∧ (s.mod.up = true → (s.mod.interval n).endAt < due → s.mod.cflag (R.MTR_MP_CFG n) F.MTR_MP_CFG_EN = true → s.mod.mtrNet n = false → Leads (.demandIntervalEnd n) s (fun m =>
        let i := s.mod.interval n
        let len := s.mod.demSeconds n
        let irr : Bool := i.irr || !s.mod.flag R.CLK_STAT F.CLK_STAT_TOD_VALID
        m.interval n = ⟨0, 0, [], false, due⟩
        ∧ m.lastInterval n = ⟨i.imp, i.exp, i.net, irr, due⟩
        ∧ m.rd (R.MTR_MP_DEM_IMP n) = (demand i.imp len).setWidth 64 ∧ m.rd (R.MTR_MP_DEM_EXP n) = (demand i.exp len).setWidth 64
        ∧ (irr = true → m.flag (R.MTR_MP_STAT n) F.MTR_MP_STAT_IRREG = true
            ∧ m.rd (R.MTR_MP_DEM_MAX n) = s.mod.rd (R.MTR_MP_DEM_MAX n))
        ∧ (∀ k < 28, m.rd (R.MTR_MP_E n k) = s.mod.rd (R.MTR_MP_E n k)) ∧ m = { s.mod with regs := m.regs, mtr := m.mtr }))
    ∧ (s.mod.up = false → exec .meterMramCommit s = .next s)
    ∧ (s.mod.up = true → Leads .meterMramCommit s (fun m =>
        (∃ r, m.mtr.record = some r ∧ (∀ o < 8, SMap.getD 0 r.po o = SMap.getD 0 s.mod.mtr.po o / 2 ^ 32 * 2 ^ 32) ∧ ∀ a ∈ meterRegs, s.mod.rd a ≠ regReset a → (a, s.mod.rd a) ∈ r.regs)
        ∧ m = { s.mod with mtr := { s.mod.mtr with record := m.mtr.record } }))
    ∧ (s.mod.up = true → Leads (.mtrSnap n) s (fun m =>
        (∀ k < 28, m.rd (R.MTR_MP_S n k) = s.mod.rd (R.MTR_MP_E n k))
        ∧ (∀ j < 14, m.rd (R.MTR_MP_SW n j) = s.mod.rd (R.MTR_MP_W n j))
        ∧ (∀ k < 28, m.rd (R.MTR_MP_E n k) = s.mod.rd (R.MTR_MP_E n k))
        ∧ m.flag (R.MTR_MP_CTRL n) F.MTR_MP_CTRL_SNAP = false ∧ m.mem = s.mod.mem ∧ m.mtr = s.mod.mtr))
    ∧ (s.mod.up = true → (s.mod.rf R.SYS_MODE F.SYS_MODE_MODE = 3 ∨ s.mod.rf R.SYS_MODE F.SYS_MODE_MODE = 4) →
        Leads (.mtrClr n 0x5A3C) s (fun m => n.val ∈ m.mtr.clrDue ∧ m.flag (R.MTR_MP_CTRL n) F.MTR_MP_CTRL_CLR = true
          ∧ (∀ a, a ≠ R.MTR_MP_CTRL n → m.rd a = s.mod.rd a) ∧ m.mem = s.mod.mem))
    ∧ (∀ key : BitVec 16, s.mod.up = true → key ≠ 0x5A3C → Leads (.mtrClr n key) s (fun m => m.mtr = s.mod.mtr
        ∧ m.rf R.HOST_VIOL_INFO F.HOST_VIOL_INFO_REASON = 0xA ∧ m.rd (R.MTR_MP_CTRL n) = s.mod.rd (R.MTR_MP_CTRL n)))
    ∧ ∀ o : Fin 8,
      let pend := s.mod.rf (R.MTR_PO_QUEUE o) F.MTR_PO_QUEUE_PEND
      let width := min 250 (max 2 (s.mod.cf (R.MTR_PO_CFG o) F.MTR_PO_CFG_WIDTH))
      let may : Prop := s.mod.up = true ∧ pend ≠ 0 ∧ s.mod.cflag (R.MTR_PO_CFG o) F.MTR_PO_CFG_EN = true ∧ s.mod.ticking = true
        ∧ s.mod.hl.hold = false ∧ (∀ t, SMap.getD 0 s.mod.mtr.poStart o = t + 1 → t + 1000000 * width ≤ s.mod.now)
      (¬ may → exec (.pulseOutputStart o) s = .next s)
      ∧ (may → SMap.getD 0 s.mod.mtr.po o = 0 → Leads (.pulseOutputStart o) s (fun m =>
          m.rf (R.MTR_PO_QUEUE o) F.MTR_PO_QUEUE_PEND = pend - 1 ∧ SMap.getD 0 m.mtr.poStart o = s.mod.now + 1
          ∧ m.poActive o = true ∧ (∀ a, a ≠ R.MTR_PO_QUEUE o → m.rd a = s.mod.rd a) ∧ m.mem = s.mod.mem))

/-- SAFE_INPUT_CHANGE, DISCREPANCY_TIMEOUT, TEST_PULSE_CHECK, FB_RESET, STOP1_DELAY_END and MUTING_TIMEOUT: An accepted level gives the pair its reading: demand where a channel shows demand, release only where both show release and no fault stands; a fault ends only when both show demand. A pair whose second channel does not follow, or whose channel stays high at its test pulse, has a fault and is reported. An instance with a source that reads demand is in demand, but for a stop delay or muting; a reset, a pulse that has ended on the RST source of a manual instance, releases it only where every source reads release; T1 ends stop delay and muting. STO is released only where every instance of its mask is released, and the enables of the gate dies follow it. (R443, R444, R445, R446, R447, R448, R449, R450, R464) -/
def Obligations.SafeInputsAndFunctionBlocks : Prop :=
  ∀ (s : State) (n : Fin 16) (i : Fin 16), s.mod.powered = true →
    let img := s.mod.il.image
    let settled (m : Module) : Prop := m.il.image = img ∧ m.il.lockout = s.mod.il.lockout ∧ m.il.stopSig = s.mod.il.stopSig
      ∧ (m.il.stoRel = true → m.il.lockout = false ∧ m.il.stopSig = false ∧ m.il.mask 0 ≠ 0
          ∧ ∀ k < 16, (m.il.mask 0).testBit k = true → (m.il.fb k).rel = true)
      ∧ (m.il.stoRel ≠ s.mod.il.stoRel → m.gate.enA = m.il.stoRel ∧ m.gate.enB = m.il.stoRel)
      ∧ (m.il.stoRel = false → .safe ∈ m.lineReqs m.stoLine)
      ∧ (∀ k < 16, fbEn img k = true → fbKind img k ≠ 2 → (∃ c ∈ fbSources img k, m.il.source c = false) →
          (m.il.fb k).rel = false ∨ (m.il.fb k).muting = true ∨ (m.il.fb k).stop1 = true)
      ∧ m.mem = s.mod.mem ∧ m.il.tokens = s.mod.il.tokens ∧ m.il.req = s.mod.il.req
    let faulted (src : Nat) (m : Module) : Prop := m.il.pair n = 3 ∧ m.il.levels = s.mod.il.levels
      ∧ (∃ r ∈ m.reports, r.src = src ∧ r.owner = .none ∧ r.at' = s.mod.now)
    (∀ b lv : Bool, Leads (.safeInputChange n b lv) s (fun m => settled m
        ∧ (∀ k < 32, m.il.levels.contains k = if k = 2 * n.val + (if b then 1 else 0) then lv else s.mod.il.levels.contains k)
        ∧ (∀ k, k ≠ n.val → m.il.pair k = s.mod.il.pair k)
        ∧ (siEn img n = false → m.il.pair n = s.mod.il.pair n)
        ∧ (siEn img n = true →
            let a := m.il.level n 0
            let c := if siKind img n = 1 then !m.il.level n 1 else m.il.level n 1
            (a = false → c = false → m.il.pair n = 0)
            ∧ (a = true ∨ c = true → s.mod.il.pair n = 3 → m.il.pair n = 3)
            ∧ (a = true → c = true → s.mod.il.pair n ≠ 3 → siKind img n ≠ 3 → m.il.pair n = 1)
            ∧ (a ≠ c → s.mod.il.pair n ≠ 3 → siKind img n ≠ 3 → m.il.pair n = 2))))
    ∧ ((siEn img n = false ∨ s.mod.il.pair n ≠ 2) → exec (.discrepancyTimeout n) s = .next s)
    ∧ (siEn img n = true → s.mod.il.pair n = 2 → Leads (.discrepancyTimeout n) s (fun m => settled m ∧ faulted FS.SAFE_DISC m))
    ∧ (∀ (t : Fin 4) (low : List (Fin 32)), Leads (.testPulseCheck t low) s (fun m => settled m
        ∧ (siEn img n = true → (∃ ch : Fin 2, siPulse img n ch = t ∧ ∀ k ∈ low, k.val ≠ 2 * n.val + ch.val) →
            m.il.pair n = 3 ∧ (s.mod.il.pair n ≠ 3 → faulted FS.SAFE_WIRE m))
        ∧ ((siEn img n = false ∨ ∀ ch : Fin 2, siPulse img n ch = t → ∃ k ∈ low, k.val = 2 * n.val + ch.val) →
            m.il.pair n = s.mod.il.pair n)))
    ∧ ((fbEn img i = false ∨ fbKind img i = 2 ∨ fbSrc img i 0 = 0x7F ∨ s.mod.il.source (fbSrc img i 0) = true ∨ s.mod.il.fbOk i = false ∨ (s.mod.il.fb i).stop1 = true) →
        exec (.fbReset i) s = .next s)
    ∧ (fbEn img i = true → fbKind img i ≠ 2 → fbSrc img i 0 ≠ 0x7F → s.mod.il.source (fbSrc img i 0) = false →
        (∀ c ∈ fbSources img i, s.mod.il.source c = true) →
        (s.mod.il.fb i).stop1 = false → s.mod.il.msel = s.mod.il.normal →
        Leads (.fbReset i) s (fun m => settled m ∧ (m.il.fb i).rel = true ∧ m.il.pairs = s.mod.il.pairs))
    ∧ ((s.mod.il.fb i).stop1 = false → exec (.stop1DelayEnd i) s = .next s)
    ∧ ((s.mod.il.fb i).stop1 = true → fbEn img i = true → fbKind img i = 0 → fbAuto img i = false →
        Leads (.stop1DelayEnd i) s (fun m => settled m ∧ (m.il.fb i).rel = false ∧ (m.il.fb i).stop1 = false))
    ∧ ((s.mod.il.fb i).muting = false → exec (.mutingTimeout i) s = .next s)
    ∧ ((s.mod.il.fb i).muting = true → Leads (.mutingTimeout i) s (fun m => settled m
        ∧ (fbEn img i = true → fbKind img i = 3 → s.mod.il.source (fbSrc img i 1) = false → (m.il.fb i).muting = false →
            (m.il.fb i).rel = false)))

/-- OFF_DELAY_END, EDM_TIMEOUT, EDM_INPUT_CHANGE, SWITCH_READBACK_FAIL, DARK_PULSE_TEST, CHANNEL_COMPARE, INTERLOCKING_SUPPLY_LOSS and STOP_SIGNAL: An output whose delay ends goes off and stays off while its mask demands. An EDM fault and a switch fault turn the output off and are reported; the first stays until EDM shows open and the instances of its mask are reset. A third compare that disagrees, a failed self-test and the loss of the supply cause lockout: STO is active, every safe output is off, and SAFE_INTERNAL is raised. A stop signal makes STO active and every released output demand, and its end releases nothing. (R441, R449, R450, R451, R452, R464) -/
def Obligations.SafeOutputsAndLockout : Prop :=
  ∀ (s : State) (j : Fin 4), s.mod.powered = true →
    let o := s.mod.il.out (j + 1)
    let reported (src : Nat) (m : Module) : Prop := ∃ r ∈ m.reports, r.src = src ∧ r.owner = .none ∧ r.at' = s.mod.now
    let locked (m : Module) : Prop := m.il.lockout = true ∧ m.il.stoRel = false ∧ .safe ∈ m.lineReqs m.stoLine
      ∧ (∀ k < 4, (m.il.out (k + 1)).on = false) ∧ reported FS.SAFE_INTERNAL m
      ∧ (s.mod.il.stoRel = true → m.gate.enA = false ∧ m.gate.enB = false) ∧ m.mem = s.mod.mem ∧ m.il.image = s.mod.il.image
    let edmFault (m : Module) : Prop := (m.il.out (j + 1)).on = false ∧ (m.il.out (j + 1)).edmFlt = true
      ∧ reported FS.SAFE_EDM m ∧ m.mem = s.mod.mem
    let switched (m : Module) : Prop := (m.il.out (j + 1)).on = false ∧ (m.il.out (j + 1)).outFlt = true
      ∧ reported FS.SAFE_OUT m ∧ m.mem = s.mod.mem
    (o.delay = false → exec (.offDelayEnd j) s = .next s)
    ∧ (o.delay = true → Leads (.offDelayEnd j) s (fun m => (m.il.out (j + 1)).delay = false ∧ m.mem = s.mod.mem
        ∧ ((m.il.out (j + 1)).on = true → m.il.image ≠ [] ∧ m.il.lockout = false ∧ m.il.stopSig = false
            ∧ ∀ k < 16, (m.il.mask (j + 1)).testBit k = true → (m.il.fb k).rel = true)))
    ∧ (o.edmWait = false → exec (.edmTimeout j) s = .next s)
    ∧ (o.edmWait = true → Leads (.edmTimeout j) s edmFault)
    ∧ (outEdm s.mod.il.image (j + 1) = true → o.edmFlt = false → o.edmWait = false →
        ∀ high : Bool, Leads (.edmInputChange j high) s (fun m => edmFault m
          ∧ ∀ k, m.il.edm.contains k = if k = j.val + 1 then high else s.mod.il.edm.contains k))
    ∧ (outEdm s.mod.il.image (j + 1) = true → o.edmFlt = false → o.edmWait = true → ∀ high : Bool,
        Leads (.edmInputChange j high) s (fun m => m.mem = s.mod.mem
          ∧ ∀ k, m.il.edm.contains k = if k = j.val + 1 then high else s.mod.il.edm.contains k))
    ∧ Leads (.switchReadbackFail j) s switched
    ∧ Leads (.darkPulseTest [j]) s (fun m => if o.on = true then switched m else m = s.mod)
    ∧ exec (.darkPulseTest []) s = .next s
    ∧ Leads (.channelCompare true true) s (fun m => m = { s.mod with il := { s.mod.il with differ := 0 } })
    ∧ (s.mod.il.differ < 2 → Leads (.channelCompare false true) s (fun m =>
        m = { s.mod with il := { s.mod.il with differ := s.mod.il.differ + 1 } }))
    ∧ (2 ≤ s.mod.il.differ → s.mod.il.lockout = false → Leads (.channelCompare false true) s locked)
    ∧ (s.mod.il.lockout = false → Leads (.channelCompare true false) s locked)
    ∧ (s.mod.il.lockout = false → Leads .interlockingSupplyLoss s locked)
    ∧ (s.mod.il.lockout = true → exec .interlockingSupplyLoss s = .next s)
    ∧ Leads (.stopSignal true) s (fun m => m.il.stopSig = true ∧ m.il.stoRel = false ∧ .safe ∈ m.lineReqs m.stoLine
        ∧ (o.on = true → (m.il.out (j + 1)).on = true → (m.il.out (j + 1)).delay = true)
        ∧ (o.on = false → (m.il.out (j + 1)).on = false)
        ∧ (∀ k < 16, (s.mod.il.mask 0).testBit k = true → fbEn s.mod.il.image k = true → fbKind s.mod.il.image k ≠ 2 →
            k ∈ SMap.getD [] m.il.need 0) ∧ m.mem = s.mod.mem)
    ∧ Leads (.stopSignal false) s (fun m => m.il.stopSig = false ∧ m.il.need = s.mod.il.need ∧ m.mem = s.mod.mem
        ∧ (SMap.getD [] s.mod.il.need 0 ≠ [] → m.il.stoRel = false))

/-- TOKEN_PRODUCE, TOKEN_FRAME_RECEIVED, TOKEN_WATCHDOG and TOKEN_HOST_SLOT_READ: A produced frame holds ID_OUT, the next SEQ, the time of day in microseconds and its SCRC, and goes to its carrier. A consumed frame is checked in order; in RUN the first check that fails fails the connection with its code and is reported, an exact repeat is ignored, and a frame that passes becomes the last one; outside RUN a first good frame sets the baseline and a second leads to RUN. The watchdog fails a connection in RUN with code 5. A slot of the host is read as a frame received. (R446, R454, R455, R456, R457, R458, R464) -/
def Obligations.TokenFramesAreCheckedInOrder : Prop :=
  ∀ (s : State) (c : Fin 16), s.mod.powered = true →
    let img := s.mod.il.image
    let t := s.mod.il.token c
    let n := tkIn img c
    let w := tkOut img c
    let arg := tkArg img c
    let slot : Nat := 0x018A3800 + 0x80 * c
    let member : Nat := 0x01860000 + 512 * (arg / 2 ^ 12 % 32) + 8 * (arg / 2 ^ 18 % 64)
    let formed (f : List Byte) : Prop := f.length = 16 + w ∧ imgW f 0 = tkIdOut img c ∧ imgW f 4 = t.seq % 2 ^ 32
      ∧ imgW f 8 = s.mod.todNanos / 1000 % 2 ^ 32 ∧ imgW f (12 + w) = scrc (f.take (12 + w))
    let produced (m : Module) : Prop := (m.il.token c).seq = (t.seq + 1) % 2 ^ 32 ∧ (m.il.token c).st = t.st
      ∧ (m.il.token c).last = t.last ∧ m.regs = s.mod.regs ∧ m.reports = s.mod.reports
    (tkEn img c = false → exec (.tokenProduce c) s = .next s)
    ∧ (tkEn img c = true → tkCarrier img c = 2 → Leads (.tokenProduce c) s (fun m => produced m
        ∧ formed (m.mbytes slot (16 + w)) ∧ m.il.ring = s.mod.il.ring
        ∧ ∀ a, a < slot ∨ slot + 16 + w ≤ a → m.mb a = s.mod.mb a))
    ∧ (tkEn img c = true → tkCarrier img c = 1 → Leads (.tokenProduce c) s (fun m => produced m
        ∧ m.il.ring.take s.mod.il.ring.length = s.mod.il.ring ∧ m.il.ring.length = s.mod.il.ring.length + 1
        ∧ (∀ q ∈ m.il.ring.drop s.mod.il.ring.length, q.1 = arg % 16 ∧ q.2.1 = arg / 2 ^ 16 % 512 ∧ q.2.2.1 = c
            ∧ formed q.2.2.2.1 ∧ q.2.2.2.2 = 0) ∧ m.mem = s.mod.mem))
    ∧ (tkEn img c = true → tkCarrier img c = 0 → s.mod.eng.failing = [] → Leads (.tokenProduce c) s (fun m => produced m
        ∧ m.mn member 4 = tkIdOut img c ∧ m.mn (member + 8) 4 = t.seq % 2 ^ 32
        ∧ m.mn (member + 16) 4 = s.mod.todNanos / 1000 % 2 ^ 32 ∧ m.il.ring = s.mod.il.ring
        ∧ ∀ a, a < member ∨ member + 8 * ((16 + w + 3) / 4) ≤ a → m.mb a = s.mod.mb a))
    ∧ (∀ f : List Byte,
        let good1 : Prop := f.length = 16 + n ∧ imgW f (12 + n) = scrc (f.take (12 + n))
        let good2 : Prop := imgW f 0 = tkIdIn img c
        let good3 : Prop := imgW f 4 = (imgW t.last 4 + 1) % 2 ^ 32
        let good4 : Prop := tkAge img c = 0 ∨ (s.mod.flag R.CLK_STAT F.CLK_STAT_TOD_VALID = true
          ∧ -1000 ≤ s.mod.tokenAge (imgW f 8) ∧ s.mod.tokenAge (imgW f 8) ≤ 1000 * (tkAge img c : Int))
        let failed (code : Nat) (m : Module) : Prop := (m.il.token c).st = 3 ∧ (m.il.token c).code = code
          ∧ (m.il.token c).base = false ∧ (∃ r ∈ m.reports, r.src = FS.SAFE_TOKEN ∧ r.owner = .none ∧ r.at' = s.mod.now)
          ∧ (∀ d, d ≠ c.val → m.il.token d = s.mod.il.token d)
          ∧ (m.il.source (0x80 + 8 * c) = false) ∧ m.mem = s.mod.mem
        (t.st = 0 → exec (.tokenFrameReceived c f) s = .next s)
        ∧ (t.st = 2 → good1 → f = t.last → exec (.tokenFrameReceived c f) s = .next s)
        ∧ (t.st = 2 → ¬ good1 → Leads (.tokenFrameReceived c f) s (failed 1))
        ∧ (t.st = 2 → good1 → f ≠ t.last → ¬ good2 → Leads (.tokenFrameReceived c f) s (failed 2))
        ∧ (t.st = 2 → good1 → f ≠ t.last → good2 → ¬ good3 → Leads (.tokenFrameReceived c f) s (failed 3))
        ∧ (t.st = 2 → good1 → f ≠ t.last → good2 → good3 → ¬ good4 → Leads (.tokenFrameReceived c f) s (failed 4))
        ∧ (t.st = 2 → good1 → f ≠ t.last → good2 → good3 → good4 → Leads (.tokenFrameReceived c f) s (fun m =>
            m.il.token c = { t with last := f } ∧ (∀ d, d ≠ c.val → m.il.token d = s.mod.il.token d) ∧ m.mem = s.mod.mem
            ∧ ∀ b : Fin 8, m.il.source (0x80 + 8 * c + b) = (f.getD 12 0).toNat.testBit b))
        ∧ (t.st = 1 ∨ t.st = 3 → (t.base = false ∨ f ≠ t.last ∧ ¬ good3) → good1 → good2 → good4 → Leads (.tokenFrameReceived c f) s (fun m =>
            m = { s.mod with il := s.mod.il.setToken c { t with base := true, last := f } }))
        ∧ (t.st = 1 ∨ t.st = 3 → t.base = true → f ≠ t.last → good1 → good2 → good3 → good4 →
            Leads (.tokenFrameReceived c f) s (fun m => m.il.token c = { t with st := 2, last := f } ∧ m.mem = s.mod.mem))
        ∧ (t.st = 1 ∨ t.st = 3 → (¬ good1 ∨ ¬ good2 ∨ ¬ good4) → f ≠ t.last → exec (.tokenFrameReceived c f) s = .next s))
    ∧ (t.st ≠ 2 → exec (.tokenWatchdog c) s = .next s)
    ∧ (t.st = 2 → Leads (.tokenWatchdog c) s (fun m => (m.il.token c).st = 3 ∧ (m.il.token c).code = 5
        ∧ (∃ r ∈ m.reports, r.src = FS.SAFE_TOKEN ∧ r.owner = .none ∧ r.at' = s.mod.now) ∧ m.mem = s.mod.mem))
    ∧ ((∀ d < 16, tkEn img d = true → tkCarrier img d ≠ 2) → exec .tokenHostSlotRead s = .next s)
    ∧ (tkEn img c = true → tkCarrier img c = 2 → (∀ d < 16, d ≠ c.val → tkEn img d = true → tkCarrier img d ≠ 2) →
        Leads .tokenHostSlotRead s (fun m =>
          exec (.tokenFrameReceived c (s.mod.mbytes (0x018A3000 + 0x80 * c) (16 + n))) s = .next ⟨m, s.pending⟩))

/-- SAFE_REQUEST_FETCH, SAFE_CHECK, SAFE_APPLY, SAFE_SETPW, SAFE_UNKNOWN_COMMAND, EDIT_LOCK_EXPIRY, APPLY_LOG_CONFIRMED, APPLY_LOG_TIMEOUT and SAFE_MIRROR_REFRESH: A request with a new SEQ is fetched. Locked edits are answered 0x02, a wrong password 0x01 with a failure counted, the fifth of which locks edits, no password 0x09, another mode than HALT and DEPOT 0x03; CHECK then answers whether the image is valid, APPLY waits for its change-log entry and only its confirmation replaces the configuration, and SETPW sets a new salt and hash. The mirror shows the Interlocking and changes no other register. (R446, R459, R460, R461, R462, R463, R464, R465) -/
def Obligations.SafeConfigurationRequests : Prop :=
  ∀ s : State, s.mod.powered = true →
    let il := s.mod.il
    let right (r : SafeReq) : Bool := pwHash il.salt r.pw == il.hash
    let open' (r : SafeReq) (k : Nat) : Prop := il.locked = false ∧ (il.hash ≠ [] → right r = true) ∧ (il.hash = [] → k = 3)
    let answered (seq result off crc : Nat) (m : Module) : Prop :=
      m.mn 0x018A1000 4 = seq % 2 ^ 32 ∧ m.mn 0x018A1004 1 = result ∧ m.mn 0x018A1005 2 = off % 2 ^ 16
      ∧ m.mn 0x018A1008 4 = crc ∧ m.il.req = none
    let elsewhere (m : Module) : Prop := (∀ a, a < 0x018A1000 ∨ 0x018A1010 ≤ a → m.mb a = s.mod.mb a) ∧ m.regs = s.mod.regs
    let refused (r : SafeReq) (result : Nat) (m : Module) : Prop := answered r.seq result 0 0 m ∧ elsewhere m
      ∧ m.il.image = il.image ∧ m.il.apply = il.apply ∧ m.il.hash = il.hash
    let wrong (r : SafeReq) (m : Module) : Prop := refused r 1 m ∧ m.il.fails = min 5 (il.fails + 1)
      ∧ (∃ p ∈ m.reports, p.src = FS.SAFE_PW ∧ p.owner = .none ∧ p.at' = s.mod.now)
      ∧ (4 ≤ il.fails → m.il.locked = true ∧ m.il.lockAt = s.mod.now ∧ m.il.logSeq = il.logSeq + 1)
      ∧ (il.fails < 4 → m.il.locked = false ∧ m.il.logSeq = il.logSeq)
    (s.mod.mn 0x018A0000 4 = il.lastReq ∨ il.req.isSome = true ∨ il.apply.isSome = true → exec .safeRequestFetch s = .next s)
    ∧ (s.mod.mn 0x018A0000 4 ≠ il.lastReq → il.req = none → il.apply = none → Leads .safeRequestFetch s (fun m =>
        m.il.lastReq = s.mod.mn 0x018A0000 4
        ∧ (∃ r, m.il.req = some r ∧ r.seq = s.mod.mn 0x018A0000 4 ∧ r.cmd = s.mod.mn 0x018A0004 1
            ∧ r.user = s.mod.mn 0x018A0006 2 ∧ r.image = s.mod.mbytes 0x018A0100 900
            ∧ (s.mod.mn 0x018A0008 1 ≤ 32 → r.pw = s.mod.mbytes 0x018A0010 (s.mod.mn 0x018A0008 1))
            ∧ r.newPw = s.mod.mbytes 0x018A0030 (s.mod.mn 0x018A0009 1))
        ∧ m = { s.mod with il := { il with lastReq := m.il.lastReq, req := m.il.req } }))
    ∧ ((∀ r, s.mod.il.req = some r → r.cmd ≠ 1) → exec .safeCheck s = .next s)
    ∧ (∀ r, s.mod.il.req = some r → r.cmd = 1 → s.mod.il.locked = true → Leads .safeCheck s (refused r 2))
    ∧ (∀ r, s.mod.il.req = some r → r.cmd = 1 → s.mod.il.locked = false → s.mod.il.hash ≠ [] → right r = false →
        Leads .safeCheck s (wrong r))
    ∧ (∀ r, s.mod.il.req = some r → r.cmd = 1 → open' r 1 → s.mod.editMode = false → Leads .safeCheck s (refused r 3))
    ∧ ((∀ r, s.mod.il.req = some r → r.cmd ≠ 2) → exec .safeApply s = .next s)
    ∧ (∀ r, s.mod.il.req = some r → r.cmd = 2 → s.mod.il.locked = true → Leads .safeApply s (refused r 2))
    ∧ (∀ r, s.mod.il.req = some r → r.cmd = 2 → s.mod.il.locked = false → s.mod.il.hash ≠ [] → right r = false →
        Leads .safeApply s (wrong r))
    ∧ (∀ r, s.mod.il.req = some r → r.cmd = 2 → open' r 2 → s.mod.editMode = false → Leads .safeApply s (refused r 3))
    ∧ ((∀ r, s.mod.il.req = some r → r.cmd ≠ 3) → exec .safeSetpw s = .next s)
    ∧ (∀ r, s.mod.il.req = some r → r.cmd = 3 → s.mod.il.locked = true → Leads .safeSetpw s (refused r 2))
    ∧ (∀ r, s.mod.il.req = some r → r.cmd = 3 → s.mod.il.locked = false → s.mod.il.hash ≠ [] → right r = false →
        Leads .safeSetpw s (wrong r))
    ∧ (∀ r, s.mod.il.req = some r → r.cmd = 3 → open' r 3 → s.mod.editMode = false → Leads .safeSetpw s (refused r 3))
    ∧ (∀ r, il.req = some r → r.cmd = 1 → il.locked = false → il.hash = [] → Leads .safeCheck s (refused r 9))
    ∧ (∀ r, il.req = some r → r.cmd = 2 → il.locked = false → il.hash = [] → Leads .safeApply s (refused r 9))
    ∧ (∀ r, il.req = some r → r.cmd = 1 → open' r 1 → s.mod.editMode = true → Leads .safeCheck s (fun m =>
        (imgInvalid r.image = none → answered r.seq 0 0 (imgW r.image 0x380) m)
        ∧ (∀ o, imgInvalid r.image = some o → answered r.seq 5 o (imgW r.image 0x380) m)
        ∧ elsewhere m ∧ m.il.image = il.image ∧ m.il.fails = 0))
    ∧ (∀ r, il.req = some r → r.cmd = 2 → open' r 2 → s.mod.editMode = true → Leads .safeApply s (fun m =>
        m.il.image = il.image ∧ m.il.fails = 0
        ∧ (il.energised = true → refused r 4 m)
        ∧ (il.energised = false → ∀ o, imgInvalid r.image = some o → answered r.seq 5 o (imgW r.image 0x380) m ∧ elsewhere m)
        ∧ (il.energised = false → imgInvalid r.image = none → m.il.req = none ∧ m.mem = s.mod.mem ∧ m.regs = s.mod.regs
            ∧ ∃ a, m.il.apply = some a ∧ a.seq = r.seq ∧ a.image = r.image ∧ a.image.length = 900 ∧ a.entry.length = 32
              ∧ a.place = 0x06610000 + 32 * (il.logSeq % 128) ∧ a.logSeq = il.logSeq + 1 ∧ (a.place, a.entry) ∈ m.logq
              ∧ imgN a.entry 0x0C 4 = (il.logSeq + 1) % 2 ^ 32 ∧ imgN a.entry 0x10 2 = r.user % 2 ^ 16
              ∧ imgN a.entry 0x12 1 = 1 ∧ imgN a.entry 0x18 4 = imgW r.image 0x380)))
    ∧ (∀ r, il.req = some r → r.cmd = 3 → open' r 3 → s.mod.editMode = true → Leads .safeSetpw s (fun m =>
        (passwordValid r.newPw = false → refused r 7 m)
        ∧ (passwordValid r.newPw = true → answered r.seq 0 0 0 m ∧ elsewhere m ∧ m.il.salt.length = 16
            ∧ m.il.hash = pwHash m.il.salt r.newPw ∧ m.il.logSeq = il.logSeq + 1 ∧ m.il.image = il.image)))
    ∧ ((∀ r, il.req = some r → 1 ≤ r.cmd ∧ r.cmd ≤ 3) → exec .safeUnknownCommand s = .next s)
    ∧ (∀ r, il.req = some r → (r.cmd = 0 ∨ 3 < r.cmd) → Leads .safeUnknownCommand s
        (refused r (if il.locked then 2 else 8)))
    ∧ (exec .editLockExpiry s = .next ⟨{ s.mod with il := { il with locked := false } }, s.pending⟩)
    ∧ (il.apply = none → exec .applyLogConfirmed s = .next s ∧ exec .applyLogTimeout s = .next s)
    ∧ (∀ a, il.apply = some a → Leads .applyLogTimeout s (fun m => answered a.seq 6 0 (imgW a.image 0x380) m
        ∧ elsewhere m ∧ m.il.image = il.image ∧ m.il.apply = none ∧ (∀ q ∈ m.logq, q.1 ≠ a.place)))
    ∧ (∀ a, il.apply = some a → a.image.length = 900 → a.entry.length = 32 →
        0x06610000 ≤ a.place → a.place + 32 ≤ 0x06611000 → Leads .applyLogConfirmed s (fun m =>
          m.il.image = a.image ∧ m.il.apply = none ∧ m.il.logSeq = a.logSeq
          ∧ answered a.seq 0 0 (imgW a.image 0x380) m ∧ m.mbytes a.place 32 = a.entry ∧ m.mbytes 0x018A2000 900 = a.image
          ∧ (∀ k < 16, (m.il.token k).st = if tkEn a.image k then 1 else 0)
          ∧ (∀ i < 16, fbEn a.image i = true → fbKind a.image i ≠ 2 → fbAuto a.image i = false → (m.il.fb i).rel = false)
          ∧ (∃ p ∈ m.reports, p.src = FS.SAFE_CFG ∧ p.owner = .none ∧ p.at' = s.mod.now)
          ∧ (∀ x, (x < 0x018A1000 ∨ 0x018A1010 ≤ x) → (x < 0x018A2000 ∨ 0x018A2384 ≤ x) →
              (x < a.place ∨ a.place + 32 ≤ x) → m.mb x = s.mod.mb x)))
    ∧ Leads .safeMirrorRefresh s (fun m =>
        m.bit R.SAFE_STAT 0 = !il.stoRel ∧ m.bit R.SAFE_STAT 4 = il.stopSig ∧ m.bit R.SAFE_STAT 7 = il.lockout
        ∧ (∀ n : Fin 16, m.bit R.SAFE_SI n = (siEn il.image n && il.pair n == 1) ∧ m.bit R.SAFE_SI (16 + n) = (il.pair n == 3))
        ∧ (∀ n : Fin 16, m.bit R.SAFE_FB n = (il.fb n).rel ∧ m.bit R.SAFE_MUTE n = (il.fb n).muting)
        ∧ (∀ j : Fin 4, m.bit R.SAFE_OUT j = (il.out (j + 1)).on ∧ m.bit R.SAFE_OUT (4 + j) = (il.out (j + 1)).edmFlt)
        ∧ m.bit R.SAFE_OUT 16 = il.stoRel
        ∧ (∀ n : Fin 16, m.bit R.SAFE_TK n = ((il.token n).st == 2) ∧ m.bit R.SAFE_TK (16 + n) = ((il.token n).st == 3))
        ∧ m.rn R.SAFE_CFG_CRC = (if il.image = [] then 0 else imgW il.image 0x380)
        ∧ (∀ a, a < 0xD0000 ∨ 0xE0000 ≤ a → m.rd a = s.mod.rd a) ∧ m = { s.mod with regs := m.regs })

/-- KST_READING, LAMP_POWER_OFF, BURST_DECIDE, BURST_DURATION_END, LAMP_PING, LAMP_BURST_REQ, LAMP_DONE, LAMP_READ_TAMP, STATUS_REPORT_SEND and WAKE_TIMER: A threshold reads above from V_th + 50 mV until KST falls below V_th. A request waits, one per requester; the head of the queue, WAKE before XMIT before MEAS, is denied in the order of R472 or granted with the predicted voltage. A burst ends done, by its duration, as an abort below 2,100 mV or as an overrun more than 50 mV below the prediction, with its entry in the burst log. The lamp line answers with the SEQ it was sent. (R470, R471, R472, R473, R474, R475, R481, R482) -/
def Obligations.KeeperBurstsAndLampLine : Prop :=
  ∀ s : State,
    let k := s.mod.keep
    let up1 (n : Nat) : Nat := if n < 0xFFFFFFFF then n + 1 else n
    let lamp : Bool := s.mod.flag R.KEEP_LAMP F.KEEP_LAMP_EN && !k.stopped
    let kst (mv : Nat) (m : Module) : Prop := m.rf R.KEEP_KST F.KEEP_KST_MV = mv
      ∧ ∀ p ∈ [(1900, 8), (2100, 9), (2400, 10), (3000, 11), (3300, 12)],
          (p.1 + 50 ≤ mv → m.bit R.KEEP_STAT p.2 = true) ∧ (mv < p.1 → m.bit R.KEEP_STAT p.2 = false)
          ∧ (p.1 ≤ mv → mv < p.1 + 50 → m.bit R.KEEP_STAT p.2 = s.mod.bit R.KEEP_STAT p.2)
    let ended (b : Burst) (cause : Nat) (m : Module) : Prop := m.keep.burst = none ∧ m.flag R.KEEP_STAT F.KEEP_STAT_BURST = false
      ∧ m.rf R.KEEP_BURST F.KEEP_BURST_END = cause ∧ m.rf R.KEEP_BURST F.KEEP_BURST_CLASS = b.req.cls % 4
      ∧ m.rf R.KEEP_BURST F.KEEP_BURST_VEND = m.rf R.KEEP_KST F.KEEP_KST_MV ∧ m.keep.burstCount = (k.burstCount + 1) % 2 ^ 32
      ∧ (let e := SMap.getD [] m.keep.bursts (k.burstCount % 16)
         e.length = 16 ∧ imgW e 0 = s.mod.rtc / 32768 % 2 ^ 32 ∧ imgN e 6 1 = b.req.cls % 256 ∧ imgN e 7 1 = cause
         ∧ imgW e 8 = b.req.energy % 2 ^ 32 ∧ imgN e 12 2 = b.vStart % 2 ^ 16)
      ∧ m.keep.queue = k.queue ∧ m.mem = s.mod.mem
    let aborted (b : Burst) (cause : Nat) (m : Module) : Prop := ended b cause m ∧ m.keep.stopLow = true
      ∧ m.keep.offDue = (b.req.cls != 2) ∧ m.rn R.KEEP_ABORTS = up1 (s.mod.rn R.KEEP_ABORTS)
      ∧ m.keep.due = k.due ++ [(FS.KEEP_ABORT, none)]
      ∧ (lamp = true → ∃ q, m.keep.sent = some (0x87, q, leBytes 1 cause))
    let queued (r : BurstReq) (m : Module) : Prop :=
      m = { s.mod with keep := { k with queue := if k.stopped || k.queue.any (·.who == r.who) then k.queue else k.queue ++ [r] } }
    let status (q : Nat) (m : Module) : Prop := m.keep.sent = some (0x81, q, s.mod.statusBytes) ∧ m.keep.tampered = false
      ∧ m.regs = s.mod.regs ∧ m.mem = s.mod.mem ∧ m.keep.queue = k.queue ∧ m.keep.burst = k.burst
    (∀ mv : BitVec 16,
      (k.stopped = true → exec (.kstReading mv) s = .next s)
      ∧ (k.stopped = false → k.burst = none → Leads (.kstReading mv) s (fun m => kst mv.toNat m
          ∧ (∀ a, a ≠ R.KEEP_KST → a ≠ R.KEEP_STAT → m.rd a = s.mod.rd a) ∧ m = { s.mod with regs := m.regs }))
      ∧ (k.stopped = false → ∀ b, k.burst = some b → Leads (.kstReading mv) s (fun m => kst mv.toNat m
          ∧ (mv.toNat + 50 < b.vPred → aborted b 3 m) ∧ (b.vPred ≤ mv.toNat + 50 → mv.toNat < 2100 → aborted b 2 m)
          ∧ (b.vPred ≤ mv.toNat + 50 → 2100 ≤ mv.toNat → m.keep = k)))
      ∧ ((k.stopped = true ∨ k.burst ≠ none ∨ k.queue.all (fun r => decide (2 < r.cls)) = true) →
          exec (.burstDecide mv) s = .next s)
      ∧ (k.stopped = false → k.burst = none → ∀ r ∈ k.queue, r.cls ≤ 2 → (∀ q ∈ k.queue, q.cls ≤ r.cls) →
          k.queue.find? (fun q => q.cls == r.cls) = some r →
          let cap := s.mod.rn R.KEEP_CAP
          let v := mv.toNat
          let above (m : Module) : Prop := m.bit R.KEEP_STAT (10 + r.cls) = true
          let reason (m : Module) (code : Nat) : Prop :=
            if s.mod.flag R.KEEP_STAT F.KEEP_STAT_CAPBAD = true then code = 4
            else if r.cls = 2 ∧ s.mod.sys.vmainValid = true then code = 3
            else if ¬ above m then code = 1
            else if cap * v * v < 2000000 * (r.energy + s.mod.rn R.KEEP_ERES) + cap * 1900 * 1900 then code = 2
            else code = 0
          Leads (.burstDecide mv) s (fun m => kst v m ∧ m.keep.queue = k.queue.erase r ∧ m.mem = s.mod.mem
            ∧ (∀ code, 0 < code → reason m code → m.keep.burst = none ∧ m.rn R.KEEP_DENIES = up1 (s.mod.rn R.KEEP_DENIES)
                ∧ m.keep.sent = (if r.who = 0 ∧ lamp = true then some (0x83, r.seq, leBytes 1 code) else k.sent))
            ∧ (reason m 0 → ∃ p, m.keep.burst = some ⟨r, v, p⟩ ∧ p * p * cap + 2000000 * r.energy ≤ cap * v * v
                ∧ (0 < cap → cap * v * v < (p + 1) * (p + 1) * cap + 2000000 * r.energy)
                ∧ m.rn R.KEEP_DENIES = s.mod.rn R.KEEP_DENIES ∧ m.flag R.KEEP_STAT F.KEEP_STAT_BURST = true
                ∧ m.rf R.KEEP_BURST F.KEEP_BURST_END = 0xF ∧ (r.cls ≠ 2 → m.flag R.KEEP_STAT F.KEEP_STAT_PWR = true)
                ∧ m.flag R.KEEP_STAT F.KEEP_STAT_WAKE = (r.cls == 2)
                ∧ m.keep.sent = (if r.who = 0 ∧ lamp = true then some (0x82, r.seq, leBytes 2 p) else k.sent)))))
    ∧ (k.offDue = false → k.stopLow = false → exec .lampPowerOff s = .next s)
    ∧ ((k.offDue = true ∨ k.stopLow = true) → Leads .lampPowerOff s (fun m => m.keep = { k with offDue := false, stopLow := false }
        ∧ m.flag R.KEEP_STAT F.KEEP_STAT_PWR = (!k.stopped && (s.mod.sys.vmainValid && s.mod.flag R.KEEP_CFG F.KEEP_CFG_LPON
            || k.burst.any (fun b => b.req.cls != 2)))
        ∧ (∀ a, a ≠ R.KEEP_STAT → m.rd a = s.mod.rd a) ∧ m = { s.mod with regs := m.regs, keep := m.keep }))
    ∧ (k.burst = none → exec .burstDurationEnd s = .next s)
    ∧ (∀ b, k.burst = some b → Leads .burstDurationEnd s (fun m => ended b 1 m ∧ m.keep.due = k.due))
    ∧ (∀ q : BitVec 8, lamp = false → exec (.lampPing q) s = .next s ∧ exec (.lampDone q) s = .next s
        ∧ (∀ i, exec (.lampReadTamp q i) s = .next s) ∧ (∀ c e d, exec (.lampBurstReq q c e d) s = .next s))
    ∧ (∀ q : BitVec 8, lamp = true → Leads (.lampPing q) s (fun m => status q.toNat m)
        ∧ (∀ i : BitVec 8, Leads (.lampReadTamp q i) s (fun m => m = { s.mod with keep := { k with sent := m.keep.sent } }
            ∧ m.keep.sent = some (0x85, q.toNat, if i.toNat < min 32 (s.mod.rn R.KEEP_TMP_CNT) then
                SMap.getD [] k.tampers ((s.mod.rn R.KEEP_TMP_CNT - i.toNat) % 32) else [])))
        ∧ (∀ (c : Fin 3) (e d : BitVec 32), Leads (.lampBurstReq q c e d) s (queued ⟨0, c, e.toNat, d.toNat, q.toNat⟩))
        ∧ ((∀ b, k.burst = some b → 1 < b.req.who) → exec (.lampDone q) s = .next s)
        ∧ (∀ b, k.burst = some b → b.req.who ≤ 1 → Leads (.lampDone q) s (fun m => ended b 0 m ∧ m.keep.due = k.due
            ∧ m.keep.sent = some (0x84, q.toNat, leBytes 1 0 ++ leBytes 2 (s.mod.rf R.KEEP_KST F.KEEP_KST_MV)))))
    ∧ (k.burst.any (fun b => b.req.who == 1) = false ∨ lamp = false → exec .statusReportSend s = .next s)
    ∧ (k.burst.any (fun b => b.req.who == 1) = true → lamp = true → Leads .statusReportSend s (fun m => ∃ q, status q m))
    ∧ ((s.mod.rf R.KEEP_WAKE F.KEEP_WAKE_INT = 0 ∨ s.mod.rf R.KEEP_WAKE F.KEEP_WAKE_ACTION = 0
        ∨ s.mod.rf R.KEEP_WAKE F.KEEP_WAKE_ACTION = 3) → exec .wakeTimer s = .next s)
    ∧ (s.mod.rf R.KEEP_WAKE F.KEEP_WAKE_INT ≠ 0 → s.mod.rf R.KEEP_WAKE F.KEEP_WAKE_ACTION = 1 → Leads .wakeTimer s
        (queued ⟨1, 1, s.mod.rf R.KEEP_EXMIT F.KEEP_EXMIT_E, 100 * max 1 (s.mod.rf R.KEEP_EXMIT F.KEEP_EXMIT_D), 0⟩))
    ∧ (s.mod.rf R.KEEP_WAKE F.KEEP_WAKE_INT ≠ 0 → s.mod.rf R.KEEP_WAKE F.KEEP_WAKE_ACTION = 2 → Leads .wakeTimer s
        (queued ⟨2, 2, s.mod.rf R.KEEP_EWAKE F.KEEP_EWAKE_E, 100 * max 1 (s.mod.rf R.KEEP_EWAKE F.KEEP_EWAKE_D), 0⟩))

/-- KEEPER_COLD_START, TAMPER_INPUT_ACCEPT, KEEPER_RECORD_WRITE, RTC_WRITE, DARKNESS_SEQUENCE and PULSE_INPUT_ACCEPT: The record goes to the slot that is not the newest, with a closing CRC. The module sets the RTC only with a valid time of day of source 2, 3 or 4, and the first setting after darkness closes the interval. The darkness sequence ends bursts, writes the record and stops the Keeper; a cold start loads the newest valid slot or shows NOREC. A tamper edge of the configured kind writes an entry and is due a report. A contact edge of the configured kind counts, a wiring fault stops counting. (R435, R436, R468, R476, R477, R478, R479, R480) -/
def Obligations.KeeperClockRecordTamperAndPulses : Prop :=
  ∀ s : State,
    let k := s.mod.keep
    let seq := k.slotSeq + 1
    let recorded (m : Module) : Prop := m.mn (keepSlot seq) 4 = seq % 2 ^ 32 ∧ m.keep.slotSeq = seq
      ∧ m.mn (keepSlot seq + keepLen) 4 = crc32c (m.mbytes (keepSlot seq) keepLen)
      ∧ (∀ n : Fin 8, m.mn (keepSlot seq + 36 + 4 * (23 + n)) 4 = s.mod.rn (R.KEEP_PI_CNT n) % 2 ^ 32)
      ∧ (∀ a, a < keepSlot seq ∨ keepSlot seq + keepLen + 4 ≤ a → m.mb a = s.mod.mb a)
    let entry (src : Nat) (n : Nat) (m : Module) : Prop := m.rn R.KEEP_TMP_CNT = n ∧ m.keep.tampered = true
      ∧ (let e := SMap.getD [] m.keep.tampers (n % 32)
         e.length = 16 ∧ imgN e 8 1 = src ∧ imgN e 9 1 / 2 % 2 = (if m.rtcValid then 1 else 0) ∧ imgN e 9 1 < 4
           ∧ imgN e 10 2 = 0 ∧ imgN e 12 4 = n)
    let cnt := (s.mod.rn R.KEEP_TMP_CNT + 1) % 2 ^ 32
    ((k.stopped = true ∨ s.mod.sys.vmainValid = false) → exec .keeperRecordWrite s = .next s)
    ∧ (k.stopped = false → s.mod.sys.vmainValid = true → Leads .keeperRecordWrite s (fun m => recorded m
        ∧ m = { s.mod with mem := m.mem, keep := { k with slotSeq := seq }, eng := { s.mod.eng with failing := m.eng.failing } }))
    ∧ (s.mod.rtcWritable = false → exec .rtcWrite s = .next s)
    ∧ (s.mod.rtcWritable = true → k.darkPending = false → Leads .rtcWrite s (fun m =>
        m.rn R.KEEP_RTC = s.mod.todRtc % 2 ^ 64 ∧ m.rtc = s.mod.todRtc % 2 ^ 63 ∧ m.rtcValid = true
        ∧ (∀ a, a ≠ R.KEEP_RTC → a ≠ R.KEEP_STAT → m.rd a = s.mod.rd a) ∧ m = { s.mod with regs := m.regs, keep := m.keep }))
    ∧ (s.mod.rtcWritable = true → k.darkPending = true → Leads .rtcWrite s (fun m => m.rtc = s.mod.todRtc % 2 ^ 63
        ∧ m.rtcValid = true ∧ m.rn R.KEEP_DARK_END = (s.mod.todRtc - s.mod.rtc) % 2 ^ 64 ∧ entry 0x20 cnt m
        ∧ m.keep.darkPending = false ∧ m.keep.due = k.due ++ [(FS.KEEP_DARK, none)]))
    ∧ (k.stopped = true → exec .darknessSequence s = .next s)
    ∧ (k.stopped = false → Leads .darknessSequence s (fun m => m.keep.stopped = true ∧ m.keep.burst = none ∧ m.keep.queue = []
        ∧ m.rn R.KEEP_DARK_START = s.mod.rtc ∧ m.keep.darkValid = s.mod.rtcValid ∧ recorded m
        ∧ m.flag R.KEEP_STAT F.KEEP_STAT_PWR = false ∧ m.flag R.KEEP_STAT F.KEEP_STAT_WAKE = false
        ∧ (∀ b, k.burst = some b → m.rf R.KEEP_BURST F.KEEP_BURST_END = 2)
        ∧ m.sys = { s.mod.sys with power := if s.mod.sys.power = .watch then .dark else s.mod.sys.power }))
    ∧ (k.stopped = false → exec .keeperColdStart s = .next s)
    ∧ (k.stopped = true → Leads .keeperColdStart s (fun m => m.keep.stopped = false ∧ m.rtc = 0 ∧ m.rtcValid = false
        ∧ m.keep.darkPending = true ∧ m.keep.queue.all (fun r => decide (7 ≤ r.who)) = true ∧ m.keep.burst = none
        ∧ (s.mod.keepNewest = none → m.flag R.KEEP_STAT F.KEEP_STAT_NOREC = true ∧ (∀ n : Fin 8, m.rn (R.KEEP_PI_CNT n) = 0)
            ∧ m.rn R.KEEP_CFG = 0x168 ∧ m.rn R.KEEP_LAMP = 5 ∧ m.rn R.KEEP_TMP_CFG = 0x1111)
        ∧ (∀ i, s.mod.keepNewest = some i → m.flag R.KEEP_STAT F.KEEP_STAT_NOREC = false
            ∧ (∀ n : Fin 8, m.rn (R.KEEP_PI_CNT n) = s.mod.mn (keepSlot i + 36 + 4 * (23 + n)) 4
                ∧ m.flag (R.KEEP_PI_STAT n) F.KEEP_PI_STAT_DARK = true)
            ∧ (s.mod.mn (keepSlot i + 4) 4 / 2 % 2 = 0 → m.rn R.KEEP_DARK_START = 0))
        ∧ (s.mod.sys.power = .dark → m.sys.power = .watch) ∧ (∀ a, a < 0xE0000 ∨ 0xF0000 ≤ a → m.rd a = s.mod.rd a)))
    ∧ (∀ (n : Fin 4) (closed : Bool),
        let cfg := s.mod.rn R.KEEP_TMP_CFG
        let sees : Prop := cfg.testBit (4 * n + 3) = true ∧ cfg.testBit (4 * n + if closed then 1 else 0) = true
        (k.stopped = true ∨ ¬ sees → exec (.tamperInputAccept (.input n closed)) s = .next s)
        ∧ (k.stopped = false → sees → Leads (.tamperInputAccept (.input n closed)) s (fun m => entry n cnt m
            ∧ imgN (SMap.getD [] m.keep.tampers (cnt % 32)) 9 1 % 2 = (if closed then 0 else 1)
            ∧ m.keep.due = k.due ++ [(FS.KEEP_TAMPER, none)]
            ∧ (cfg.testBit (4 * n + 2) = false → m.keep.queue = k.queue)
            ∧ (cfg.testBit (4 * n + 2) = true → m.keep.queue.any (fun r => r.who == 3 + n) = true)
            ∧ (s.mod.sys.vmainValid = false → m.mem = s.mod.mem)
            ∧ (s.mod.sys.vmainValid = true → m.mn (keepSlot seq + keepLen) 4 = crc32c (m.mbytes (keepSlot seq) keepLen))
            ∧ ∀ a, a ≠ R.KEEP_TMP_CNT → m.rd a = s.mod.rd a)))
    ∧ (∀ (n : Fin 4) (pn : BitVec 32), (k.stopped = true ∨ s.mod.flag (R.KEEP_KCMP_CFG n) F.KEEP_KCMP_CFG_EN = false) →
        exec (.tamperInputAccept (.comparator n pn)) s = .next ⟨{ s.mod with keep := { k with
          pn := SMap.setD 0 k.pn n pn.toInt } }, s.pending⟩)
    ∧ (∀ (n : Fin 4) (pn : BitVec 32) (above : Bool),
        (let half : Int := [0, 2500, 7500, 20000].getD (s.mod.rf (R.KEEP_KCMP_CFG n) F.KEEP_KCMP_CFG_HYS) 0
         if above then half < pn.toInt else pn.toInt < -half) → k.stopped = false → s.mod.flag (R.KEEP_KCMP_CFG n) F.KEEP_KCMP_CFG_EN = true →
        Leads (.tamperInputAccept (.comparator n pn)) s (fun m =>
          m.bit R.KEEP_KCMP_STAT (4 + n) = false ∧ m.keep.out.contains n.val = above
          ∧ m.bit R.KEEP_KCMP_STAT n = m.kcmpAsserted n
          ∧ (s.mod.flag (R.KEEP_KCMP_CFG n) F.KEEP_KCMP_CFG_WIN = false →
              m.bit R.KEEP_KCMP_STAT n = (above != s.mod.flag (R.KEEP_KCMP_CFG n) F.KEEP_KCMP_CFG_INV))))
    ∧ (∀ (n : Fin 8) (r : PiReading),
        let cfg (f : Field) : Bool := s.mod.flag (R.KEEP_PI_CFG n) f
        let stat (m : Module) (f : Field) : Bool := m.flag (R.KEEP_PI_STAT n) f
        let closed : Bool := r == .closed || r == .short
        let dirOf : Bool := n.val % 2 == 1 && s.mod.flag (R.KEEP_PI_CFG (n - 1)) F.KEEP_PI_CFG_DIR
        let paired : Bool := n.val % 2 == 0 && cfg F.KEEP_PI_CFG_DIR
        let up1 (i : Nat) : Nat := (s.mod.rn (R.KEEP_PI_CNT i) + 1) % 2 ^ 32
        ((k.stopped = true ∨ cfg F.KEEP_PI_CFG_EN = false) → exec (.pulseInputAccept n r) s = .next s)
        ∧ (k.stopped = false → cfg F.KEEP_PI_CFG_EN = true → cfg F.KEEP_PI_CFG_SUP = true → (r = .short ∨ r = .broken) →
            Leads (.pulseInputAccept n r) s (fun m => stat m F.KEEP_PI_STAT_SHORT = closed ∧ stat m F.KEEP_PI_STAT_OPEN = !closed
              ∧ stat m F.KEEP_PI_STAT_WFLT = true ∧ m.keep.rebase.contains n.val = true
              ∧ (s.mod.piFault n = false → m.keep.due = k.due ++ [(FS.MTR_PI_WIRE, some n.val)])
              ∧ ∀ a, a ≠ R.KEEP_PI_STAT n → m.rd a = s.mod.rd a))
        ∧ (k.stopped = false → cfg F.KEEP_PI_CFG_EN = true → (cfg F.KEEP_PI_CFG_SUP = false ∨ r = .closed ∨ r = .opened) →
            Leads (.pulseInputAccept n r) s (fun m => stat m F.KEEP_PI_STAT_LEVEL = closed ∧ stat m F.KEEP_PI_STAT_SHORT = false
              ∧ stat m F.KEEP_PI_STAT_OPEN = false ∧ m.keep.rebase.contains n.val = false
              ∧ (let edge : Bool := closed != stat s.mod F.KEEP_PI_STAT_LEVEL && closed != cfg F.KEEP_PI_CFG_EDGE
                    && !k.rebase.contains n.val
                 (edge = false ∨ dirOf = true → ∀ i : Fin 8, m.rd (R.KEEP_PI_CNT i) = s.mod.rd (R.KEEP_PI_CNT i))
                 ∧ (edge = true → dirOf = false → paired = false → m.rn (R.KEEP_PI_CNT n) = up1 n
                     ∧ ∀ i : Fin 8, i ≠ n → m.rd (R.KEEP_PI_CNT i) = s.mod.rd (R.KEEP_PI_CNT i))
                 ∧ (edge = true → paired = true → s.mod.piFault (n + 1) = false →
                     (if s.mod.flag (R.KEEP_PI_STAT (n + 1)) F.KEEP_PI_STAT_LEVEL = true then
                        m.rn (R.KEEP_PI_CNT (n + 1)) = up1 (n + 1) ∧ m.rd (R.KEEP_PI_CNT n) = s.mod.rd (R.KEEP_PI_CNT n)
                      else m.rn (R.KEEP_PI_CNT n) = up1 n
                        ∧ m.rd (R.KEEP_PI_CNT (n + 1)) = s.mod.rd (R.KEEP_PI_CNT (n + 1))))))))

/-- FAULT_REPORT, QUIET_EXPIRY, FLT_CLEAR, FLT_CLRALL, FLT_CLRCNT and OCCURRENCE_RECORD_WRITE: Of the earliest group the report of highest severity is handled first, the lowest source on a tie. Its source counts; with LOG it opens or joins the incident, whose record goes to the log writer; the row's other bits notify, request the line, stop the owner's function, enter HALT and send the stop signal. After its quiet time a source without a standing reaction settles; one with it recovers where AUTO, severity and limits allow, and latches otherwise. A host clear withdraws the reaction unless a report waits. CLRALL closes the incident, CLRCNT clears the counters. (R485, R486, R489, R490, R491, R492, R493, R494, R495, R496, R497, R498) -/
def Obligations.CollectorReportsRecoveryAndClears : Prop :=
  ∀ s : State, s.mod.powered = true →
    let flagOf (m : Module) (n bit : Nat) : Bool := (m.mn (0x018B1008 + 16 * n) 4).testBit bit
    let count (m : Module) (n w : Nat) : Nat := m.mn (0x018B1000 + 16 * n + 4 * w) 4
    let none' (x : SrcState) : Prop := x.lines = [] ∧ x.tasks = []
    let withdrawn (n : Nat) (m : Module) : Prop := (m.src n).lines = [] ∧ (m.src n).tasks = []
      ∧ (∀ l ∈ (s.mod.src n).lines, .coll n ∉ m.lineReqs l)
      ∧ (∀ t ∈ (s.mod.src n).tasks, t < 512 → s.mod.heldElsewhere n t = false → m.mn (0x018B2200 + 4 * t) 4 = 0)
      ∧ flagOf m n 1 = false ∧ flagOf m n 2 = false
    (s.mod.reports = [] → exec .faultReport s = .next s)
    ∧ (∀ r rs, s.mod.reports = r :: rs →
        let grp := r :: rs.takeWhile (fun q => decide (q.at' ≤ r.at' + 1))
        ∃ p ∈ grp, (∀ q ∈ grp, s.mod.srcSev q.src < s.mod.srcSev p.src
            ∨ s.mod.srcSev q.src = s.mod.srcSev p.src ∧ p.src ≤ q.src)
          ∧ s.mod.nextReport = some p)
    ∧ (∀ r, s.mod.nextReport = some r → r.src < 256 →
        let sev := max (s.mod.srcCfg r.src 0 / 2 ^ 27 % 8) (sourceFloor r.src)
        let row := s.mod.rn (R.FLT_REACT sev)
        Leads .faultReport s (fun m =>
          count m r.src 0 = min 0xFFFFFFFF (count s.mod r.src 0 + 1)
          ∧ (row.testBit 0 = false → m.coll.inc = s.mod.coll.inc)
          ∧ (row.testBit 0 = true → flagOf m r.src 0 = true ∧ ∃ i, m.coll.inc = some i
              ∧ (s.mod.coll.inc = none → i = ⟨s.mod.rf R.FLT_STAT F.FLT_STAT_INC % 65535 + 1, sev, r.src, r.info, r.owner,
                  s.mod.rf R.SYS_MODE F.SYS_MODE_MODE, r.sec, r.ns, r.at', sev, row, [], 0, 0⟩)
              ∧ (∀ j, s.mod.coll.inc = some j → i.num = j.num ∧ i.src = j.src ∧ i.sev = max j.sev sev
                  ∧ i.applied = j.applied ||| row
                  ∧ ((j.src = r.src ∨ ∃ q ∈ j.secs, q.src = r.src) → i.secs = j.secs ∧ i.reps = min 0xFFFF (j.reps + 1))
                  ∧ (j.src ≠ r.src → (∀ q ∈ j.secs, q.src ≠ r.src) → j.secs.length < 8 →
                      i.secs = j.secs ++ [⟨r.src, sev, decide (j.sev < sev), r.at', r.info⟩])
                  ∧ (j.src ≠ r.src → (∀ q ∈ j.secs, q.src ≠ r.src) → 8 ≤ j.secs.length →
                      i.secs = j.secs ∧ i.ovf = min 0xFFFF (j.ovf + 1)))
              ∧ m.rf R.FLT_STAT F.FLT_STAT_INC = i.num % 2 ^ 16 ∧ m.flag R.FLT_STAT F.FLT_STAT_OPEN = true
              ∧ (0x06630000 + 128 * (i.num % 256), i.bytes 0 0) ∈ m.logq)
          ∧ (row.testBit 1 = true → m.bit R.HOST_IRQ_STAT 0 = true)
          ∧ (row.testBit 3 = true → sourceProgram r.src = false → ∀ t, r.owner = .task t → t < 512 →
              m.mn (0x018B2200 + 4 * t) 4 = (1 + 256 * (m.coll.inc.map (·.num)).getD 0) % 2 ^ 32)
          ∧ (row.testBit 4 = true → (s.mod.srcCfg r.src 0).testBit 23 = false →
              .coll r.src ∈ m.lineReqs (s.mod.srcCfg r.src 0 / 2 ^ 18 % 32))
          ∧ (row.testBit 4 = true → (s.mod.srcCfg r.src 0).testBit 23 = true → ∀ t, r.owner = .task t →
              (s.mod.mbE (0x018B2000 + t)).toNat.testBit 7 = true →
              .coll r.src ∈ m.lineReqs ((s.mod.mbE (0x018B2000 + t)).toNat % 32))
          ∧ (row.testBit 5 = true → m.halted = true)
          ∧ (row.testBit 6 = true → m.il.stopSig = true)
          ∧ (row < 2 → m = { s.mod with reports := s.mod.reports.erase r, mem := m.mem, regs := m.regs, coll := m.coll,
                                        logq := m.logq, eng := { s.mod.eng with failing := m.eng.failing } }
              ∧ ∀ a, a ∉ [R.FLT_STAT, R.FLT_INC_CNT, R.SYS_MODE] → m.rd a = s.mod.rd a)))
    ∧ (∀ n : BitVec 8,
        let x := s.mod.src n.toNat
        let may : Prop := s.mod.srcAuto n.toNat = true ∧ s.mod.srcSev n.toNat < 6
        let own : Nat := (x.recs.filter (fun t => decide (s.mod.now < t + s.mod.srcWindow n.toNat))).length
        let glob : Nat := (s.mod.coll.recs.filter (fun t => decide (s.mod.now < t + s.mod.windowG))).length
        let latches (m : Module) : Prop := flagOf m n.toNat 1 = true ∧ flagOf m n.toNat 2 = true
          ∧ m.rf R.FLT_STAT F.FLT_STAT_LATCHED = 1 ∧ (m.src n.toNat).lines = x.lines ∧ (m.src n.toNat).tasks = x.tasks
          ∧ m.pwm = s.mod.pwm ∧ m.coll.inc = s.mod.coll.inc
        let waits : Prop := s.mod.reports.any (·.src == n.toNat) = true ∨ x.last = s.mod.now + 1
          ∨ s.mod.now + 1 < x.last + 500000 * (s.mod.srcCfg n.toNat 1 / 2 ^ 10 % 2 ^ 22) ∨ flagOf s.mod n.toNat 2 = true
        (waits → exec (.quietExpiry n) s = .next s)
        ∧ (¬ waits → none' x → Leads (.quietExpiry n) s (fun m => flagOf m n.toNat 0 = false ∧ m.pwm = s.mod.pwm
            ∧ (∀ i, s.mod.coll.inc = some i → (∃ q ∈ i.src :: i.secs.map (·.src), q < 256 ∧ q ≠ n.toNat ∧ flagOf s.mod q 0 = true) →
                m.coll.inc = s.mod.coll.inc)
            ∧ (∀ i, s.mod.coll.inc = some i →
                (∀ q ∈ i.src :: i.secs.map (·.src), q < 256 ∧ (q = n.toNat ∨ flagOf s.mod q 0 = false)) →
                m.coll.inc = none ∧ m.flag R.FLT_STAT F.FLT_STAT_OPEN = false
                ∧ ∃ ms, (0x06630000 + 128 * (i.num % 256), i.bytes 1 ms) ∈ m.logq)))
        ∧ (¬ waits → ¬ none' x → ¬ may → Leads (.quietExpiry n) s (fun m => latches m ∧ m.reports = s.mod.reports))
        ∧ (¬ waits → ¬ none' x → may → (s.mod.srcMaxRec n.toNat ≤ own ∨ s.mod.maxRecG ≤ glob) →
            Leads (.quietExpiry n) s (fun m => latches m
              ∧ (s.mod.maxRecG ≤ glob → m.flag R.FLT_STAT F.FLT_STAT_GLIM = true)
              ∧ (if x.limited then m.reports = s.mod.reports else Raised s.mod m FS.FLT_REC_LIMIT .none)))
        ∧ (¬ waits → ¬ none' x → may → own < s.mod.srcMaxRec n.toNat → glob < s.mod.maxRecG →
            Leads (.quietExpiry n) s (fun m => withdrawn n.toNat m ∧ flagOf m n.toNat 0 = false
              ∧ count m n.toNat 1 = min 0xFFFFFFFF (count s.mod n.toNat 1 + 1)
              ∧ (m.src n.toNat).recs = x.recs ++ [s.mod.now] ∧ m.coll.recs = s.mod.coll.recs ++ [s.mod.now]
              ∧ m.rn R.FLT_REC_G = (if s.mod.rn R.FLT_REC_G < 0xFFFFFFFF then s.mod.rn R.FLT_REC_G + 1 else s.mod.rn R.FLT_REC_G)))
        ∧ (s.mod.up = true → s.mod.reports.any (·.src == n.toNat) = false → Leads (.fltClear n) s (fun m => withdrawn n.toNat m
            ∧ (flagOf s.mod n.toNat 2 = true → flagOf m n.toNat 0 = false)
            ∧ m.rf R.FLT_CTRL F.FLT_CTRL_SRC = n.toNat ∧ m.flag R.FLT_CTRL F.FLT_CTRL_CLEAR = false
            ∧ m.rd R.FLT_REC_G = s.mod.rd R.FLT_REC_G))
        ∧ (s.mod.up = true → s.mod.reports.any (·.src == n.toNat) = true → Leads (.fltClear n) s (fun m =>
            m.src n.toNat = x ∧ (flagOf m n.toNat 2 = flagOf s.mod n.toNat 2)
            ∧ (∀ i, s.mod.coll.inc = none → m.pwm = s.mod.pwm ∧ m.lineReqs i = s.mod.lineReqs i))))
    ∧ (s.mod.up = true → Leads .fltClrall s (fun m => m.coll.inc = none ∧ m.flag R.FLT_CTRL F.FLT_CTRL_CLRALL = false
        ∧ (∀ p ∈ s.mod.coll.srcs, s.mod.reports.any (·.src == p.1) = false → (m.src p.1).lines = [] ∧ (m.src p.1).tasks = [])
        ∧ (∀ i, s.mod.coll.inc = some i → m.flag R.FLT_STAT F.FLT_STAT_OPEN = false
            ∧ ∃ ms, (0x06630000 + 128 * (i.num % 256), i.bytes 2 ms) ∈ m.logq)))
    ∧ (s.mod.up = true → Leads .fltClrcnt s (fun m => (∀ n < 256, count m n 0 = 0 ∧ count m n 1 = 0 ∧ flagOf m n 3 = false
          ∧ flagOf m n 4 = false ∧ (∀ b < 3, flagOf m n b = flagOf s.mod n b))
        ∧ (∀ a, a < 0x018B1000 ∨ 0x018B2000 ≤ a → m.mb a = s.mod.mb a)))
    ∧ (s.mod.logq = [] → exec .occurrenceRecordWrite s = .next s)
    ∧ (∀ a bs rest, s.mod.logq = (a, bs) :: rest →
        let room : Prop := (∀ w ∈ s.mod.eng.busWait, w.1 ≠ Bus.log)
          ∧ s.mod.used Bus.log + beatsOf a bs.length ≤ s.mod.budget Bus.log
        (room → Leads .occurrenceRecordWrite s (fun m =>
          m.mbytes a bs.length = bs ∧ (∀ x, x < a ∨ a + bs.length ≤ x → m.mb x = s.mod.mb x)
          ∧ m.used Bus.log = s.mod.used Bus.log + beatsOf a bs.length
          ∧ m = { s.mod with logq := rest, mem := m.mem,
                             eng := { s.mod.eng with failing := m.eng.failing, budgetUsed := m.eng.budgetUsed } }))
        ∧ (¬ room → Leads .occurrenceRecordWrite s (fun m => Bus.log ∈ m.eng.delayed
          ∧ (∃ k, m.eng.busWait = s.mod.eng.busWait ++ [(Bus.log, k, .record)])
          ∧ m = { s.mod with eng := { s.mod.eng with busWait := m.eng.busWait, budgetUsed := m.eng.budgetUsed, delayed := m.eng.delayed } })))

/-- SID_SUB, SID_ABORT, NVM_ERASE, NVM_PROGRAM, NVM_CHECK, NVM_ACTIVATE, NVM_ENROL, NVM_REVOKE and NVM_COMMAND_DONE: SID_SUB names its unit and waits for the boundary; SID_ABORT ends a substitution under way with LAST 0x4. An NVM command runs, shown by BUSY, until it is done with its RESULT: a locked bank is left alone, ERASE makes a sector read as nothing written and takes a spare at 100,000 erases, PROGRAM copies the page buffer, ACTIVATE names a bank that checks, ENROL and REVOKE work only in HALT with an authorisation. A RESULT other than 0x00 is reported. (R504, R507, R508, R509, R510, R511, R517, R518, R519) -/
def Obligations.SubstitutionRequestsAndBankCommands : Prop :=
  ∀ s : State, s.mod.powered = true →
    let nvm := s.mod.nvm
    let started (cmd bank addr : Nat) (m : Module) : Prop :=
      (∃ w, m.nvm = { nvm with running := some w } ∧ w / 2 ^ 24 % 16 = cmd ∧ w / 2 ^ 20 % 2 = bank ∧ w % 2 ^ 17 = addr)
      ∧ m.flag R.NVM_STAT F.NVM_STAT_BUSY = true ∧ m.flag R.NVM_CMD F.NVM_CMD_GO = true
      ∧ (∀ a, a ≠ R.NVM_STAT → a ≠ R.NVM_CMD → m.rd a = s.mod.rd a) ∧ m.mem = s.mod.mem ∧ m.reports = s.mod.reports
    let ready : Prop := s.mod.up = true ∧ nvm.running = none
    (∀ u : BitVec 8, s.mod.up = true → Leads (.sidSub u) s (fun m =>
        m.flag R.SID_CTRL F.SID_CTRL_SUB = true ∧ m.rf R.SID_CTRL F.SID_CTRL_UNIT = u.toNat
        ∧ (∀ a, a ≠ R.SID_CTRL → m.rd a = s.mod.rd a) ∧ m.mem = s.mod.mem ∧ m.sid = s.mod.sid))
    ∧ (s.mod.up = true → s.mod.subRuns = true → Leads .sidAbort s (fun m => m.rf R.SID_STAT F.SID_STAT_STATE = 0
        ∧ m.rf R.SID_STAT F.SID_STAT_LAST = 4 ∧ m.flag R.SID_CTRL F.SID_CTRL_ABORT = false ∧ m.mem = s.mod.mem
        ∧ m.sid.retired = s.mod.sid.retired ∧ m.engMap = s.mod.engMap ∧ m.rd R.SID_FAILS = s.mod.rd R.SID_FAILS))
    ∧ (s.mod.up = true → s.mod.subRuns = false → Leads .sidAbort s (fun m => m.flag R.SID_CTRL F.SID_CTRL_ABORT = false
        ∧ (∀ a, a ≠ R.SID_CTRL → m.rd a = s.mod.rd a) ∧ m.mem = s.mod.mem ∧ m.sid = s.mod.sid))
    ∧ (ready → (∀ (b : Bool) (a : BitVec 17), Leads (.nvmErase b a) s (started 1 (if b then 1 else 0) a.toNat)
          ∧ Leads (.nvmProgram b a) s (started 2 (if b then 1 else 0) a.toNat))
        ∧ (∀ b : Bool, Leads (.nvmCheck b) s (started 3 (if b then 1 else 0) 0)
          ∧ Leads (.nvmActivate b) s (started 4 (if b then 1 else 0) 0))
        ∧ (∀ k : Fin 4, Leads (.nvmEnrol k) s (started 5 0 k) ∧ Leads (.nvmRevoke k) s (started 6 0 k)))
    ∧ (∀ rb : Bool, nvm.running = none → exec (.nvmCommandDone rb) s = .next s)
    ∧ (∀ (rb : Bool) (w : Nat), nvm.running = some w →
        let cmd := w / 2 ^ 24 % 16
        let b := w / 2 ^ 20 % 2
        let a := w % 2 ^ 17
        let sector := norBase b + 0x10000 * a
        let page := norBase b + 256 * a
        let n := SMap.getD 0 nvm.erases (512 * b + a)
        let used : Nat := s.mod.rf R.NVM_SPARE (if b = 0 then F.NVM_SPARE_BANK0 else F.NVM_SPARE_BANK1)
        let done (res : Nat) (m : Module) : Prop := m.nvm.running = none ∧ m.rf R.NVM_STAT F.NVM_STAT_RESULT = res
          ∧ m.flag R.NVM_STAT F.NVM_STAT_BUSY = false ∧ m.flag R.NVM_CMD F.NVM_CMD_GO = false
          ∧ m.rf R.NVM_STAT F.NVM_STAT_KEYS = m.nvm.enrolled % 16 ∧ m.rf R.NVM_STAT F.NVM_STAT_REVOKED = m.nvm.revoked % 16
          ∧ (res = 0 → m.reports = s.mod.reports)
          ∧ (res ≠ 0 → ∃ r ∈ m.reports, r.src = FS.NVM_FAIL ∧ r.owner = .none ∧ r.at' = s.mod.now)
          ∧ (∀ x, x ∉ [R.NVM_STAT, R.NVM_CMD, R.NVM_SPARE] → m.rd x = s.mod.rd x)
        let same (m : Module) : Prop := m.mem = s.mod.mem ∧ m.nvm = { nvm with running := none }
          ∧ m.rd R.NVM_SPARE = s.mod.rd R.NVM_SPARE
        let erased (k : Nat) (m : Module) : Prop := done 0 m 
          ∧ m.nvm = { nvm with running := none, erases := SMap.setD 0 nvm.erases (512 * b + a) k }
          ∧ (∀ x, sector ≤ x → x < sector + 0x10000 → m.mb x = memReset x)
          ∧ (∀ x, x < sector ∨ sector + 0x10000 ≤ x → m.mb x = s.mod.mb x)
        let locked : Bool := s.mod.bankLocked b
        Leads (.nvmCommandDone rb) s (fun m =>
          ((cmd = 1 ∨ cmd = 2) → locked = true → done 1 m ∧ same m)
          ∧ (cmd = 1 → locked = false → 512 ≤ a → done 2 m ∧ same m)
          ∧ (cmd = 1 → locked = false → a < 512 → n < 100000 → erased (n + 1) m ∧ m.rd R.NVM_SPARE = s.mod.rd R.NVM_SPARE)
          ∧ (cmd = 1 → locked = false → a < 512 → 100000 ≤ n → used < 32 → erased 1 m
              ∧ m.rf R.NVM_SPARE (if b = 0 then F.NVM_SPARE_BANK0 else F.NVM_SPARE_BANK1) = used + 1)
          ∧ (cmd = 1 → locked = false → a < 512 → 100000 ≤ n → 32 ≤ used → done 8 m ∧ same m
              ∧ ∃ r ∈ m.reports, r.src = FS.NVM_SPARE_OUT ∧ r.owner = .none ∧ r.at' = s.mod.now)
          ∧ (cmd = 2 → locked = false → done (if rb then 0 else 3) m ∧ m.mbytes page 256 = s.mod.mbytes 0x018C0000 256
              ∧ (∀ x, x < page ∨ page + 256 ≤ x → m.mb x = s.mod.mb x) ∧ m.nvm = { nvm with running := none })
          ∧ (cmd = 3 → done (if s.mod.bankOk b then 0 else 4) m ∧ same m)
          ∧ (cmd = 4 → s.mod.bankOk b = false → done 4 m ∧ same m)
          ∧ (cmd = 4 → s.mod.bankOk b = true → done 0 m ∧ m.nvm = { nvm with running := none, bootBank := b }
              ∧ m.rf R.NVM_STAT F.NVM_STAT_ACTIVE = b ∧ m.mem = s.mod.mem)
          ∧ ((cmd = 5 ∨ cmd = 6) → s.mod.rf R.SYS_MODE F.SYS_MODE_MODE ≠ 3 → done 5 m ∧ same m)
          ∧ ((cmd = 5 ∨ cmd = 6) → s.mod.rf R.SYS_MODE F.SYS_MODE_MODE = 3 → s.mod.authorised cmd (a % 4) = false →
              done 6 m ∧ same m)
          ∧ (cmd = 5 → s.mod.rf R.SYS_MODE F.SYS_MODE_MODE = 3 → s.mod.authorised 5 (a % 4) = true →
              if a % 4 = 0 ∨ nvm.enrolled.testBit (a % 4) = true then done 7 m ∧ same m
              else done 0 m ∧ m.nvm = { nvm with running := none, keys := m.nvm.keys, enrolled := nvm.enrolled ||| 2 ^ (a % 4) }
                ∧ SMap.getD [] m.nvm.keys (a % 4) = s.mod.mbytes 0x018C0000 32 ∧ m.mem = s.mod.mem)
          ∧ (cmd = 6 → s.mod.rf R.SYS_MODE F.SYS_MODE_MODE = 3 → s.mod.authorised 6 (a % 4) = true →
              if s.mod.slotKey (a % 4) = none ∨ s.mod.liveKeys ≤ 1 then done 7 m ∧ same m
              else done 0 m ∧ m.nvm = { nvm with running := none, revoked := nvm.revoked ||| 2 ^ (a % 4) } ∧ m.mem = s.mod.mem)))

/-- SNAPSHOT_SEND, SNAPSHOT_RECEIVED, HALT_NOTICE_RECEIVED, HEADING_LANE_LOSS and HL_ACT_IN_CHANGE: The lead sends the image taken at the last boundary. The standby keeps the last complete snapshot; an incomplete one is counted, and reported once per second while the peer is active. A HALT notice is kept by the standby alone. The loss of a locked lane is shown and reported. PEER_ACT follows the peer, and the instant it goes inactive is kept. (R513, R514, R515, R516, R517, R518) -/
def Obligations.HeadingSnapshotsAndNotices : Prop :=
  ∀ s : State, s.mod.up = true →
    let hl := s.mod.hl
    let role : Nat := s.mod.rf R.SID_HL_STAT F.SID_HL_STAT_ROLE
    let active : Bool := s.mod.flag R.SID_HL_STAT F.SID_HL_STAT_PEER_ACT
    let counted (m : Module) : Prop :=
      m.rn R.SID_HL_MISS = (if s.mod.rn R.SID_HL_MISS < 0xFFFFFFFF then s.mod.rn R.SID_HL_MISS + 1 else s.mod.rn R.SID_HL_MISS)
      ∧ (∀ a, a ≠ R.SID_HL_MISS → a ≠ R.SID_SAT → m.rd a = s.mod.rd a)
    ((role ≠ 1 ∨ hl.taken = none) → exec .snapshotSend s = .next s)
    ∧ (∀ x, role = 1 → hl.taken = some x → Leads .snapshotSend s (fun m => m.hl = { hl with sent := some x }
        ∧ m.rf R.SID_HL_STAT F.SID_HL_STAT_KIB = (s.mod.mirrorSize + 1023) / 1024 % 2 ^ 16
        ∧ m.rf R.SID_HL_STAT F.SID_HL_STAT_ROLE = 1
        ∧ (∀ a, a ≠ R.SID_HL_STAT → m.rd a = s.mod.rd a) ∧ m = { s.mod with regs := m.regs, hl := m.hl }))
    ∧ (∀ x, role ≠ 2 → exec (.snapshotReceived x) s = .next s)
    ∧ (∀ x, role = 2 → Leads (.snapshotReceived (some x)) s (fun m => m = { s.mod with hl := { hl with last := some x } }))
    ∧ (role = 2 → (active = false ∨ hl.lostSec = s.mod.todSec + 1) → Leads (.snapshotReceived none) s (fun m =>
        counted m ∧ m = { s.mod with regs := m.regs }))
    ∧ (role = 2 → active = true → hl.lostSec ≠ s.mod.todSec + 1 → Leads (.snapshotReceived none) s (fun m =>
        counted m ∧ m.hl = { hl with lostSec := s.mod.todSec + 1 } ∧ Raised s.mod m FS.HL_LOST .none ∧ m.mem = s.mod.mem))
    ∧ (∀ c : BitVec 8, (role ≠ 2 → exec (.haltNoticeReceived c) s = .next s)
        ∧ (role = 2 → Leads (.haltNoticeReceived c) s (fun m => m = { s.mod with hl := { hl with notice := some c.toNat } })))
    ∧ (∀ lane : Fin 2,
        let f : Field := if lane = 0 then F.SID_HL_STAT_LANE0 else F.SID_HL_STAT_LANE1
        let g : Field := if lane = 0 then F.SID_HL_STAT_LANE1 else F.SID_HL_STAT_LANE0
        (s.mod.flag R.SID_HL_STAT f = false → exec (.headingLaneLoss lane) s = .next s)
        ∧ (s.mod.flag R.SID_HL_STAT f = true → Leads (.headingLaneLoss lane) s (fun m => m.flag R.SID_HL_STAT f = false
            ∧ m.flag R.SID_HL_STAT g = s.mod.flag R.SID_HL_STAT g ∧ m.rf R.SID_HL_STAT F.SID_HL_STAT_ROLE = role
            ∧ Raised s.mod m FS.HL_LANE .none ∧ (∀ a, a ≠ R.SID_HL_STAT → m.rd a = s.mod.rd a)
            ∧ m = { s.mod with regs := m.regs, reports := m.reports, freeCtr := m.freeCtr })))
    ∧ (∀ act : Bool, Leads (.hlActInChange act) s (fun m => m.flag R.SID_HL_STAT F.SID_HL_STAT_PEER_ACT = act
        ∧ m.hl = { hl with inactiveAt := if act then none else some s.mod.now }
        ∧ m.rf R.SID_HL_STAT F.SID_HL_STAT_ROLE = role
        ∧ (∀ a, a ≠ R.SID_HL_STAT → m.rd a = s.mod.rd a) ∧ m = { s.mod with regs := m.regs, hl := m.hl }))

/-- Every command of the supply, the modes, the host, the timetable and the clock: With the supply present and no hold-up sequence under way, each of these commands completes for every operand: it is answered with a next state, and the commands waiting behind it stay as they are. (R13, R29, R36, R46, R47, R52, R53, R54, R56, R94, R101, R191) -/
def Obligations.HostModeAndClockCommandsComplete : Prop :=
  ∀ s : State, s.mod.live = true →
    Answers .vmainValid s ∧ Answers .vmainInvalid s ∧ Answers .seatedClosed s ∧ Answers .seatedOpen s
    ∧ Answers .removalDeclared s ∧ (∀ (cut : Option (BitVec 8)), Answers (.holdupCommitDone cut) s)
    ∧ Answers .inspectStart s
    ∧ (∀ (failures : List (BitVec 16)) (notes : List (BitVec 16)) (alive : BitVec 14), Answers (.inspectEnd failures notes alive) s)
    ∧ (∀ (peer : Option Peer) (mismatch : Bool), Answers (.frameBoundary peer mismatch) s)
    ∧ (∀ (cause : BitVec 8) (inc : BitVec 16), Answers (.haltEnter cause inc) s) ∧ Answers .stopTExpiry s
    ∧ Answers .departTimeout s ∧ Answers .modeReqInspect s ∧ Answers .modeReqHalt s ∧ Answers .modeReqDepot s
    ∧ Answers .modeReqShunt s ∧ Answers .modeReqDepart s ∧ Answers .modeReqRun s ∧ Answers .shuntGo s
    ∧ (∀ (g : Fin 32), Answers (.shuntStepEnd g) s)
    ∧ (∀ (k : Fin 4) (addr : BitVec 25) (v : BitVec 64) (race : Option Race), Answers (.registerWrite k addr v race) s)
    ∧ (∀ (k : Fin 4) (addr : BitVec 22) (v : BitVec 64), Answers (.aliasSetWrite k addr v) s)
    ∧ (∀ (k : Fin 4) (addr : BitVec 22) (v : BitVec 64), Answers (.aliasClearWrite k addr v) s)
    ∧ (∀ (k : Fin 4) (addr : BitVec 22) (v : BitVec 64), Answers (.aliasToggleWrite k addr v) s)
    ∧ (∀ (addr : BitVec 22), Answers (.lowWordRead addr) s) ∧ (∀ (addr : BitVec 22), Answers (.highWordRead addr) s)
    ∧ Answers .sysModeRead s ∧ (∀ (v : BitVec 32), Answers (.hostIrqEnWrite v) s)
    ∧ (∀ (a : HostAccess), Answers (.hostAccessComplete a) s)
    ∧ (∀ (k : Fin 4) (off : BitVec 28) (bad : Bool), Answers (.bar2Read k off bad) s)
    ∧ (∀ (k : Fin 4) (off : BitVec 28) (v : BitVec 64), Answers (.bar2Write k off v) s) ∧ Answers .bar2AccessComplete s
    ∧ (∀ (b : Fin 6), Answers (.budgetPeriodStart b) s) ∧ Answers .pcieReset s
    ∧ (∀ (addr : BitVec 32) (crc : BitVec 16) (cmd : BitVec 8), Answers (.spiRead32 addr crc cmd) s)
    ∧ (∀ (addr : BitVec 32) (crc : BitVec 16), Answers (.spiRead64 addr crc) s)
    ∧ (∀ (addr : BitVec 32) (v : BitVec 32) (crc : BitVec 16), Answers (.spiWrite32 addr v crc) s)
    ∧ (∀ (addr : BitVec 32) (v : BitVec 64) (crc : BitVec 16), Answers (.spiWrite64 addr v crc) s)
    ∧ Answers .spiStatus s
    ∧ (∀ (arg : BitVec 16) (crc : BitVec 16) (cmd : BitVec 8), Answers (.uartReadSys32 arg crc cmd) s)
    ∧ (∀ (arg : BitVec 16) (crc : BitVec 16), Answers (.uartReadSys64 arg crc) s)
    ∧ (∀ (arg : BitVec 16) (crc : BitVec 16), Answers (.uartReadIncident arg crc) s)
    ∧ (∀ (e : Scrub), Answers (.voteScrub e) s) ∧ (∀ (b : Fin 9), Answers (.configSave b) s) ∧ Answers .ttbArm s
    ∧ (∀ (regions : List (BitVec 32 × BitVec 32)), Answers (.admissionDone regions) s) ∧ Answers .ttbCancel s
    ∧ (∀ (le : Fin 8) (entry : Fin 512) (lib : Option LibRun), Answers (.blockStart le entry lib) s)
    ∧ (∀ (le : Fin 8), Answers (.blockEnd le) s) ∧ (∀ (le : Fin 8), Answers (.commitDrainComplete le) s)
    ∧ Answers .coreSilence s ∧ Answers .coreAnswersAgain s
    ∧ (∀ (p : Fin 10) (r : Option (BitVec 16)), Answers (.gaugeReading p r) s)
    ∧ (∀ (le : Fin 8) (line : Fin 2048), Answers (.imLineRewrite le line) s) ∧ Answers .rowRetireCopyDone s
    ∧ (∀ (u : Fin 96), Answers (.luReqOpen u) s) ∧ (∀ (u : Fin 96), Answers (.luReqHeld u) s)
    ∧ (∀ (u : Fin 96), Answers (.luReqClosed u) s) ∧ (∀ (u : Fin 96), Answers (.luSnap u) s)
    ∧ (∀ (run : PhaseRun), Answers (.lockDeclared run) s) ∧ (∀ (run : PhaseRun), Answers (.lossOfLock run) s)
    ∧ (∀ (l : RefLoss), Answers (.lossOfReference l) s) ∧ Answers .referenceReturn s
    ∧ (∀ (run : FreqRun), Answers (.frequencyReacquired run) s)
    ∧ (∀ (edges : List (BitVec 16)), Answers (.dividerApply edges) s)
    ∧ (∀ (port : Fin 4) (f : PtpSync), Answers (.ptpSync port f) s) ∧ Answers .ppsPulse s
    ∧ (∀ (port : Fin 4) (a : Announce), Answers (.ptpAnnounce port a) s)
    ∧ (∀ (port : Fin 4) (delay : BitVec 32), Answers (.pdelayExchange port delay) s) ∧ Answers .clkStepCmd s
    ∧ Answers .clkSet s ∧ Answers .clkSnap s ∧ (∀ (t : TapInstr), Answers (.jtagInstruction t) s)
    ∧ (∀ (link : Option (Fin 3 × Fin 3 × Bool)), Answers (.pcieLinkUp link) s)
    ∧ (∀ (port : Fin 4), Answers (.pdelayReqReceived port) s) ∧ (∀ (code : BitVec 4), Answers (.modeReqInvalid code) s)

/-- Every command of the process bus, AFE, PWM, gate drive, rings, metering, Interlocking, Keeper, collector, reserves and heading: With the supply present and no hold-up sequence under way, each of these commands completes for every operand: it is answered with a next state, and the commands waiting behind it stay as they are. (R208, R236, R259, R273, R290, R296, R400, R435, R455, R467, R490, R505) -/
def Obligations.UnitCommandsComplete : Prop :=
  ∀ s : State, s.mod.live = true →
    (∀ (p : Fin 4) (f : SvFrame), Answers (.svFrameReceived p f) s) ∧ (∀ (n : Fin 32), Answers (.svSlotTimeout n) s)
    ∧ (∀ (k : Fin 4), Answers (.svPublicationSend k) s)
    ∧ (∀ (p : Fin 4) (f : GsFrame), Answers (.gooseFrameReceived p f) s)
    ∧ (∀ (n : Fin 64), Answers (.gooseTalExpiry n) s) ∧ (∀ (k : Fin 32), Answers (.gooseRetransmit k) s)
    ∧ (∀ (k : Fin 32), Answers (.pbGpubSend k) s) ∧ (∀ (p : Fin 4), Answers (.supervisionFrameSend p) s)
    ∧ (∀ (p : Fin 4), Answers (.lanSupervisionTimeout p) s) ∧ (∀ (p : Fin 4), Answers (.pbLinkDown p) s)
    ∧ (∀ (t : Fin 8), Answers (.triggerFire t) s)
    ∧ (∀ (c : Fin 4) (codes : List (BitVec 16)), Answers (.sequenceComplete c codes) s)
    ∧ (∀ (core : Fin 5) (dev : Option (BitVec 32)), Answers (.driftCheck core dev) s) ∧ Answers .owtest s
    ∧ (∀ (readings : List (Fin 24 × BitVec 32)), Answers (.openWireDone readings) s) ∧ Answers .cmptest s
    ∧ (∀ (offsets : List (Fin 28 × BitVec 32)), Answers (.cmpTestDone offsets) s)
    ∧ (∀ (n : Fin 24) (pn : BitVec 32), Answers (.comparatorCrossing n pn) s)
    ∧ (∀ (g : Fin 34), Answers (.pwmReload g) s) ∧ (∀ (l : Fin 32) (r : Req), Answers (.faultLineRequest l r) s)
    ∧ (∀ (l : Fin 32) (r : Req), Answers (.faultLineRelease l r) s) ∧ (∀ (g : Fin 34), Answers (.generatorResume g) s)
    ∧ (∀ (v : BitVec 32), Answers (.pwmFlHost v) s) ∧ (∀ (l : Fin 32), Answers (.flLatchClear l) s)
    ∧ (∀ (u : Fin 16) (rising : Bool), Answers (.captureEdge u rising) s) ∧ (∀ (u : Fin 16), Answers (.capArm u) s)
    ∧ (∀ (ch : Fin 24), Answers (.gateCommandRise ch) s) ∧ (∀ (hb : Fin 12), Answers (.bothOffWindowEnd hb) s)
    ∧ (∀ (d : DesatSense), Answers (.desatDetect d) s) ∧ (∀ (d : DidtSense), Answers (.didtDetect d) s)
    ∧ (∀ (ch : Fin 24) (c : SupplySense), Answers (.supplyCheckFail ch c) s)
    ∧ (∀ (ch : Fin 24) (c : SupplySense), Answers (.supplyCheckPass ch c) s)
    ∧ (∀ (ch : Fin 24), Answers (.softTurnoffDone ch) s) ∧ (∀ (ch : Fin 24), Answers (.gdClear ch) s)
    ∧ (∀ (die : Fin 6), Answers (.gateLinkLoss die) s) ∧ (∀ (die : Fin 6), Answers (.gateLinkReturn die) s)
    ∧ (∀ (c : Fin 2) (port : Fin 4) (data : List (BitVec 8)), Answers (.canVcmdReceived c port data) s)
    ∧ (∀ (c : Fin 2) (port : Fin 4) (data : List (BitVec 8)), Answers (.canBmsReceived c port data) s)
    ∧ (∀ (c : Fin 2) (port : Fin 4), Answers (.canAckSend c port) s)
    ∧ (∀ (c : Fin 2) (port : Fin 4), Answers (.canStatusSend c port) s)
    ∧ (∀ (c : Fin 2) (port : Fin 4), Answers (.canFaultSend c port) s) ∧ (∀ (c : Fin 2), Answers (.canBusOff c) s)
    ∧ (∀ (c : Fin 2), Answers (.canBusoffRecovery c) s) ∧ (∀ (p : Fin 16), Answers (.ringCycleStart p) s)
    ∧ (∀ (p : Fin 16) (fa : Option RingFrame) (fb : Option RingFrame), Answers (.cycleComplete p fa fb) s)
    ∧ (∀ (p : Fin 16) (origin : SlowOrigin) (f : Option SlowFrame), Answers (.slowFrameReturn p origin f) s)
    ∧ (∀ (p : Fin 16), Answers (.lnTrain p) s) ∧ (∀ (p : Fin 16) (r : TrainResult), Answers (.trainingComplete p r) s)
    ∧ (∀ (p : Fin 16), Answers (.trainingStepTimeout p) s)
    ∧ (∀ (p : Fin 16) (wr : Bool) (point : BitVec 8) (pos : Fin 512), Answers (.lnHostRequest p wr point pos) s)
    ∧ (∀ (n : Fin 4), Answers (.demandIntervalEnd n) s) ∧ Answers .meterMramCommit s
    ∧ (∀ (n : Fin 4), Answers (.mtrSnap n) s) ∧ (∀ (n : Fin 4) (key : BitVec 16), Answers (.mtrClr n key) s)
    ∧ (∀ (n : Fin 8), Answers (.pulseOutputStart n) s)
    ∧ (∀ (n : Fin 8) (r : PiReading), Answers (.pulseInputAccept n r) s)
    ∧ (∀ (n : Fin 16) (b : Bool) (level : Bool), Answers (.safeInputChange n b level) s)
    ∧ (∀ (n : Fin 16), Answers (.discrepancyTimeout n) s)
    ∧ (∀ (t : Fin 4) (low : List (Fin 32)), Answers (.testPulseCheck t low) s)
    ∧ (∀ (k : Fin 16), Answers (.fbReset k) s) ∧ (∀ (k : Fin 16), Answers (.stop1DelayEnd k) s)
    ∧ (∀ (k : Fin 16), Answers (.mutingTimeout k) s) ∧ (∀ (j : Fin 4), Answers (.offDelayEnd j) s)
    ∧ (∀ (j : Fin 4), Answers (.edmTimeout j) s) ∧ (∀ (failed : List (Fin 4)), Answers (.darkPulseTest failed) s)
    ∧ (∀ (agree : Bool) (selfTest : Bool), Answers (.channelCompare agree selfTest) s)
    ∧ (∀ (active : Bool), Answers (.stopSignal active) s) ∧ (∀ (c : Fin 16), Answers (.tokenProduce c) s)
    ∧ (∀ (c : Fin 16) (frame : List (BitVec 8)), Answers (.tokenFrameReceived c frame) s)
    ∧ (∀ (c : Fin 16), Answers (.tokenWatchdog c) s) ∧ Answers .tokenHostSlotRead s ∧ Answers .safeRequestFetch s
    ∧ Answers .safeCheck s ∧ Answers .safeApply s ∧ Answers .applyLogConfirmed s ∧ Answers .safeSetpw s
    ∧ Answers .safeUnknownCommand s ∧ Answers .editLockExpiry s ∧ Answers .safeMirrorRefresh s
    ∧ Answers .keeperColdStart s ∧ (∀ (mv : BitVec 16), Answers (.kstReading mv) s) ∧ Answers .lampPowerOff s
    ∧ (∀ (mv : BitVec 16), Answers (.burstDecide mv) s) ∧ Answers .burstDurationEnd s
    ∧ (∀ (q : BitVec 8), Answers (.lampPing q) s)
    ∧ (∀ (q : BitVec 8) (cls : Fin 3) (energy : BitVec 32) (dur : BitVec 32), Answers (.lampBurstReq q cls energy dur) s)
    ∧ (∀ (q : BitVec 8), Answers (.lampDone q) s)
    ∧ (∀ (q : BitVec 8) (index : BitVec 8), Answers (.lampReadTamp q index) s) ∧ Answers .statusReportSend s
    ∧ Answers .wakeTimer s ∧ (∀ (e : TamperEdge), Answers (.tamperInputAccept e) s) ∧ Answers .keeperRecordWrite s
    ∧ Answers .rtcWrite s ∧ Answers .darknessSequence s ∧ Answers .faultReport s
    ∧ (∀ (src : BitVec 8), Answers (.quietExpiry src) s) ∧ (∀ (ch : Fin 24), Answers (.gdRecoveryEnd ch) s)
    ∧ (∀ (src : BitVec 8), Answers (.fltClear src) s) ∧ Answers .fltClrall s ∧ Answers .fltClrcnt s
    ∧ Answers .occurrenceRecordWrite s ∧ (∀ (unit : BitVec 8), Answers (.sidSub unit) s) ∧ Answers .sidAbort s
    ∧ Answers .substitutionCopyDone s ∧ (∀ (bad : List (Fin 34)), Answers (.generatorLoopbackCheck bad) s)
    ∧ (∀ (bank : Bool) (sector : BitVec 17), Answers (.nvmErase bank sector) s)
    ∧ (∀ (bank : Bool) (page : BitVec 17), Answers (.nvmProgram bank page) s)
    ∧ (∀ (bank : Bool), Answers (.nvmCheck bank) s) ∧ (∀ (bank : Bool), Answers (.nvmActivate bank) s)
    ∧ (∀ (slot : Fin 4), Answers (.nvmEnrol slot) s) ∧ (∀ (slot : Fin 4), Answers (.nvmRevoke slot) s)
    ∧ (∀ (readBack : Bool), Answers (.nvmCommandDone readBack) s) ∧ Answers .snapshotSend s
    ∧ (∀ (snap : Option Snapshot), Answers (.snapshotReceived snap) s)
    ∧ (∀ (cause : BitVec 8), Answers (.haltNoticeReceived cause) s)
    ∧ (∀ (lane : Fin 2), Answers (.headingLaneLoss lane) s) ∧ (∀ (ch : Fin 24), Answers (.gateCommandFall ch) s)
    ∧ (∀ (j : Fin 4) (high : Bool), Answers (.edmInputChange j high) s)
    ∧ (∀ (j : Fin 4), Answers (.switchReadbackFail j) s) ∧ Answers .interlockingSupplyLoss s
    ∧ Answers .applyLogTimeout s ∧ (∀ (active : Bool), Answers (.hlActInChange active) s)
    ∧ (∀ (p : Fin 4), Answers (.pbLinkUp p) s) ∧ (∀ (p : Fin 4) (f : PbOther), Answers (.pbFrameDiscard p f) s)
    ∧ (∀ (c : Fin 2), Answers (.canFrameDiscard c) s) ∧ Answers .afeReferenceSettled s

/-- Every instruction of an engine: Where a block runs on the engine with the instruction at its program counter, nothing it waits for and no detection, each instruction is answered with a next state for every operand, and the commands waiting behind it stay as they are. What it does there, and where a check stops it instead, the other statements of the engines say. (R98, R104, R121, R125, R126, R147) -/
def Obligations.EngineInstructionsComplete : Prop :=
  ∀ (s : State) (x : Issue) (b : Blk), Issues s.mod x b →
    Answers (.nop x) s ∧ (∀ (d : Fin 32) (a : Fin 32) (b : Fin 32), Answers (.add x d a b) s)
    ∧ (∀ (d : Fin 32) (a : Fin 32) (b : Fin 32), Answers (.sub x d a b) s)
    ∧ (∀ (d : Fin 32) (a : Fin 32) (b : Fin 32), Answers (.and x d a b) s)
    ∧ (∀ (d : Fin 32) (a : Fin 32) (b : Fin 32), Answers (.or x d a b) s)
    ∧ (∀ (d : Fin 32) (a : Fin 32) (b : Fin 32), Answers (.xor x d a b) s)
    ∧ (∀ (d : Fin 32) (a : Fin 32) (b : Fin 32), Answers (.andn x d a b) s)
    ∧ (∀ (d : Fin 32) (a : Fin 32) (b : Fin 32), Answers (.shl x d a b) s)
    ∧ (∀ (d : Fin 32) (a : Fin 32) (b : Fin 32), Answers (.shr x d a b) s)
    ∧ (∀ (d : Fin 32) (a : Fin 32) (b : Fin 32), Answers (.sar x d a b) s)
    ∧ (∀ (d : Fin 32) (a : Fin 32) (b : Fin 32), Answers (.adds x d a b) s)
    ∧ (∀ (d : Fin 32) (a : Fin 32) (b : Fin 32), Answers (.subs x d a b) s)
    ∧ (∀ (d : Fin 32) (a : Fin 32) (b : Fin 32), Answers (.min x d a b) s)
    ∧ (∀ (d : Fin 32) (a : Fin 32) (b : Fin 32), Answers (.max x d a b) s)
    ∧ (∀ (d : Fin 32) (a : Fin 32) (b : Fin 32), Answers (.minu x d a b) s)
    ∧ (∀ (d : Fin 32) (a : Fin 32) (b : Fin 32), Answers (.maxu x d a b) s)
    ∧ (∀ (d : Fin 32) (a : Fin 32), Answers (.abs x d a) s)
    ∧ (∀ (d : Fin 32) (a : Fin 32) (b : Fin 32), Answers (.mul x d a b) s)
    ∧ (∀ (d : Fin 32) (a : Fin 32) (b : Fin 32), Answers (.mulh x d a b) s)
    ∧ (∀ (d : Fin 32) (a : Fin 32) (b : Fin 32), Answers (.mulhu x d a b) s)
    ∧ (∀ (d : Fin 32) (a : Fin 32) (b : Fin 32), Answers (.div x d a b) s)
    ∧ (∀ (d : Fin 32) (a : Fin 32) (b : Fin 32), Answers (.divu x d a b) s)
    ∧ (∀ (d : Fin 32) (a : Fin 32) (b : Fin 32), Answers (.rem x d a b) s)
    ∧ (∀ (d : Fin 32) (a : Fin 32) (b : Fin 32), Answers (.remu x d a b) s)
    ∧ (∀ (d : Fin 32) (a : Fin 32), Answers (.clz x d a) s)
    ∧ (∀ (d : Fin 32) (a : Fin 32) (b : Fin 32) (c : Fin 8), Answers (.sel x d a b c) s)
    ∧ (∀ (d : Fin 32) (a : Fin 32) (imm : BitVec 16), Answers (.addi x d a imm) s)
    ∧ (∀ (d : Fin 32) (a : Fin 32) (imm : BitVec 16), Answers (.andi x d a imm) s)
    ∧ (∀ (d : Fin 32) (a : Fin 32) (imm : BitVec 16), Answers (.ori x d a imm) s)
    ∧ (∀ (d : Fin 32) (a : Fin 32) (imm : BitVec 16), Answers (.xori x d a imm) s)
    ∧ (∀ (d : Fin 32) (a : Fin 32) (imm : BitVec 5), Answers (.shli x d a imm) s)
    ∧ (∀ (d : Fin 32) (a : Fin 32) (imm : BitVec 5), Answers (.shri x d a imm) s)
    ∧ (∀ (d : Fin 32) (a : Fin 32) (imm : BitVec 5), Answers (.sari x d a imm) s)
    ∧ (∀ (d : Fin 32) (imm : BitVec 16), Answers (.lui x d imm) s)
    ∧ (∀ (d : Fin 32) (a : Fin 32) (imm : BitVec 16), Answers (.muli x d a imm) s)
    ∧ (∀ (d : Fin 32) (imm : BitVec 32), Answers (.liG x d imm) s)
    ∧ (∀ (d : Fin 32) (a : Fin 32) (imm : BitVec 32), Answers (.addi32 x d a imm) s)
    ∧ (∀ (cd : Fin 8) (cc : Fin 8) (a : Fin 32) (b : Fin 32), Answers (.cmp x cd cc a b) s)
    ∧ (∀ (cd : Fin 8) (cc : Fin 8) (a : Fin 32) (imm : BitVec 15), Answers (.cmpi x cd cc a imm) s)
    ∧ (∀ (cd : Fin 8) (cc : Fin 8) (a : Fin 32) (b : Fin 32), Answers (.fcmp x cd cc a b) s)
    ∧ (∀ (cd : Fin 8) (ca : Fin 8) (cb : Fin 8), Answers (.flagAnd x cd ca cb) s)
    ∧ (∀ (cd : Fin 8) (ca : Fin 8) (cb : Fin 8), Answers (.flagOr x cd ca cb) s)
    ∧ (∀ (cd : Fin 8) (ca : Fin 8) (cb : Fin 8), Answers (.flagXor x cd ca cb) s)
    ∧ (∀ (cd : Fin 8) (ca : Fin 8) (cb : Fin 8), Answers (.flagAndn x cd ca cb) s)
    ∧ (∀ (cd : Fin 8) (ca : Fin 8), Answers (.flagCopy x cd ca) s)
    ∧ (∀ (cd : Fin 8) (ca : Fin 8), Answers (.flagNot x cd ca) s)
    ∧ (∀ (d : Fin 32) (a : Fin 32) (b : Fin 32), Answers (.fadd x d a b) s)
    ∧ (∀ (d : Fin 32) (a : Fin 32) (b : Fin 32), Answers (.fsub x d a b) s)
    ∧ (∀ (d : Fin 32) (a : Fin 32) (b : Fin 32), Answers (.fmul x d a b) s)
    ∧ (∀ (d : Fin 32) (a : Fin 32) (b : Fin 32), Answers (.fdiv x d a b) s)
    ∧ (∀ (d : Fin 32) (a : Fin 32), Answers (.fsqrt x d a) s)
    ∧ (∀ (d : Fin 32) (a : Fin 32) (b : Fin 32) (c : Fin 32), Answers (.fma x d a b c) s)
    ∧ (∀ (d : Fin 32) (a : Fin 32) (b : Fin 32) (c : Fin 32), Answers (.fms x d a b c) s)
    ∧ (∀ (d : Fin 32) (a : Fin 32) (b : Fin 32) (c : Fin 32), Answers (.fnma x d a b c) s)
    ∧ (∀ (d : Fin 32) (a : Fin 32) (b : Fin 32), Answers (.fmin x d a b) s)
    ∧ (∀ (d : Fin 32) (a : Fin 32) (b : Fin 32), Answers (.fmax x d a b) s)
    ∧ (∀ (d : Fin 32) (a : Fin 32), Answers (.fabs x d a) s) ∧ (∀ (d : Fin 32) (a : Fin 32), Answers (.fneg x d a) s)
    ∧ (∀ (d : Fin 32) (a : Fin 32) (b : Fin 32) (c : Fin 32), Answers (.fclamp x d a b c) s)
    ∧ (∀ (d : Fin 32) (a : Fin 32) (b : Fin 32) (c : Fin 8), Answers (.fsel x d a b c) s)
    ∧ (∀ (d : Fin 32) (a : Fin 32), Answers (.fcvtSW x d a) s)
    ∧ (∀ (d : Fin 32) (a : Fin 32), Answers (.fcvtSWu x d a) s)
    ∧ (∀ (d : Fin 32) (a : Fin 32), Answers (.fcvtWS x d a) s) ∧ (∀ (d : Fin 32) (a : Fin 32), Answers (.fmvFG x d a) s)
    ∧ (∀ (d : Fin 32) (a : Fin 32), Answers (.fmvGF x d a) s) ∧ (∀ (d : Fin 32), Answers (.fxs x d) s)
    ∧ (∀ (d : Fin 32) (imm : BitVec 32), Answers (.liF x d imm) s)
    ∧ (∀ (d : Fin 32) (a : Fin 32) (imm : BitVec 16), Answers (.ld x d a imm) s)
    ∧ (∀ (d : Fin 32) (a : Fin 32) (imm : BitVec 16), Answers (.ldf x d a imm) s)
    ∧ (∀ (d : Fin 32) (a : Fin 32) (imm : BitVec 16), Answers (.st x d a imm) s)
    ∧ (∀ (d : Fin 32) (a : Fin 32) (imm : BitVec 16), Answers (.stf x d a imm) s)
    ∧ (∀ (d : Fin 32) (a : Fin 32) (imm : BitVec 16), Answers (.ldy x d a imm) s)
    ∧ (∀ (d : Fin 32) (a : Fin 32) (imm : BitVec 16), Answers (.ldyf x d a imm) s)
    ∧ (∀ (d : Fin 32) (a : Fin 32) (imm : BitVec 16), Answers (.sty x d a imm) s)
    ∧ (∀ (d : Fin 32) (a : Fin 32) (imm : BitVec 16), Answers (.styf x d a imm) s)
    ∧ (∀ (d : Fin 32) (a : Fin 32) (tbl : Fin 64) (word : Fin 1024), Answers (.ldt x d a tbl word) s)
    ∧ (∀ (d : Fin 32) (a : Fin 32) (tbl : Fin 64) (word : Fin 1024), Answers (.ldtf x d a tbl word) s)
    ∧ (∀ (d : Fin 32) (a : Fin 32) (tbl : Fin 64) (word : Fin 1024), Answers (.stt x d a tbl word) s)
    ∧ (∀ (d : Fin 32) (a : Fin 32) (tbl : Fin 64) (word : Fin 1024), Answers (.sttf x d a tbl word) s)
    ∧ (∀ (d : Fin 32) (a : Fin 32) (nm1 : Fin 64), Answers (.ldyb x d a nm1) s)
    ∧ (∀ (d : Fin 32) (a : Fin 32) (nm1 : Fin 64), Answers (.styb x d a nm1) s)
    ∧ (∀ (d : Fin 32) (imm : BitVec 32), Answers (.ldyAbs x d imm) s)
    ∧ (∀ (d : Fin 32) (imm : BitVec 32), Answers (.ldyfAbs x d imm) s)
    ∧ (∀ (d : Fin 32) (imm : BitVec 32), Answers (.styAbs x d imm) s)
    ∧ (∀ (d : Fin 32) (imm : BitVec 32), Answers (.styfAbs x d imm) s)
    ∧ (∀ (c : Fin 8) (off : BitVec 22), Answers (.bt x c off) s)
    ∧ (∀ (c : Fin 8) (off : BitVec 22), Answers (.bf x c off) s)
    ∧ (∀ (len : Fin 1024) (count : BitVec 16), Answers (.rep x len count) s)
    ∧ (∀ (sense : Bool) (c : Fin 8), Answers (.brk x sense c) s) ∧ (∀ (tgt : BitVec 14), Answers (.call x tgt) s)
    ∧ Answers (.ret x) s ∧ (∀ (a : Fin 32) (nm1 : Fin 64), Answers (.sw x a nm1) s)
    ∧ (∀ (d : Fin 32) (a : Fin 32) (b : Fin 32) (u : Fin 128), Answers (.loopStep x d a b u) s)
    ∧ (∀ (d : Fin 32) (a : Fin 32) (b : Fin 32) (u : Fin 128), Answers (.loopStepDiff x d a b u) s)
    ∧ (∀ (d : Fin 32) (a : Fin 32) (b : Fin 32) (u : Fin 128), Answers (.loopTrack x d a b u) s)
    ∧ (∀ (d : Fin 32) (u : Fin 128), Answers (.loopPeek x d u) s)
    ∧ (∀ (d : Fin 32) (u : Fin 128), Answers (.loopStatus x d u) s)
    ∧ (∀ (d : Fin 32) (a : Fin 32) (b : Fin 32) (u : Fin 4), Answers (.xfmClarke x d a b u) s)
    ∧ (∀ (d : Fin 32) (a : Fin 32) (b : Fin 32) (u : Fin 4), Answers (.xfmIclarke x d a b u) s)
    ∧ (∀ (d : Fin 32) (a : Fin 32) (b : Fin 32) (u : Fin 4), Answers (.xfmPark x d a b u) s)
    ∧ (∀ (d : Fin 32) (a : Fin 32) (b : Fin 32) (u : Fin 4), Answers (.xfmIpark x d a b u) s)
    ∧ (∀ (d : Fin 32) (a : Fin 32) (b : Fin 32) (u : Fin 4), Answers (.xfmAbc2dq x d a b u) s)
    ∧ (∀ (d : Fin 32) (a : Fin 32) (b : Fin 32) (u : Fin 4), Answers (.xfmDq2abc x d a b u) s)
    ∧ (∀ (d : Fin 32) (a : Fin 32) (b : Fin 32) (u : Fin 4), Answers (.xfmSincos x d a b u) s)
    ∧ (∀ (d : Fin 32) (a : Fin 32) (b : Fin 32) (u : Fin 4), Answers (.xfmAtan2 x d a b u) s)
    ∧ (∀ (d : Fin 32) (a : Fin 32) (b : Fin 32) (u : Fin 4), Answers (.xfmSeq x d a b u) s)
    ∧ (∀ (d : Fin 32) (a : Fin 32) (b : Fin 32) (u : Fin 4), Answers (.xfmWrap x d a b u) s)
    ∧ (∀ (d : Fin 32) (a : Fin 32) (b : Fin 32) (n : Fin 32), Answers (.selSelection x d a b n) s)
    ∧ (∀ (grp : Bool) (frac : Bool) (a : Fin 32) (inst : Fin 32) (field : Fin 32), Answers (.pwst x grp frac a inst field) s)
    ∧ (∀ (d : Fin 32) (a : Fin 32) (q : Fin 32) (stream : Fin 32) (chan : Fin 32), Answers (.svrdNearest x d a q stream chan) s)
    ∧ (∀ (d : Fin 32) (a : Fin 32) (q : Fin 32) (stream : Fin 32) (chan : Fin 32), Answers (.svrdInterp x d a q stream chan) s)
    ∧ (∀ (a : Fin 32) (b : Fin 32) (port : Fin 16), Answers (.lnxCmd x a b port) s)
    ∧ (∀ (d : Fin 32) (a : Fin 32) (port : Fin 16), Answers (.lnxResp x d a port) s)
    ∧ (∀ (d : Fin 32) (a : Fin 32) (port : Fin 16), Answers (.lnxRstat x d a port) s)
    ∧ (∀ (b : Fin 32) (port : Fin 16), Answers (.lnxApply x b port) s)
    ∧ (∀ (a : Fin 32) (b : Fin 32) (port : Fin 16), Answers (.lnxArm x a b port) s)
    ∧ (∀ (a : Fin 32) (b : Fin 32) (port : Fin 16), Answers (.lnxSlow x a b port) s)
    ∧ (∀ (mp : Fin 4) (a : Fin 32) (b : Fin 32), Answers (.macc x mp a b) s)
    ∧ (∀ (code : BitVec 8) (a : Fin 32), Answers (.evtFault x code a) s) ∧ (∀ (a : Fin 32), Answers (.evtReady x a) s)
    ∧ (∀ (a : Fin 32), Answers (.evtStopped x a) s)
    ∧ (∀ (mbx : Fin 8) (a : Fin 32) (b : Fin 32), Answers (.hpost x mbx a b) s) ∧ Answers (.cmt x) s
    ∧ (∀ (d : Fin 32) (n : Fin 16) (w : BitVec 13), Answers (.waitDelay x d n w) s)
    ∧ (∀ (d : Fin 32) (n : Fin 16) (w : BitVec 13), Answers (.waitAdc x d n w) s)
    ∧ (∀ (d : Fin 32) (n : Fin 16) (w : BitVec 13), Answers (.waitArmCapture x d n w) s)
    ∧ (∀ (d : Fin 32) (n : Fin 16) (w : BitVec 13), Answers (.waitCapture x d n w) s)
    ∧ (∀ (d : Fin 32) (n : Fin 16) (w : BitVec 13), Answers (.waitReload x d n w) s)
    ∧ (∀ (d : Fin 32) (n : Fin 16) (w : BitVec 13), Answers (.waitComparator x d n w) s)
    ∧ (∀ (d : Fin 32) (n : Fin 16) (w : BitVec 13), Answers (.waitRingCycle x d n w) s)
    ∧ (∀ (le : Fin 8), Answers (.waitRelease le) s)

/-- One step: A step with a command waiting is exec of the oldest one on the state with the rest of the queue; with none waiting time passes (the model's choice, log 2): a tick of 2 ns, or without ticks the 40 ns to the next crystal mark. The time of day moves on with it; memory stays, and but at the marks of the clock and where a held-back frame boundary brings the mode hold nothing else changes. (00_scope.md, R14, R190, R203) -/
def Obligations.StepTakesTheFrontOfTheQueue : Prop :=
  (∀ (c : Instr) (m : Module) (rest : List Instr), step ⟨m, c :: rest⟩ = exec c ⟨m, rest⟩)
  ∧ (∀ m : Module, ∃ t, step ⟨m, []⟩ = .next ⟨t, []⟩ ∧ t.mem = m.mem ∧
      let st := m.rf R.CLK_STAT F.CLK_STAT_STATE
      let d := if m.ticking then 2 else 40
      t.now = m.now + d / 2
      ∧ (m.todNs + d < 1000000000 → t.todNs = m.todNs + d ∧ t.todSec = m.todSec)
      ∧ (1000000000 ≤ m.todNs + d → t.todNs = m.todNs + d - 1000000000 ∧ t.todSec = (m.todSec + 1) % 2 ^ 48)
      ∧ ((if m.ticking then (m.now + 1) % 100 ≠ 0 ∧ m.clk.stopAt ≠ some (m.now + 1)
          else m.powered = false ∨ (st ≠ 3 ∧ st ≠ 7)) →
        (m.sys.alignHold = false ∨ t.now < m.sys.frameTick + m.frameLen) →
          t = { m with now := t.now, todNs := t.todNs, todSec := t.todSec }))

/-- The module right after reset: No command waits, both stores are in canonical form with nothing listed, so each register reads its reset value and each byte of memory what nothing has written; the values the manual gives are those shown, a few from each block, and the mode is INSPECT. (R67, R68, R118, R483, R490, R500, R518, R519) -/
def Obligations.ResetLeavesItsValues : Prop :=
  State.reset.pending = [] ∧ State.reset.mod.canonical = true ∧ State.reset.mod.mem = [] ∧ State.reset.mod.regs = []
  ∧ (∀ a, State.reset.mod.rd a = regReset a) ∧ (∀ a, State.reset.mod.mb a = memReset a)
  ∧ State.reset.mod.rf R.SYS_MODE F.SYS_MODE_MODE = 2 ∧ State.reset.mod.sys.inspecting = true
  ∧ ([(0x0, 0x4D448016), (R.SYS_MODE, 2), (R.SID_CFG, 0x800001F4), (R.SID_HL_CFG, 0x20000000), (R.NVM_STAT, 0x10000),
      (R.KEEP_STAT, 4), (R.KEEP_CFG, 0x168), (R.KEEP_ERES, 0x3E8), (R.KEEP_EMEAS, 0x050000C8), (R.KEEP_EXMIT, 0x3200C350),
      (R.KEEP_EWAKE, 0x64001388), (R.KEEP_LAMP, 5), (R.KEEP_TMP_CFG, 0x1111), (R.KEEP_KCMP_CFG 3, 0x30000010),
      (R.KEEP_PI_CFG 7, 0x40000014), (R.SAFE_STAT, 7), (R.FLT_REACT 0, 0), (R.FLT_REACT 1, 1), (R.FLT_REACT 2, 3),
      (R.FLT_REACT 3, 7), (R.FLT_REACT 4, 0xF), (R.FLT_REACT 5, 0x1F), (R.FLT_REACT 6, 0x3F), (R.FLT_REACT 7, 0x7F),
      (R.ENG_STAT 3, 0x30), (R.ENG_STAT 8, 0x10000)] : List (Nat × Nat)).all (fun p => State.reset.mod.rn p.1 == p.2) = true

/-- `n` steps from a state with at least `n` commands waiting, with the commands they carried out. -/
def workedOff : Nat → State → Option (State × List Instr)
  | 0, s => some (s, [])
  | n + 1, s => match s.pending, step s with
    | c :: _, .next t => (workedOff n t).map (fun r => (r.1, c :: r.2))
    | _, _ => none

/-- Every command completes from every state, and a queue of n commands is empty after n steps: From every state each command is answered with a next state, never with a fault or a refusal, and leaves the queue as it found it; so the commands waiting are carried out one a step, in the order in which they came, and none is lost, repeated or refused. (00_scope.md) -/
def Obligations.EveryQueueIsWorkedOff : Prop :=
  (∀ (c : Instr) (s : State), ∃ m, exec c s = .next ⟨m, s.pending⟩)
  ∧ (∀ (cs rest : List Instr) (m : Module), ∃ m' trail,
      workedOff cs.length ⟨m, cs ++ rest⟩ = some (⟨m', rest⟩, trail) ∧ trail = cs)

/-- Every step keeps the canonical form of the register store and of the memory: Where the keys of both stores rise strictly and no entry equals what its key reads as unlisted, the same holds after every step, whichever command is at the front of the queue and whatever the rest of the state holds. (R57, R66, R487) -/
def Obligations.StoresStayCanonical : Prop :=
  ∀ s t : State, s.mod.canonical = true → step s = .next t → t.mod.canonical = true
end

