-- ==== Sys2Proof/Laws/Crc.lean ====
section
/-! SUPPORT. Crc.lean: each code fits its width. -/

namespace Sys2Proof.Machine

theorem crc32Steps_lt (poly : Nat) (hp : poly < 2 ^ 32) : ∀ n c, c < 2 ^ 32 → crc32Steps poly n c < 2 ^ 32
  | 0, _, h => h
  | n + 1, c, h => by
    have hs : c >>> 1 < 2 ^ 32 := by rw [Nat.shiftRight_eq_div_pow]; omega
    rw [crc32Steps]
    apply crc32Steps_lt poly hp
    split
    · exact Nat.xor_lt_two_pow hs hp
    · exact hs

theorem crc32From_lt (poly : Nat) (hp : poly < 2 ^ 32) : ∀ bs c, c < 2 ^ 32 → crc32From poly bs c < 2 ^ 32
  | [], _, h => h
  | b :: r, c, h => by
    rw [crc32From]
    exact crc32From_lt poly hp r _ (crc32Steps_lt poly hp _ _ (Nat.xor_lt_two_pow h (by have := b.isLt; omega)))

theorem crc32c_lt (bs : List Byte) : crc32c bs < 2 ^ 32 :=
  Nat.xor_lt_two_pow (crc32From_lt _ (by decide) _ _ (by decide)) (by decide)

theorem scrcSteps_lt : ∀ n c, c < 2 ^ 32 → scrcSteps n c < 2 ^ 32
  | 0, _, h => h
  | n + 1, c, h => by
    rw [scrcSteps]
    apply scrcSteps_lt
    split
    · exact Nat.mod_lt _ (by decide)
    · omega

theorem scrc_lt (bs : List Byte) : scrc bs < 2 ^ 32 := by
  have h : ∀ (l : List Byte) c, c < 2 ^ 32 → l.foldl (fun c b => scrcSteps 8 (c ^^^ (b.toNat <<< 24))) c < 2 ^ 32 := by
    intro l
    induction l with
    | nil => exact fun c h => h
    | cons b r ih =>
      intro c h
      refine ih _ (scrcSteps_lt _ _ (Nat.xor_lt_two_pow h ?_))
      have := b.isLt
      rw [Nat.shiftLeft_eq]
      omega
  exact Nat.xor_lt_two_pow (h _ _ (by decide)) (by decide)

theorem crc16Steps_lt : ∀ n c, c < 2 ^ 16 → crc16Steps n c < 2 ^ 16
  | 0, _, h => h
  | n + 1, c, h => by
    rw [crc16Steps]
    apply crc16Steps_lt
    split
    · exact Nat.mod_lt _ (by decide)
    · omega

theorem crc16_lt (bs : List Byte) : crc16 bs < 2 ^ 16 := by
  have h : ∀ (l : List Byte) c, c < 2 ^ 16 → l.foldl (fun c b => crc16Steps 8 (c ^^^ (b.toNat <<< 8))) c < 2 ^ 16 := by
    intro l
    induction l with
    | nil => exact fun c h => h
    | cons b r ih =>
      intro c h
      refine ih _ (crc16Steps_lt _ _ (Nat.xor_lt_two_pow h ?_))
      have := b.isLt
      rw [Nat.shiftLeft_eq]
      omega
  exact h _ _ (by decide)

end Sys2Proof.Machine
end

