-- ==== Sys2Proof/Laws/Store.lean ====
section
/-! SUPPORT. Store.lean: what a read of a sparse store gives after a write, that writes keep the canonical form, and the
fields of a register value. -/

namespace Sys2Proof.Machine

variable {α : Type}

/-! ### Keys and the canonical form -/

/-- The keys of a store rise strictly. -/
theorem SMap.sorted_iff (m : SMap α) : SMap.sorted m = true ↔ (m.map Prod.fst).Pairwise (· < ·) := by
  induction m with
  | nil => simp [SMap.sorted]
  | cons p r ih => obtain ⟨a, v⟩ := p; simp [SMap.sorted, ih, List.pairwise_cons]

/-- A store is canonical when its keys rise and no entry equals its key's default. -/
theorem SMap.wf_iff [DecidableEq α] (d : Nat → α) (m : SMap α) :
    SMap.wf d m = true ↔ (m.map Prod.fst).Pairwise (· < ·) ∧ ∀ p ∈ m, p.2 ≠ d p.1 := by
  simp [SMap.wf, SMap.sorted_iff]

/-- Dropping entries keeps the canonical form. -/
theorem SMap.wf_filter [DecidableEq α] {d : Nat → α} {m : SMap α} (f : Nat × α → Bool) (h : SMap.wf d m = true) :
    SMap.wf d (m.filter f) = true := by
  rw [SMap.wf_iff] at h ⊢
  exact ⟨h.1.sublist (List.filter_sublist.map _), fun p hp => h.2 p (List.mem_of_mem_filter hp)⟩

/-- The entries of an insertion. -/
theorem SMap.mem_ins {m : SMap α} {k : Nat} {v : α} {p : Nat × α} (h : p ∈ SMap.ins m k v) : p = (k, v) ∨ p ∈ m := by
  induction m with
  | nil => simpa [SMap.ins] using h
  | cons q r ih =>
    obtain ⟨a, w⟩ := q
    simp only [SMap.ins] at h
    split at h
    · simpa using h
    · split at h
      · rcases List.mem_cons.1 h with h | h <;> simp [h]
      · rcases List.mem_cons.1 h with h | h
        · simp [h]
        · rcases ih h with h | h <;> simp [h]

/-- Insertion keeps the keys rising. -/
theorem SMap.ins_pairwise {m : SMap α} {k : Nat} {v : α} (h : (m.map Prod.fst).Pairwise (· < ·)) :
    ((SMap.ins m k v).map Prod.fst).Pairwise (· < ·) := by
  induction m with
  | nil => simp [SMap.ins]
  | cons q r ih =>
    obtain ⟨a, w⟩ := q
    have h1 := (List.pairwise_cons.1 h).1
    have h2 := (List.pairwise_cons.1 h).2
    simp only [SMap.ins]
    split
    · rename_i hk
      refine List.pairwise_cons.2 ⟨fun x hx => ?_, h⟩
      rcases List.mem_cons.1 hx with rfl | hx
      · exact hk
      · exact Nat.lt_trans hk (h1 x hx)
    · split
      · rename_i hk; subst hk; exact List.pairwise_cons.2 ⟨h1, h2⟩
      · rename_i hk hn
        refine List.pairwise_cons.2 ⟨fun x hx => ?_, ih h2⟩
        obtain ⟨p, hp, rfl⟩ := List.mem_map.1 hx
        rcases SMap.mem_ins hp with rfl | hp
        · show a < k; omega
        · exact h1 _ (List.mem_map_of_mem hp)

/-- A write keeps the canonical form. -/
theorem SMap.wf_put [DecidableEq α] {d : Nat → α} {m : SMap α} (k : Nat) (v : α) (h : SMap.wf d m = true) :
    SMap.wf d (SMap.put d m k v) = true := by
  unfold SMap.put
  split
  · exact SMap.wf_filter _ h
  · rename_i hv
    rw [SMap.wf_iff] at h ⊢
    refine ⟨SMap.ins_pairwise h.1, fun p hp => ?_⟩
    rcases SMap.mem_ins hp with rfl | hp
    · exact hv
    · exact h.2 p hp

/-! ### Reads after writes -/

theorem SMap.get_ins (d : Nat → α) (m : SMap α) (k a : Nat) (v : α) :
    SMap.get d (SMap.ins m k v) a = if k = a then v else SMap.get d m a := by
  induction m with
  | nil => simp [SMap.ins, SMap.get]
  | cons q r ih =>
    obtain ⟨b, w⟩ := q
    simp only [SMap.ins]
    split
    · simp [SMap.get]
    · split
      · rename_i hk; subst hk; by_cases h : k = a <;> simp [SMap.get, h]
      · rename_i h1 h2
        simp only [SMap.get, ih]
        by_cases h : k = a
        · subst h; simp [Ne.symm h2]
        · simp [h]

theorem SMap.get_filter_ne (d : Nat → α) (m : SMap α) (k a : Nat) :
    SMap.get d (m.filter (fun p => p.1 ≠ k)) a = if k = a then d a else SMap.get d m a := by
  induction m with
  | nil => simp [SMap.get]
  | cons q r ih =>
    obtain ⟨b, w⟩ := q
    by_cases hb : b = k
    · subst hb
      simp only [ne_eq, not_true_eq_false, decide_false, Bool.false_eq_true, not_false_eq_true, List.filter_cons_of_neg]
      by_cases h : b = a <;> simp_all [SMap.get]
    · have : List.filter (fun p : Nat × α => decide (p.1 ≠ k)) ((b, w) :: r)
          = (b, w) :: List.filter (fun p => decide (p.1 ≠ k)) r := by simp [hb]
      rw [this]
      by_cases h : b = a
      · subst h; simp [SMap.get, Ne.symm hb]
      · simp only [SMap.get, h, if_false]; exact ih

/-- A read after a write: the value written at its key, and at every other key what stood there. -/
theorem SMap.get_put [DecidableEq α] (d : Nat → α) (m : SMap α) (k a : Nat) (v : α) :
    SMap.get d (SMap.put d m k v) a = if k = a then v else SMap.get d m a := by
  unfold SMap.put
  split
  · rename_i h; rw [SMap.get_filter_ne]; split
    · rename_i e; subst e; exact h.symm
    · rfl
  · exact SMap.get_ins d m k a v

@[simp] theorem SMap.get_put_same [DecidableEq α] (d : Nat → α) (m : SMap α) (k : Nat) (v : α) :
    SMap.get d (SMap.put d m k v) k = v := by simp [SMap.get_put]

theorem SMap.get_put_ne [DecidableEq α] (d : Nat → α) (m : SMap α) {k a : Nat} (v : α) (h : k ≠ a) :
    SMap.get d (SMap.put d m k v) a = SMap.get d m a := by simp [SMap.get_put, h]

@[simp] theorem SMap.getD_setD_same [DecidableEq α] (d : α) (m : SMap α) (k : Nat) (v : α) :
    SMap.getD d (SMap.setD d m k v) k = v := by simp [SMap.getD, SMap.setD]

theorem SMap.getD_setD_ne [DecidableEq α] (d : α) (m : SMap α) {k a : Nat} (v : α) (h : k ≠ a) :
    SMap.getD d (SMap.setD d m k v) a = SMap.getD d m a := by simp [SMap.getD, SMap.setD, SMap.get_put_ne _ _ _ h]

/-! ### Bit fields -/

theorem fget_eq (v : DWord) (f : Field) : fget v f = v.toNat / 2 ^ f.lo % 2 ^ (f.hi + 1 - f.lo) := by
  simp [fget, Nat.shiftRight_eq_div_pow]

theorem fmask_getLsbD (f : Field) (i : Nat) (h : i < 64) :
    (fmask f).getLsbD i = decide (f.lo ≤ i ∧ i < f.hi + 1) := by
  simp only [fmask, BitVec.getLsbD_ofNat, h, decide_true, Bool.true_and, Nat.testBit_shiftLeft,
    Nat.testBit_two_pow_sub_one]
  by_cases h1 : f.lo ≤ i
  · by_cases h2 : i < f.hi + 1
    · simp [h1, h2]; omega
    · simp [h1, h2]; omega
  · simp [h1]

theorem fget_testBit (v : DWord) (f : Field) (i : Nat) :
    (fget v f).testBit i = (decide (i < f.hi + 1 - f.lo) && v.getLsbD (i + f.lo)) := by
  simp [fget, Nat.testBit_mod_two_pow, Nat.testBit_shiftRight, BitVec.getLsbD, Nat.add_comm]

theorem fset_getLsbD (v : DWord) (f : Field) (n i : Nat) (h : i < 64) :
    (fset v f n).getLsbD i = if f.lo ≤ i ∧ i < f.hi + 1 then n.testBit (i - f.lo) else v.getLsbD i := by
  simp only [fset, BitVec.getLsbD_or, BitVec.getLsbD_and, BitVec.getLsbD_not, fmask_getLsbD f i h, h, decide_true,
    Bool.true_and, BitVec.getLsbD_ofNat, Nat.testBit_shiftLeft]
  by_cases h1 : f.lo ≤ i <;> by_cases h2 : i ≤ f.hi <;> simp [h1, h2]

/-- A field reads the number written to it, modulo its range. -/
theorem fget_fset_same (v : DWord) (f : Field) (n : Nat) (h : f.hi < 64) :
    fget (fset v f n) f = n % 2 ^ (f.hi + 1 - f.lo) := by
  refine Nat.eq_of_testBit_eq fun i => ?_
  rw [fget_testBit, Nat.testBit_mod_two_pow]
  by_cases hi : i < f.hi + 1 - f.lo
  · rw [fset_getLsbD _ _ _ _ (by omega)]
    have : f.lo ≤ i + f.lo ∧ i + f.lo < f.hi + 1 := by omega
    simp [hi, this]
  · simp [hi]

/-- A write to a field leaves every field apart from it as it was. -/
theorem fget_fset_apart (v : DWord) (f g : Field) (n : Nat) (hg : g.hi < 64) (h : f.hi < g.lo ∨ g.hi < f.lo) :
    fget (fset v f n) g = fget v g := by
  refine Nat.eq_of_testBit_eq fun i => ?_
  rw [fget_testBit, fget_testBit]
  by_cases hi : i < g.hi + 1 - g.lo
  · rw [fset_getLsbD _ _ _ _ (by omega)]
    rw [if_neg (by omega)]
  · simp [hi]

end Sys2Proof.Machine
end

