-- ==== Sys2Proof/Laws/Ops.lean ====
section
/-! SUPPORT. Ops.lean: what a read of a register, a field or a memory gives after a write, and that each of these writes
keeps both stores canonical. -/

namespace Sys2Proof.Machine

variable (m : Module)

/-! ### Registers -/

theorem rd_wr (a b : Nat) (v : DWord) : (m.wr a v).rd b = if a = b then v else m.rd b := SMap.get_put _ _ _ _ _
@[simp] theorem rd_wr_same (a : Nat) (v : DWord) : (m.wr a v).rd a = v := by simp [rd_wr]
theorem rd_wr_ne {a b : Nat} (v : DWord) (h : a ≠ b) : (m.wr a v).rd b = m.rd b := by simp [rd_wr, h]
@[simp] theorem rd_setMb (a b : Nat) (v : Byte) : (m.setMb a v).rd b = m.rd b := rfl

theorem rd_wn (a b n : Nat) : (m.wn a n).rd b = if a = b then BitVec.ofNat 64 n else m.rd b := rd_wr m a b _
theorem rd_wf_ne {a b : Nat} (f : Field) (n : Nat) (h : a ≠ b) : (m.wf a f n).rd b = m.rd b := rd_wr_ne m _ h
theorem rd_setFlag_ne {a b : Nat} (f : Field) (x : Bool) (h : a ≠ b) : (m.setFlag a f x).rd b = m.rd b := rd_wr_ne m _ h
theorem rd_setBit_ne {a b : Nat} (i : Nat) (x : Bool) (h : a ≠ b) : (m.setBit a i x).rd b = m.rd b := rd_wr_ne m _ h

/-- A field reads the number written to it, modulo its range. -/
theorem rf_wf_same (a : Nat) (f : Field) (n : Nat) (h : f.hi < 64) : (m.wf a f n).rf a f = n % 2 ^ (f.hi + 1 - f.lo) := by
  simp [Module.rf, Module.wf, fget_fset_same _ _ _ h]

/-- A write to a field leaves the other fields of its register. -/
theorem rf_wf_apart (a : Nat) (f g : Field) (n : Nat) (hg : g.hi < 64) (h : f.hi < g.lo ∨ g.hi < f.lo) :
    (m.wf a f n).rf a g = m.rf a g := by
  simp [Module.rf, Module.wf, fget_fset_apart _ _ _ _ hg h]

theorem rf_wf_ne {a b : Nat} (f g : Field) (n : Nat) (h : a ≠ b) : (m.wf a f n).rf b g = m.rf b g := by
  simp [Module.rf, rd_wf_ne m f n h]

/-- A one-bit field reads the truth value written to it. -/
theorem flag_setFlag_same (a : Nat) (f : Field) (x : Bool) (h : f.hi < 64) (h1 : f.lo = f.hi) :
    (m.setFlag a f x).flag a f = x := by
  simp only [Module.flag, Module.setFlag, rf_wf_same m a f _ h, h1]
  have : f.hi + 1 - f.hi = 1 := by omega
  cases x <;> simp [this]

theorem bit_setBit_same (a i : Nat) (x : Bool) (h : i < 64) : (m.setBit a i x).bit a i = x :=
  flag_setFlag_same m a ⟨i, i⟩ x h rfl

theorem bit_setBit_ne (a : Nat) {i j : Nat} (x : Bool) (h : i ≠ j) (hj : j < 64) : (m.setBit a i x).bit a j = m.bit a j := by
  simp only [Module.bit, Module.setBit, Module.flag, Module.setFlag]
  rw [rf_wf_apart m a ⟨i, i⟩ ⟨j, j⟩ _ hj (show i < j ∨ j < i by omega)]

/-! ### Memory -/

theorem mb_setMb (a b : Nat) (v : Byte) : (m.setMb a v).mb b = if a = b then v else m.mb b := SMap.get_put _ _ _ _ _
@[simp] theorem mb_wr (a b : Nat) (v : DWord) : (m.wr a v).mb b = m.mb b := rfl

/-- A byte string stands where it was written, and every other byte as before. -/
theorem mb_setBytes (bs : List Byte) : ∀ (m : Module) (a b : Nat),
    (m.setBytes a bs).mb b = if a ≤ b ∧ b < a + bs.length then bs.getD (b - a) 0 else m.mb b := by
  induction bs with
  | nil => intro m a b; rw [if_neg (by simp)]; rfl
  | cons x r ih =>
    intro m a b
    rw [Module.setBytes, ih, mb_setMb, List.length_cons]
    by_cases h : a = b
    · subst h; rw [if_neg (by omega), if_pos rfl, if_pos (by omega)]; simp
    · by_cases h2 : a + 1 ≤ b ∧ b < a + 1 + r.length
      · rw [if_pos h2, if_pos (by omega)]
        obtain ⟨k, rfl⟩ : ∃ k, b = a + 1 + k := ⟨b - (a + 1), by omega⟩
        rw [show a + 1 + k - (a + 1) = k by omega, show a + 1 + k - a = k + 1 by omega]; rfl
      · rw [if_neg h2, if_neg h, if_neg (by omega)]

theorem mbytes_length (a n : Nat) : (m.mbytes a n).length = n := by
  induction n generalizing a with
  | zero => rfl
  | succ n ih => simp [Module.mbytes, ih]

theorem mbytes_getD (n : Nat) : ∀ a k, k < n → (m.mbytes a n).getD k 0 = m.mb (a + k) := by
  induction n with
  | zero => intro a k h; omega
  | succ n ih =>
    intro a k h
    cases k with
    | zero => rfl
    | succ k => rw [Module.mbytes, show a + (k + 1) = a + 1 + k by omega, ← ih (a + 1) k (by omega)]; rfl

/-- The bytes written are read back. -/
theorem mbytes_setBytes_same (a : Nat) (bs : List Byte) : (m.setBytes a bs).mbytes a bs.length = bs := by
  refine List.ext_getElem (mbytes_length _ _ _) fun i h1 h2 => ?_
  have h := mbytes_getD (m.setBytes a bs) bs.length a i h2
  rw [mb_setBytes, if_pos (by omega), show a + i - a = i by omega] at h
  rwa [List.getD_eq_getElem _ _ h1, List.getD_eq_getElem _ _ h2] at h

/-- Bytes apart from those written are read as before. -/
theorem mbytes_setBytes_apart (a b n : Nat) (bs : List Byte) (h : b + n ≤ a ∨ a + bs.length ≤ b) :
    (m.setBytes a bs).mbytes b n = m.mbytes b n := by
  induction n generalizing b with
  | zero => rfl
  | succ n ih =>
    rw [Module.mbytes, Module.mbytes, ih (b + 1) (by omega), mb_setBytes, if_neg (by omega)]

theorem leBytes_length (n v : Nat) : (leBytes n v).length = n := by
  induction n generalizing v with
  | zero => rfl
  | succ n ih => simp [leBytes, ih]

theorem leNat_leBytes (n : Nat) : ∀ v, leNat (leBytes n v) = v % 256 ^ n := by
  induction n with
  | zero => intro v; simp [leBytes, leNat, Nat.mod_one]
  | succ n ih =>
    intro v
    simp only [leBytes, leNat, ih, BitVec.toNat_ofNat]
    have h : v % 256 ^ (n + 1) = v % 256 + 256 * (v / 256 % 256 ^ n) := by rw [pow_succ']; exact Nat.mod_mul
    rw [h]

/-- A number written is read back, modulo its bytes. -/
theorem mn_setMn_same (a n v : Nat) : (m.setMn a n v).mn a n = v % 256 ^ n := by
  have h := mbytes_setBytes_same m a (leBytes n v)
  rw [leBytes_length] at h
  rw [Module.mn, Module.setMn, h, leNat_leBytes]

theorem mn_setMn_apart (a b n k v : Nat) (h : b + k ≤ a ∨ a + n ≤ b) : (m.setMn a n v).mn b k = m.mn b k := by
  rw [Module.mn, Module.mn, Module.setMn, mbytes_setBytes_apart m a b k _ (by rw [leBytes_length]; exact h)]

theorem mb_setMn (a n v b : Nat) (h : b < a ∨ a + n ≤ b) : (m.setMn a n v).mb b = m.mb b := by
  rw [Module.setMn, mb_setBytes, leBytes_length, if_neg (by omega)]

/-! ### The canonical form -/

variable {m}

theorem canonical_iff : m.canonical = true ↔ SMap.wf memReset m.mem = true ∧ SMap.wf regReset m.regs = true := by
  simp [Module.canonical]

/-- A module with the same stores is canonical alike. -/
theorem canonical_of_stores {n : Module} (h : m.canonical = true) (h1 : n.mem = m.mem) (h2 : n.regs = m.regs) :
    n.canonical = true := by
  rw [canonical_iff] at h ⊢; rw [h1, h2]; exact h

theorem canonical_wr (h : m.canonical = true) (a : Nat) (v : DWord) : (m.wr a v).canonical = true := by
  rw [canonical_iff] at h ⊢; exact ⟨h.1, SMap.wf_put a v h.2⟩
theorem canonical_setMb (h : m.canonical = true) (a : Nat) (b : Byte) : (m.setMb a b).canonical = true := by
  rw [canonical_iff] at h ⊢; exact ⟨SMap.wf_put a b h.1, h.2⟩
theorem canonical_wf (h : m.canonical = true) (a : Nat) (f : Field) (n : Nat) : (m.wf a f n).canonical = true := canonical_wr h _ _
theorem canonical_wn (h : m.canonical = true) (a n : Nat) : (m.wn a n).canonical = true := canonical_wr h _ _
theorem canonical_setFlag (h : m.canonical = true) (a : Nat) (f : Field) (x : Bool) : (m.setFlag a f x).canonical = true :=
  canonical_wr h _ _
theorem canonical_setBit (h : m.canonical = true) (a i : Nat) (x : Bool) : (m.setBit a i x).canonical = true := canonical_wr h _ _

/-- Folding an operation that keeps the canonical form keeps it. -/
theorem canonical_foldl {β : Type} {f : Module → β → Module} (hf : ∀ m x, m.canonical = true → (f m x).canonical = true)
    (l : List β) (h : m.canonical = true) : (l.foldl f m).canonical = true := by
  induction l generalizing m with
  | nil => exact h
  | cons x r ih => exact ih (hf _ _ h)

theorem canonical_setBytes (h : m.canonical = true) (a : Nat) (bs : List Byte) : (m.setBytes a bs).canonical = true := by
  induction bs generalizing m a with
  | nil => exact h
  | cons x r ih => exact ih (canonical_setMb h _ _) _
theorem canonical_setMn (h : m.canonical = true) (a n v : Nat) : (m.setMn a n v).canonical = true := canonical_setBytes h _ _
theorem canonical_setMw (h : m.canonical = true) (a : Nat) (w : Word) : (m.setMw a w).canonical = true := canonical_setBytes h _ _

/-- Dropping entries of a store keeps the canonical form. -/
theorem canonical_filterMem (h : m.canonical = true) (f : Nat × Byte → Bool) : ({ m with mem := m.mem.filter f }).canonical = true := by
  rw [canonical_iff] at h ⊢; exact ⟨SMap.wf_filter f h.1, h.2⟩
theorem canonical_filterRegs (h : m.canonical = true) (f : Nat × DWord → Bool) : ({ m with regs := m.regs.filter f }).canonical = true := by
  rw [canonical_iff] at h ⊢; exact ⟨h.1, SMap.wf_filter f h.2⟩

theorem canonical_raise (h : m.canonical = true) (s i : Nat) (o : Owner) : (m.raise s i o).canonical = true := h
theorem canonical_raiseFree (h : m.canonical = true) (s : Nat) (o : Owner) : (m.raiseFree s o).canonical = true := h
theorem canonical_bump (h : m.canonical = true) (a sat i : Nat) : (m.bump a sat i).canonical = true := by
  have h1 : (if m.rn a < 0xFFFFFFFF then m.wn a (m.rn a + 1) else m).canonical = true := by
    split
    · exact canonical_wn h _ _
    · exact h
  simp only [Module.bump]
  split
  · exact canonical_setBit h1 _ _ _
  · exact h1

/-- The machine is canonical at reset. -/
theorem canonical_reset : State.reset.mod.canonical = true := by decide +kernel

end Sys2Proof.Machine
end

