-- ==== Sys2Proof/Laws/State.lean ====
section
/-! SUPPORT. State.lean: for each named update of the module, one lemma per field that it leaves alone, and the value of the
field it changes, so that no proof unfolds a record update. -/

namespace Sys2Proof.Machine

variable (m : Module)

/-! ### wr -/

@[simp] theorem wr_now (a : Nat) (v : DWord) : (m.wr a v).now = m.now := rfl
@[simp] theorem wr_todSec (a : Nat) (v : DWord) : (m.wr a v).todSec = m.todSec := rfl
@[simp] theorem wr_todNs (a : Nat) (v : DWord) : (m.wr a v).todNs = m.todNs := rfl
@[simp] theorem wr_mem (a : Nat) (v : DWord) : (m.wr a v).mem = m.mem := rfl
@[simp] theorem wr_held (a : Nat) (v : DWord) : (m.wr a v).held = m.held := rfl
@[simp] theorem wr_heldMem (a : Nat) (v : DWord) : (m.wr a v).heldMem = m.heldMem := rfl
@[simp] theorem wr_pendF (a : Nat) (v : DWord) : (m.wr a v).pendF = m.pendF := rfl
@[simp] theorem wr_voteFailed (a : Nat) (v : DWord) : (m.wr a v).voteFailed = m.voteFailed := rfl
@[simp] theorem wr_upsets (a : Nat) (v : DWord) : (m.wr a v).upsets = m.upsets := rfl
@[simp] theorem wr_saved (a : Nat) (v : DWord) : (m.wr a v).saved = m.saved := rfl
@[simp] theorem wr_savedMem (a : Nat) (v : DWord) : (m.wr a v).savedMem = m.savedMem := rfl
@[simp] theorem wr_reports (a : Nat) (v : DWord) : (m.wr a v).reports = m.reports := rfl
@[simp] theorem wr_freeCtr (a : Nat) (v : DWord) : (m.wr a v).freeCtr = m.freeCtr := rfl
@[simp] theorem wr_host (a : Nat) (v : DWord) : (m.wr a v).host = m.host := rfl
@[simp] theorem wr_logq (a : Nat) (v : DWord) : (m.wr a v).logq = m.logq := rfl
@[simp] theorem wr_pwm (a : Nat) (v : DWord) : (m.wr a v).pwm = m.pwm := rfl
@[simp] theorem wr_sys (a : Nat) (v : DWord) : (m.wr a v).sys = m.sys := rfl
@[simp] theorem wr_lu (a : Nat) (v : DWord) : (m.wr a v).lu = m.lu := rfl
@[simp] theorem wr_eng (a : Nat) (v : DWord) : (m.wr a v).eng = m.eng := rfl
@[simp] theorem wr_engMap (a : Nat) (v : DWord) : (m.wr a v).engMap = m.engMap := rfl
@[simp] theorem wr_rings (a : Nat) (v : DWord) : (m.wr a v).rings = m.rings := rfl
@[simp] theorem wr_pb (a : Nat) (v : DWord) : (m.wr a v).pb = m.pb := rfl
@[simp] theorem wr_nvm (a : Nat) (v : DWord) : (m.wr a v).nvm = m.nvm := rfl
@[simp] theorem wr_sid (a : Nat) (v : DWord) : (m.wr a v).sid = m.sid := rfl
@[simp] theorem wr_hl (a : Nat) (v : DWord) : (m.wr a v).hl = m.hl := rfl
@[simp] theorem wr_clk (a : Nat) (v : DWord) : (m.wr a v).clk = m.clk := rfl
@[simp] theorem wr_afe (a : Nat) (v : DWord) : (m.wr a v).afe = m.afe := rfl
@[simp] theorem wr_gate (a : Nat) (v : DWord) : (m.wr a v).gate = m.gate := rfl
@[simp] theorem wr_can (a : Nat) (v : DWord) : (m.wr a v).can = m.can := rfl
@[simp] theorem wr_mtr (a : Nat) (v : DWord) : (m.wr a v).mtr = m.mtr := rfl
@[simp] theorem wr_il (a : Nat) (v : DWord) : (m.wr a v).il = m.il := rfl
@[simp] theorem wr_keep (a : Nat) (v : DWord) : (m.wr a v).keep = m.keep := rfl
@[simp] theorem wr_coll (a : Nat) (v : DWord) : (m.wr a v).coll = m.coll := rfl
@[simp] theorem wr_tap (a : Nat) (v : DWord) : (m.wr a v).tap = m.tap := rfl

/-! ### wf -/

@[simp] theorem wf_now (a : Nat) (f : Field) (n : Nat) : (m.wf a f n).now = m.now := rfl
@[simp] theorem wf_todSec (a : Nat) (f : Field) (n : Nat) : (m.wf a f n).todSec = m.todSec := rfl
@[simp] theorem wf_todNs (a : Nat) (f : Field) (n : Nat) : (m.wf a f n).todNs = m.todNs := rfl
@[simp] theorem wf_mem (a : Nat) (f : Field) (n : Nat) : (m.wf a f n).mem = m.mem := rfl
@[simp] theorem wf_held (a : Nat) (f : Field) (n : Nat) : (m.wf a f n).held = m.held := rfl
@[simp] theorem wf_heldMem (a : Nat) (f : Field) (n : Nat) : (m.wf a f n).heldMem = m.heldMem := rfl
@[simp] theorem wf_pendF (a : Nat) (f : Field) (n : Nat) : (m.wf a f n).pendF = m.pendF := rfl
@[simp] theorem wf_voteFailed (a : Nat) (f : Field) (n : Nat) : (m.wf a f n).voteFailed = m.voteFailed := rfl
@[simp] theorem wf_upsets (a : Nat) (f : Field) (n : Nat) : (m.wf a f n).upsets = m.upsets := rfl
@[simp] theorem wf_saved (a : Nat) (f : Field) (n : Nat) : (m.wf a f n).saved = m.saved := rfl
@[simp] theorem wf_savedMem (a : Nat) (f : Field) (n : Nat) : (m.wf a f n).savedMem = m.savedMem := rfl
@[simp] theorem wf_reports (a : Nat) (f : Field) (n : Nat) : (m.wf a f n).reports = m.reports := rfl
@[simp] theorem wf_freeCtr (a : Nat) (f : Field) (n : Nat) : (m.wf a f n).freeCtr = m.freeCtr := rfl
@[simp] theorem wf_host (a : Nat) (f : Field) (n : Nat) : (m.wf a f n).host = m.host := rfl
@[simp] theorem wf_logq (a : Nat) (f : Field) (n : Nat) : (m.wf a f n).logq = m.logq := rfl
@[simp] theorem wf_pwm (a : Nat) (f : Field) (n : Nat) : (m.wf a f n).pwm = m.pwm := rfl
@[simp] theorem wf_sys (a : Nat) (f : Field) (n : Nat) : (m.wf a f n).sys = m.sys := rfl
@[simp] theorem wf_lu (a : Nat) (f : Field) (n : Nat) : (m.wf a f n).lu = m.lu := rfl
@[simp] theorem wf_eng (a : Nat) (f : Field) (n : Nat) : (m.wf a f n).eng = m.eng := rfl
@[simp] theorem wf_engMap (a : Nat) (f : Field) (n : Nat) : (m.wf a f n).engMap = m.engMap := rfl
@[simp] theorem wf_rings (a : Nat) (f : Field) (n : Nat) : (m.wf a f n).rings = m.rings := rfl
@[simp] theorem wf_pb (a : Nat) (f : Field) (n : Nat) : (m.wf a f n).pb = m.pb := rfl
@[simp] theorem wf_nvm (a : Nat) (f : Field) (n : Nat) : (m.wf a f n).nvm = m.nvm := rfl
@[simp] theorem wf_sid (a : Nat) (f : Field) (n : Nat) : (m.wf a f n).sid = m.sid := rfl
@[simp] theorem wf_hl (a : Nat) (f : Field) (n : Nat) : (m.wf a f n).hl = m.hl := rfl
@[simp] theorem wf_clk (a : Nat) (f : Field) (n : Nat) : (m.wf a f n).clk = m.clk := rfl
@[simp] theorem wf_afe (a : Nat) (f : Field) (n : Nat) : (m.wf a f n).afe = m.afe := rfl
@[simp] theorem wf_gate (a : Nat) (f : Field) (n : Nat) : (m.wf a f n).gate = m.gate := rfl
@[simp] theorem wf_can (a : Nat) (f : Field) (n : Nat) : (m.wf a f n).can = m.can := rfl
@[simp] theorem wf_mtr (a : Nat) (f : Field) (n : Nat) : (m.wf a f n).mtr = m.mtr := rfl
@[simp] theorem wf_il (a : Nat) (f : Field) (n : Nat) : (m.wf a f n).il = m.il := rfl
@[simp] theorem wf_keep (a : Nat) (f : Field) (n : Nat) : (m.wf a f n).keep = m.keep := rfl
@[simp] theorem wf_coll (a : Nat) (f : Field) (n : Nat) : (m.wf a f n).coll = m.coll := rfl
@[simp] theorem wf_tap (a : Nat) (f : Field) (n : Nat) : (m.wf a f n).tap = m.tap := rfl

/-! ### wn -/

@[simp] theorem wn_now (a n : Nat) : (m.wn a n).now = m.now := rfl
@[simp] theorem wn_todSec (a n : Nat) : (m.wn a n).todSec = m.todSec := rfl
@[simp] theorem wn_todNs (a n : Nat) : (m.wn a n).todNs = m.todNs := rfl
@[simp] theorem wn_mem (a n : Nat) : (m.wn a n).mem = m.mem := rfl
@[simp] theorem wn_held (a n : Nat) : (m.wn a n).held = m.held := rfl
@[simp] theorem wn_heldMem (a n : Nat) : (m.wn a n).heldMem = m.heldMem := rfl
@[simp] theorem wn_pendF (a n : Nat) : (m.wn a n).pendF = m.pendF := rfl
@[simp] theorem wn_voteFailed (a n : Nat) : (m.wn a n).voteFailed = m.voteFailed := rfl
@[simp] theorem wn_upsets (a n : Nat) : (m.wn a n).upsets = m.upsets := rfl
@[simp] theorem wn_saved (a n : Nat) : (m.wn a n).saved = m.saved := rfl
@[simp] theorem wn_savedMem (a n : Nat) : (m.wn a n).savedMem = m.savedMem := rfl
@[simp] theorem wn_reports (a n : Nat) : (m.wn a n).reports = m.reports := rfl
@[simp] theorem wn_freeCtr (a n : Nat) : (m.wn a n).freeCtr = m.freeCtr := rfl
@[simp] theorem wn_host (a n : Nat) : (m.wn a n).host = m.host := rfl
@[simp] theorem wn_logq (a n : Nat) : (m.wn a n).logq = m.logq := rfl
@[simp] theorem wn_pwm (a n : Nat) : (m.wn a n).pwm = m.pwm := rfl
@[simp] theorem wn_sys (a n : Nat) : (m.wn a n).sys = m.sys := rfl
@[simp] theorem wn_lu (a n : Nat) : (m.wn a n).lu = m.lu := rfl
@[simp] theorem wn_eng (a n : Nat) : (m.wn a n).eng = m.eng := rfl
@[simp] theorem wn_engMap (a n : Nat) : (m.wn a n).engMap = m.engMap := rfl
@[simp] theorem wn_rings (a n : Nat) : (m.wn a n).rings = m.rings := rfl
@[simp] theorem wn_pb (a n : Nat) : (m.wn a n).pb = m.pb := rfl
@[simp] theorem wn_nvm (a n : Nat) : (m.wn a n).nvm = m.nvm := rfl
@[simp] theorem wn_sid (a n : Nat) : (m.wn a n).sid = m.sid := rfl
@[simp] theorem wn_hl (a n : Nat) : (m.wn a n).hl = m.hl := rfl
@[simp] theorem wn_clk (a n : Nat) : (m.wn a n).clk = m.clk := rfl
@[simp] theorem wn_afe (a n : Nat) : (m.wn a n).afe = m.afe := rfl
@[simp] theorem wn_gate (a n : Nat) : (m.wn a n).gate = m.gate := rfl
@[simp] theorem wn_can (a n : Nat) : (m.wn a n).can = m.can := rfl
@[simp] theorem wn_mtr (a n : Nat) : (m.wn a n).mtr = m.mtr := rfl
@[simp] theorem wn_il (a n : Nat) : (m.wn a n).il = m.il := rfl
@[simp] theorem wn_keep (a n : Nat) : (m.wn a n).keep = m.keep := rfl
@[simp] theorem wn_coll (a n : Nat) : (m.wn a n).coll = m.coll := rfl
@[simp] theorem wn_tap (a n : Nat) : (m.wn a n).tap = m.tap := rfl

/-! ### setFlag -/

@[simp] theorem setFlag_now (a : Nat) (f : Field) (b : Bool) : (m.setFlag a f b).now = m.now := rfl
@[simp] theorem setFlag_todSec (a : Nat) (f : Field) (b : Bool) : (m.setFlag a f b).todSec = m.todSec := rfl
@[simp] theorem setFlag_todNs (a : Nat) (f : Field) (b : Bool) : (m.setFlag a f b).todNs = m.todNs := rfl
@[simp] theorem setFlag_mem (a : Nat) (f : Field) (b : Bool) : (m.setFlag a f b).mem = m.mem := rfl
@[simp] theorem setFlag_held (a : Nat) (f : Field) (b : Bool) : (m.setFlag a f b).held = m.held := rfl
@[simp] theorem setFlag_heldMem (a : Nat) (f : Field) (b : Bool) : (m.setFlag a f b).heldMem = m.heldMem := rfl
@[simp] theorem setFlag_pendF (a : Nat) (f : Field) (b : Bool) : (m.setFlag a f b).pendF = m.pendF := rfl
@[simp] theorem setFlag_voteFailed (a : Nat) (f : Field) (b : Bool) : (m.setFlag a f b).voteFailed = m.voteFailed := rfl
@[simp] theorem setFlag_upsets (a : Nat) (f : Field) (b : Bool) : (m.setFlag a f b).upsets = m.upsets := rfl
@[simp] theorem setFlag_saved (a : Nat) (f : Field) (b : Bool) : (m.setFlag a f b).saved = m.saved := rfl
@[simp] theorem setFlag_savedMem (a : Nat) (f : Field) (b : Bool) : (m.setFlag a f b).savedMem = m.savedMem := rfl
@[simp] theorem setFlag_reports (a : Nat) (f : Field) (b : Bool) : (m.setFlag a f b).reports = m.reports := rfl
@[simp] theorem setFlag_freeCtr (a : Nat) (f : Field) (b : Bool) : (m.setFlag a f b).freeCtr = m.freeCtr := rfl
@[simp] theorem setFlag_host (a : Nat) (f : Field) (b : Bool) : (m.setFlag a f b).host = m.host := rfl
@[simp] theorem setFlag_logq (a : Nat) (f : Field) (b : Bool) : (m.setFlag a f b).logq = m.logq := rfl
@[simp] theorem setFlag_pwm (a : Nat) (f : Field) (b : Bool) : (m.setFlag a f b).pwm = m.pwm := rfl
@[simp] theorem setFlag_sys (a : Nat) (f : Field) (b : Bool) : (m.setFlag a f b).sys = m.sys := rfl
@[simp] theorem setFlag_lu (a : Nat) (f : Field) (b : Bool) : (m.setFlag a f b).lu = m.lu := rfl
@[simp] theorem setFlag_eng (a : Nat) (f : Field) (b : Bool) : (m.setFlag a f b).eng = m.eng := rfl
@[simp] theorem setFlag_engMap (a : Nat) (f : Field) (b : Bool) : (m.setFlag a f b).engMap = m.engMap := rfl
@[simp] theorem setFlag_rings (a : Nat) (f : Field) (b : Bool) : (m.setFlag a f b).rings = m.rings := rfl
@[simp] theorem setFlag_pb (a : Nat) (f : Field) (b : Bool) : (m.setFlag a f b).pb = m.pb := rfl
@[simp] theorem setFlag_nvm (a : Nat) (f : Field) (b : Bool) : (m.setFlag a f b).nvm = m.nvm := rfl
@[simp] theorem setFlag_sid (a : Nat) (f : Field) (b : Bool) : (m.setFlag a f b).sid = m.sid := rfl
@[simp] theorem setFlag_hl (a : Nat) (f : Field) (b : Bool) : (m.setFlag a f b).hl = m.hl := rfl
@[simp] theorem setFlag_clk (a : Nat) (f : Field) (b : Bool) : (m.setFlag a f b).clk = m.clk := rfl
@[simp] theorem setFlag_afe (a : Nat) (f : Field) (b : Bool) : (m.setFlag a f b).afe = m.afe := rfl
@[simp] theorem setFlag_gate (a : Nat) (f : Field) (b : Bool) : (m.setFlag a f b).gate = m.gate := rfl
@[simp] theorem setFlag_can (a : Nat) (f : Field) (b : Bool) : (m.setFlag a f b).can = m.can := rfl
@[simp] theorem setFlag_mtr (a : Nat) (f : Field) (b : Bool) : (m.setFlag a f b).mtr = m.mtr := rfl
@[simp] theorem setFlag_il (a : Nat) (f : Field) (b : Bool) : (m.setFlag a f b).il = m.il := rfl
@[simp] theorem setFlag_keep (a : Nat) (f : Field) (b : Bool) : (m.setFlag a f b).keep = m.keep := rfl
@[simp] theorem setFlag_coll (a : Nat) (f : Field) (b : Bool) : (m.setFlag a f b).coll = m.coll := rfl
@[simp] theorem setFlag_tap (a : Nat) (f : Field) (b : Bool) : (m.setFlag a f b).tap = m.tap := rfl

/-! ### setBit -/

@[simp] theorem setBit_now (a i : Nat) (b : Bool) : (m.setBit a i b).now = m.now := rfl
@[simp] theorem setBit_todSec (a i : Nat) (b : Bool) : (m.setBit a i b).todSec = m.todSec := rfl
@[simp] theorem setBit_todNs (a i : Nat) (b : Bool) : (m.setBit a i b).todNs = m.todNs := rfl
@[simp] theorem setBit_mem (a i : Nat) (b : Bool) : (m.setBit a i b).mem = m.mem := rfl
@[simp] theorem setBit_held (a i : Nat) (b : Bool) : (m.setBit a i b).held = m.held := rfl
@[simp] theorem setBit_heldMem (a i : Nat) (b : Bool) : (m.setBit a i b).heldMem = m.heldMem := rfl
@[simp] theorem setBit_pendF (a i : Nat) (b : Bool) : (m.setBit a i b).pendF = m.pendF := rfl
@[simp] theorem setBit_voteFailed (a i : Nat) (b : Bool) : (m.setBit a i b).voteFailed = m.voteFailed := rfl
@[simp] theorem setBit_upsets (a i : Nat) (b : Bool) : (m.setBit a i b).upsets = m.upsets := rfl
@[simp] theorem setBit_saved (a i : Nat) (b : Bool) : (m.setBit a i b).saved = m.saved := rfl
@[simp] theorem setBit_savedMem (a i : Nat) (b : Bool) : (m.setBit a i b).savedMem = m.savedMem := rfl
@[simp] theorem setBit_reports (a i : Nat) (b : Bool) : (m.setBit a i b).reports = m.reports := rfl
@[simp] theorem setBit_freeCtr (a i : Nat) (b : Bool) : (m.setBit a i b).freeCtr = m.freeCtr := rfl
@[simp] theorem setBit_host (a i : Nat) (b : Bool) : (m.setBit a i b).host = m.host := rfl
@[simp] theorem setBit_logq (a i : Nat) (b : Bool) : (m.setBit a i b).logq = m.logq := rfl
@[simp] theorem setBit_pwm (a i : Nat) (b : Bool) : (m.setBit a i b).pwm = m.pwm := rfl
@[simp] theorem setBit_sys (a i : Nat) (b : Bool) : (m.setBit a i b).sys = m.sys := rfl
@[simp] theorem setBit_lu (a i : Nat) (b : Bool) : (m.setBit a i b).lu = m.lu := rfl
@[simp] theorem setBit_eng (a i : Nat) (b : Bool) : (m.setBit a i b).eng = m.eng := rfl
@[simp] theorem setBit_engMap (a i : Nat) (b : Bool) : (m.setBit a i b).engMap = m.engMap := rfl
@[simp] theorem setBit_rings (a i : Nat) (b : Bool) : (m.setBit a i b).rings = m.rings := rfl
@[simp] theorem setBit_pb (a i : Nat) (b : Bool) : (m.setBit a i b).pb = m.pb := rfl
@[simp] theorem setBit_nvm (a i : Nat) (b : Bool) : (m.setBit a i b).nvm = m.nvm := rfl
@[simp] theorem setBit_sid (a i : Nat) (b : Bool) : (m.setBit a i b).sid = m.sid := rfl
@[simp] theorem setBit_hl (a i : Nat) (b : Bool) : (m.setBit a i b).hl = m.hl := rfl
@[simp] theorem setBit_clk (a i : Nat) (b : Bool) : (m.setBit a i b).clk = m.clk := rfl
@[simp] theorem setBit_afe (a i : Nat) (b : Bool) : (m.setBit a i b).afe = m.afe := rfl
@[simp] theorem setBit_gate (a i : Nat) (b : Bool) : (m.setBit a i b).gate = m.gate := rfl
@[simp] theorem setBit_can (a i : Nat) (b : Bool) : (m.setBit a i b).can = m.can := rfl
@[simp] theorem setBit_mtr (a i : Nat) (b : Bool) : (m.setBit a i b).mtr = m.mtr := rfl
@[simp] theorem setBit_il (a i : Nat) (b : Bool) : (m.setBit a i b).il = m.il := rfl
@[simp] theorem setBit_keep (a i : Nat) (b : Bool) : (m.setBit a i b).keep = m.keep := rfl
@[simp] theorem setBit_coll (a i : Nat) (b : Bool) : (m.setBit a i b).coll = m.coll := rfl
@[simp] theorem setBit_tap (a i : Nat) (b : Bool) : (m.setBit a i b).tap = m.tap := rfl

/-! ### setMb -/

@[simp] theorem setMb_now (a : Nat) (b : Byte) : (m.setMb a b).now = m.now := rfl
@[simp] theorem setMb_todSec (a : Nat) (b : Byte) : (m.setMb a b).todSec = m.todSec := rfl
@[simp] theorem setMb_todNs (a : Nat) (b : Byte) : (m.setMb a b).todNs = m.todNs := rfl
@[simp] theorem setMb_regs (a : Nat) (b : Byte) : (m.setMb a b).regs = m.regs := rfl
@[simp] theorem setMb_held (a : Nat) (b : Byte) : (m.setMb a b).held = m.held := rfl
@[simp] theorem setMb_heldMem (a : Nat) (b : Byte) : (m.setMb a b).heldMem = m.heldMem := rfl
@[simp] theorem setMb_pendF (a : Nat) (b : Byte) : (m.setMb a b).pendF = m.pendF := rfl
@[simp] theorem setMb_voteFailed (a : Nat) (b : Byte) : (m.setMb a b).voteFailed = m.voteFailed := rfl
@[simp] theorem setMb_upsets (a : Nat) (b : Byte) : (m.setMb a b).upsets = m.upsets := rfl
@[simp] theorem setMb_saved (a : Nat) (b : Byte) : (m.setMb a b).saved = m.saved := rfl
@[simp] theorem setMb_savedMem (a : Nat) (b : Byte) : (m.setMb a b).savedMem = m.savedMem := rfl
@[simp] theorem setMb_reports (a : Nat) (b : Byte) : (m.setMb a b).reports = m.reports := rfl
@[simp] theorem setMb_freeCtr (a : Nat) (b : Byte) : (m.setMb a b).freeCtr = m.freeCtr := rfl
@[simp] theorem setMb_host (a : Nat) (b : Byte) : (m.setMb a b).host = m.host := rfl
@[simp] theorem setMb_logq (a : Nat) (b : Byte) : (m.setMb a b).logq = m.logq := rfl
@[simp] theorem setMb_pwm (a : Nat) (b : Byte) : (m.setMb a b).pwm = m.pwm := rfl
@[simp] theorem setMb_sys (a : Nat) (b : Byte) : (m.setMb a b).sys = m.sys := rfl
@[simp] theorem setMb_lu (a : Nat) (b : Byte) : (m.setMb a b).lu = m.lu := rfl
@[simp] theorem setMb_engMap (a : Nat) (b : Byte) : (m.setMb a b).engMap = m.engMap := rfl
@[simp] theorem setMb_rings (a : Nat) (b : Byte) : (m.setMb a b).rings = m.rings := rfl
@[simp] theorem setMb_pb (a : Nat) (b : Byte) : (m.setMb a b).pb = m.pb := rfl
@[simp] theorem setMb_nvm (a : Nat) (b : Byte) : (m.setMb a b).nvm = m.nvm := rfl
@[simp] theorem setMb_sid (a : Nat) (b : Byte) : (m.setMb a b).sid = m.sid := rfl
@[simp] theorem setMb_hl (a : Nat) (b : Byte) : (m.setMb a b).hl = m.hl := rfl
@[simp] theorem setMb_clk (a : Nat) (b : Byte) : (m.setMb a b).clk = m.clk := rfl
@[simp] theorem setMb_afe (a : Nat) (b : Byte) : (m.setMb a b).afe = m.afe := rfl
@[simp] theorem setMb_gate (a : Nat) (b : Byte) : (m.setMb a b).gate = m.gate := rfl
@[simp] theorem setMb_can (a : Nat) (b : Byte) : (m.setMb a b).can = m.can := rfl
@[simp] theorem setMb_mtr (a : Nat) (b : Byte) : (m.setMb a b).mtr = m.mtr := rfl
@[simp] theorem setMb_il (a : Nat) (b : Byte) : (m.setMb a b).il = m.il := rfl
@[simp] theorem setMb_keep (a : Nat) (b : Byte) : (m.setMb a b).keep = m.keep := rfl
@[simp] theorem setMb_coll (a : Nat) (b : Byte) : (m.setMb a b).coll = m.coll := rfl
@[simp] theorem setMb_tap (a : Nat) (b : Byte) : (m.setMb a b).tap = m.tap := rfl

/-! ### setBytes -/

/-- A byte string changes the memory, and the words whose parity fails, only. -/
theorem setBytes_eq (bs : List Byte) : ∀ (m : Module) (a : Nat), m.setBytes a bs =
    { m with mem := (m.setBytes a bs).mem, eng := { m.eng with failing := (m.setBytes a bs).eng.failing } } := by
  induction bs with
  | nil => intro m a; rfl
  | cons b r ih => intro m a; rw [Module.setBytes, ih]; rfl

@[simp] theorem setBytes_now (a : Nat) (bs : List Byte) : (m.setBytes a bs).now = m.now := by rw [setBytes_eq]
@[simp] theorem setBytes_todSec (a : Nat) (bs : List Byte) : (m.setBytes a bs).todSec = m.todSec := by rw [setBytes_eq]
@[simp] theorem setBytes_todNs (a : Nat) (bs : List Byte) : (m.setBytes a bs).todNs = m.todNs := by rw [setBytes_eq]
@[simp] theorem setBytes_regs (a : Nat) (bs : List Byte) : (m.setBytes a bs).regs = m.regs := by rw [setBytes_eq]
@[simp] theorem setBytes_held (a : Nat) (bs : List Byte) : (m.setBytes a bs).held = m.held := by rw [setBytes_eq]
@[simp] theorem setBytes_heldMem (a : Nat) (bs : List Byte) : (m.setBytes a bs).heldMem = m.heldMem := by rw [setBytes_eq]
@[simp] theorem setBytes_pendF (a : Nat) (bs : List Byte) : (m.setBytes a bs).pendF = m.pendF := by rw [setBytes_eq]
@[simp] theorem setBytes_voteFailed (a : Nat) (bs : List Byte) : (m.setBytes a bs).voteFailed = m.voteFailed := by rw [setBytes_eq]
@[simp] theorem setBytes_upsets (a : Nat) (bs : List Byte) : (m.setBytes a bs).upsets = m.upsets := by rw [setBytes_eq]
@[simp] theorem setBytes_saved (a : Nat) (bs : List Byte) : (m.setBytes a bs).saved = m.saved := by rw [setBytes_eq]
@[simp] theorem setBytes_savedMem (a : Nat) (bs : List Byte) : (m.setBytes a bs).savedMem = m.savedMem := by rw [setBytes_eq]
@[simp] theorem setBytes_reports (a : Nat) (bs : List Byte) : (m.setBytes a bs).reports = m.reports := by rw [setBytes_eq]
@[simp] theorem setBytes_freeCtr (a : Nat) (bs : List Byte) : (m.setBytes a bs).freeCtr = m.freeCtr := by rw [setBytes_eq]
@[simp] theorem setBytes_host (a : Nat) (bs : List Byte) : (m.setBytes a bs).host = m.host := by rw [setBytes_eq]
@[simp] theorem setBytes_logq (a : Nat) (bs : List Byte) : (m.setBytes a bs).logq = m.logq := by rw [setBytes_eq]
@[simp] theorem setBytes_pwm (a : Nat) (bs : List Byte) : (m.setBytes a bs).pwm = m.pwm := by rw [setBytes_eq]
@[simp] theorem setBytes_sys (a : Nat) (bs : List Byte) : (m.setBytes a bs).sys = m.sys := by rw [setBytes_eq]
@[simp] theorem setBytes_lu (a : Nat) (bs : List Byte) : (m.setBytes a bs).lu = m.lu := by rw [setBytes_eq]
@[simp] theorem setBytes_engMap (a : Nat) (bs : List Byte) : (m.setBytes a bs).engMap = m.engMap := by rw [setBytes_eq]
@[simp] theorem setBytes_rings (a : Nat) (bs : List Byte) : (m.setBytes a bs).rings = m.rings := by rw [setBytes_eq]
@[simp] theorem setBytes_pb (a : Nat) (bs : List Byte) : (m.setBytes a bs).pb = m.pb := by rw [setBytes_eq]
@[simp] theorem setBytes_nvm (a : Nat) (bs : List Byte) : (m.setBytes a bs).nvm = m.nvm := by rw [setBytes_eq]
@[simp] theorem setBytes_sid (a : Nat) (bs : List Byte) : (m.setBytes a bs).sid = m.sid := by rw [setBytes_eq]
@[simp] theorem setBytes_hl (a : Nat) (bs : List Byte) : (m.setBytes a bs).hl = m.hl := by rw [setBytes_eq]
@[simp] theorem setBytes_clk (a : Nat) (bs : List Byte) : (m.setBytes a bs).clk = m.clk := by rw [setBytes_eq]
@[simp] theorem setBytes_afe (a : Nat) (bs : List Byte) : (m.setBytes a bs).afe = m.afe := by rw [setBytes_eq]
@[simp] theorem setBytes_gate (a : Nat) (bs : List Byte) : (m.setBytes a bs).gate = m.gate := by rw [setBytes_eq]
@[simp] theorem setBytes_can (a : Nat) (bs : List Byte) : (m.setBytes a bs).can = m.can := by rw [setBytes_eq]
@[simp] theorem setBytes_mtr (a : Nat) (bs : List Byte) : (m.setBytes a bs).mtr = m.mtr := by rw [setBytes_eq]
@[simp] theorem setBytes_il (a : Nat) (bs : List Byte) : (m.setBytes a bs).il = m.il := by rw [setBytes_eq]
@[simp] theorem setBytes_keep (a : Nat) (bs : List Byte) : (m.setBytes a bs).keep = m.keep := by rw [setBytes_eq]
@[simp] theorem setBytes_coll (a : Nat) (bs : List Byte) : (m.setBytes a bs).coll = m.coll := by rw [setBytes_eq]
@[simp] theorem setBytes_tap (a : Nat) (bs : List Byte) : (m.setBytes a bs).tap = m.tap := by rw [setBytes_eq]

/-! ### setMn -/

@[simp] theorem setMn_now (a n v : Nat) : (m.setMn a n v).now = m.now := setBytes_now m a _
@[simp] theorem setMn_todSec (a n v : Nat) : (m.setMn a n v).todSec = m.todSec := setBytes_todSec m a _
@[simp] theorem setMn_todNs (a n v : Nat) : (m.setMn a n v).todNs = m.todNs := setBytes_todNs m a _
@[simp] theorem setMn_regs (a n v : Nat) : (m.setMn a n v).regs = m.regs := setBytes_regs m a _
@[simp] theorem setMn_held (a n v : Nat) : (m.setMn a n v).held = m.held := setBytes_held m a _
@[simp] theorem setMn_heldMem (a n v : Nat) : (m.setMn a n v).heldMem = m.heldMem := setBytes_heldMem m a _
@[simp] theorem setMn_pendF (a n v : Nat) : (m.setMn a n v).pendF = m.pendF := setBytes_pendF m a _
@[simp] theorem setMn_voteFailed (a n v : Nat) : (m.setMn a n v).voteFailed = m.voteFailed := setBytes_voteFailed m a _
@[simp] theorem setMn_upsets (a n v : Nat) : (m.setMn a n v).upsets = m.upsets := setBytes_upsets m a _
@[simp] theorem setMn_saved (a n v : Nat) : (m.setMn a n v).saved = m.saved := setBytes_saved m a _
@[simp] theorem setMn_savedMem (a n v : Nat) : (m.setMn a n v).savedMem = m.savedMem := setBytes_savedMem m a _
@[simp] theorem setMn_reports (a n v : Nat) : (m.setMn a n v).reports = m.reports := setBytes_reports m a _
@[simp] theorem setMn_freeCtr (a n v : Nat) : (m.setMn a n v).freeCtr = m.freeCtr := setBytes_freeCtr m a _
@[simp] theorem setMn_host (a n v : Nat) : (m.setMn a n v).host = m.host := setBytes_host m a _
@[simp] theorem setMn_logq (a n v : Nat) : (m.setMn a n v).logq = m.logq := setBytes_logq m a _
@[simp] theorem setMn_pwm (a n v : Nat) : (m.setMn a n v).pwm = m.pwm := setBytes_pwm m a _
@[simp] theorem setMn_sys (a n v : Nat) : (m.setMn a n v).sys = m.sys := setBytes_sys m a _
@[simp] theorem setMn_lu (a n v : Nat) : (m.setMn a n v).lu = m.lu := setBytes_lu m a _
@[simp] theorem setMn_engMap (a n v : Nat) : (m.setMn a n v).engMap = m.engMap := setBytes_engMap m a _
@[simp] theorem setMn_rings (a n v : Nat) : (m.setMn a n v).rings = m.rings := setBytes_rings m a _
@[simp] theorem setMn_pb (a n v : Nat) : (m.setMn a n v).pb = m.pb := setBytes_pb m a _
@[simp] theorem setMn_nvm (a n v : Nat) : (m.setMn a n v).nvm = m.nvm := setBytes_nvm m a _
@[simp] theorem setMn_sid (a n v : Nat) : (m.setMn a n v).sid = m.sid := setBytes_sid m a _
@[simp] theorem setMn_hl (a n v : Nat) : (m.setMn a n v).hl = m.hl := setBytes_hl m a _
@[simp] theorem setMn_clk (a n v : Nat) : (m.setMn a n v).clk = m.clk := setBytes_clk m a _
@[simp] theorem setMn_afe (a n v : Nat) : (m.setMn a n v).afe = m.afe := setBytes_afe m a _
@[simp] theorem setMn_gate (a n v : Nat) : (m.setMn a n v).gate = m.gate := setBytes_gate m a _
@[simp] theorem setMn_can (a n v : Nat) : (m.setMn a n v).can = m.can := setBytes_can m a _
@[simp] theorem setMn_mtr (a n v : Nat) : (m.setMn a n v).mtr = m.mtr := setBytes_mtr m a _
@[simp] theorem setMn_il (a n v : Nat) : (m.setMn a n v).il = m.il := setBytes_il m a _
@[simp] theorem setMn_keep (a n v : Nat) : (m.setMn a n v).keep = m.keep := setBytes_keep m a _
@[simp] theorem setMn_coll (a n v : Nat) : (m.setMn a n v).coll = m.coll := setBytes_coll m a _
@[simp] theorem setMn_tap (a n v : Nat) : (m.setMn a n v).tap = m.tap := setBytes_tap m a _

/-! ### setMw -/

@[simp] theorem setMw_now (a : Nat) (w : Word) : (m.setMw a w).now = m.now := setBytes_now m a _
@[simp] theorem setMw_todSec (a : Nat) (w : Word) : (m.setMw a w).todSec = m.todSec := setBytes_todSec m a _
@[simp] theorem setMw_todNs (a : Nat) (w : Word) : (m.setMw a w).todNs = m.todNs := setBytes_todNs m a _
@[simp] theorem setMw_regs (a : Nat) (w : Word) : (m.setMw a w).regs = m.regs := setBytes_regs m a _
@[simp] theorem setMw_held (a : Nat) (w : Word) : (m.setMw a w).held = m.held := setBytes_held m a _
@[simp] theorem setMw_heldMem (a : Nat) (w : Word) : (m.setMw a w).heldMem = m.heldMem := setBytes_heldMem m a _
@[simp] theorem setMw_pendF (a : Nat) (w : Word) : (m.setMw a w).pendF = m.pendF := setBytes_pendF m a _
@[simp] theorem setMw_voteFailed (a : Nat) (w : Word) : (m.setMw a w).voteFailed = m.voteFailed := setBytes_voteFailed m a _
@[simp] theorem setMw_upsets (a : Nat) (w : Word) : (m.setMw a w).upsets = m.upsets := setBytes_upsets m a _
@[simp] theorem setMw_saved (a : Nat) (w : Word) : (m.setMw a w).saved = m.saved := setBytes_saved m a _
@[simp] theorem setMw_savedMem (a : Nat) (w : Word) : (m.setMw a w).savedMem = m.savedMem := setBytes_savedMem m a _
@[simp] theorem setMw_reports (a : Nat) (w : Word) : (m.setMw a w).reports = m.reports := setBytes_reports m a _
@[simp] theorem setMw_freeCtr (a : Nat) (w : Word) : (m.setMw a w).freeCtr = m.freeCtr := setBytes_freeCtr m a _
@[simp] theorem setMw_host (a : Nat) (w : Word) : (m.setMw a w).host = m.host := setBytes_host m a _
@[simp] theorem setMw_logq (a : Nat) (w : Word) : (m.setMw a w).logq = m.logq := setBytes_logq m a _
@[simp] theorem setMw_pwm (a : Nat) (w : Word) : (m.setMw a w).pwm = m.pwm := setBytes_pwm m a _
@[simp] theorem setMw_sys (a : Nat) (w : Word) : (m.setMw a w).sys = m.sys := setBytes_sys m a _
@[simp] theorem setMw_lu (a : Nat) (w : Word) : (m.setMw a w).lu = m.lu := setBytes_lu m a _
@[simp] theorem setMw_engMap (a : Nat) (w : Word) : (m.setMw a w).engMap = m.engMap := setBytes_engMap m a _
@[simp] theorem setMw_rings (a : Nat) (w : Word) : (m.setMw a w).rings = m.rings := setBytes_rings m a _
@[simp] theorem setMw_pb (a : Nat) (w : Word) : (m.setMw a w).pb = m.pb := setBytes_pb m a _
@[simp] theorem setMw_nvm (a : Nat) (w : Word) : (m.setMw a w).nvm = m.nvm := setBytes_nvm m a _
@[simp] theorem setMw_sid (a : Nat) (w : Word) : (m.setMw a w).sid = m.sid := setBytes_sid m a _
@[simp] theorem setMw_hl (a : Nat) (w : Word) : (m.setMw a w).hl = m.hl := setBytes_hl m a _
@[simp] theorem setMw_clk (a : Nat) (w : Word) : (m.setMw a w).clk = m.clk := setBytes_clk m a _
@[simp] theorem setMw_afe (a : Nat) (w : Word) : (m.setMw a w).afe = m.afe := setBytes_afe m a _
@[simp] theorem setMw_gate (a : Nat) (w : Word) : (m.setMw a w).gate = m.gate := setBytes_gate m a _
@[simp] theorem setMw_can (a : Nat) (w : Word) : (m.setMw a w).can = m.can := setBytes_can m a _
@[simp] theorem setMw_mtr (a : Nat) (w : Word) : (m.setMw a w).mtr = m.mtr := setBytes_mtr m a _
@[simp] theorem setMw_il (a : Nat) (w : Word) : (m.setMw a w).il = m.il := setBytes_il m a _
@[simp] theorem setMw_keep (a : Nat) (w : Word) : (m.setMw a w).keep = m.keep := setBytes_keep m a _
@[simp] theorem setMw_coll (a : Nat) (w : Word) : (m.setMw a w).coll = m.coll := setBytes_coll m a _
@[simp] theorem setMw_tap (a : Nat) (w : Word) : (m.setMw a w).tap = m.tap := setBytes_tap m a _

/-! ### raise -/

@[simp] theorem raise_now (s i : Nat) (o : Owner) : (m.raise s i o).now = m.now := rfl
@[simp] theorem raise_todSec (s i : Nat) (o : Owner) : (m.raise s i o).todSec = m.todSec := rfl
@[simp] theorem raise_todNs (s i : Nat) (o : Owner) : (m.raise s i o).todNs = m.todNs := rfl
@[simp] theorem raise_regs (s i : Nat) (o : Owner) : (m.raise s i o).regs = m.regs := rfl
@[simp] theorem raise_mem (s i : Nat) (o : Owner) : (m.raise s i o).mem = m.mem := rfl
@[simp] theorem raise_held (s i : Nat) (o : Owner) : (m.raise s i o).held = m.held := rfl
@[simp] theorem raise_heldMem (s i : Nat) (o : Owner) : (m.raise s i o).heldMem = m.heldMem := rfl
@[simp] theorem raise_pendF (s i : Nat) (o : Owner) : (m.raise s i o).pendF = m.pendF := rfl
@[simp] theorem raise_voteFailed (s i : Nat) (o : Owner) : (m.raise s i o).voteFailed = m.voteFailed := rfl
@[simp] theorem raise_upsets (s i : Nat) (o : Owner) : (m.raise s i o).upsets = m.upsets := rfl
@[simp] theorem raise_saved (s i : Nat) (o : Owner) : (m.raise s i o).saved = m.saved := rfl
@[simp] theorem raise_savedMem (s i : Nat) (o : Owner) : (m.raise s i o).savedMem = m.savedMem := rfl
@[simp] theorem raise_freeCtr (s i : Nat) (o : Owner) : (m.raise s i o).freeCtr = m.freeCtr := rfl
@[simp] theorem raise_host (s i : Nat) (o : Owner) : (m.raise s i o).host = m.host := rfl
@[simp] theorem raise_logq (s i : Nat) (o : Owner) : (m.raise s i o).logq = m.logq := rfl
@[simp] theorem raise_pwm (s i : Nat) (o : Owner) : (m.raise s i o).pwm = m.pwm := rfl
@[simp] theorem raise_sys (s i : Nat) (o : Owner) : (m.raise s i o).sys = m.sys := rfl
@[simp] theorem raise_lu (s i : Nat) (o : Owner) : (m.raise s i o).lu = m.lu := rfl
@[simp] theorem raise_eng (s i : Nat) (o : Owner) : (m.raise s i o).eng = m.eng := rfl
@[simp] theorem raise_engMap (s i : Nat) (o : Owner) : (m.raise s i o).engMap = m.engMap := rfl
@[simp] theorem raise_rings (s i : Nat) (o : Owner) : (m.raise s i o).rings = m.rings := rfl
@[simp] theorem raise_pb (s i : Nat) (o : Owner) : (m.raise s i o).pb = m.pb := rfl
@[simp] theorem raise_nvm (s i : Nat) (o : Owner) : (m.raise s i o).nvm = m.nvm := rfl
@[simp] theorem raise_sid (s i : Nat) (o : Owner) : (m.raise s i o).sid = m.sid := rfl
@[simp] theorem raise_hl (s i : Nat) (o : Owner) : (m.raise s i o).hl = m.hl := rfl
@[simp] theorem raise_clk (s i : Nat) (o : Owner) : (m.raise s i o).clk = m.clk := rfl
@[simp] theorem raise_afe (s i : Nat) (o : Owner) : (m.raise s i o).afe = m.afe := rfl
@[simp] theorem raise_gate (s i : Nat) (o : Owner) : (m.raise s i o).gate = m.gate := rfl
@[simp] theorem raise_can (s i : Nat) (o : Owner) : (m.raise s i o).can = m.can := rfl
@[simp] theorem raise_mtr (s i : Nat) (o : Owner) : (m.raise s i o).mtr = m.mtr := rfl
@[simp] theorem raise_il (s i : Nat) (o : Owner) : (m.raise s i o).il = m.il := rfl
@[simp] theorem raise_keep (s i : Nat) (o : Owner) : (m.raise s i o).keep = m.keep := rfl
@[simp] theorem raise_coll (s i : Nat) (o : Owner) : (m.raise s i o).coll = m.coll := rfl
@[simp] theorem raise_tap (s i : Nat) (o : Owner) : (m.raise s i o).tap = m.tap := rfl

/-! ### raiseFree -/

@[simp] theorem raiseFree_now (s : Nat) (o : Owner) : (m.raiseFree s o).now = m.now := rfl
@[simp] theorem raiseFree_todSec (s : Nat) (o : Owner) : (m.raiseFree s o).todSec = m.todSec := rfl
@[simp] theorem raiseFree_todNs (s : Nat) (o : Owner) : (m.raiseFree s o).todNs = m.todNs := rfl
@[simp] theorem raiseFree_regs (s : Nat) (o : Owner) : (m.raiseFree s o).regs = m.regs := rfl
@[simp] theorem raiseFree_mem (s : Nat) (o : Owner) : (m.raiseFree s o).mem = m.mem := rfl
@[simp] theorem raiseFree_held (s : Nat) (o : Owner) : (m.raiseFree s o).held = m.held := rfl
@[simp] theorem raiseFree_heldMem (s : Nat) (o : Owner) : (m.raiseFree s o).heldMem = m.heldMem := rfl
@[simp] theorem raiseFree_pendF (s : Nat) (o : Owner) : (m.raiseFree s o).pendF = m.pendF := rfl
@[simp] theorem raiseFree_voteFailed (s : Nat) (o : Owner) : (m.raiseFree s o).voteFailed = m.voteFailed := rfl
@[simp] theorem raiseFree_upsets (s : Nat) (o : Owner) : (m.raiseFree s o).upsets = m.upsets := rfl
@[simp] theorem raiseFree_saved (s : Nat) (o : Owner) : (m.raiseFree s o).saved = m.saved := rfl
@[simp] theorem raiseFree_savedMem (s : Nat) (o : Owner) : (m.raiseFree s o).savedMem = m.savedMem := rfl
@[simp] theorem raiseFree_host (s : Nat) (o : Owner) : (m.raiseFree s o).host = m.host := rfl
@[simp] theorem raiseFree_logq (s : Nat) (o : Owner) : (m.raiseFree s o).logq = m.logq := rfl
@[simp] theorem raiseFree_pwm (s : Nat) (o : Owner) : (m.raiseFree s o).pwm = m.pwm := rfl
@[simp] theorem raiseFree_sys (s : Nat) (o : Owner) : (m.raiseFree s o).sys = m.sys := rfl
@[simp] theorem raiseFree_lu (s : Nat) (o : Owner) : (m.raiseFree s o).lu = m.lu := rfl
@[simp] theorem raiseFree_eng (s : Nat) (o : Owner) : (m.raiseFree s o).eng = m.eng := rfl
@[simp] theorem raiseFree_engMap (s : Nat) (o : Owner) : (m.raiseFree s o).engMap = m.engMap := rfl
@[simp] theorem raiseFree_rings (s : Nat) (o : Owner) : (m.raiseFree s o).rings = m.rings := rfl
@[simp] theorem raiseFree_pb (s : Nat) (o : Owner) : (m.raiseFree s o).pb = m.pb := rfl
@[simp] theorem raiseFree_nvm (s : Nat) (o : Owner) : (m.raiseFree s o).nvm = m.nvm := rfl
@[simp] theorem raiseFree_sid (s : Nat) (o : Owner) : (m.raiseFree s o).sid = m.sid := rfl
@[simp] theorem raiseFree_hl (s : Nat) (o : Owner) : (m.raiseFree s o).hl = m.hl := rfl
@[simp] theorem raiseFree_clk (s : Nat) (o : Owner) : (m.raiseFree s o).clk = m.clk := rfl
@[simp] theorem raiseFree_afe (s : Nat) (o : Owner) : (m.raiseFree s o).afe = m.afe := rfl
@[simp] theorem raiseFree_gate (s : Nat) (o : Owner) : (m.raiseFree s o).gate = m.gate := rfl
@[simp] theorem raiseFree_can (s : Nat) (o : Owner) : (m.raiseFree s o).can = m.can := rfl
@[simp] theorem raiseFree_mtr (s : Nat) (o : Owner) : (m.raiseFree s o).mtr = m.mtr := rfl
@[simp] theorem raiseFree_il (s : Nat) (o : Owner) : (m.raiseFree s o).il = m.il := rfl
@[simp] theorem raiseFree_keep (s : Nat) (o : Owner) : (m.raiseFree s o).keep = m.keep := rfl
@[simp] theorem raiseFree_coll (s : Nat) (o : Owner) : (m.raiseFree s o).coll = m.coll := rfl
@[simp] theorem raiseFree_tap (s : Nat) (o : Owner) : (m.raiseFree s o).tap = m.tap := rfl

/-! ### setBlk -/

@[simp] theorem setBlk_now (e : Nat) (b : Option Blk) : (m.setBlk e b).now = m.now := rfl
@[simp] theorem setBlk_todSec (e : Nat) (b : Option Blk) : (m.setBlk e b).todSec = m.todSec := rfl
@[simp] theorem setBlk_todNs (e : Nat) (b : Option Blk) : (m.setBlk e b).todNs = m.todNs := rfl
@[simp] theorem setBlk_regs (e : Nat) (b : Option Blk) : (m.setBlk e b).regs = m.regs := rfl
@[simp] theorem setBlk_mem (e : Nat) (b : Option Blk) : (m.setBlk e b).mem = m.mem := rfl
@[simp] theorem setBlk_held (e : Nat) (b : Option Blk) : (m.setBlk e b).held = m.held := rfl
@[simp] theorem setBlk_heldMem (e : Nat) (b : Option Blk) : (m.setBlk e b).heldMem = m.heldMem := rfl
@[simp] theorem setBlk_pendF (e : Nat) (b : Option Blk) : (m.setBlk e b).pendF = m.pendF := rfl
@[simp] theorem setBlk_voteFailed (e : Nat) (b : Option Blk) : (m.setBlk e b).voteFailed = m.voteFailed := rfl
@[simp] theorem setBlk_upsets (e : Nat) (b : Option Blk) : (m.setBlk e b).upsets = m.upsets := rfl
@[simp] theorem setBlk_saved (e : Nat) (b : Option Blk) : (m.setBlk e b).saved = m.saved := rfl
@[simp] theorem setBlk_savedMem (e : Nat) (b : Option Blk) : (m.setBlk e b).savedMem = m.savedMem := rfl
@[simp] theorem setBlk_reports (e : Nat) (b : Option Blk) : (m.setBlk e b).reports = m.reports := rfl
@[simp] theorem setBlk_freeCtr (e : Nat) (b : Option Blk) : (m.setBlk e b).freeCtr = m.freeCtr := rfl
@[simp] theorem setBlk_host (e : Nat) (b : Option Blk) : (m.setBlk e b).host = m.host := rfl
@[simp] theorem setBlk_logq (e : Nat) (b : Option Blk) : (m.setBlk e b).logq = m.logq := rfl
@[simp] theorem setBlk_pwm (e : Nat) (b : Option Blk) : (m.setBlk e b).pwm = m.pwm := rfl
@[simp] theorem setBlk_sys (e : Nat) (b : Option Blk) : (m.setBlk e b).sys = m.sys := rfl
@[simp] theorem setBlk_lu (e : Nat) (b : Option Blk) : (m.setBlk e b).lu = m.lu := rfl
@[simp] theorem setBlk_engMap (e : Nat) (b : Option Blk) : (m.setBlk e b).engMap = m.engMap := rfl
@[simp] theorem setBlk_rings (e : Nat) (b : Option Blk) : (m.setBlk e b).rings = m.rings := rfl
@[simp] theorem setBlk_pb (e : Nat) (b : Option Blk) : (m.setBlk e b).pb = m.pb := rfl
@[simp] theorem setBlk_nvm (e : Nat) (b : Option Blk) : (m.setBlk e b).nvm = m.nvm := rfl
@[simp] theorem setBlk_sid (e : Nat) (b : Option Blk) : (m.setBlk e b).sid = m.sid := rfl
@[simp] theorem setBlk_hl (e : Nat) (b : Option Blk) : (m.setBlk e b).hl = m.hl := rfl
@[simp] theorem setBlk_clk (e : Nat) (b : Option Blk) : (m.setBlk e b).clk = m.clk := rfl
@[simp] theorem setBlk_afe (e : Nat) (b : Option Blk) : (m.setBlk e b).afe = m.afe := rfl
@[simp] theorem setBlk_gate (e : Nat) (b : Option Blk) : (m.setBlk e b).gate = m.gate := rfl
@[simp] theorem setBlk_can (e : Nat) (b : Option Blk) : (m.setBlk e b).can = m.can := rfl
@[simp] theorem setBlk_mtr (e : Nat) (b : Option Blk) : (m.setBlk e b).mtr = m.mtr := rfl
@[simp] theorem setBlk_il (e : Nat) (b : Option Blk) : (m.setBlk e b).il = m.il := rfl
@[simp] theorem setBlk_keep (e : Nat) (b : Option Blk) : (m.setBlk e b).keep = m.keep := rfl
@[simp] theorem setBlk_coll (e : Nat) (b : Option Blk) : (m.setBlk e b).coll = m.coll := rfl
@[simp] theorem setBlk_tap (e : Nat) (b : Option Blk) : (m.setBlk e b).tap = m.tap := rfl

/-! ### setIl -/

@[simp] theorem setIl_now (x : Il) : (m.setIl x).now = m.now := rfl
@[simp] theorem setIl_todSec (x : Il) : (m.setIl x).todSec = m.todSec := rfl
@[simp] theorem setIl_todNs (x : Il) : (m.setIl x).todNs = m.todNs := rfl
@[simp] theorem setIl_regs (x : Il) : (m.setIl x).regs = m.regs := rfl
@[simp] theorem setIl_mem (x : Il) : (m.setIl x).mem = m.mem := rfl
@[simp] theorem setIl_held (x : Il) : (m.setIl x).held = m.held := rfl
@[simp] theorem setIl_heldMem (x : Il) : (m.setIl x).heldMem = m.heldMem := rfl
@[simp] theorem setIl_pendF (x : Il) : (m.setIl x).pendF = m.pendF := rfl
@[simp] theorem setIl_voteFailed (x : Il) : (m.setIl x).voteFailed = m.voteFailed := rfl
@[simp] theorem setIl_upsets (x : Il) : (m.setIl x).upsets = m.upsets := rfl
@[simp] theorem setIl_saved (x : Il) : (m.setIl x).saved = m.saved := rfl
@[simp] theorem setIl_savedMem (x : Il) : (m.setIl x).savedMem = m.savedMem := rfl
@[simp] theorem setIl_reports (x : Il) : (m.setIl x).reports = m.reports := rfl
@[simp] theorem setIl_freeCtr (x : Il) : (m.setIl x).freeCtr = m.freeCtr := rfl
@[simp] theorem setIl_host (x : Il) : (m.setIl x).host = m.host := rfl
@[simp] theorem setIl_logq (x : Il) : (m.setIl x).logq = m.logq := rfl
@[simp] theorem setIl_pwm (x : Il) : (m.setIl x).pwm = m.pwm := rfl
@[simp] theorem setIl_sys (x : Il) : (m.setIl x).sys = m.sys := rfl
@[simp] theorem setIl_lu (x : Il) : (m.setIl x).lu = m.lu := rfl
@[simp] theorem setIl_eng (x : Il) : (m.setIl x).eng = m.eng := rfl
@[simp] theorem setIl_engMap (x : Il) : (m.setIl x).engMap = m.engMap := rfl
@[simp] theorem setIl_rings (x : Il) : (m.setIl x).rings = m.rings := rfl
@[simp] theorem setIl_pb (x : Il) : (m.setIl x).pb = m.pb := rfl
@[simp] theorem setIl_nvm (x : Il) : (m.setIl x).nvm = m.nvm := rfl
@[simp] theorem setIl_sid (x : Il) : (m.setIl x).sid = m.sid := rfl
@[simp] theorem setIl_hl (x : Il) : (m.setIl x).hl = m.hl := rfl
@[simp] theorem setIl_clk (x : Il) : (m.setIl x).clk = m.clk := rfl
@[simp] theorem setIl_afe (x : Il) : (m.setIl x).afe = m.afe := rfl
@[simp] theorem setIl_gate (x : Il) : (m.setIl x).gate = m.gate := rfl
@[simp] theorem setIl_can (x : Il) : (m.setIl x).can = m.can := rfl
@[simp] theorem setIl_mtr (x : Il) : (m.setIl x).mtr = m.mtr := rfl
@[simp] theorem setIl_keep (x : Il) : (m.setIl x).keep = m.keep := rfl
@[simp] theorem setIl_coll (x : Il) : (m.setIl x).coll = m.coll := rfl
@[simp] theorem setIl_tap (x : Il) : (m.setIl x).tap = m.tap := rfl

/-! ### The fields changed -/

@[simp] theorem wr_regs (a : Nat) (v : DWord) : (m.wr a v).regs = SMap.put regReset m.regs a v := rfl
@[simp] theorem setMb_mem (a : Nat) (b : Byte) : (m.setMb a b).mem = SMap.put memReset m.mem a b := rfl
@[simp] theorem setMb_eng (a : Nat) (b : Byte) :
    (m.setMb a b).eng = { m.eng with failing := m.eng.failing.filter (· ≠ a / 4 * 4) } := rfl
@[simp] theorem raise_reports (s i : Nat) (o : Owner) :
    (m.raise s i o).reports = m.reports ++ [⟨s, BitVec.ofNat 32 i, o, m.now, m.todSec, m.todNs⟩] := rfl
@[simp] theorem setBlk_blk_same (e : Nat) (b : Option Blk) : (m.setBlk e b).blk e = b := SMap.getD_setD_same _ _ _ _
theorem setBlk_blk_ne {e l : Nat} (b : Option Blk) (h : e ≠ l) : (m.setBlk e b).blk l = m.blk l := SMap.getD_setD_ne _ _ _ h
@[simp] theorem setIl_il (x : Il) : (m.setIl x).il = x := rfl

end Sys2Proof.Machine
end

