-- ==== Sys2Proof/Tests/Slice0.lean ====
section
/-! SUPPORT. Slice0.lean: tests of the model. First the checks of WellFormed, each with a command that it refuses; then
single commands against values that the manual states or that follow from its tables by hand; then, for each statement of
Certificates/Slice0/Obligations.lean that has hypotheses, a state and operands that meet them, clause by clause. -/

namespace Sys2Proof.Tests

open Machine

set_option maxRecDepth 20000
set_option Elab.async false

/-! ### States -/

/-- The module supplied and past INSPECT, everything else as at reset. -/
def on : Module := { State.reset.mod with sys := { State.reset.mod.sys with power := .on, inspecting := false, holdUp := false } }

/-- A state with an empty queue. -/
def st (m : Module) : State := ⟨m, []⟩

/-- A fact about the module after a command; false where it is not answered with a next state. -/
def after (c : Instr) (m : Module) (p : Module → Bool) : Bool :=
  match exec c (st m) with
  | .next s => p s.mod
  | _ => false

/-- A task of 100 code words with 64 bytes of DM at 0x100, every transform unit and loop unit 3, and outputs of each kind. -/
def task : TaskInfo :=
  ⟨5, 0, 0, 100, 0x018A0000, 0x100, 0x40, 0, 0, 0, 0, 8, 31, false, [(1, 2), (2, 1), (3, 1)], [],
    [⟨0x018A3000, 4, 2, 8, none⟩], 0⟩

/-- A block of that task just started on engine 0. -/
def blk : Blk :=
  { entry := 1, task := 5, svc := 0, firm := true, prot := false, mon := false, start := 0, periodStart := 0, periodIdx := 0
    state := .running, readyAt := 0, rerun := false
    regs := ((startRegs 0 0 0x100).setG 4 0x10C).setG 6 2, shadow := startRegs 0 0 0x100
    pc := 0, calls := [], reps := [], journal := [], st := Staged.empty, wait := none, viewMem := [], viewSv := [],
    viewCyc := [], viewAfe := [] }

/-- Copy A active, entry 1 of service 0 on engine 0, and one yard region of 4 KiB that engine 0 may read and write. -/
def table : Module :=
  let m := (on.setFlag R.TTB_STAT F.TTB_STAT_NONE false).wf R.SYS_MODE F.SYS_MODE_MODE 7
  let m := m.wf R.CLK_STAT F.CLK_STAT_STATE 3
  let m := { m with eng := { m.eng with tasks := [(5, some task)] } }
  let m := (m.setMn 0x01830010 4 0x80010000).setMn 0x01838000 4 0x80010000
  let m := (m.setMn 0x01838004 4 0x01010000).setMn 0x01830110 4 (2 ^ 31 + 5)
  (m.setMn 0x01830118 4 1000)

/-- The block open on engine 0, as changed by `f`. -/
def engine (f : Blk → Blk) : Module := { table with eng := { table.eng with blks := [(0, some (f blk))] } }

/-- Engine 0, no detector. -/
def e0 : Issue := ⟨0, none⟩

theorem test_region_granted : (table.yardReadable 0 0 && table.yardWritable 0 0xFFC && !table.yardReadable 1 0
    && !table.yardReadable 0 0x1000) = true := by decide +kernel

/-! ### WellFormed refuses -/

theorem wf_regions : Instr.wellFormed (.admissionDone (List.replicate 65 (0, 0))) = false
    ∧ Instr.wellFormed (.admissionDone (List.replicate 64 (0, 0))) = true := by decide +kernel
theorem wf_codes : Instr.wellFormed (.sequenceComplete 0 (List.replicate 17 0)) = false := by decide +kernel
theorem wf_readings : Instr.wellFormed (.openWireDone [(3, 1), (3, 2)]) = false
    ∧ Instr.wellFormed (.cmpTestDone [(27, 0), (27, 0)]) = false := by decide +kernel
theorem wf_canData : Instr.wellFormed (.canVcmdReceived 0 0 (List.replicate 65 0)) = false
    ∧ Instr.wellFormed (.canBmsReceived 1 3 (List.replicate 65 0)) = false := by decide +kernel
theorem wf_ringFrame : Instr.wellFormed (.cycleComplete 0 (some ⟨true, false, 0, [(4, 0), (4, 1)]⟩) none) = false := by decide +kernel
theorem wf_training : Instr.wellFormed (.trainingComplete 0 (.failed 0 1)) = false
    ∧ Instr.wellFormed (.trainingComplete 0 (.failed 4 1)) = false
    ∧ Instr.wellFormed (.trainingComplete 0 (.found (List.replicate 513 ⟨0, 0, 1, false, 0⟩) 0)) = false := by decide +kernel
theorem wf_svFrame : Instr.wellFormed (.svFrameReceived 0 ⟨⟨0, 5, none, none, 7, false, false⟩, [], 0, []⟩) = false
    ∧ Instr.wellFormed (.svFrameReceived 0 ⟨⟨0, 5, none, none, 7, false, false⟩, List.replicate 33 65, 0, [⟨0, 0, []⟩]⟩) = false := by
  decide +kernel
theorem wf_tokenFrame : Instr.wellFormed (.tokenFrameReceived 0 (List.replicate 129 0)) = false := by decide +kernel
theorem wf_repeats : Instr.wellFormed (.testPulseCheck 0 [5, 5]) = false ∧ Instr.wellFormed (.darkPulseTest [1, 1]) = false
    ∧ Instr.wellFormed (.generatorLoopbackCheck [7, 7]) = false
    ∧ Instr.wellFormed (.voteScrub (.pass [5, 5])) = false := by decide +kernel
theorem wf_inspectCode : Instr.wellFormed (.inspectEnd [0] [] 0) = false ∧ Instr.wellFormed (.inspectEnd [0x0501] [0] 0) = false := by
  decide +kernel
theorem wf_haltCause : Instr.wellFormed (.haltEnter 2 0) = false ∧ Instr.wellFormed (.haltEnter 0xB 0) = false
    ∧ Instr.wellFormed (.haltEnter 0xA 0) = true := by decide +kernel

/-! ### Single commands against values of the manual -/

/-- No word spells a command: no row of the opcode table has bits. -/
theorem test_noWord : decodeTableWord 32 0x0CA50004 = none ∧ (State.reset.withFetchWord 32 0).pending = [] := by decide

/-- The check values that the makers of the two codes publish for the nine digits. -/
theorem test_crc : crc32c (((List.range 9).map (fun i => BitVec.ofNat 8 (0x31 + i)))) = 0xE3069283
    ∧ crc16 (((List.range 9).map (fun i => BitVec.ofNat 8 (0x31 + i)))) = 0x29B1 := by decide +kernel

/-- A word of g9 after one instruction of the block, with g7 and g8 as given. -/
def g9 (c : Instr) (p q v : Word) : Bool :=
  after c (engine (fun b => { b with regs := (b.regs.setG 7 p).setG 8 q })) (fun m =>
    (m.blk 0).any (fun b => b.regs.rg 9 == v && b.pc == 1))

/-- R126, R127 by hand: wrapping, saturation, sign, and the table of division. -/
theorem test_arithmetic : g9 (.add e0 9 7 8) 0xFFFFFFFF 2 1 = true ∧ g9 (.adds e0 9 7 8) 0x7FFFFFFF 1 0x7FFFFFFF = true
    ∧ g9 (.subs e0 9 7 8) 0x80000000 1 0x80000000 = true ∧ g9 (.sar e0 9 7 8) 0x80000000 33 0xC0000000 = true
    ∧ g9 (.mulh e0 9 7 8) 0xFFFFFFFF 2 0xFFFFFFFF = true ∧ g9 (.div e0 9 7 8) 0xFFFFFFF9 2 0xFFFFFFFD = true
    ∧ g9 (.rem e0 9 7 8) 0xFFFFFFF9 2 0xFFFFFFFF = true ∧ g9 (.div e0 9 7 8) 0xFFFFFFFF 0 0x80000000 = true
    ∧ g9 (.divu e0 9 7 8) 5 0 0xFFFFFFFF = true ∧ g9 (.rem e0 9 7 8) 5 0 5 = true := by decide +kernel

/-- R123: `addi` sign-extends its field, `li` takes a second word. -/
theorem test_immediates : g9 (.addi e0 9 7 0xFFFF) 3 0 2 = true
    ∧ after (.liG e0 9 0x3F733333) (engine id) (fun m => (m.blk 0).any (fun b => b.regs.rg 9 == 0x3F733333 && b.pc == 2)) = true := by
  decide +kernel

/-- A word of f9 after one instruction of the block, with f7 and f8 as given. -/
def f9 (c : Instr) (p q v : Word) (x : Nat) : Bool :=
  after c (engine (fun b => { b with regs := (b.regs.setF 7 p).setF 8 q })) (fun m =>
    (m.blk 0).any (fun b => b.regs.rF 9 == v && b.regs.fpx == x))

/-- binary32 by hand: 0.1 + 0.2 and 0.31 - 0.12 are inexact (bit 0), 1 / 0 divides by zero (bit 3), inf - inf is invalid (bit 4). -/
theorem test_float : f9 (.fadd e0 9 7 8) 0x3DCCCCCD 0x3E4CCCCD 0x3E99999A 1 = true
    ∧ f9 (.fdiv e0 9 7 8) 0x3F800000 0 0x7F800000 8 = true ∧ f9 (.fsub e0 9 7 8) 0x7F800000 0x7F800000 0x7FC00000 16 = true := by
  decide +kernel

/-- The worked example of the loop units: TRACK with u = 0.31 and ff = 0.12 leaves I = 0.19, D = 0 and PRIMED = 0. -/
theorem test_track : (let m := ((on.wn (R.LU_LO 4) 0xBF800000).wn (R.LU_HI 4) 0x3F800000)
    let r := m.luTrack 4 (m.luState 4) 0x3E9EB852 0x3DF5C28F
    r.1 = 0x3E9EB852 ∧ r.2.s0 = 0x3E428F5C ∧ r.2.s1 = 0 ∧ r.2.primed = false ∧ r.2.trk = true) := by decide +kernel

/-- A burst request of the lamp-line peer on a store of 1 F with E_RES 1,000 µJ. -/
def asked (energy : Nat) : Module :=
  let m := (on.wn R.KEEP_CAP 1000000).setFlag R.KEEP_LAMP F.KEEP_LAMP_EN true
  let m := m.setFlag R.KEEP_STAT F.KEEP_STAT_CAPBAD false
  { m with keep := { m.keep with stopped := false, queue := [⟨0, 1, energy, 30000, 7⟩] } }

/-- The worked example of the Keeper: 2,500,000 µJ at 3.100 V are granted with v_pred 2,147 mV, 3,000,000 µJ are denied with
reason 0x2, and at 2.100 V the request is denied with reason 0x1. -/
theorem test_burst : after (.burstDecide 3100) (asked 2500000) (fun m =>
      m.keep.burst == some ⟨⟨0, 1, 2500000, 30000, 7⟩, 3100, 2147⟩ && m.keep.sent == some (0x82, 7, leBytes 2 2147)) = true
    ∧ after (.burstDecide 3100) (asked 3000000) (fun m => m.keep.burst.isNone && m.keep.sent == some (0x83, 7, [2])) = true
    ∧ after (.burstDecide 2100) (asked 2500000) (fun m => m.keep.burst.isNone && m.keep.sent == some (0x83, 7, [1])) = true := by
  decide +kernel

/-- R67: SYS_ID reads 0x4D44_8016. R58: an address without a register is refused with reason 0x1. -/
theorem test_registers : after (.hostAccessComplete (.pcie 2 0)) on (fun m => m.host.pcie == .data 0x4D448016) = true
    ∧ after (.registerWrite 2 0x34 0 none) on (fun m => m.rf R.HOST_VIOL_INFO F.HOST_VIOL_INFO_REASON == 1
        && m.rn R.HOST_VIOL_CNT == 1) = true := by decide +kernel

/-- A block that commits: its staged yard word stands only after the block's end, the journalled DM word at once. -/
theorem test_commit :
    after (.sty e0 4 0 0) (engine id) (fun m => m.mw 0 == 0 && (m.blk 0).any (fun b => b.st.words == [(0, 0x10C)])) = true
    ∧ after (.st e0 6 4 0) (engine id) (fun m => m.mw (m.dmAddr 0 0x10C) == 2) = true
    ∧ after (.blockEnd 0) (engine (fun b => { b with state := .ready, st := { Staged.empty with words := [(0, 5)] } }) |>
        fun m => { m with now := 10 }) (fun m => m.mw 0 == 5 && (m.blk 0).isNone) = true := by decide +kernel

/-- A task that is not ready at its end tick is at danger: the DM word returns and TTB_OVR counts (R88, R105). -/
theorem test_danger : after (.blockEnd 0) (engine (fun b => { b with journal := [(0x10C, 7)] })) (fun m =>
    m.mw (m.dmAddr 0 0x10C) == 7 && m.rn (R.TTB_OVR 0) == 1) = true := by decide +kernel

/-- On an empty queue a tick passes, or without ticks a crystal mark; a command waits its turn (log 2). -/
theorem test_step : (match step (st table) with | .next t => t.mod.now == table.now + 1 && t.mod.todNs == table.todNs + 2 | _ => false) = true
    ∧ (match step (st on) with | .next t => t.mod.now == on.now + 20 && t.mod.todNs == on.todNs + 40 | _ => false) = true
    ∧ (match step ⟨on, [.seatedOpen, .spiStatus]⟩ with | .next t => !t.mod.sys.seated && t.pending == [.spiStatus] | _ => false) = true := by
  decide +kernel

/-! ### Witnesses: engines -/

/-- A running block meets the hypotheses of every statement over `GoesOn`: at its first word, at its last, and at the end of
a repeated body, which begins again. -/
theorem wit_goesOn : GoesOn (engine id) e0 1 blk 1 [] ∧ GoesOn (engine id) e0 2 blk 2 []
    ∧ GoesOn (engine (fun b => { b with pc := 99 })) e0 1 { blk with pc := 99 } 100 []
    ∧ GoesOn (engine (fun b => { b with reps := [⟨0, 1, 2, 0⟩] })) e0 1 { blk with reps := [⟨0, 1, 2, 0⟩] } 0 [⟨0, 1, 1, 0⟩] := by
  refine ⟨⟨⟨?_, ?_, ?_, ?_, ?_⟩, ?_⟩, ⟨⟨?_, ?_, ?_, ?_, ?_⟩, ?_⟩, ⟨⟨?_, ?_, ?_, ?_, ?_⟩, ?_⟩, ⟨⟨?_, ?_, ?_, ?_, ?_⟩, ?_⟩⟩
    <;> decide +kernel

/-- The same for the statements over `Issues`. -/
theorem wit_issues : Issues (engine id) e0 blk := wit_goesOn.1.issues

/-- FpArithmeticSelectionAndBits: finite operands; a NaN beside a number; an order between numbers; a NaN result. -/
theorem wit_fp : (Fp.isFinite 0x3F800000 && Fp.isFinite 0x7F7FFFFF && Fp.isNaN 0x7F800001 && !Fp.isNaN 0
    && Fp.lt 0xBF800000 0x00000001 && Fp.isNaN (Fp.sub 0x7F800000 0x7F800000).1) = true := by decide +kernel

/-- LoadsAndTableAccesses, StoresAreJournalledOrStaged: the first and the last DM word and yard word of the task, its table
item, and room in journal and buffer. -/
theorem wit_memory : (engine id).taskInfo e0.le blk.task = some task ∧ task.dmBase ≤ 0x100 ∧ 0x13C < task.dmBase + task.dmSize
    ∧ (engine id).yardReadable e0.le 0 = true ∧ (engine id).yardReadable e0.le 0xFFC = true
    ∧ (engine id).yardWritable e0.le 0 = true ∧ (engine id).yardWritable e0.le 0xFFC = true
    ∧ (∃ i, task.tbl[(0 : Fin 64).val]? = some i ∧ i.access = 2 ∧ 7 < i.count ∧ (1 : Fin 1024).val < i.size)
    ∧ blk.journal.length < 2048 ∧ blk.st.words.length < 1024 := by
  refine ⟨by decide +kernel, by decide, by decide, by decide +kernel, by decide +kernel, by decide +kernel, by decide +kernel,
    ⟨_, rfl, rfl, by decide, by decide⟩, by decide, by decide⟩

/-- BlockMovesCopyWords: sixteen words from the DM area of the task and from the yard region. -/
theorem wit_blockMoves : blk.regs.rg 3 = 0x100 ∧ (0x100 : Nat) + 4 * (15 : Fin 64).val < task.dmBase + task.dmSize
    ∧ (engine id).dmAddr e0.le 0x100 + 4 * 16 ≤ 0x01500000
    ∧ (∀ k < 16, (engine id).yardReadable e0.le (0 + 4 * k) = true ∧ (engine id).yardWritable e0.le (0 + 4 * k) = true) := by
  decide +kernel

/-- The block inside a body of two words that has two iterations left, one call deep. -/
def inBody (b : Blk) : Blk := { b with pc := 11, reps := [⟨10, 12, 2, 1⟩], calls := [40] }

/-- ControlFlowAndRepeatedBodies: a branch inside its body, one to its end, a brk, a call, a ret outside a body, and a body
that ends within another that ends there too. -/
theorem wit_controlFlow :
    (inBody blk).pc + (1 : BitVec 22).toNat = 12
    ∧ closeBody 1 [⟨10, 12, 2, 1⟩] 12 = some (10, [⟨10, 12, 1, 1⟩])
    ∧ closeBody 1 [] 12 = some (12, []) ∧ (inBody blk).calls.length < 8
    ∧ closeBody 0 [⟨5, 41, 3, 0⟩] 40 = some (40, [⟨5, 41, 3, 0⟩])
    ∧ closeBody 0 [⟨0, 3, 1, 0⟩, ⟨2, 3, 2, 0⟩] 3 = some (2, [⟨2, 3, 1, 0⟩])
    ∧ (engine id).mn ((engine id).imAddr e0.le ((engine id).imOff e0.le blk 1)) 4 < 0x10000
    ∧ Issues (engine inBody) e0 (inBody blk) := by
  refine ⟨by decide, by decide, by decide, by decide, by decide, by decide, by decide +kernel, ?_⟩
  exact ⟨by decide +kernel, rfl, rfl, rfl, by decide +kernel⟩

/-- InstructionsStopBeforeTheirEffect: no block; a stopped one; a wait; a fetch at the end of the code. -/
theorem wit_stopsBefore : table.blk 0 = none
    ∧ (engine (fun b => { b with state := .stopped })).blk 0 = some { blk with state := .stopped }
    ∧ (engine (fun b => { b with wait := some ⟨0, 0, 5, 0, 1⟩ })).blk 0 = some { blk with wait := some ⟨0, 0, 5, 0, 1⟩ }
    ∧ (engine (fun b => { b with pc := 100 })).codeWords 0 { blk with pc := 100 } ≤ 100 := by decide +kernel

/-- ChecksOfMemoryAccesses: an unaligned address, one below and one behind the DM area, a yard word without the right, a full
journal, a table item, an entry and a word that do not exist. -/
theorem wit_checks : (0x10D : Nat) % 4 ≠ 0 ∧ (0xFC : Nat) < task.dmBase ∧ task.dmBase + task.dmSize ≤ 0x140
    ∧ (engine id).yardReadable 0 0x1000 = false ∧ (engine id).yardWritable 0 0x1000 = false
    ∧ 2048 ≤ ({ blk with journal := List.replicate 2048 (0x100, 0) } : Blk).journal.length
    ∧ task.tbl[(1 : Fin 64).val]? = none ∧ (∃ i, task.tbl[(0 : Fin 64).val]? = some i ∧ i.count ≤ 8 ∧ i.size ≤ 4) := by
  refine ⟨by decide, by decide, by decide, by decide +kernel, by decide +kernel, by decide +kernel, by decide, ⟨_, rfl, by decide, by decide⟩⟩

/-- LoopUnitOperationsAndLimits: unit 3 is booked; finite limits in order with finite inputs and a finite raw output; an
input that is not finite. -/
theorem wit_loop : task.luMap.testBit (3 : Fin 128).val = true
    ∧ (let m := ((engine id).wn (R.LU_LO 3) 0xBF800000).wn (R.LU_HI 3) 0x3F800000
       Fp.isFinite (m.luLo 3) = true ∧ Fp.isFinite (m.luHi 3) = true ∧ Fp.lt (m.luLo 3) (m.luHi 3) = true
       ∧ Fp.isFinite (Fp.add (luCand (m.luForm 3) (m.luK 3) (m.luState 3) 0x3F800000).yc 0).1 = true)
    ∧ Fp.isFinite 0x7F800000 = false := by decide +kernel

/-- TransformsWriteTheirOutputs: unit 3 is booked, and the largest range, three outputs from f29, fits. -/
theorem wit_transform : task.xsMap.testBit (3 : Fin 4).val = true
    ∧ (∀ n < 10, (5 : Fin 32).val + Xfm.outputs n ≤ 32 ∧ (5 : Fin 32).val + (Xfm.inputs n).1 ≤ 32)
    ∧ ∃ w ∈ [(0x7F800000 : Word), 0, 0], Fp.isFinite w = false :=
  ⟨by decide +kernel, by decide +kernel, 0x7F800000, List.mem_cons_self, by decide +kernel⟩

/-- StagedPrimitives: the outputs are booked, and the operands lie in their ranges. -/
theorem wit_staged : blk.mon = false ∧ ((1, (2 : Fin 32).val) ∈ task.outs) ∧ ((3, (1 : Fin 4).val) ∈ task.outs)
    ∧ (∀ field : Fin 32, field.val < 8 → (blk.regs.rg 0).toNat < 2 ^ consistWidth field)
    ∧ blk.regs.rg 4 ≠ 0 ∧ (blk.regs.rg 4).toNat ≤ 10000000 ∧ (20 : Fin 32).val + 12 ≤ 32
    ∧ sourceProgram 0xE0 = true ∧ blk.st.evts.length < 16 ∧ task.xsMap.testBit 4 = true ∧ blk.regs.rg 0 = 0
    ∧ (let m := (engine id).setMn 0x01840000 4 (2 ^ 31 + 8 * 2 ^ 16)
       m.svUnread 0 7 = false ∧ m.svUnread 0 8 = true) := by decide +kernel

/-- StagedPrimitives: `sel` for one arm, whose word in DM asks for no cell and whose cells are few. -/
theorem wit_selArm : ((({ blk with regs := blk.regs.setG 7 4 } : Blk).regs.rg 7).toNat = 2 ^ 2)
    ∧ (engine id).dmLoad 0 blk ((blk.regs.rg 3).toNat + 4 * 2) = .ok 0 ∧ bitsN (0 : Word).toNat 10 0 ≤ 1024
    ∧ (((engine id).view blk).armCells 2).length ≤ 256 * (16 : Fin 32).val :=
  ⟨by decide +kernel, by decide +kernel, by decide +kernel,
    (List.length_filter_le _ _).trans (by rw [List.length_range]; decide)⟩

/-- Ring port 1 with four cells from cell-table entry 8, in a module whose block sees the response of the first. -/
def ringed (f : Blk → Blk) : Module :=
  let m := engine (fun b => f { b with viewMem := (table.setMn (0x01800000 + 48 * 8 + 0x10) 4 0x80).mem, viewCyc := [0, 7] })
  m.setPort 1 { RingPort.init with cfg := { RingPort.init.cfg with en := true, count := 4, base := 8 } }

/-- RingPrimitives: the port may be named, its last cell lies below the count, the first has answered and the last has not,
and a slow request whose range ends at 255. -/
theorem wit_ring : (ringed id).portNamed 1 = true ∧ blk.mon = false ∧ (2, (1 : Fin 16).val) ∈ task.outs
    ∧ 3 < ((ringed id).port 1).cfg.count ∧ (30 : Fin 32).val + 2 ≤ 32 ∧ (0xFFFF : Word).toNat ≤ 0xFFFF
    ∧ bitsN (0x08F70000 : Word).toNat 23 16 + bitsN (0x08F70000 : Word).toNat 27 24 ≤ 255
    ∧ (∃ k, (ringed id).blk 0 = some k
      ∧ (((ringed id).view k).mn ((ringed id).cellEntry 1 0 + 0x10) 1).testBit 7 = true
      ∧ (((ringed id).view k).mn ((ringed id).cellEntry 1 3 + 0x10) 1).testBit 7 = false) := by
  refine ⟨by decide +kernel, by decide, by decide, by decide +kernel, by decide, by decide, by decide +kernel,
    ⟨_, rfl, by decide +kernel, by decide +kernel⟩⟩

/-- A wait of engine 0 for delay (kind 0) or ring cycle (6) with a bound of 50 ticks from tick 100. -/
def waits (ev now : Nat) : Module :=
  { engine (fun b => { b with wait := some ⟨ev, 3, 50, 100, 9⟩ }) with now := now }

/-- WaitsAndTheirRelease: a firm block, a bound and the last instance of each kind; an event at the bound; no event at the
bound; no event before it. -/
theorem wit_wait : blk.firm = true ∧ (1 : BitVec 13) ≠ 0 ∧ waitMax 0 = 0 ∧ waitMax 1 = 3 ∧ waitMax 2 = 15
    ∧ ({ waits 6 160 with eng := { (waits 6 160).eng with events := [(99, 151)] } } : Module).waitEvent
        { blk with wait := some ⟨6, 3, 50, 100, 9⟩ } ⟨6, 3, 50, 100, 9⟩ = some 150
    ∧ (waits 0 150).waitEvent { blk with wait := some ⟨0, 3, 50, 100, 9⟩ } ⟨0, 3, 50, 100, 9⟩ = none
    ∧ 100 + 50 ≤ (waits 0 150).now ∧ (waits 0 149).now < 100 + 50
    ∧ closeBody blk.calls.length blk.reps (blk.pc + 1) = some (1, []) := by decide +kernel

/-- BlockStartsFromItsEntry: the entry starts on engine 0; not on engine 1, nor while a block is open; with and without its
DM due for a fresh load. -/
theorem wit_blockStart : table.activeCopy = some 0
    ∧ (∃ e, table.entry 0 1 = some e ∧ e.idx = 1 ∧ table.blockRuns 0 0 e = true ∧ table.blockRuns 0 1 e = false
      ∧ (engine id).blockRuns 0 0 e = false ∧ ((0 : Fin 8).val, e.task) ∉ table.eng.reinit
      ∧ (let m : Module := { table with eng := { table.eng with reinit := [(0, 5)] } }
         m.blockRuns 0 0 e = true ∧ ((0 : Fin 8).val, e.task) ∈ m.eng.reinit ∧ m.taskInfo 0 e.task = some task)) := by
  refine ⟨by decide +kernel, ⟨⟨1, 0, 0, true, false, false, 0, 5, 0, 0, 1000, 0⟩, ?_⟩⟩
  decide +kernel

/-- The end tick of a block that executed cmt at tick 96, with `x` staged. -/
def ready (x : Staged) : Module :=
  { engine (fun b => { b with state := .ready, readyAt := 96, st := x }) with now := 100 }

/-- BlocksEndWithCommitOrDanger: two staged words; the last mailbox; a silent core; a running block with a journal. -/
theorem wit_blockEnd : (∃ b, (ready { Staged.empty with words := [(0, 1), (4, 2)] }).blk 0 = some b ∧ b.state = .ready
      ∧ b.readyAt + 4 ≤ (ready Staged.empty).now)
    ∧ (ready Staged.empty).sys.coreSilent = false
    ∧ (∀ w ∈ [((0 : Nat), (1 : Word)), (0xFFFFFC, 2)], w.1 % 4 = 0 ∧ w.1 < 0x01000000)
    ∧ ([((0 : Nat), (1 : Word)), (0xFFFFFC, 2)].map (·.1)).Nodup ∧ (7 : Nat) < 8
    ∧ (engine id).rn (R.TTB_OVR 0) < 0xFFFFFFFE
    ∧ (∀ p ∈ [((0x100 : Nat), (7 : Word)), (0x104, 8)], ∀ q ∈ [((0x100 : Nat), (7 : Word)), (0x104, 8)],
        q = p ∨ q.1 + 4 ≤ p.1 ∨ p.1 + 4 ≤ q.1) := by
  refine ⟨⟨_, rfl, rfl, by decide⟩, by decide +kernel, by decide, by decide, by decide, by decide +kernel, by decide⟩

/-- EngineUpkeep: a draining block, a failing line, a row under retirement, a substitution that copies, a unit not marked. -/
theorem wit_upkeep :
    ([(0, [5]), (1, [6])] : List (Nat × List Nat)).find? (fun d => d.1 == (0 : Fin 8).val) = some (0, [5])
    ∧ ((0 : Fin 8).val, (1023 : Fin 1024).val) ∈ [(0, 1023)]
    ∧ (on.wf R.SID_STAT F.SID_STAT_STATE 1).rf R.SID_STAT F.SID_STAT_STATE = 1
    ∧ on.up = true ∧ on.marked .generator (33 : Fin 34) = false := by decide +kernel

/-- AdmissionShowsItsResult: copy B in admission. -/
theorem wit_admission : (let m := table.setFlag R.TTB_STAT F.TTB_STAT_BUSY true
    let m : Module := { m with eng := { m.eng with armCopy := some 1 } }
    m.eng.armCopy = some 1 ∧ m.flag R.TTB_STAT F.TTB_STAT_BUSY = true) ∧ table.eng.armCopy = none := by decide +kernel

/-! ### Witnesses: the module, its host and its clock -/

/-- `on` in mode `n`. -/
def mode (n : Nat) : Module := on.wf R.SYS_MODE F.SYS_MODE_MODE n

/-- FrameStartWordTellsTheFrame and the statements over a supplied module: past INSPECT, in INSPECT, halted, in another mode. -/
theorem wit_modes : on.up = true ∧ on.sys.power = .on ∧ (mode 3).rf R.SYS_MODE F.SYS_MODE_MODE = 3
    ∧ (mode 7).rf R.SYS_MODE F.SYS_MODE_MODE ≠ 3 ∧ (mode 7).flag R.SYS_MODE F.SYS_MODE_HALTING = false
    ∧ on.rf R.SID_HL_STAT F.SID_HL_STAT_ROLE ≠ 2 ∧ State.reset.mod.up = false := by decide +kernel

/-- RegisterReadsAndTheirEffects: a latch for the register and none; a module not supplied. -/
theorem wit_reads : (let m : Module := { on with host := { on.host with high := [(0, some ⟨R.SYS_UID, 0x1234⟩)] } }
      m.highOf .pcie = some ⟨R.SYS_UID, 0x1234⟩) ∧ on.highOf .pcie = none ∧ ({ on.sys with power := .watch } : Sys).power ≠ .on := by decide +kernel

/-- RefusedRegisterAccesses: no posted-write error, INSPECT under way or not, the role of a standby. -/
theorem wit_refused : on.flag R.HOST_PWERR F.HOST_PWERR_ERR = false ∧ on.sys.inspecting = false
    ∧ (0xFFFFFF : BitVec 25).toNat < 0x1000000 ∧ (0x3FFFFF : BitVec 25).toNat < 0x400000
    ∧ ({ on with sys := { on.sys with inspecting := true } } : Module).flag R.HOST_PWERR F.HOST_PWERR_ERR = false
    ∧ (let m := on.wf R.SID_HL_STAT F.SID_HL_STAT_ROLE 2
       m.rf R.SID_HL_STAT F.SID_HL_STAT_ROLE = 2 ∧ m.flag R.HOST_PWERR F.HOST_PWERR_ERR = false)
    ∧ 256 ≤ (256 : BitVec 64).toNat % 2 ^ 32 := by decide +kernel

/-- Bar2AccessesAndTheYardBudget: an access within the budget of 512 beats, one past it, one held. -/
theorem wit_budget : on.host.queue = [] ∧ on.used Bus.host + ((0x018A37F8 + 8 + 15) / 16 - 0x018A37F8 / 16) ≤ on.budget Bus.host
    ∧ (let m : Module := { on with eng := { on.eng with budgetUsed := [(Bus.host, 512)] } }
       ¬ m.used Bus.host + ((0x018A3000 + 4 + 15) / 16 - 0x018A3000 / 16) ≤ m.budget Bus.host)
    ∧ (let m : Module := { on with host := { on.host with queue := [⟨0x018A3000, 4, none, false⟩] } }
       m.host.queue = ⟨0x018A3000, 4, none, false⟩ :: [])
    ∧ on.rn (R.TTB_DLY (5 : Fin 6)) < 0xFFFFFFFE ∧ (0x017FFFFF : BitVec 28).toNat < 0x01800000 := by decide +kernel

/-- SpiAndMaintenanceUart: a pending transaction, an overflow, a CRC that differs, the last address beyond the SYS block,
and an incident that MRAM holds. -/
theorem wit_spi : on.host.spi.req = none ∧ on.host.spi.ovf = false
    ∧ ({ on.host.spi with req := some ⟨false, 8, R.SYS_UID, 0⟩ } : SpiSlot).req = some ⟨false, 8, R.SYS_UID, 0⟩
    ∧ (0 : BitVec 16).toNat ≠ crc16 (0x0B :: leBytes 4 0) ∧ 0xFFF8 < (0xFFF9 : BitVec 16).toNat
    ∧ on.rf R.FLT_STAT F.FLT_STAT_INC = 0
    ∧ (let m := (on.wf R.FLT_STAT F.FLT_STAT_INC 0xFFFF).setMn (0x06630000 + 128 * 255) 4 0xFFFF
       0xFFFF = m.rf R.FLT_STAT F.FLT_STAT_INC ∧ m.mn (0x06630000 + 128 * (0xFFFF % 256)) 4 = 0xFFFF) := by decide +kernel

/-- LinkVotesAndSavedConfiguration: no failed vote, and a counter below its end. -/
theorem wit_votes : voteKey R.SYS_TIMES 0 ∉ on.voteFailed ∧ on.rn R.HOST_VOTE_FIX < 0xFFFFFFFE := by decide +kernel

/-- The module with the seating, the supply and the hold-up as given. -/
def supply (p : Power) (vmain seated removed hold : Bool) : Module :=
  { on with sys := { on.sys with power := p, vmainValid := vmain, seated := seated, removed := removed, holdUp := hold } }

/-- SupplySeatingAndHoldUp, InspectStartsAfreshAndEndsInHalt: each combination the statements name. -/
theorem wit_supply : on.keep.burst = none
    ∧ (let m := supply .on true false false false; m.sys.power = .on ∧ m.sys.seated = false ∧ m.sys.removed = false ∧ m.sys.holdUp = false)
    ∧ (supply .watch true true false false).sys.power ≠ .on ∧ (supply .on true true false true).sys.holdUp = true
    ∧ (supply .watch true true false false).sys.vmainValid = true ∧ (supply .on true true true false).sys.removed = true
    ∧ on.coll.inc = none ∧ on.saved = [] ∧ on.mtr.record = none
    ∧ (let m : Module := { on with sys := { on.sys with inspecting := true, abandoned := false } }
       m.sys.power = .on ∧ m.sys.inspecting = true ∧ m.sys.abandoned = false ∧ m.sys.holdUp = false) := by decide +kernel

/-- LimitsAndCoreSilence: STOPPING or not; DEPART without its limit; an active copy; a silent core with no report waiting. -/
theorem wit_limits : (on.setFlag R.SYS_MODE F.SYS_MODE_STOPPING true).flag R.SYS_MODE F.SYS_MODE_STOPPING = true
    ∧ (mode 7).flag R.SYS_MODE F.SYS_MODE_STOPPING = false
    ∧ (mode 6).rf R.SYS_MODE F.SYS_MODE_MODE = 6 ∧ (mode 6).sys.departTimeout = false
    ∧ table.up = true ∧ table.sys.coreSilent = false ∧ table.activeCopy ≠ none
    ∧ (let m : Module := { table with sys := { table.sys with coreSilent := true } }
       m.sys.coreSilent = true ∧ (∀ r ∈ m.reports, r.src ≠ FS.CORE_SILENT)
       ∧ m.rf R.SYS_HALT_CAUSE F.SYS_HALT_CAUSE_CAUSE ≠ 8) := by decide +kernel

/-- ArmingAndLoopUnitRequests: HALT and DEPOT without a copy, RUN with one, an admission under way, a mode below HALT. -/
theorem wit_arming : (∀ n ∈ [3, 4], (mode n).flag R.TTB_STAT F.TTB_STAT_BUSY = false
      ∧ (mode n).flag R.TTB_STAT F.TTB_STAT_ARMED = false ∧ 3 ≤ (mode n).rf R.SYS_MODE F.SYS_MODE_MODE
      ∧ (mode n).rf R.SYS_MODE F.SYS_MODE_MODE ≤ 4) ∧ (mode 5).activeCopy = none
    ∧ (mode 5).rf R.SYS_MODE F.SYS_MODE_MODE ≠ 3 ∧ (mode 5).rf R.SYS_MODE F.SYS_MODE_MODE ≠ 4
    ∧ (let m := (mode 3).setFlag R.TTB_STAT F.TTB_STAT_BUSY true
       m.flag R.TTB_STAT F.TTB_STAT_BUSY = true ∧ m.rf R.SYS_MODE F.SYS_MODE_MODE = 3)
    ∧ table.flag R.TTB_STAT F.TTB_STAT_BUSY = false ∧ table.flag R.TTB_STAT F.TTB_STAT_ARMED = false
    ∧ 3 ≤ table.rf R.SYS_MODE F.SYS_MODE_MODE ∧ ¬ 3 ≤ (mode 2).rf R.SYS_MODE F.SYS_MODE_MODE
    ∧ ({ table.eng with armCopy := some 1 } : Eng).armCopy ≠ none ∧ table.eng.armCopy = none := by decide +kernel

/-- The clock in state `st` with source `src` and policy `coast`. -/
def clock (st src : Nat) (coast : Bool) : Module :=
  ((on.wf R.CLK_STAT F.CLK_STAT_STATE st).wf R.CLK_CFG F.CLK_CFG_SRC src).setFlag R.CLK_CFG F.CLK_CFG_POLICY coast

/-- ClockLocksAndLoses, ClockServoMessagesAndCommands: each state with each source and policy that the statements name. -/
theorem wit_clock : (∀ x ∈ [0, 1, 2, 3, 4, 5, 6, 7], ∀ src ∈ [0, 1, 2, 3], ∀ c : Bool,
      (clock x src c).rf R.CLK_STAT F.CLK_STAT_STATE = x ∧ (clock x src c).rf R.CLK_CFG F.CLK_CFG_SRC = src
      ∧ (clock x src c).flag R.CLK_CFG F.CLK_CFG_POLICY = c)
    ∧ (let m := (clock 5 3 true).wf R.CLK_PTP F.CLK_PTP_PORT 3
       m.rf R.CLK_PTP F.CLK_PTP_PORT = (3 : Fin 4).val ∧ m.rf R.CLK_CFG F.CLK_CFG_SRC = 3 ∧ m.rf R.CLK_STAT F.CLK_STAT_STATE ≠ 6)
    ∧ (clock 3 3 true).clk.announces = [] ∧ (clock 3 3 true).rn R.CLK_GMID = 0
    ∧ (0 : BitVec 8).toNat = (clock 3 3 true).rf R.CLK_PTP F.CLK_PTP_DOMAIN
    ∧ (let m := ((clock 5 0 true).setFlag R.CLK_SLEW F.CLK_SLEW_STEP_OK true).wf R.SYS_MODE F.SYS_MODE_MODE 5
       m.flag R.CLK_SLEW F.CLK_SLEW_STEP_OK = true ∧ 3 ≤ m.rf R.SYS_MODE F.SYS_MODE_MODE ∧ m.rf R.SYS_MODE F.SYS_MODE_MODE ≤ 5)
    ∧ on.clk.divDue = none ∧ bitsN 0x17 7 4 * bitsN 0x17 3 0 < 8 ∧ 8 ≤ bitsN 0x24 7 4 * bitsN 0x24 3 0
    ∧ bitsN 0x34 7 4 * bitsN 0x34 3 0 ≤ 12 ∧ 12 < bitsN 0x1D 7 4 * bitsN 0x1D 3 0 := by decide +kernel

/-! ### Witnesses: the process bus, the analog front end, generators and the gate drive -/

/-- An SV frame of one sample, number 10, with one channel. -/
def svFrame : SvFrame := ⟨⟨0, 5, none, none, 7, false, false⟩, [1, 2], 9, [⟨10, 1, List.replicate 8 3⟩]⟩

/-- A GOOSE frame of two members. -/
def gsFrame : GsFrame :=
  { head := svFrame.head, fixed := false, gocbRef := [], datSet := [], goID := [], tal := 100, tSec := 5, tQual := 1,
    tFrac := 2, st := 3, sq := 4, test := false, confRev := 9, ndsCom := false, members := [.boolean true, .bits [true, false]] }

/-- SV subscription 31 and GOOSE subscription 63, each on every port, fed by the frames above. -/
def bus : Module :=
  let a := 0x01840000 + 64 * 31
  let m := (((on.setMn a 4 (2 ^ 31 + 15 * 2 ^ 26 + 2 ^ 16)).setMn (a + 4) 4 7).setMn (a + 8) 4 9).setMn (a + 0x20) 4 0x0201
  let b := 0x01844000 + 256 * 63
  let m := (((m.setMn b 4 (2 ^ 31 + 15 * 2 ^ 25 + 2)).setMn (b + 4) 4 7).setMn (b + 8) 4 9).setMn (b + 0xC0) 4 0x0201
  { m with todNs := 2600000 }

/-- ProcessBusPortsAndRedundancy: a pair of ports 2 and 3 with its LAN up, and no pair. -/
theorem wit_ports : (let m := (on.wf R.PB_CFG F.PB_CFG_PAIR1 2).setBit R.PB_STAT 7 true
      m.rf R.PB_CFG F.PB_CFG_PAIR1 = 2 ∧ m.bit R.PB_STAT (4 + (3 : Fin 4)) = true ∧ m.up = true)
    ∧ on.rf R.PB_CFG F.PB_CFG_PAIR1 = 0 ∧ on.portUsed 0 = false ∧ bus.portUsed 3 = true := by decide +kernel

/-- SampledValuesReceivedAndMissed: a frame that feeds one subscription, in time and late; one that feeds none; a slot that
times out, the third in a row. -/
theorem wit_sampled : bus.svFeeds 31 3 svFrame = true ∧ (∀ k < 31, bus.svFeeds k 3 svFrame = false)
    ∧ svFrame.head.tag = none ∧ svFrame.head.secured = false ∧ svFrame.head.sim = false ∧ bus.pb.svSim = []
    ∧ svFrame.confRev.toNat = bus.svEntry 31 2 ∧ 8 = 8 * bitsN (bus.svEntry 31 0) 20 16 ∧ 10 < bus.svRateOf 31
    ∧ (∀ n < 32, on.svFeeds n 0 svFrame = false)
    ∧ (let x := bus.svSampleOf 31 svFrame 0 ⟨10, 1, List.replicate 8 3⟩
       bus.todNanos ≤ x.nanos + 1000 * 2000 ∧ SMap.getD none (bus.platform 31).slots (x.num % 64) = none
       ∧ SMap.getD 0 bus.pb.svNext 31 ≤ x.num + 1)
    ∧ (let m : Module := { bus with todNs := 500000000 }
       (m.svSampleOf 31 svFrame 0 ⟨10, 1, List.replicate 8 3⟩).nanos + 1000 * 2000 < m.todNanos)
    ∧ (let m : Module := { bus with pb := { bus.pb with svNext := [(31, 11)], svRun := [(31, 2)], sv := [(31, ⟨[], false⟩)] } }
       m.svEnabled 31 = true ∧ SMap.getD 0 m.pb.svNext 31 ≠ 0 ∧ 3 ≤ SMap.getD 0 m.pb.svRun 31 + 1 ∧ (m.platform 31).lost = false)
    := by decide +kernel

/-- GooseReceivedAndLost: the first frame of a subscription, one of another shape, a repeated one, and one that feeds none. -/
theorem wit_goose : bus.gsFeeds 63 3 gsFrame = true ∧ (∀ k < 63, bus.gsFeeds k 3 gsFrame = false) ∧ bus.up = true
    ∧ gsFrame.fixed = false ∧ bus.pb.gsSim = [] ∧ bus.gsShape 63 gsFrame = true ∧ gsFrame.members.length ≤ 64
    ∧ bus.gsShape 63 { gsFrame with confRev := 8 } = false ∧ SMap.getD none bus.pb.gs 63 = none
    ∧ (∀ n < 64, on.gsFeeds n 0 gsFrame = false)
    ∧ (let m : Module := { bus with pb := { bus.pb with gs := [(63, some ⟨3, 4, 0⟩)] } }
       SMap.getD none m.pb.gs 63 = some ⟨3, 4, 0⟩ ∧ m.gsEnabled 63 = true ∧ m.gsFlag 63 0 = false)
    ∧ ¬ (gsFrame.st.toNat = 1 ∧ gsFrame.sq.toNat = 0) := by decide +kernel

/-- PublicationsAreSent: SV publication 3 and GOOSE publication 31, owned by the host and not, under way. -/
theorem wit_publications :
    (let m := ((on.setMn (0x01840800 + 256 * 3) 4 (2 ^ 31 + 8 * 2 ^ 16 + 24 * 2 ^ 11 + 4 * 2 ^ 23)).wf R.CLK_STAT F.CLK_STAT_STATE 3)
     let m : Module := { m with pb := { m.pb with svPubNext := [(3, 5)] } }
     (m.mnE (0x01840800 + 256 * 3) 4).testBit 31 = true ∧ bitsN (m.mnE (0x01840800 + 256 * 3) 4) 25 23 ≤ 4
       ∧ m.hl.hold = false ∧ m.ticking = true ∧ SMap.getD 0 m.pb.svPubNext 3 ≠ 0)
    ∧ (∀ own : Bool,
       let m := on.setMn (0x01848000 + 256 * 31) 4 (2 ^ 31 + 2 + if own then 2 ^ 30 else 0)
       let m : Module := { m with pb := { m.pb with pubs := [(31, some ⟨3, 0xFFFFFFFF, 80, 0, [], 5⟩)] } }
       (m.mnE (0x01848000 + 256 * 31) 4).testBit 31 = true ∧ (m.mnE (0x01848000 + 256 * 31) 4).testBit 30 = own
         ∧ SMap.getD none m.pb.pubs 31 = some ⟨3, 0xFFFFFFFF, 80, 0, [], 5⟩) := by decide +kernel

/-- Core 3 bound to trigger line 7, which is enabled, while ticks are delivered; a run of sixteen slots under way. -/
def triggered (busy : Nat) : Module :=
  let m := (on.wf R.CLK_STAT F.CLK_STAT_STATE 3).setFlag (R.AFE_TRIG 7) F.AFE_TRIG_EN true
  let m := ((m.setFlag (R.AFE_SEQ 3) F.AFE_SEQ_EN true).wf (R.AFE_SEQ 3) F.AFE_SEQ_TRG 7).wf (R.AFE_SEQ 3) F.AFE_SEQ_LENM1 15
  { m with now := 1000, afe := { m.afe with busyTo := [(3, busy)], runs := [(3, [⟨900, 5, 6, 16, 100, false, false⟩])] } }

/-- TriggersStartSequences: a core that is free again at this tick, one that is busy for one more, a line that is off. -/
theorem wit_triggers : (triggered 1000).flag (R.AFE_TRIG 7) F.AFE_TRIG_EN = true ∧ (triggered 1000).ticking = true
    ∧ (triggered 1000).flag R.AFE_STAT F.AFE_STAT_OWBUSY = false ∧ (triggered 1000).flag R.AFE_STAT F.AFE_STAT_LPACT = false
    ∧ (∀ k < 4, ((triggered 1000).flag (R.AFE_SEQ k) F.AFE_SEQ_EN = true ∧ (triggered 1000).rf (R.AFE_SEQ k) F.AFE_SEQ_TRG = 7)
        ↔ k = (3 : Fin 4).val)
    ∧ SMap.getD 0 (triggered 1000).afe.busyTo 3 ≤ (triggered 1000).now
    ∧ (triggered 1001).now < SMap.getD 0 (triggered 1001).afe.busyTo 3
    ∧ (triggered 1000).flag (R.AFE_TRIG 6) F.AFE_TRIG_EN = false
    ∧ SMap.getD [] (triggered 1000).afe.runs 3 = ⟨900, 5, 6, 16, 100, false, false⟩ :: [] ∧ SMap.getD [] (triggered 1000).afe.runs 0 = []
    := by decide +kernel

/-- ChecksOfTheAnalogFrontEnd: the limits of the drift check, HALT and DEPOT, and both tests under way. -/
theorem wit_afe : 500 < (501 : BitVec 32).toInt.natAbs ∧ (-500 : BitVec 32).toInt.natAbs ≤ 500
    ∧ (mode 3).rf R.SYS_MODE F.SYS_MODE_MODE = 3 ∧ (mode 4).rf R.SYS_MODE F.SYS_MODE_MODE = 4 ∧ (mode 4).up = true
    ∧ (on.setFlag R.AFE_STAT F.AFE_STAT_OWBUSY true).flag R.AFE_STAT F.AFE_STAT_OWBUSY = true
    ∧ (on.setFlag R.AFE_STAT F.AFE_STAT_CMPBUSY true).flag R.AFE_STAT F.AFE_STAT_CMPBUSY = true
    ∧ on.flag R.AFE_STAT F.AFE_STAT_OWBUSY = false ∧ on.flag R.AFE_STAT F.AFE_STAT_CMPBUSY = false := by decide +kernel

/-- ComparatorsActOnTheirLines: the last comparator, enabled with its line, and one that is off. -/
theorem wit_comparator :
    (let m := (on.setFlag (R.AFE_CMP_CFG 23) F.AFE_CMP_CFG_EN true).setFlag (R.AFE_CMP_CFG 23) F.AFE_CMP_CFG_FLEN true
     m.flag (R.AFE_CMP_CFG (23 : Fin 24)) F.AFE_CMP_CFG_EN = true ∧ m.flag (R.AFE_CMP_CFG (23 : Fin 24)) F.AFE_CMP_CFG_FLEN = true
       ∧ m.flag R.AFE_STAT F.AFE_STAT_CMPBUSY = false ∧ m.up = true ∧ m.flag (R.AFE_CMP_CFG (23 : Fin 24)) F.AFE_CMP_CFG_WIN = false)
    ∧ on.flag (R.AFE_CMP_CFG (23 : Fin 24)) F.AFE_CMP_CFG_EN = false := by decide +kernel

/-- Generator 31 running in mode `n`, as changed by `f`, at tick 1000. -/
def running (n : Nat) (f : Gen → Gen) : Module :=
  let m := (mode n).wf R.CLK_STAT F.CLK_STAT_STATE 3
  { m.setGen 31 (f { m.gen 31 with running := true }) with now := 1000 }

/-- GeneratorsReload: a write of 64 ns before and one tick later; both ends of the compare range; a release; SHUNT with and
without STEP and its last period. -/
theorem wit_generators : (running 7 id).ticking = true ∧ (running 7 id).groupOf (31 : Fin 32) = none
    ∧ ((running 7 id).gen 31).running = true ∧ (on.gen 31).running = false ∧ ((running 7 id).gen 31).commits = []
    ∧ ((running 7 id).gen 31).tailA = 0 ∧ (running 7 id).rf (R.PWM_FORCE 31) F.PWM_FORCE_FA = 0
    ∧ ((running 7 id).setFlag (R.PWM_CFG 31) F.PWM_CFG_INDEP true).cflag (R.PWM_CFG 31) F.PWM_CFG_INDEP = true
    ∧ (running 7 id).cflag (R.PWM_CFG 31) F.PWM_CFG_SWAP = false ∧ (running 7 id).rn (R.PWM_CMPA 31) = 0
    ∧ ((running 7 id).wn (R.PWM_CMPA 31) 0xFFFFFFFF).rn (R.PWM_CMPA 31) = 0xFFFFFFFF
    ∧ ((running 7 (fun x => { x with commits := [⟨R.PWM_CMPA 31, 77, 968, false⟩] })).gen 31).commits = [⟨R.PWM_CMPA 31, 77, 968, false⟩]
    ∧ (let m := running 7 (fun x => { x with act := some .off, released := some 968 })
       (m.gen 31).released = some 968 ∧ (m.gen 31).act ≠ none ∧ 968 + 32 ≤ m.now ∧ (m.gen 31).holdWait = false)
    ∧ (running 5 id).cflag R.SYS_SHUNT F.SYS_SHUNT_STEP = false
    ∧ (let m := (running 5 (fun x => { x with stepLeft := 1 })).setFlag R.SYS_SHUNT F.SYS_SHUNT_STEP true
       m.cflag R.SYS_SHUNT F.SYS_SHUNT_STEP = true ∧ m.shuntLimited 31 = true ∧ (m.gen 31).stepWait = none ∧ (m.gen 31).stepLeft = 1
       ∧ m.rf R.SYS_MODE F.SYS_MODE_MODE = 5 ∧ m.up = true ∧ m.groupOf 31 = none) := by decide +kernel

/-- Line 31 with these requests standing. -/
def lined (rs : List Req) : Module := { on with pwm := { on.pwm with reqs := [(31, rs)] } }

/-- FaultLinesAndCaptures: a line with one request, with two, with none, latched, always off; a capture unit armed, and off. -/
theorem wit_lines : Req.host ∈ (lined [.host]).lineReqs (31 : Fin 32) ∧ ((lined [.host]).lineReqs 31).filter (· ≠ Req.host) = []
    ∧ ((lined [.host, .clk]).lineReqs 31).filter (· ≠ Req.host) ≠ [] ∧ Req.clk ∉ on.lineReqs (31 : Fin 32)
    ∧ on.bit R.PWM_FL_ACT 31 = false ∧ (on.setBit R.PWM_FL_ACT 31 true).bit R.PWM_FL_ACT 31 = true
    ∧ (let m := (on.setFlag (R.PWM_FL_CFG 31) F.PWM_FL_CFG_LATCH true).setFlag (R.PWM_FL_STAT 31) F.PWM_FL_STAT_LATCHED true
       m.cflag (R.PWM_FL_CFG 31) F.PWM_FL_CFG_LATCH = true ∧ m.flag (R.PWM_FL_STAT 31) F.PWM_FL_STAT_LATCHED = true)
    ∧ (on.wf R.PWM_FL_SYS F.PWM_FL_SYS_REM 31).lineAlwaysOff 31 = true
    ∧ (on.wn R.PWM_FL_HOST 0x80000000).rn R.PWM_FL_HOST = 0x80000000
    ∧ (let m := ((on.wn (R.CAP_CFG 15) 0x80000021).setFlag (R.CAP_STAT 15) F.CAP_STAT_ARMED true).wf R.CLK_STAT F.CLK_STAT_STATE 3
       let m := m.wf (R.CAP_CFG 15) F.CAP_CFG_EDGE 1
       m.cf (R.CAP_CFG 15) F.CAP_CFG_EN ≠ 0 ∧ m.flag (R.CAP_STAT 15) F.CAP_STAT_ARMED = true ∧ m.ticking = true
       ∧ 1 ≤ m.cf (R.CAP_CFG 15) F.CAP_CFG_SRC ∧ m.cf (R.CAP_CFG 15) F.CAP_CFG_SRC ≤ 0x21
       ∧ (m.cf (R.CAP_CFG 15) F.CAP_CFG_EDGE).testBit 0 = true ∧ m.lastEvent 3 15 ≠ some m.now)
    ∧ on.cf (R.CAP_CFG 15) F.CAP_CFG_EN = 0 := by decide +kernel

/-- Channel 23 and its partner 22 supplied, linked and enabled, in mode `n`. -/
def gated (n : Nat) : Module :=
  let m := (((mode n).wn R.GD_LINK 63).setFlag (R.GD_HB_CFG 11) F.GD_HB_CFG_EN true)
  let m := ((m.setGd 22 F.GD_STAT_VPOK true).setGd 22 F.GD_STAT_VNOK true).setGd 23 F.GD_STAT_VPOK true
  let m := m.setGd 23 F.GD_STAT_VNOK true
  { m with gate := { m.gate with enA := true, enB := true } }

/-- GateChannelsDriveAndProtect: a free channel, one against its partner, one that drives with both detectors enabled, one that
turns off softly, a latch whose condition is gone and one whose is not. -/
theorem wit_gate : (gated 7).gate.episode.contains 11 = false ∧ (gated 7).flag (R.GD_STAT 22) F.GD_STAT_CMD = false
    ∧ (gated 7).riseClears 23 = false ∧ (gated 7).gdFree 23 = true ∧ (gated 7).flag (R.GD_STAT 23) F.GD_STAT_SOFT = false
    ∧ ((gated 7).setGd 22 F.GD_STAT_CMD true).flag (R.GD_STAT 22) F.GD_STAT_CMD = true ∧ SMap.getD 0 (gated 7).gate.roseAt 22 = 0
    ∧ (let m := (((gated 7).setGd 23 F.GD_STAT_ON true).setFlag (R.GD_PROT 23) F.GD_PROT_DESEN true).setFlag (R.GD_PROT 23) F.GD_PROT_KLVEN true
       m.flag (R.GD_STAT 23) F.GD_STAT_ON = true ∧ m.cflag (R.GD_PROT 23) F.GD_PROT_DESEN = true
       ∧ m.cflag (R.GD_PROT 23) F.GD_PROT_KLVEN = true ∧ m.flag (R.GD_STAT 23) F.GD_STAT_LATCH = false)
    ∧ ((gated 7).setGd 23 F.GD_STAT_SOFT true).flag (R.GD_STAT 23) F.GD_STAT_SOFT = true
    ∧ (gated 5).flag (R.GD_STAT 23) F.GD_STAT_VPOK = true ∧ 5 ≤ (gated 5).rf R.SYS_MODE F.SYS_MODE_MODE
    ∧ (gated 5).cflag (R.GD_HB_CFG 11) F.GD_HB_CFG_EN = true ∧ (gated 4).rf R.SYS_MODE F.SYS_MODE_MODE < 5
    ∧ (let m := (gated 3).setGd 23 F.GD_STAT_LATCH true
       m.flag (R.GD_STAT 23) F.GD_STAT_LATCH = true ∧ m.gdGone 23 = true ∧ (m.setGd 23 F.GD_STAT_SOFT true).gdGone 23 = false)
    := by decide +kernel

/-- A CAN controller that is enabled, with one message of each kind waiting for port 3. -/
def can : Module :=
  let m := on.wn (R.CAN_CFG 1) 0x80000001
  { m with can := { m.can with queue := [(3, 8, [1]), (3, 9, [2]), (3, 10, [3])] } }

/-- CanFramesAndBusOff: a controller that is on, one that is off, one that is bus-off; a message of sixteen bytes. -/
theorem wit_can : can.up = true ∧ can.cflag (R.CAN_CFG 1) F.CAN_CFG_EN = true ∧ can.flag (R.CAN_STAT 1) F.CAN_STAT_BUSOFF = false
    ∧ on.cflag (R.CAN_CFG 1) F.CAN_CFG_EN = false
    ∧ (can.setFlag (R.CAN_STAT 1) F.CAN_STAT_BUSOFF true).flag (R.CAN_STAT 1) F.CAN_STAT_BUSOFF = true
    ∧ (List.replicate 16 (0 : Byte)).length = 16 ∧ (List.replicate 15 (0 : Byte)).length ≠ 16 := by decide +kernel

/-- Ring port 15 with two cells in state `n`, a command committed at tick 500. -/
def ring (n : Nat) : Module :=
  let m := (table.wf (R.LN_TRAIN 15) F.LN_TRAIN_STATE n)
  let x := m.port 15
  { m.setPort 15 { x with cfg := { x.cfg with count := 2, div := 2, svc := 0, base := 4094 }, waiting := [(500, 1, [1])],
                          flight := some ⟨7, 0, 100, false, true, []⟩ } with now := 1000 }

/-- CellRingsCycleAndTrain: a port in RUN with a command due at this tick, a cycle under way, a port in training with a
service of 10,000 ticks, a host request. -/
theorem wit_rings : (ring 5).rf (R.LN_TRAIN 15) F.LN_TRAIN_STATE = 5 ∧ (ring 5).flag (R.LN_STAT 15) F.LN_STAT_BADCYC = false
    ∧ (ring 5).ticking = true ∧ (ring 5).sys.coreSilent = false ∧ (ring 5).hl.hold = false ∧ ((ring 5).port 15).applies = []
    ∧ ((ring 5).port 15).waiting = [(500, 1, [1])] ∧ 500 + 500 ≤ (ring 5).now ∧ ((ring 5).port 15).cfg.double = false
    ∧ ((ring 5).port 15).flight = some ⟨7, 0, 100, false, true, []⟩ ∧ (on.port 15).flight = none
    ∧ 1 ≤ (ring 4).rf (R.LN_TRAIN 15) F.LN_TRAIN_STATE ∧ (ring 4).rf (R.LN_TRAIN 15) F.LN_TRAIN_STATE < 5
    ∧ (let m := (ring 4).setMn 0x01830010 4 (2 ^ 31 + 10000)
       m.rangeBad 15 (m.port 15).cfg = false ∧ (∀ h ∈ m.hops (m.port 15).cfg, h = 0) ∧ m.cycleLength (m.port 15).cfg = some 5000
       ∧ tMin 2 (90000 - 2 * 40000) false ≤ 5000 * 2000)
    ∧ ((ring 5).setFlag (R.LN_HREQ 15) F.LN_HREQ_GO true).flag (R.LN_HREQ 15) F.LN_HREQ_GO = true := by decide +kernel

/-- MeteringIntervalsSnapshotsAndPulses: an enabled point, a key that is wrong, and an output whose last pulse began 500 ms ago. -/
theorem wit_meter :
    (let m := on.setFlag (R.MTR_MP_CFG 3) F.MTR_MP_CFG_EN true
     m.cflag (R.MTR_MP_CFG 3) F.MTR_MP_CFG_EN = true ∧ m.mtrNet 3 = false)
    ∧ on.cflag (R.MTR_MP_CFG 3) F.MTR_MP_CFG_EN = false ∧ (0x5A3D : BitVec 16) ≠ 0x5A3C
    ∧ (let m := ((on.wf R.CLK_STAT F.CLK_STAT_STATE 3).setFlag (R.MTR_PO_CFG 7) F.MTR_PO_CFG_EN true).wf (R.MTR_PO_QUEUE 7) F.MTR_PO_QUEUE_PEND 1
       let m : Module := { m with now := 250000000, mtr := { m.mtr with poStart := [(7, 1)] } }
       m.rf (R.MTR_PO_QUEUE 7) F.MTR_PO_QUEUE_PEND ≠ 0 ∧ m.cflag (R.MTR_PO_CFG 7) F.MTR_PO_CFG_EN = true ∧ m.ticking = true
       ∧ m.hl.hold = false ∧ SMap.getD 0 m.mtr.poStart 7 = 0 + 1
       ∧ 0 + 1000000 * min 250 (max 2 (m.cf (R.MTR_PO_CFG 7) F.MTR_PO_CFG_WIDTH)) ≤ m.now ∧ SMap.getD 0 m.mtr.po 7 = 0) := by decide +kernel

/-! ### Witnesses: the Interlocking, the Keeper, the collector, sidings and headings -/

/-- A safety image (R459): pairs 13 single, 14 OSSD and 15 equivalent, instance 15 (emergency stop, manual, with delay) of source pair 15, instance 14
(curtain) of pairs 14 and 13, token connections 13 over ring port 15, 14 to a GOOSE member and 15 to a slot of the host, every mask of instance 15. -/
def image : List Byte :=
  let w4 (n : Nat) : List Byte := leBytes 4 n
  let fb (w0 w1 w2 : Nat) : List Byte := w4 w0 ++ w4 w1 ++ w4 w2 ++ w4 0
  let tk (car arg : Nat) : List Byte := w4 (2 ^ 31 + car * 2 ^ 29 + 4 * 2 ^ 22 + 4 * 2 ^ 15) ++ w4 0x11 ++ w4 0x22 ++ leBytes 2 60
    ++ leBytes 2 40 ++ leBytes 2 20 ++ [0, 0] ++ w4 arg ++ List.replicate 8 0
  let body := w4 0x31464153 ++ leBytes 2 1 ++ leBytes 2 0x384 ++ [0x7F] ++ List.replicate 7 0
    ++ List.replicate 52 0 ++ w4 (2 ^ 31 + 3 * 2 ^ 29 + 4 * 2 ^ 26 + 2 * 2 ^ 23 + 100)
    ++ w4 (2 ^ 31 + 2 * 2 ^ 29 + 4 * 2 ^ 26 + 4 * 2 ^ 23 + 100)
    ++ w4 (2 ^ 31 + 4 * 2 ^ 23 + 100)
    ++ List.replicate 224 0 ++ fb (2 ^ 31 + 3 * 2 ^ 28 + 2 ^ 25) (14 * 2 ^ 24 + 0x7F0000 + 13 * 256 + 0x7F) (20 * 2 ^ 16 + 300)
    ++ fb (2 ^ 31 + 2 ^ 26) (15 * 2 ^ 24 + 0x7F7F7F) (50 * 2 ^ 16)
    ++ w4 0x80008000 ++ w4 (2 ^ 31)
    ++ (List.range 4).flatMap (fun _ => w4 0x80008000 ++ w4 (2 ^ 31 + 2 ^ 30 + 100 * 2 ^ 20 + 3000)) ++ List.replicate 8 0
    ++ List.replicate 416 0 ++ tk 1 (15 + 511 * 2 ^ 16) ++ tk 0 (3 + 5 * 64 + 2 * 2 ^ 12 + 7 * 2 ^ 18) ++ tk 2 0
  body ++ w4 (scrc body)

/-- The Interlocking running on that image, as changed by `f`. -/
def safe (f : Il → Il) : Module := { on with il := f { on.il with image := image, msel := true } }

theorem test_image : image.length = 900 ∧ imgInvalid image = none := by decide +kernel

/-- SafeInputsAndFunctionBlocks: an enabled pair whose second channel has not followed, one that is off; a test pulse that a
channel of it answers, and one that it does not; an instance whose sources all release, one delayed, one muting. -/
theorem wit_safeInputs : siEn image 15 = true ∧ (safe (·.setPair 15 2)).il.pair 15 = 2 ∧ siEn image 0 = false ∧ siKind image 15 ≠ 3
    ∧ siPulse image 15 0 = 0 ∧ siPulse image 14 0 = 4 ∧ siPulse image 15 1 = 4
    ∧ fbEn image 15 = true ∧ fbKind image 15 = 0 ∧ fbAuto image 15 = false ∧ fbEn image 0 = false ∧ fbKind image 14 = 3
    ∧ (let m := safe (·.setPair 15 1)
       (∀ c ∈ fbSources image 15, m.il.source c = true) ∧ (m.il.fb 15).stop1 = false ∧ m.il.msel = m.il.normal ∧ m.il.fbOk 15 = true)
    ∧ (safe id).il.fbOk 15 = false
    ∧ ((safe (fun x => x.setFb 15 { x.fb 15 with stop1 := true })).il.fb 15).stop1 = true
    ∧ ((safe (fun x => x.setFb 14 { x.fb 14 with muting := true })).il.fb 14).muting = true
    ∧ (safe id).il.source (fbSrc image 14 1) = false := by decide +kernel

/-- SafeOutputsAndLockout: an output with its delay running, one that waits for EDM, one that is on; the second and the third
compare that disagrees; lockout. -/
theorem wit_safeOutputs : outEdm image (3 + 1) = true
    ∧ ((safe (fun x => x.setOut 4 { x.out 4 with on := true, delay := true, edmWait := true })).il.out 4).edmWait = true
    ∧ ((safe id).il.out 4).edmFlt = false ∧ ((safe id).il.out 4).edmWait = false ∧ ((safe id).il.out 4).on = false
    ∧ (safe (fun x => { x with differ := 1 })).il.differ < 2 ∧ 2 ≤ (safe (fun x => { x with differ := 2 })).il.differ
    ∧ (safe id).il.lockout = false ∧ (safe (fun x => { x with lockout := true })).il.lockout = true
    ∧ ((safe id).il.mask 0).testBit 15 = true := by decide +kernel

/-- A frame of four data bytes for the connections of the image, with sequence number `n`, sent at `us`. -/
def token (n us : Nat) : List Byte :=
  let x := leBytes 4 0x11 ++ leBytes 4 n ++ leBytes 4 us ++ [1, 0, 0, 0]
  x ++ leBytes 4 (scrc x)

/-- Connection 15 in state `n` with frame number 6 as its last one, the time of day valid and 1 s past an hour. -/
def connected (n : Nat) : Module :=
  let m := (safe (·.setToken 15 { Token.init with st := n, base := true, last := token 6 1000000 })).setFlag R.CLK_STAT F.CLK_STAT_TOD_VALID true
  { m with todSec := 1, todNs := 40000000 }

/-- TokenFramesAreCheckedInOrder: each carrier; in RUN a frame that fails each check in turn, an exact repeat, and one that
passes at both ends of its age; a watchdog outside RUN. -/
theorem wit_token : tkEn image 13 = true ∧ tkCarrier image 13 = 1 ∧ tkCarrier image 14 = 0 ∧ tkCarrier image 15 = 2
    ∧ tkEn image 0 = false ∧ (∀ d < 16, d ≠ 15 → tkEn image d = true → tkCarrier image d ≠ 2)
    ∧ ((connected 2).il.token 15).st = 2 ∧ ((connected 3).il.token 15).st = 3 ∧ ((safe id).il.token 15).st = 0
    ∧ (token 7 1000000).length = 16 + tkIn image 15 ∧ imgW (token 7 1000000) 16 = scrc ((token 7 1000000).take 16)
    ∧ imgW (token 7 1000000) 0 = tkIdIn image 15
    ∧ imgW (token 7 1000000) 4 = (imgW ((connected 2).il.token 15).last 4 + 1) % 2 ^ 32
    ∧ imgW (token 8 1000000) 4 ≠ (imgW ((connected 2).il.token 15).last 4 + 1) % 2 ^ 32
    ∧ (connected 2).tokenAge (imgW (token 7 1000000) 8) = 1000 * (tkAge image 15 : Int)
    ∧ (connected 2).tokenAge (imgW (token 7 1041000) 8) = -1000
    ∧ ¬ (connected 2).tokenAge (imgW (token 7 999999) 8) ≤ 1000 * (tkAge image 15 : Int)
    ∧ (connected 2).flag R.CLK_STAT F.CLK_STAT_TOD_VALID = true
    ∧ token 7 1000000 ≠ ((connected 2).il.token 15).last ∧ (List.replicate 20 (0 : Byte)).length = 16 + tkIn image 15
    ∧ imgW (List.replicate 20 (0 : Byte)) 16 ≠ scrc (List.replicate 16 (0 : Byte)) := by decide +kernel

/-- A request of command `cmd` for the image above. -/
def request (cmd : Nat) : SafeReq := ⟨9, cmd, 0x1234, [1], List.replicate 8 0x41, image⟩

theorem pwHash_ne_nil (salt pw : List Byte) : pwHash salt pw ≠ [] := by simp [pwHash, leBytes]

/-- SafeConfigurationRequests: a new request; no password; HALT and another mode; an APPLY under way, with a place in the log. -/
theorem wit_safeRequest : (safe id).il.req = none ∧ (safe id).il.apply = none
    ∧ ((safe id).setMn 0x018A0000 4 9).mn 0x018A0000 4 ≠ (safe id).il.lastReq ∧ (safe id).il.hash = []
    ∧ (safe (fun x => { x with req := some (request 3) })).il.req = some (request 3) ∧ (request 3).cmd = 3
    ∧ (mode 3).editMode = true ∧ (mode 4).editMode = true ∧ (mode 5).editMode = false ∧ on.il.locked = false
    ∧ passwordValid (request 3).newPw = true ∧ passwordValid [] = false ∧ (safe id).il.energised = false
    ∧ (safe (fun x => { x with stoRel := true })).il.energised = true
    ∧ (let a : SafeApply := ⟨9, image, 0x06610FE0, List.replicate 32 0, 1⟩
       a.image.length = 900 ∧ a.entry.length = 32 ∧ 0x06610000 ≤ a.place ∧ a.place + 32 ≤ 0x06611000) := by decide +kernel

/-- The same with a password that the request knows, and with one that it does not. -/
theorem wit_password :
    (let m := safe (fun x => { x with hash := pwHash x.salt [1] })
     m.il.hash ≠ [] ∧ (pwHash m.il.salt (request 1).pw == m.il.hash) = true)
    ∧ (let m := safe (fun x => { x with hash := 0 :: pwHash x.salt [1] })
       m.il.hash ≠ [] ∧ (pwHash m.il.salt (request 1).pw == m.il.hash) = false) := by
  refine ⟨⟨pwHash_ne_nil _ _, beq_self_eq_true _⟩, List.cons_ne_nil _ _, ?_⟩
  exact beq_eq_false_iff_ne.mpr (fun h => absurd (congrArg List.length h) (by simp [safe, request]))

/-- The Keeper awake with 1 F, its burst queue and its burst as given. -/
def keeper (q : List BurstReq) (b : Option Burst) : Module :=
  let m := (on.wn R.KEEP_CAP 1000000).setFlag R.KEEP_LAMP F.KEEP_LAMP_EN true
  { m with keep := { m.keep with stopped := false, queue := q, burst := b } }

/-- KeeperBurstsAndLampLine: no burst and one of each kind; a queue whose head is the highest class present; a wake timer of
each action; the lamp line on and off. -/
theorem wit_keeper : (keeper [] none).keep.stopped = false ∧ (keeper [] none).keep.burst = none
    ∧ (keeper [] (some ⟨⟨0, 1, 5, 6, 7⟩, 3100, 2147⟩)).keep.burst = some ⟨⟨0, 1, 5, 6, 7⟩, 3100, 2147⟩ ∧ 2096 + 50 < 2147 ∧ 2147 ≤ 2097 + 50
    ∧ (let r : BurstReq := ⟨2, 2, 5, 6, 0⟩
       let m := keeper [⟨0, 1, 5, 6, 7⟩, r] none
       r ∈ m.keep.queue ∧ r.cls ≤ 2 ∧ (∀ q ∈ m.keep.queue, q.cls ≤ r.cls) ∧ m.keep.queue.find? (fun q => q.cls == r.cls) = some r)
    ∧ ((keeper [] none).flag R.KEEP_LAMP F.KEEP_LAMP_EN && !(keeper [] none).keep.stopped) = true
    ∧ (let m := ((keeper [] none).wf R.KEEP_WAKE F.KEEP_WAKE_INT 60).wf R.KEEP_WAKE F.KEEP_WAKE_ACTION 2
       m.rf R.KEEP_WAKE F.KEEP_WAKE_INT ≠ 0 ∧ m.rf R.KEEP_WAKE F.KEEP_WAKE_ACTION = 2)
    ∧ (keeper [] none).rf R.KEEP_WAKE F.KEEP_WAKE_INT = 0 := by decide +kernel

/-- The Keeper stopped, with a valid record number 1 in slot 1. -/
def recorded : Module :=
  let m : Module := { on with keep := { on.keep with stopped := true } }
  let m := m.setMn (keepSlot 1) 4 1
  m.setMn (keepSlot 1 + keepLen) 4 (crc32c (m.mbytes (keepSlot 1) keepLen))

/-- KeeperClockRecordTamperAndPulses: an RTC that may be written; a record to load and none; a tamper edge of the configured
kind; a comparator and a supervised input that are enabled. -/
theorem wit_record : recorded.keep.stopped = true ∧ recorded.keepNewest = some 1
    ∧ ({ on with keep := { on.keep with stopped := true } } : Module).keepNewest = none
    ∧ (let m := (keeper [] none).setFlag R.CLK_STAT F.CLK_STAT_TOD_VALID true
       let m := m.wf R.CLK_STAT F.CLK_STAT_TOD_SRC 4
       ({ m with sys := { m.sys with vmainValid := true } } : Module).rtcWritable = true) ∧ on.rtcWritable = false
    ∧ (let m := (keeper [] none).wn R.KEEP_TMP_CFG 0xD000
       (m.rn R.KEEP_TMP_CFG).testBit (4 * 3 + 3) = true ∧ (m.rn R.KEEP_TMP_CFG).testBit (4 * 3 + 0) = true
         ∧ (m.rn R.KEEP_TMP_CFG).testBit (4 * 3 + 2) = true ∧ (m.rn R.KEEP_TMP_CFG).testBit (4 * 3 + 1) = false)
    ∧ ((keeper [] none).setFlag (R.KEEP_KCMP_CFG 3) F.KEEP_KCMP_CFG_EN true).flag (R.KEEP_KCMP_CFG 3) F.KEEP_KCMP_CFG_EN = true
    ∧ (let m := ((keeper [] none).setFlag (R.KEEP_PI_CFG 7) F.KEEP_PI_CFG_EN true).setFlag (R.KEEP_PI_CFG 7) F.KEEP_PI_CFG_SUP true
       m.flag (R.KEEP_PI_CFG 7) F.KEEP_PI_CFG_EN = true ∧ m.flag (R.KEEP_PI_CFG 7) F.KEEP_PI_CFG_SUP = true ∧ m.piFault 7 = false) := by
  decide +kernel

/-- Two reports of one group; source 48 with AUTO, two recoveries allowed, a line, and `n` recoveries behind it. -/
def collector (n : Nat) : Module :=
  let m := (mode 7).setMn (0x018B0000 + 16 * 48) 4 (2 ^ 31 + 5 * 2 ^ 27 + 2 * 2 ^ 8)
  let m := m.setMn (0x018B0008 + 16 * 48) 4 60
  let m := m.wf R.FLT_CFG F.FLT_CFG_MAX_REC_G 3
  let m : Module := { m with now := 1000, reports := [⟨48, 1, .none, 100, 5, 6⟩, ⟨40, 2, .task 511, 101, 5, 6⟩] }
  m.setSrc 48 { SrcState.init with lines := [3], recs := List.replicate n 999 }

/-- CollectorReportsRecoveryAndClears: a report to handle; a source with no report waiting that may recover, has reached its
limit, or has no reaction; a record that waits. -/
theorem wit_collector : (collector 0).nextReport.any (fun r => decide (r.src < 256)) = true
    ∧ (collector 0).reports.any (·.src == 48) = true
    ∧ (let m (n : Nat) : Module := { collector n with reports := [] }
       (m 0).reports = [] ∧ (m 0).reports.any (·.src == 48) = false ∧ ((m 0).src 48).last ≠ (m 0).now + 1
       ∧ ((m 0).mn (0x018B1008 + 16 * 48) 4).testBit 2 = false ∧ (m 0).srcAuto 48 = true ∧ (m 0).srcSev 48 < 6
       ∧ (((m 1).src 48).recs.filter (fun t => decide ((m 1).now < t + (m 1).srcWindow 48))).length < (m 1).srcMaxRec 48
       ∧ (m 2).srcMaxRec 48 ≤ (((m 2).src 48).recs.filter (fun t => decide ((m 2).now < t + (m 2).srcWindow 48))).length
       ∧ ((m 1).coll.recs.filter (fun t => decide ((m 1).now < t + (m 1).windowG))).length < (m 1).maxRecG
       ∧ ((m 0).src 47).lines = [] ∧ ((m 0).src 47).tasks = [] ∧ (m 0).up = true ∧ (m 0).logq = [] ∧ (m 0).coll.inc = none)
    ∧ ({ on with logq := [(0x06630000, [1, 2, 3])] } : Module).logq = (0x06630000, [1, 2, 3]) :: [] := by decide +kernel

/-- SubstitutionRequestsAndBankCommands: a substitution under way and none; a command under way on a bank that is locked and on
one that is not, at both ends of its erase count; spares left and none. -/
theorem wit_bank : on.nvm.running = none ∧ on.subRuns = false ∧ (on.wf R.SID_STAT F.SID_STAT_STATE 2).subRuns = true
    ∧ on.bankLocked 0 = true ∧ on.bankLocked 1 = false ∧ (2 ^ 24 + 2 ^ 20 + 511) / 2 ^ 24 % 16 = 1 ∧ (2 ^ 24 + 2 ^ 20 + 511) % 2 ^ 17 < 512
    ∧ SMap.getD 0 ({ on.nvm with erases := [(1023, 99999)] } : Nvm).erases (512 * 1 + 511) < 100000
    ∧ on.rf R.NVM_SPARE F.NVM_SPARE_BANK1 < 32 ∧ 32 ≤ (on.wf R.NVM_SPARE F.NVM_SPARE_BANK1 32).rf R.NVM_SPARE F.NVM_SPARE_BANK1
    ∧ on.bankOk 1 = false ∧ (mode 3).authorised 5 1 = false ∧ (mode 3).authorised 6 1 = false := by decide +kernel

/-- Bank 1 with the header of an empty directory. -/
def bank : Module := on.setMn (norBase 1) 4 0x52494451

/-- The same with the CRC of the directory in its header checks. -/
theorem wit_bankOk : (bank.setMn (norBase 1 + 12) 4
    (crc32c (bank.mbytes (norBase 1) 12 ++ bank.mbytes (norBase 1 + 16) 4096))).bankOk 1 = true := by
  have e : ∀ t < 512, bank.mn (norBase 1 + 16 + 8 * t) 4 = 0 ∧ bank.mn (norBase 1 + 16 + 8 * t + 4) 4 = 0 := by decide +kernel
  have h : bank.mn (norBase 1) 4 = 0x52494451 := by decide +kernel
  simp only [Module.bankOk, Module.dirCrcOk, Bool.and_eq_true, List.all_eq_true, List.mem_range, beq_iff_eq]
  refine ⟨⟨?_, ?_⟩, fun t ht => ?_⟩
  · rw [mn_setMn_apart _ _ _ _ _ _ (by omega)]; exact h
  · rw [mn_setMn_same, Module.setMn, mbytes_setBytes_apart _ _ _ _ _ (by rw [leBytes_length]; omega),
      mbytes_setBytes_apart _ _ _ _ _ (by rw [leBytes_length]; omega)]
    exact Nat.mod_eq_of_lt (crc32c_lt _)
  · have : ∀ (m : Module), m.mn (norBase 1 + 16 + 8 * t) 4 = 0 → m.mn (norBase 1 + 16 + 8 * t + 4) 4 = 0 →
        m.dirEntry 1 t = none := fun m a b => by simp [Module.dirEntry, a, b]
    rw [this _ (by rw [mn_setMn_apart _ _ _ _ _ _ (by omega)]; exact (e t ht).1)
      (by rw [mn_setMn_apart _ _ _ _ _ _ (by omega)]; exact (e t ht).2)]

/-- An authorisation that the factory key signed, where Ed25519, a constant without a body, says so. -/
theorem wit_authorised (h : ∀ msg sig, Config.ed25519 Config.factoryKey msg sig = true) :
    ((mode 3).setBytes (0x018C0000 + 32) [1, 5]).authorised 5 1 = true := by
  simp only [Module.authorised, Bool.and_eq_true, List.any_eq_true]
  refine ⟨⟨⟨by decide +kernel, by decide +kernel⟩, by decide +kernel⟩, 0, by decide, ?_⟩
  have k : ((mode 3).setBytes (0x018C0000 + 32) [1, 5]).slotKey 0 = some Config.factoryKey := rfl
  rw [k]
  exact h _ _

/-- HeadingSnapshotsAndNotices: the lead with an image taken, the standby with and without an active peer, a locked lane. -/
theorem wit_heading : (on.wf R.SID_HL_STAT F.SID_HL_STAT_ROLE 1).rf R.SID_HL_STAT F.SID_HL_STAT_ROLE = 1
    ∧ (on.wf R.SID_HL_STAT F.SID_HL_STAT_ROLE 2).rf R.SID_HL_STAT F.SID_HL_STAT_ROLE = 2
    ∧ on.hl.taken.isNone = true ∧ ({ on.hl with taken := some on.snapshot } : Heading).taken.isSome = true
    ∧ (on.setFlag R.SID_HL_STAT F.SID_HL_STAT_PEER_ACT true).flag R.SID_HL_STAT F.SID_HL_STAT_PEER_ACT = true
    ∧ on.hl.lostSec ≠ on.todSec + 1 ∧ (on.setFlag R.SID_HL_STAT F.SID_HL_STAT_LANE1 true).flag R.SID_HL_STAT F.SID_HL_STAT_LANE1 = true
    ∧ on.flag R.SID_HL_STAT F.SID_HL_STAT_LANE0 = false := by decide +kernel

/-- StepTakesTheFrontOfTheQueue, StoresStayCanonical: the time of day before and at the end of a second; canonical stores. -/
theorem wit_step : on.todNs + 2 < 1000000000 ∧ 1000000000 ≤ ({ on with todNs := 999999998 } : Module).todNs + 2
    ∧ on.heldBack = false ∧ (on.sys.modeHold = false ∨ ({ on.sys with modeHold := false } : Sys).modeHold = false)
    ∧ table.canonical = true ∧ (∃ t, step (st table) = .next t) := by
  refine ⟨by decide +kernel, by decide +kernel, by decide +kernel, by decide +kernel, by decide +kernel, ⟨_, rfl⟩⟩

/-! ### Witnesses: conditions of the later statements -/

/-- EngineInstructionsComplete, HostModeAndClockCommandsComplete, UnitCommandsComplete: a block that issues, a supplied module. -/
theorem wit_complete : on.live = true ∧ Issues (engine id) e0 blk :=
  ⟨by decide +kernel, rfl, rfl, rfl, by decide +kernel, by decide +kernel⟩

/-- LinkVotesAndSavedConfiguration: one copy of SYS_TIMES disturbed, and two that differ. -/
theorem wit_upsets : (let bad (k : Fin 3) (v : BitVec 64) : Upset := ⟨BitVec.ofNat 22 R.SYS_TIMES, 0, k, v⟩
      on.rf R.SYS_TIMES ⟨9, 0⟩ = 0x3C ∧ (5 : BitVec 64).toNat % 1024 ≠ 0x3C ∧ (6 : BitVec 64).toNat % 1024 ≠ 0x3C
      ∧ ({ on with upsets := [bad 0 5, bad 1 6] } : Module).upsets = [bad 0 5, bad 1 6]
      ∧ (∀ u ∈ [bad 0 5], u.addr.toNat = R.SYS_TIMES)) ∧ on.upsets = []
    ∧ (on.votedField R.SYS_TIMES 0).isSome = true := by decide +kernel

/-- Bar2AccessesAndTheYardBudget: a word that drains, and a copy active with nothing waiting. -/
theorem wit_drain : (let m : Module := { table with eng := { table.eng with draining := [(1, [0x018A3000])] } }
      ∃ w ∈ wordsAt 0x018A3000 4, ∃ d ∈ m.eng.draining, w ∈ d.2)
    ∧ (∀ w ∈ wordsAt 0x018A3000 4, w ∉ table.eng.failing ∧ ∀ d ∈ table.eng.draining, w ∉ d.2)
    ∧ table.activeCopy ≠ none ∧ table.eng.busWait = [] ∧ table.sid.copyLeft = 0 ∧ (∀ p < 16, (table.port p).results = []) := by
  decide +kernel

/-- A module whose band table holds no valid entry. -/
def noBand : Module := { on with regs := (List.range 64).map (fun k => (R.CLK_BAND k, 0)) }

/-- SupplySeatingAndHoldUp, InspectStartsAfreshAndEndsInHalt: a record whose commit is cut short, and one that was; no band
entry that covers the target, and one that does. -/
theorem wit_cut : (let m : Module := { supply .on false true false true with logq := [(0x06630000, [1, 2])] }
      m.sys.holdUp = true ∧ m.sys.vmainValid = false ∧ m.coll.inc = none ∧ m.logq = [(0x06630000, [1, 2])])
    ∧ (let m : Module := { on with sys := { on.sys with inspecting := true, torn := [(0x06630000, [3])] } }
       m.sys.torn = [(0x06630000, [3])] ∧ (∀ p ∈ m.savedMem, p.1 < 0x02000000) ∧ m.sys.abandoned = false)
    ∧ (∃ m : Module, (∀ n < 64, m.bandOk n = false) ∧ m.bandPick = none)
    ∧ on.sys.torn = [] ∧ hasTest 3 [] = false ∧ hasTest 5 [0x502] = true
    ∧ (supply .on true true false false).sys.shed = false := by
  refine ⟨by decide +kernel, by decide +kernel, ⟨noBand, by decide +kernel, by decide +kernel⟩,
    by decide +kernel, by decide +kernel, by decide +kernel, by decide +kernel⟩

/-- LimitsAndCoreSilence: the timebase issues the ends of blocks, and issues none. -/
theorem wit_ends : (let m := engine id; m.issuesEnds = true) ∧ on.issuesEnds = false := by decide +kernel

/-- ClockLocksAndLoses: an error that locks, one that loses, the silences, a swallowed cycle, and FREQ_N reached and not. -/
theorem wit_phase : (on.clk.stopAt = none ∧ (3 : BitVec 32).toInt.natAbs < min 500 (max 5 (on.rf R.CLK_LOCK F.CLK_LOCK_LOCK_WIN)))
    ∧ max 16 (on.rf R.CLK_LOCK F.CLK_LOCK_LOCK_N) ≤ (65535 : BitVec 32).toNat
    ∧ 4 * min 500 (max 5 (on.rf R.CLK_LOCK F.CLK_LOCK_LOCK_WIN)) < (-2001 : BitVec 32).toInt.natAbs
    ∧ (clock 3 0 true).silent (.crystal 800) = true ∧ (clock 3 0 true).silent (.crystal 799) = false
    ∧ (∀ e ∈ [(1900 : BitVec 16)], 1900 ≤ e.toNat) ∧ (1899 : BitVec 16).toNat < 1900
    ∧ (let m : Module := { clock 5 3 true with clk := { on.clk with syncs := 99 } }
       max 2 (m.rf R.CLK_SERVO F.CLK_SERVO_FREQ_N) ≤ m.clk.syncs)
    ∧ (clock 5 3 true).clk.syncs < max 2 ((clock 5 3 true).rf R.CLK_SERVO F.CLK_SERVO_FREQ_N)
    ∧ (∀ u < 16, on.cf (R.CAP_CFG u) F.CAP_CFG_SRC ≠ 1)
    ∧ on.ownFrame 3 5 = false ∧ (on.setBit R.PB_LINK 31 true).bit R.PB_LINK (8 * (3 : Fin 4).val + 7) = true :=
  ⟨by decide +kernel, by decide +kernel, by decide +kernel, by decide +kernel, by decide +kernel, by simp, by simp, by decide +kernel⟩

/-- ProcessBusPortsAndRedundancy, GooseReceivedAndLost, PublicationsAreSent: a partner that has received, a budget with room
and one without. -/
theorem wit_frames : (let m : Module := { on.wf R.PB_CFG F.PB_CFG_PAIR1 1 with pb := { on.pb with tagAt := [(2, 1)] } }
      m.tagged 3 = false ∧ m.tagged (if 3 % 2 = 0 then 3 + 1 else 3 - 1) = true ∧ 3 ∉ m.pb.lanDown ∧ m.ownFrame 3 5 = false)
    ∧ (∀ w ∈ bus.eng.busWait, w.1 ≠ Bus.pb)
    ∧ bus.used Bus.pb + beatsOf (0x01850000 + 1024 * 63) (0x20 + 8 * 2) ≤ bus.budget Bus.pb
    ∧ (let m : Module := { bus with eng := { bus.eng with budgetUsed := [(Bus.pb, bus.budget Bus.pb)] } }
       ¬ m.used Bus.pb + beatsOf (0x01850000 + 1024 * 63) 0x20 ≤ m.budget Bus.pb ∧ m.used Bus.pb ≤ m.budget Bus.pb)
    ∧ bus.eng.failing = [] := by decide +kernel

/-- TriggersStartSequences: a line that fires at tick 1000, 50 ticks into a period of 100, by TRIG0 of generator 2. -/
theorem wit_fires :
    (let m := ((triggered 1000).wf (R.AFE_TRIG 7) F.AFE_TRIG_GEN 2).wn (R.PWM_TRIG0 2) 51200
     let m := m.setGen 2 { m.gen 2 with running := true, start := 950, frac := 0, plan := { (m.gen 2).plan with period := 102400 } }
     m.flag (R.AFE_TRIG 7) F.AFE_TRIG_SEL = false ∧ m.rf (R.AFE_TRIG 7) F.AFE_TRIG_GEN = 2 ∧ (m.gen 2).running = true
     ∧ m.rn (R.PWM_TRIG0 2) = 51200 ∧ 51200 < (m.gen 2).plan.period
     ∧ m.now = (m.gen 2).start + ((m.gen 2).frac + 51200) / 1024) := by decide +kernel

/-- ComparatorsActOnTheirLines: above, below and within the band of HYS 3, and the two ends of that of HYS 0. -/
theorem wit_band : (let half (h : Nat) : Int := [0, 2500, 7500, 20000].getD h 0
      half 3 < (20001 : BitVec 32).toInt ∧ (-20001 : BitVec 32).toInt < -half 3 ∧ -half 3 < (19999 : BitVec 32).toInt
      ∧ (19999 : BitVec 32).toInt < half 3 ∧ half 0 < (1 : BitVec 32).toInt ∧ (-1 : BitVec 32).toInt < -half 0) := by decide

/-- GeneratorsReload: a period of generator 31 that is over at tick 1000, and one that is not. -/
theorem wit_reload : (let x := (running 7 (fun x => { x with start := 900, plan := { x.plan with period := 102400 } })).gen 31
      (x.origin + x.plan.period) / 1024 ≤ 1000)
    ∧ (let x := (running 7 (fun x => { x with start := 901, plan := { x.plan with period := 102400 } })).gen 31
       1000 < (x.origin + x.plan.period) / 1024) := by decide +kernel

/-- GateChannelsDriveAndProtect: a channel that the turntable commands on by its destination, one that it does not; a drop above the highest threshold
at the end of its blanking; a supply below its level and one above; both channels off for 9 ticks. -/
theorem wit_levels : (gated 7).gateLevel 23 = false
    ∧ 4000 + 500 * min 14 ((gated 7).cf (R.GD_PROT 23) F.GD_PROT_DTH) < (11001 : BitVec 32).toNat
    ∧ 10 * min 500 (max 15 ((gated 7).cf (R.GD_PROT 23) F.GD_PROT_BLANK)) ≤ (5000 : BitVec 32).toNat
    ∧ 500 + 300 * (gated 7).cf (R.GD_PROT 23) F.GD_PROT_KTH < (9999 : BitVec 32).toNat
    ∧ (9999 : BitVec 32).toInt < ([10000, 12000, 14000].getD ((gated 7).cf (R.GD_PROT 23) F.GD_PROT_UVLO) 14000 : Int)
    ∧ (gated 7).checkPasses 23 0 30000 0 = true ∧ (gated 7).checkFails 23 0 30000 0 = false ∧ (gated 7).checkPasses 23 0 0 0 = false
    ∧ SMap.getD 0 (gated 7).gate.fellAt 22 + 9 ≤ ({ gated 7 with now := 9 } : Module).now
    ∧ (gated 7).flag R.SYS_MODE F.SYS_MODE_HALTING = false := by decide +kernel

/-- EngineUpkeep: a drain, a row with a spare left and one without, a copy that waits for beats and one that does not. -/
theorem wit_upkeep_cases : (let m : Module := { table with eng := { table.eng with draining := [(7, [0])] } }
      m.eng.draining.find? (fun d => d.1 == (7 : Fin 8).val) = some (7, [0]))
    ∧ table.spareLeft (.yard 4) = true ∧ (table.wf (R.YARD_SPARE 0) F.YARD_SPARE_USED 128).spareLeft (.yard 4) = false
    ∧ (let m := table.wf R.SID_STAT F.SID_STAT_STATE 1
       m.rf R.SID_STAT F.SID_STAT_STATE = 1 ∧ m.sid.copyLeft = 0 ∧ ({ m.sid with copyLeft := 5 } : Sid).copyLeft ≠ 0)
    ∧ table.marked .generator 33 = false := by decide +kernel

/-- StepTakesTheFrontOfTheQueue: between the marks of the clock, with ticks and without. -/
theorem wit_between : table.ticking = true ∧ (table.now + 1) % 100 ≠ 0 ∧ table.clk.stopAt ≠ some (table.now + 1)
    ∧ on.ticking = false ∧ on.rf R.CLK_STAT F.CLK_STAT_STATE ≠ 3 ∧ on.rf R.CLK_STAT F.CLK_STAT_STATE ≠ 7
    ∧ on.sys.alignHold = false := by decide +kernel

/-! ### Decoding of the engine's words (R123 to R140, R166) -/

/-- Words laid out by the formats: addi g5, g5, 4; rep of 4 words, 3 times; li.f f10, 0.95 with its second word; cmt; bt c0, 3;
add g9, g7, g8; ld g4, [g6 + 8]; and OP 0x00, which is undefined, with an abs whose unused B is not 0. -/
theorem test_decode : decodeRanzor e0 (0x03 <<< 26 + 5 <<< 21 + 5 <<< 16 + 4) 0 = some (.addi e0 5 5 4)
    ∧ decodeRanzor e0 0x0CA50004 0 = some (.addi e0 5 5 4)
    ∧ decodeRanzor e0 0xA4040003 0 = some (.rep e0 4 3)
    ∧ decodeRanzor e0 0xF9400002 0x3F733333 = some (.liF e0 10 0x3F733333)
    ∧ decodeRanzor e0 0xE0000000 0 = some (.cmt e0)
    ∧ decodeRanzor e0 (0x02 <<< 26 + 9 <<< 21 + 7 <<< 16 + 8 <<< 11) 0 = some (.add e0 9 7 8)
    ∧ decodeRanzor e0 0 0 = none
    ∧ decodeRanzor e0 (0x02 <<< 26 + 9 <<< 21 + 7 <<< 16 + 8 <<< 11 + 0x0F) 0 = none := by decide +kernel

/-- R63: a flag set in the window of the write that clears it stays 1, and a counter counts on from the value written. -/
theorem test_race : after (.registerWrite 2 (BitVec.ofNat 25 R.HOST_IRQ_STAT) 0x20 (some ⟨0x20, 0⟩)) (on.setBit R.HOST_IRQ_STAT 5 true)
      (fun m => m.bit R.HOST_IRQ_STAT 5) = true
    ∧ after (.registerWrite 2 (BitVec.ofNat 25 R.HOST_VOTE_FIX) 7 (some ⟨0, 2⟩)) on (fun m => m.rn R.HOST_VOTE_FIX == 9) = true := by
  decide +kernel

/-- R51: a trained link of two lanes at the second speed shows UP, WIDTH 2 and SPEED 2. -/
theorem test_link : after (.pcieLinkUp (some (1, 1, true))) on (fun m => m.rn R.HOST_LINK == 0x122) = true := by decide +kernel

/-- R62: one disturbed copy of SYS_TIMES is outvoted by a scrub, which counts it. -/
theorem test_scrub : after (.voteScrub (.pass [])) { on with upsets := [⟨BitVec.ofNat 22 R.SYS_TIMES, 0, 1, 5⟩] } (fun m =>
    m.rn R.HOST_VOTE_FIX == 1 && m.rf R.SYS_TIMES ⟨9, 0⟩ == 0x3C && m.upsets.isEmpty) = true := by decide +kernel

/-- R195: a cycle of 1.899 ns in LOCKED is suppressed, counted and reported, and the time of day adds its 2 ns. -/
theorem test_swallow : after (.lockDeclared ⟨3, 1, [1899]⟩) (clock 3 0 true) (fun m =>
    m.rn R.CLK_SWALLOW == 1 && m.todNs == 2 && m.reports.any (·.src == FS.CLK_GUARD)) = true := by decide +kernel

end Sys2Proof.Tests
end

namespace Sys2Proof.Machine

/-! ### Every command is answered -/

/-- The meaning of each command is a run of one function on the module (`State.run`), so it answers with a next state and
leaves the queue as it is. -/
theorem exec_answers (c : Instr) (s : State) : Answers c s := by
  cases c <;> exact ⟨_, rfl⟩

/-- Settles O54: a case of `exec_answers` for each command. -/
theorem hostModeAndClockCommandsComplete : Obligations.HostModeAndClockCommandsComplete := by
  intro s _
  simp only [exec_answers, implies_true, and_self]

end Sys2Proof.Machine

namespace Sys2Proof.Machine

/-- Steps that each establish a fact about their own item and keep it for every other leave it true of each item of
the list. -/
theorem foldl_establishes {α : Type} {f : Module → α → Module} {P : α → Module → Prop} (own : ∀ m a, P a (f m a))
    (keep : ∀ m a b, P a m → P a (f m b)) (l : List α) (m : Module) : ∀ a ∈ l, P a (l.foldl f m) := by
  induction l generalizing m with
  | nil => simp
  | cons x r ih =>
    intro a ha
    obtain rfl | hr := List.mem_cons.1 ha
    · exact List.foldlRecOn (motive := P a) r f (own m a) fun n h b _ => keep n a b h
    · exact ih (f m x) a hr

/-- The generator is under OFF, with both outputs inactive (R274). -/
def Gen.Off (x : Gen) : Prop := x.act = some .off ∧ x.heldA = .inactive ∧ x.heldB = .inactive

/-- `n` differs from `m` in registers only, and in none but those that show what generator `g` is under. -/
def ShowsGen (g : Nat) (m n : Module) : Prop :=
  (∃ regs, n = { m with regs := regs })
    ∧ ∀ a, a ≠ R.PWM_STAT g → a ≠ R.PWM_CARRYA g → a ≠ R.PWM_CARRYB g → n.rd a = m.rd a

variable {m n : Module} {g : Nat}

theorem ShowsGen.refl (g : Nat) (m : Module) : ShowsGen g m m := ⟨⟨_, rfl⟩, fun _ _ _ _ => rfl⟩

theorem ShowsGen.wf_stat (h : ShowsGen g m n) (f : Field) (v : Nat) : ShowsGen g m (n.wf (R.PWM_STAT g) f v) := by
  obtain ⟨⟨_, rfl⟩, kept⟩ := h
  exact ⟨⟨_, rfl⟩, fun a h1 h2 h3 => (rd_wf_ne _ f v h1.symm).trans (kept a h1 h2 h3)⟩

theorem ShowsGen.clearCarries (h : ShowsGen g m n) : ShowsGen g m (n.clearCarries g) := by
  obtain ⟨⟨_, rfl⟩, kept⟩ := h
  exact ⟨⟨_, rfl⟩, fun a h1 h2 h3 => ((rd_wr_ne _ 0 h3.symm).trans (rd_wr_ne _ 0 h2.symm)).trans (kept a h1 h2 h3)⟩

/-- Under the mode hold OFF governs every generator (R275, R278). -/
theorem actFor_of_modeHold (h : m.sys.modeHold = true) (g : Nat) : m.actFor g = some .off := by
  simp [Module.actFor, firstAct, h]

/-- What bringing a generator under its action can do: its registers show it, and its state stays or is replaced; under
the mode hold it is replaced by one under OFF. -/
theorem refreshGen_inv (m : Module) (g : Nat) : ∃ n, ShowsGen g m n ∧
    ((m.sys.modeHold = false ∧ m.refreshGen g = n)
      ∨ ∃ x, m.refreshGen g = n.setGen g x ∧ (m.sys.modeHold = true → x.Off)) := by
  unfold Module.refreshGen
  extract_lets x acts m1 m2 m3
  have shown : ShowsGen g m m3 := (((ShowsGen.refl g m).wf_stat _ _).wf_stat _ _).wf_stat _ _
  have hold : m.sys.modeHold = true → m3.actFor g = some .off := (actFor_of_modeHold (m := m3) · g)
  split
  next hact _ => exact ⟨m3, shown, .inr ⟨_, rfl, fun h => by simp [hold h] at hact⟩⟩
  next hact _ =>
    split
    · exact ⟨m3, shown, .inl ⟨by simpa [hact] using hold, rfl⟩⟩
    · exact ⟨m3, shown, .inr ⟨_, rfl, fun h => by simp [hold h] at hact⟩⟩
  next hact _ => exact ⟨_, shown.clearCarries, .inr ⟨_, rfl, fun h => by simp [hold h] at hact⟩⟩
  next _ a hact _ =>
    have cleared : ShowsGen g m (if x.act.isNone then m3.clearCarries g else m3) := by
      split
      · exact shown.clearCarries
      · exact shown
    refine ⟨_, cleared, .inr ⟨_, rfl, fun h => ?_⟩⟩
    obtain rfl : a = .off := by simpa [hact] using hold h
    exact ⟨rfl, rfl, rfl⟩

/-! #### What a refresh leaves alone -/

/-- `n` differs from `m` at most in what generators, gate channels and ring ports hold and in the registers that show
them; the requests of the lines and the lines that are active are those of `m`. -/
def Refreshed (m n : Module) : Prop :=
  (∃ regs gens gate rings, n = { m with regs := regs, pwm := { m.pwm with gens := gens }, gate := gate, rings := rings })
    ∧ ∀ a, a < 0x90000 ∨ a = R.PWM_FL_ACT → n.rd a = m.rd a

theorem Refreshed.refl (m : Module) : Refreshed m m := ⟨⟨_, _, _, _, rfl⟩, fun _ _ => rfl⟩

theorem Refreshed.trans {l : Module} (h : Refreshed l m) (h' : Refreshed m n) : Refreshed l n := by
  obtain ⟨⟨_, _, _, _, rfl⟩, kept⟩ := h
  obtain ⟨⟨_, _, _, _, rfl⟩, kept'⟩ := h'
  exact ⟨⟨_, _, _, _, rfl⟩, fun a ha => (kept' a ha).trans (kept a ha)⟩

theorem Refreshed.foldl {α : Type} {f : Module → α → Module} (hf : ∀ m x, Refreshed m (f m x)) (l : List α) (m : Module) :
    Refreshed m (l.foldl f m) :=
  List.foldlRecOn l f (.refl m) fun n h x _ => h.trans (hf n x)

theorem refreshGen_refreshed (m : Module) (g : Nat) : Refreshed m (m.refreshGen g) := by
  obtain ⟨_, ⟨⟨_, rfl⟩, kept⟩, h⟩ := refreshGen_inv m g
  have low : ∀ a, a < 0x90000 ∨ a = R.PWM_FL_ACT → a ≠ R.PWM_STAT g ∧ a ≠ R.PWM_CARRYA g ∧ a ≠ R.PWM_CARRYB g := by
    simp only [R.PWM_FL_ACT, R.PWM_STAT, R.PWM_CARRYA, R.PWM_CARRYB]
    omega
  have same (a) (ha : a < 0x90000 ∨ a = R.PWM_FL_ACT) := kept a (low a ha).1 (low a ha).2.1 (low a ha).2.2
  obtain ⟨-, h⟩ | ⟨x, h, -⟩ := h
  · exact h ▸ ⟨⟨_, _, _, _, rfl⟩, same⟩
  · exact h ▸ ⟨⟨_, _, _, _, rfl⟩, same⟩

/-! #### Gate channels and ring ports -/

/-- `n` differs from `m` at most in the gate dies and in the registers GD_nn_STAT. -/
def GatesOnly (m n : Module) : Prop :=
  (∃ regs gate, n = { m with regs := regs, gate := gate }) ∧ ∀ a, (∀ ch, a ≠ R.GD_STAT ch) → n.rd a = m.rd a

theorem GatesOnly.refl (m : Module) : GatesOnly m m := ⟨⟨_, _, rfl⟩, fun _ _ => rfl⟩

theorem GatesOnly.trans {l : Module} (h : GatesOnly l m) (h' : GatesOnly m n) : GatesOnly l n := by
  obtain ⟨⟨_, _, rfl⟩, kept⟩ := h
  obtain ⟨⟨_, _, rfl⟩, kept'⟩ := h'
  exact ⟨⟨_, _, rfl⟩, fun a ha => (kept' a ha).trans (kept a ha)⟩

theorem GatesOnly.gate (m : Module) (x : Gate) : GatesOnly m { m with gate := x } := ⟨⟨_, _, rfl⟩, fun _ _ => rfl⟩

theorem setGd_gatesOnly (m : Module) (ch : Nat) (f : Field) (b : Bool) : GatesOnly m (m.setGd ch f b) :=
  ⟨⟨_, _, rfl⟩, fun _ ha => rd_wf_ne m f _ (ha ch).symm⟩

theorem gdOff_gatesOnly (m : Module) (ch : Nat) : GatesOnly m (m.gdOff ch) := by
  unfold Module.gdOff
  split
  · exact ((setGd_gatesOnly _ _ _ _).trans (.gate _ _)).trans (setGd_gatesOnly _ _ _ _)
  · exact .refl m

theorem gdSoftOff_gatesOnly (m : Module) (ch : Nat) : GatesOnly m (m.gdSoftOff ch) := by
  unfold Module.gdSoftOff
  split
  · exact ((setGd_gatesOnly _ _ _ _).trans (.gate _ _)).trans (setGd_gatesOnly _ _ _ _)
  · exact .refl m

theorem gdFall_gatesOnly (m : Module) (ch : Nat) : GatesOnly m (m.gdFall ch) := by
  unfold Module.gdFall
  extract_lets m1 m2
  have off : GatesOnly m1 m2 := by
    unfold m2
    split
    · exact gdSoftOff_gatesOnly m1 ch
    · exact gdOff_gatesOnly m1 ch
  exact ((setGd_gatesOnly m ch _ _).trans off).trans (.gate _ _)

theorem dropGates_gatesOnly (m : Module) : GatesOnly m m.dropGates := by
  refine List.foldlRecOn _ _ (.refl m) fun n h ch _ => h.trans ?_
  split
  · exact gdFall_gatesOnly n ch
  · exact .refl n

theorem refreshPorts_eq (m : Module) (l : List Nat) : ∃ r, l.foldl Module.refreshPort m = { m with rings := r } := by
  induction l generalizing m with
  | nil => exact ⟨m.rings, rfl⟩
  | cons p l ih =>
    have one : ∃ r, m.refreshPort p = { m with rings := r } := by
      unfold Module.refreshPort
      extract_lets x
      split <;> exact ⟨_, rfl⟩
    obtain ⟨r, hr⟩ := one
    rw [List.foldl_cons, hr]
    exact ih _

/-- A refresh: every generator in turn, then the gate channels and the ring ports. -/
theorem refreshGens_inv (m : Module) : ∃ (l : List Nat) (n : Module) (r : SMap RingPort), (∀ g < 34, g ∈ l) ∧ GatesOnly (l.foldl Module.refreshGen m) n
    ∧ m.refreshGens = { n with rings := r } := by
  obtain ⟨r, h⟩ := refreshPorts_eq ((List.range 34).foldl Module.refreshGen m).dropGates (List.range 16)
  exact ⟨_, _, r, fun _ => List.mem_range.2, dropGates_gatesOnly _, h⟩

theorem refreshGens_refreshed (m : Module) : Refreshed m m.refreshGens := by
  obtain ⟨l, _, r, -, ⟨⟨_, _, rfl⟩, kept⟩, h⟩ := refreshGens_inv m
  rw [h]
  refine (Refreshed.foldl refreshGen_refreshed _ m).trans ⟨⟨_, _, _, _, rfl⟩, fun a ha => kept a fun ch => ?_⟩
  simp only [R.PWM_FL_ACT, R.GD_STAT] at ha ⊢
  omega

/-! #### The mode hold -/

theorem gen_setGen (m : Module) (g k : Nat) (x : Gen) : (m.setGen g x).gen k = if g = k then x else m.gen k := by
  split
  · next h => exact h ▸ SMap.getD_setD_same _ _ _ _
  · next h => exact SMap.getD_setD_ne _ _ _ h

/-- The mode hold stands, and every generator is under OFF with both outputs inactive (R278). -/
structure AllOff (m : Module) : Prop where
  hold : m.sys.modeHold = true
  off : ∀ g < 34, (m.gen g).Off

theorem AllOff.congr (h : AllOff m) (hold : n.sys.modeHold = m.sys.modeHold) (gens : n.pwm.gens = m.pwm.gens) : AllOff n :=
  ⟨hold.trans h.hold, fun g hg => by rw [Module.gen, gens]; exact h.off g hg⟩

theorem refreshGen_sys (m : Module) (g : Nat) : (m.refreshGen g).sys = m.sys := by
  obtain ⟨⟨_, _, _, _, h⟩, -⟩ := refreshGen_refreshed m g
  rw [h]

theorem refreshGen_off_same (m : Module) (g : Nat) (hold : (m.refreshGen g).sys.modeHold = true) : ((m.refreshGen g).gen g).Off := by
  rw [refreshGen_sys] at hold
  obtain ⟨_, -, ⟨free, -⟩ | ⟨x, hx, off⟩⟩ := refreshGen_inv m g
  · simp [hold] at free
  · rw [hx, gen_setGen, if_pos rfl]
    exact off hold

theorem refreshGen_gen_ne (m : Module) {g k : Nat} (h : g ≠ k) : (m.refreshGen g).gen k = m.gen k := by
  obtain ⟨_, ⟨⟨_, rfl⟩, -⟩, ⟨-, hg⟩ | ⟨x, hg, -⟩⟩ := refreshGen_inv m g
  · rw [hg]; rfl
  · rw [hg, gen_setGen, if_neg h]; rfl

theorem refreshGens_foldl_off (l : List Nat) (m : Module) :
    ∀ k ∈ l, (l.foldl Module.refreshGen m).sys.modeHold = true → ((l.foldl Module.refreshGen m).gen k).Off := by
  refine foldl_establishes (P := fun k n => n.sys.modeHold = true → (n.gen k).Off) refreshGen_off_same (fun n k g h hold => ?_) l m
  by_cases hg : g = k
  · exact hg ▸ refreshGen_off_same n g hold
  · rw [refreshGen_gen_ne n hg]
    exact h (refreshGen_sys n g ▸ hold)

/-- Under the mode hold a refresh leaves every generator under OFF. -/
theorem refreshGens_allOff (hold : m.sys.modeHold = true) : AllOff m.refreshGens := by
  obtain ⟨⟨_, _, _, _, h⟩, -⟩ := refreshGens_refreshed m
  obtain ⟨l, _, r, all, ⟨⟨_, _, rfl⟩, -⟩, h'⟩ := refreshGens_inv m
  obtain ⟨⟨_, _, _, _, hl⟩, -⟩ := Refreshed.foldl refreshGen_refreshed l m
  refine ⟨by rw [h]; exact hold, fun g hg => ?_⟩
  rw [h']
  exact refreshGens_foldl_off l m g (all g hg) (by rw [hl]; exact hold)

/-- With every generator under OFF the turntable commands no gate channel (R256, R278). -/
theorem AllOff.gateLevel (h : AllOff m) {ch : Nat} (hch : ch < 24) : m.gateLevel ch = false := by
  have src : m.rf (R.PWM_TT (ch / 2)) F.PWM_TT_SRC < 34 := by
    rw [Module.rf, fget_eq]
    exact lt_of_lt_of_le (Nat.mod_lt _ (by decide)) (by decide)
  obtain ⟨act, a, b⟩ := h.off _ src
  have level (t : Nat) (out : Bool) : m.genLevel (m.rf (R.PWM_TT (ch / 2)) F.PWM_TT_SRC) t out = .inactive := by
    simp [Module.genLevel, act, a, b]
  have gatePin : ¬ 12 ≤ ch / 2 := by omega
  simp [Module.gateLevel, Module.pinLevel, level, gatePin]

/-! #### Line operations -/

/-- `n` differs from `m` at most in what lines, generators, gate channels and ring ports hold, and in no register below
theirs. -/
def LinesOnly (m n : Module) : Prop :=
  (∃ regs pwm gate rings, n = { m with regs := regs, pwm := pwm, gate := gate, rings := rings })
    ∧ ∀ a < 0x90000, n.rd a = m.rd a

theorem LinesOnly.refl (m : Module) : LinesOnly m m := ⟨⟨_, _, _, _, rfl⟩, fun _ _ => rfl⟩

theorem LinesOnly.trans {l : Module} (h : LinesOnly l m) (h' : LinesOnly m n) : LinesOnly l n := by
  obtain ⟨⟨_, _, _, _, rfl⟩, low⟩ := h
  obtain ⟨⟨_, _, _, _, rfl⟩, low'⟩ := h'
  exact ⟨⟨_, _, _, _, rfl⟩, fun a ha => (low' a ha).trans (low a ha)⟩

theorem LinesOnly.foldl {α : Type} {f : Module → α → Module} (hf : ∀ m x, LinesOnly m (f m x)) (l : List α) (m : Module) :
    LinesOnly m (l.foldl f m) :=
  List.foldlRecOn l f (.refl m) fun n h x _ => h.trans (hf n x)

theorem LinesOnly.wr (m : Module) {a : Nat} (v : DWord) (h : 0x90000 ≤ a) : LinesOnly m (m.wr a v) :=
  ⟨⟨_, _, _, _, rfl⟩, fun b hb => rd_wr_ne m v (by omega)⟩

theorem LinesOnly.pwm (m : Module) (p : Pwm) : LinesOnly m { m with pwm := p } := ⟨⟨_, _, _, _, rfl⟩, fun _ _ => rfl⟩

theorem Refreshed.linesOnly (h : Refreshed m n) : LinesOnly m n := by
  obtain ⟨⟨_, _, _, _, rfl⟩, kept⟩ := h
  exact ⟨⟨_, _, _, _, rfl⟩, fun a ha => kept a (.inl ha)⟩

theorem GatesOnly.linesOnly (h : GatesOnly m n) : LinesOnly m n := by
  obtain ⟨⟨_, _, rfl⟩, kept⟩ := h
  refine ⟨⟨_, _, _, _, rfl⟩, fun a ha => kept a fun ch => ?_⟩
  simp only [R.GD_STAT]
  omega

theorem line_reg_high (l : Nat) : 0x90000 ≤ R.PWM_FL_STAT l ∧ 0x90000 ≤ R.PWM_FL_CNT l := by
  simp only [R.PWM_FL_STAT, R.PWM_FL_CNT]
  omega

theorem setFlStat_linesOnly (m : Module) (l : Nat) (f : Field) (b : Bool) : LinesOnly m (m.setFlag (R.PWM_FL_STAT l) f b) :=
  .wr m _ (line_reg_high l).1

theorem setLine_linesOnly (m : Module) (l : Nat) (b : Bool) : LinesOnly m (m.setLine l b) :=
  (((setFlStat_linesOnly m l _ b).trans (.pwm _ _)).trans (.wr _ _ (by decide))).trans (refreshGens_refreshed _).linesOnly

theorem setReqs_linesOnly (m : Module) (l : Nat) (rs : List Req) : LinesOnly m (m.setReqs l rs) :=
  (LinesOnly.pwm m _).trans (.wr _ _ (line_reg_high l).1)

theorem settleLine_linesOnly (m : Module) (l : Nat) : LinesOnly m (m.settleLine l) := by
  unfold Module.settleLine
  split
  · split
    · exact .refl m
    · split
      · exact setFlStat_linesOnly m l _ true
      · exact setLine_linesOnly m l false
  · exact .refl m

theorem withdrawLine_linesOnly (m : Module) (l : Nat) (r : Req) : LinesOnly m (m.withdrawLine l r) := by
  unfold Module.withdrawLine
  split
  · exact (setReqs_linesOnly m l _).trans (settleLine_linesOnly _ l)
  · exact .refl m

theorem settleXc_linesOnly (m : Module) : LinesOnly m m.settleXc := by
  refine LinesOnly.foldl (fun n hb => ?_) _ m
  split
  · exact .refl n
  · exact LinesOnly.foldl (fun n l => withdrawLine_linesOnly n l _) _ n

theorem bump_linesOnly (m : Module) {a sat : Nat} (i : Nat) (ha : 0x90000 ≤ a) (hs : 0x90000 ≤ sat) :
    LinesOnly m (m.bump a sat i) := by
  unfold Module.bump
  extract_lets v m1
  have counted : LinesOnly m m1 := by
    unfold m1
    split
    · exact .wr m _ ha
    · exact .refl m
  split
  · exact counted.trans (.wr m1 _ hs)
  · exact counted

theorem requestLine_linesOnly (m : Module) (l : Nat) (r : Req) : LinesOnly m (m.requestLine l r) := by
  unfold Module.requestLine
  extract_lets rs m1 m2
  have latched : LinesOnly m m2 := by
    have reqs : LinesOnly m m1 := setReqs_linesOnly m l _
    unfold m2
    split
    · exact reqs.trans (setFlStat_linesOnly m1 l _ true)
    · exact reqs
  split
  · exact latched
  · exact ((latched.trans (bump_linesOnly m2 l (line_reg_high l).2 (by decide))).trans (setLine_linesOnly _ l true)).trans
      (settleXc_linesOnly _)

/-- The mode hold touches `sys` in its own place only (R278). -/
theorem setHold_linesOnly (m : Module) (b : Bool) : LinesOnly { m with sys := { m.sys with modeHold := b } } (m.setHold b) :=
  (refreshGens_refreshed _).linesOnly.trans (settleXc_linesOnly _)

/-! #### OFF stands through the releases that the mode hold brings -/

theorem setLine_allOff (hold : m.sys.modeHold = true) (l : Nat) (b : Bool) : AllOff (m.setLine l b) :=
  refreshGens_allOff hold

theorem settleLine_allOff (h : AllOff m) (l : Nat) : AllOff (m.settleLine l) := by
  unfold Module.settleLine
  split
  · split
    · exact h
    · split
      · exact h.congr rfl rfl
      · exact setLine_allOff h.hold l false
  · exact h

theorem withdrawLine_allOff (h : AllOff m) (l : Nat) (r : Req) : AllOff (m.withdrawLine l r) := by
  unfold Module.withdrawLine
  split
  · exact settleLine_allOff (m := m.setReqs l _) (h.congr rfl rfl) l
  · exact h

theorem settleXc_allOff (h : AllOff m) : AllOff m.settleXc := by
  refine List.foldlRecOn _ _ h fun n h hb _ => ?_
  split
  · exact h
  · exact List.foldlRecOn _ _ h fun n h l _ => withdrawLine_allOff h l _

/-- The mode hold puts every generator under OFF (R278). -/
theorem setHold_allOff (m : Module) : AllOff (m.setHold true) := settleXc_allOff (refreshGens_allOff rfl)

end Sys2Proof.Machine

namespace Sys2Proof.Machine
variable {m n : Module}

/-! ### The passing of time (R14, R190, R203) -/

/-- Time line, time of day and memory of `n` are those of `m`. -/
structure TimeStands (m n : Module) : Prop where
  now : n.now = m.now
  todNs : n.todNs = m.todNs
  todSec : n.todSec = m.todSec
  mem : n.mem = m.mem

theorem TimeStands.refl (m : Module) : TimeStands m m := ⟨rfl, rfl, rfl, rfl⟩

theorem TimeStands.trans {l : Module} (h : TimeStands l m) (h' : TimeStands m n) : TimeStands l n :=
  ⟨h'.now.trans h.now, h'.todNs.trans h.todNs, h'.todSec.trans h.todSec, h'.mem.trans h.mem⟩

theorem TimeStands.ite {c : Prop} [Decidable c] {a b : Module} (ha : TimeStands m a) (hb : TimeStands m b) :
    TimeStands m (if c then a else b) := by
  split
  · exact ha
  · exact hb

theorem LinesOnly.timeStands (h : LinesOnly m n) : TimeStands m n := by
  obtain ⟨⟨_, _, _, _, rfl⟩, -⟩ := h
  exact ⟨rfl, rfl, rfl, rfl⟩

theorem TimeStands.wr (m : Module) (a : Nat) (v : DWord) : TimeStands m (m.wr a v) := ⟨rfl, rfl, rfl, rfl⟩
theorem TimeStands.clk (m : Module) (c : Clk) : TimeStands m { m with clk := c } := ⟨rfl, rfl, rfl, rfl⟩
theorem TimeStands.sys (m : Module) (s : Sys) : TimeStands m { m with sys := s } := ⟨rfl, rfl, rfl, rfl⟩
theorem TimeStands.raiseFree (m : Module) (src : Nat) (o : Owner) : TimeStands m (m.raiseFree src o) := ⟨rfl, rfl, rfl, rfl⟩

theorem setHold_timeStands (m : Module) (b : Bool) : TimeStands m (m.setHold b) :=
  (TimeStands.sys m _).trans (setHold_linesOnly m b).timeStands

theorem stopGens_linesOnly (m : Module) : LinesOnly m m.stopGens :=
  (LinesOnly.foldl (fun n _ => .pwm n _) _ m).trans (dropGates_gatesOnly _).linesOnly

theorem stopGens_timeStands (m : Module) : TimeStands m m.stopGens := (stopGens_linesOnly m).timeStands

theorem bandSelect_timeStands (m : Module) (next : Nat) : TimeStands m (m.bandSelect next) := by
  unfold Module.bandSelect
  extract_lets m1 m2
  have bands : TimeStands m m2 := (TimeStands.wr m _ _).trans (.clk m1 _)
  split
  · exact (bands.trans (.wr m2 _ _)).trans (.wr _ _ _)
  · exact ((bands.trans (.wr m2 _ _)).trans (stopGens_timeStands _)).trans (.raiseFree _ _ _)

theorem stopTick_timeStands (m : Module) : TimeStands m m.stopTick :=
  ((TimeStands.wr m _ _).trans (stopGens_timeStands _)).trans (.clk _ _)

theorem setTerr_timeStands (m : Module) (o : Int) : TimeStands m (m.setTerr o) := by
  unfold Module.setTerr
  extract_lets m1 run clk m2
  have shown : TimeStands m m2 := (TimeStands.wr m _ _).trans (.clk m1 _)
  exact .ite (shown.trans (.raiseFree m2 _ _)) shown

theorem compareEdge_timeStands (m : Module) : TimeStands m m.compareEdge := by
  unfold Module.compareEdge
  extract_lets lfsr m1 x clk m2
  have edge : TimeStands m m1 := .ite (.clk m _) (.refl m)
  have slewed : TimeStands m m2 := (edge.trans (.clk m1 _)).trans (setTerr_timeStands _ _)
  exact .ite (.ite (slewed.trans (.clk m2 _)) slewed) edge

/-- How long a step of the time line is in ns (R14, R190). -/
def Module.span (m : Module) : Nat := if m.ticking then 2 else 40

/-- The module with its time line and time of day moved on by one step. -/
def Module.later (m : Module) : Module := { m.todAdd m.span with now := m.now + m.span / 2 }

theorem todAdd_eq (m : Module) (d : Nat) : ∃ ns sec, m.todAdd d = { m with todNs := ns, todSec := sec } := by
  unfold Module.todAdd
  split
  · exact ⟨_, _, rfl⟩
  · exact ⟨_, _, rfl⟩

theorem later_eq (m : Module) : ∃ ns sec, m.later = { m with now := m.now + m.span / 2, todNs := ns, todSec := sec } := by
  obtain ⟨_, _, h⟩ := todAdd_eq m m.span
  exact ⟨_, _, by rw [Module.later, h]⟩

/-- A time of day that does not reach the end of its second. -/
theorem later_tod_of_lt (h : m.todNs + m.span < 1000000000) : m.later.todNs = m.todNs + m.span ∧ m.later.todSec = m.todSec := by
  simp [Module.later, Module.todAdd, h]

/-- A time of day that reaches the end of its second (R203). -/
theorem later_tod_of_le (h : 1000000000 ≤ m.todNs + m.span) :
    m.later.todNs = m.todNs + m.span - 1000000000 ∧ m.later.todSec = (m.todSec + 1) % 2 ^ 48 := by
  simp [Module.later, Module.todAdd, Nat.not_lt.2 h]

/-- Outside the marks of the clock (R186, R190, R194). -/
def Module.betweenMarks (m : Module) : Prop :=
  if m.ticking then (m.now + 1) % 100 ≠ 0 ∧ m.clk.stopAt ≠ some (m.now + 1)
  else m.powered = false ∨ (m.clkState ≠ 3 ∧ m.clkState ≠ 7)

theorem tickOn_timeStands (h : m.ticking = true) : TimeStands m.later m.tickOn := by
  have hl : m.later = { m.tickTod with now := m.now + 1 } := by rw [Module.later, Module.span, if_pos h]; rfl
  unfold Module.tickOn
  rw [← hl]
  extract_lets l e
  have edge : TimeStands m.later e := .ite (compareEdge_timeStands _) (.refl _)
  exact .ite (edge.trans (stopTick_timeStands e)) edge

theorem crystalMark_timeStands (h : m.ticking = false) : TimeStands m.later m.crystalMark := by
  have hl : m.later = { m.todAdd 40 with now := m.now + 20 } := by simp [Module.later, Module.span, h]
  unfold Module.crystalMark
  rw [← hl]
  exact .ite (.refl _) (.ite (bandSelect_timeStands _ 2) (.ite ⟨rfl, rfl, rfl, rfl⟩ (.refl _)))

theorem tick_timeStands (m : Module) : TimeStands m.later m.tick := by
  have clock : TimeStands m.later m.clockTick := by
    unfold Module.clockTick
    split
    · next h => exact tickOn_timeStands h
    · next h => exact crystalMark_timeStands (by simpa using h)
  exact .ite (clock.trans (setHold_timeStands _ true)) clock

theorem clockTick_of_betweenMarks (h : m.betweenMarks) : m.clockTick = m.later := by
  obtain ⟨ns, sec, later⟩ := later_eq m
  unfold Module.betweenMarks at h
  unfold Module.clockTick
  split at h
  · next ht =>
    have hl : ({ m.tickTod with now := m.now + 1 } : Module) = m.later := by rw [Module.later, Module.span, if_pos ht]; rfl
    simp only [ht, if_true, Module.tickOn, hl]
    simp [later, Module.span, ht, h.1, h.2]
  · next ht =>
    have hl : ({ m.todAdd 40 with now := m.now + 20 } : Module) = m.later := by simp [Module.later, Module.span, ht]
    simp only [ht, Bool.false_eq_true, if_false, Module.crystalMark, hl]
    have same : m.later.powered = m.powered ∧ m.later.clkState = m.clkState := by rw [later]; exact ⟨rfl, rfl⟩
    rw [same.1, same.2]
    obtain h | ⟨h3, h7⟩ := h
    · simp [h]
    · simp [h3, h7]

/-- Nothing but the time moves on between the marks of the clock, where no held-back boundary falls due. -/
theorem tick_of_betweenMarks (h : m.betweenMarks) (free : m.sys.alignHold = false ∨ m.later.now < m.sys.frameTick + m.frameLen) :
    m.tick = m.later := by
  obtain ⟨ns, sec, later⟩ := later_eq m
  have notHeld : m.later.heldBack = false := by
    have same : m.later.heldBack = (m.sys.alignHold && decide (m.sys.frameTick + m.frameLen ≤ m.later.now)) := by
      rw [later]; rfl
    rw [same, Bool.and_eq_false_iff, decide_eq_false_iff_not, Nat.not_le]
    exact free
  simp [Module.tick, clockTick_of_betweenMarks h, notHeld]

/-- Settles O57: a step with a command waiting is `exec` by definition; with none it is `Module.tick`, which moves the time on
(`Module.later`) and keeps the time and the memory through whatever the clock and the mode hold then do. -/
theorem stepTakesTheFrontOfTheQueue : Obligations.StepTakesTheFrontOfTheQueue := by
  refine ⟨fun _ _ _ => rfl, fun m => ⟨m.tick, rfl, ?_⟩⟩
  obtain ⟨now, ns, sec, mem⟩ := tick_timeStands m
  obtain ⟨ns', sec', later⟩ := later_eq m
  rw [now, ns, sec]
  refine ⟨by rw [mem, later], by rw [later]; rfl, later_tod_of_lt, later_tod_of_le, fun marks free => ?_⟩
  rw [tick_of_betweenMarks marks free, later]

end Sys2Proof.Machine

namespace Sys2Proof.Machine
variable {m n : Module}

/-! ### A request that stands keeps its line active (R273) -/

/-- Line `l` is active with request `r` standing. -/
structure Asserts (m : Module) (l : Nat) (r : Req) : Prop where
  stands : r ∈ m.lineReqs l
  active : m.lineActive l = true

theorem lineActive_congr (h : n.rd R.PWM_FL_ACT = m.rd R.PWM_FL_ACT) (l : Nat) : n.lineActive l = m.lineActive l := by
  rw [Module.lineActive, Module.lineActive, Module.bit, Module.bit, Module.flag, Module.flag, Module.rf, Module.rf, h]

theorem Asserts.congr {l : Nat} {r : Req} (h : Asserts m l r) (reqs : n.pwm.reqs = m.pwm.reqs)
    (act : n.rd R.PWM_FL_ACT = m.rd R.PWM_FL_ACT) : Asserts n l r :=
  ⟨by rw [Module.lineReqs, reqs]; exact h.stands, (lineActive_congr act l).trans h.active⟩

theorem fl_stat_ne_act (l : Nat) : R.PWM_FL_STAT l ≠ R.PWM_FL_ACT := by
  simp only [R.PWM_FL_STAT, R.PWM_FL_ACT]
  omega

theorem fl_cnt_ne_act (l : Nat) : R.PWM_FL_CNT l ≠ R.PWM_FL_ACT := by
  simp only [R.PWM_FL_CNT, R.PWM_FL_ACT]
  omega

section
variable {l : Nat} {r : Req}

theorem Asserts.wr (h : Asserts m l r) {a : Nat} (v : DWord) (ha : a ≠ R.PWM_FL_ACT) : Asserts (m.wr a v) l r :=
  h.congr rfl (rd_wr_ne m v ha)

/-- A line made active or released: its bit of PWM_FL_ACT, and a refresh. -/
theorem setLine_inv (m : Module) (k : Nat) (b : Bool) : ∃ n : Module, n.pwm.reqs = m.pwm.reqs
    ∧ n.rd R.PWM_FL_ACT = m.rd R.PWM_FL_ACT ∧ Refreshed (n.setBit R.PWM_FL_ACT k b) (m.setLine k b) := by
  refine ⟨_, ?_, ?_, refreshGens_refreshed _⟩
  · rfl
  · exact rd_wf_ne m _ _ (fl_stat_ne_act k)

theorem setLine_reqs (m : Module) (k : Nat) (b : Bool) : (m.setLine k b).pwm.reqs = m.pwm.reqs := by
  obtain ⟨_, reqs, -, ⟨_, _, _, _, h⟩, -⟩ := setLine_inv m k b
  rw [h]
  exact reqs

theorem setLine_lineActive_same (m : Module) (hl : l < 64) (b : Bool) : (m.setLine l b).lineActive l = b := by
  obtain ⟨n, -, -, -, kept⟩ := setLine_inv m l b
  exact (lineActive_congr (kept _ (.inr rfl)) l).trans (bit_setBit_same n _ _ b hl)

theorem setLine_lineActive_ne (m : Module) {k : Nat} (hk : k ≠ l) (hl : l < 64) (b : Bool) :
    (m.setLine k b).lineActive l = m.lineActive l := by
  obtain ⟨n, -, act, -, kept⟩ := setLine_inv m k b
  exact ((lineActive_congr (kept _ (.inr rfl)) l).trans (bit_setBit_ne n _ b hk hl)).trans (lineActive_congr act l)

theorem Asserts.setLine (h : Asserts m l r) (hl : l < 64) (k : Nat) (b : Bool) (hb : k = l → b = true) :
    Asserts (m.setLine k b) l r := by
  refine ⟨by rw [Module.lineReqs, setLine_reqs]; exact h.stands, ?_⟩
  by_cases hk : k = l
  · rw [hk, setLine_lineActive_same m hl, hb hk]
  · rw [setLine_lineActive_ne m hk hl, h.active]

theorem lineReqs_setReqs (m : Module) (k l : Nat) (rs : List Req) :
    (m.setReqs k rs).lineReqs l = if k = l then rs else m.lineReqs l := by
  split
  · next h => exact h ▸ SMap.getD_setD_same _ _ _ _
  · next h => exact SMap.getD_setD_ne _ _ _ h

theorem Asserts.setReqs (h : Asserts m l r) (k : Nat) (rs : List Req) (hr : k = l → r ∈ rs) : Asserts (m.setReqs k rs) l r := by
  refine ⟨?_, (h.wr _ (fl_stat_ne_act k)).active⟩
  rw [lineReqs_setReqs]
  split
  · next hk => exact hr hk
  · exact h.stands

theorem Asserts.settleLine (h : Asserts m l r) (hl : l < 64) (k : Nat) : Asserts (m.settleLine k) l r := by
  unfold Module.settleLine
  split
  · next empty =>
    have other : k ≠ l := by
      rintro rfl
      have stands := h.stands
      simp only [Bool.and_eq_true, List.isEmpty_iff] at empty
      simp [empty.1] at stands
    split
    · exact h
    · split
      · exact h.wr _ (fl_stat_ne_act k)
      · exact h.setLine hl k false (fun hk => absurd hk other)
  · exact h

theorem Asserts.withdrawLine (h : Asserts m l r) (hl : l < 64) (k : Nat) {q : Req} (hq : r ≠ q) :
    Asserts (m.withdrawLine k q) l r := by
  unfold Module.withdrawLine
  split
  · refine (h.setReqs k _ fun hk => ?_).settleLine hl k
    exact List.mem_filter.2 ⟨hk ▸ h.stands, by simpa using hq⟩
  · exact h

theorem Asserts.settleXc (h : Asserts m l r) (hl : l < 64) (hr : ∀ hb, r ≠ .gd hb 2) : Asserts m.settleXc l r := by
  refine List.foldlRecOn (motive := (Asserts · l r)) _ _ h fun n h hb _ => ?_
  split
  · exact h
  · exact List.foldlRecOn (motive := (Asserts · l r)) _ _ h fun n h k _ => h.withdrawLine hl k (hr hb)

theorem bump_inv (m : Module) (a sat i : Nat) :
    ∃ regs, m.bump a sat i = { m with regs := regs } ∧ ∀ b, b ≠ a → b ≠ sat → SMap.get regReset regs b = m.rd b := by
  have counted : ∃ regs, (if m.rn a < 0xFFFFFFFF then m.wn a (m.rn a + 1) else m) = { m with regs := regs }
      ∧ ∀ b, b ≠ a → SMap.get regReset regs b = m.rd b := by
    split
    · exact ⟨_, rfl, fun b ha => rd_wr_ne m _ ha.symm⟩
    · exact ⟨_, rfl, fun _ _ => rfl⟩
  obtain ⟨regs, h, kept⟩ := counted
  simp only [Module.bump, h]
  split
  · exact ⟨_, rfl, fun b ha hs => (rd_setBit_ne { m with regs := regs } i true hs.symm).trans (kept b ha)⟩
  · exact ⟨_, rfl, fun b ha _ => kept b ha⟩

/-- A request: the line's requests with it, the latch where the line has one, and from released to active its count and
its rise. -/
theorem requestLine_inv (m : Module) (k : Nat) (q : Req) : ∃ rs n, q ∈ rs ∧ (∀ r ∈ m.lineReqs k, r ∈ rs)
    ∧ (n = m.setReqs k rs ∨ n = (m.setReqs k rs).setFlag (R.PWM_FL_STAT k) F.PWM_FL_STAT_LATCHED true)
    ∧ ((n.lineActive k = true ∧ m.requestLine k q = n)
      ∨ m.requestLine k q = ((n.bump (R.PWM_FL_CNT k) R.PWM_FL_SAT k).setLine k true).settleXc) := by
  unfold Module.requestLine
  extract_lets rs m1 m2
  refine ⟨if q ∈ rs then rs else rs ++ [q], m2, ?_, ?_, ?_, ?_⟩
  · split <;> simp_all
  · intro r hr
    split <;> simp_all [rs]
  · unfold m2
    split
    · exact .inr rfl
    · exact .inl rfl
  · split
    · next h => exact .inl ⟨h, rfl⟩
    · exact .inr rfl

/-- Another request, or the same again, leaves what stands. -/
theorem Asserts.requestLine (h : Asserts m l r) (hl : l < 64) (hr : ∀ hb, r ≠ .gd hb 2) (k : Nat) (q : Req) :
    Asserts (m.requestLine k q) l r := by
  obtain ⟨rs, n, -, keeps, hn, step⟩ := requestLine_inv m k q
  have shown : Asserts (m.setReqs k rs) l r := h.setReqs k rs fun hk => keeps r (hk ▸ h.stands)
  have latched : Asserts n l r := by
    obtain rfl | rfl := hn
    · exact shown
    · exact shown.wr _ (fl_stat_ne_act k)
  obtain ⟨-, step⟩ | step := step
  · exact step ▸ latched
  · rw [step]
    have counted : Asserts (n.bump (R.PWM_FL_CNT k) R.PWM_FL_SAT k) l r := by
      obtain ⟨_, h, kept⟩ := bump_inv n (R.PWM_FL_CNT k) R.PWM_FL_SAT k
      rw [h]
      exact latched.congr rfl (kept _ (fl_cnt_ne_act k).symm (by decide))
    exact (counted.setLine hl k true fun _ => rfl).settleXc hl hr

/-- A request makes its line active. -/
theorem requestLine_asserts (m : Module) (hl : l < 64) (hr : ∀ hb, r ≠ .gd hb 2) : Asserts (m.requestLine l r) l r := by
  obtain ⟨rs, n, mem, -, hn, step⟩ := requestLine_inv m l r
  have stands : r ∈ n.lineReqs l := by
    have shown : r ∈ (m.setReqs l rs).lineReqs l := by rwa [lineReqs_setReqs, if_pos rfl]
    obtain rfl | rfl := hn
    · exact shown
    · exact shown
  obtain ⟨active, step⟩ | step := step
  · exact step ▸ ⟨stands, active⟩
  · rw [step]
    obtain ⟨_, counted, -⟩ := bump_inv n (R.PWM_FL_CNT l) R.PWM_FL_SAT l
    rw [counted]
    refine Asserts.settleXc ⟨?_, setLine_lineActive_same _ hl true⟩ hl hr
    rwa [Module.lineReqs, setLine_reqs]
end

end Sys2Proof.Machine

namespace Sys2Proof.Machine
variable {m n : Module}

/-! ### Engines: journals written back, blocks stopped (R105, R107) -/

/-- `n` differs from `m` at most in memory, in what the engines hold, and in registers ENG_nn_STAT. -/
def EnginesOnly (m n : Module) : Prop :=
  (∃ regs mem eng, n = { m with regs := regs, mem := mem, eng := eng }) ∧ ∀ a, (∀ p, a ≠ R.ENG_STAT p) → n.rd a = m.rd a

theorem EnginesOnly.refl (m : Module) : EnginesOnly m m := ⟨⟨_, _, _, rfl⟩, fun _ _ => rfl⟩

theorem EnginesOnly.trans {l : Module} (h : EnginesOnly l m) (h' : EnginesOnly m n) : EnginesOnly l n := by
  obtain ⟨⟨_, _, _, rfl⟩, kept⟩ := h
  obtain ⟨⟨_, _, _, rfl⟩, kept'⟩ := h'
  exact ⟨⟨_, _, _, rfl⟩, fun a ha => (kept' a ha).trans (kept a ha)⟩

theorem setBlk_enginesOnly (m : Module) (e : Nat) (b : Option Blk) : EnginesOnly m (m.setBlk e b) :=
  ⟨⟨_, _, _, rfl⟩, fun _ _ => rfl⟩

theorem engState_enginesOnly (m : Module) (e st : Nat) : EnginesOnly m (m.engState e st) :=
  ⟨⟨_, _, _, rfl⟩, fun _ ha => rd_wf_ne m _ st (ha _).symm⟩

/-- Writing a journal back changes the memory, and the words whose parity fails, only. -/
theorem unjournal_eq (m : Module) (e : Nat) (j : List (Nat × Word)) : ∃ mem failing,
    m.unjournal e j = { m with mem := mem, eng := { m.eng with failing := failing } } := by
  induction j generalizing m with
  | nil => exact ⟨_, _, rfl⟩
  | cons p j ih =>
    have word : ∃ mem failing, m.setMw (m.dmAddr e p.1) p.2 = { m with mem := mem, eng := { m.eng with failing := failing } } :=
      ⟨_, _, setBytes_eq _ m _⟩
    obtain ⟨mem, failing, hw⟩ := word
    obtain ⟨mem', failing', hj⟩ := ih (m.setMw (m.dmAddr e p.1) p.2)
    exact ⟨mem', failing', by rw [Module.unjournal, hj, hw]⟩

theorem unjournal_enginesOnly (m : Module) (e : Nat) (j : List (Nat × Word)) : EnginesOnly m (m.unjournal e j) := by
  obtain ⟨_, _, h⟩ := unjournal_eq m e j
  exact h ▸ ⟨⟨_, _, _, rfl⟩, fun _ _ => rfl⟩

theorem unjournal_blk (m : Module) (e : Nat) (j : List (Nat × Word)) (l : Nat) : (m.unjournal e j).blk l = m.blk l := by
  obtain ⟨_, _, h⟩ := unjournal_eq m e j
  rw [h]
  rfl

theorem stopBlk_enginesOnly (m : Module) (e : Nat) (b : Blk) : EnginesOnly m (m.stopBlk e b) :=
  ((unjournal_enginesOnly m e b.journal).trans (setBlk_enginesOnly _ e _)).trans (engState_enginesOnly _ e 0)

theorem stopBlk_blk_ne (m : Module) {e l : Nat} (b : Blk) (h : e ≠ l) : (m.stopBlk e b).blk l = m.blk l :=
  (setBlk_blk_ne _ _ h).trans (unjournal_blk m e b.journal l)

/-- A block open on engine `e` is a stopped one. -/
def StoppedOn (e : Nat) (m : Module) : Prop := ∀ b, m.blk e = some b → b.state = .stopped

theorem stopBlk_stoppedOn (m : Module) (e : Nat) (b : Blk) : StoppedOn e (m.stopBlk e b) := by
  intro c hc
  have own : (m.stopBlk e b).blk e = some { (m.restore e b).2 with state := .stopped } := setBlk_blk_same _ _ _
  rw [own] at hc
  exact Option.some.inj hc ▸ rfl

theorem stopBlocks_enginesOnly (m : Module) : EnginesOnly m m.stopBlocks := by
  refine List.foldlRecOn _ _ (.refl m) fun n h e _ => ?_
  split
  · split
    · exact h
    · exact h.trans (stopBlk_enginesOnly n e _)
  · exact h

/-- Every block under way is stopped (R35, R107). -/
theorem stopBlocks_stoppedOn (m : Module) {e : Nat} (he : e < 8) : StoppedOn e m.stopBlocks := by
  refine foldl_establishes (P := StoppedOn) (fun n e => ?_) (fun n e k h => ?_) (List.range 8) m e (List.mem_range.2 he)
  · split
    · next b hb =>
      split
      · next hs => exact fun c hc => by rw [hb] at hc; exact Option.some.inj hc ▸ hs
      · exact stopBlk_stoppedOn n e b
    · next hb => exact fun c hc => by simp [hb] at hc
  · split
    · next b hb =>
      split
      · exact h
      · by_cases hk : k = e
        · exact hk ▸ stopBlk_stoppedOn n k b
        · exact fun c hc => h c (stopBlk_blk_ne n b hk ▸ hc)
    · exact h

/-- What stops blocks leaves fault lines as they were. -/
theorem EnginesOnly.asserts (h : EnginesOnly m n) {l : Nat} {r : Req} (ha : Asserts m l r) : Asserts n l r := by
  obtain ⟨⟨_, _, _, rfl⟩, kept⟩ := h
  refine ha.congr rfl (kept _ fun p => ?_)
  simp only [R.PWM_FL_ACT, R.ENG_STAT]
  omega

theorem EnginesOnly.rd_of_lt (h : EnginesOnly m n) {a : Nat} (ha : a < 0x30000) : n.rd a = m.rd a := by
  refine h.2 a fun p => ?_
  simp only [R.ENG_STAT]
  omega

theorem EnginesOnly.sys (h : EnginesOnly m n) : n.sys = m.sys := by
  obtain ⟨⟨_, _, _, rfl⟩, -⟩ := h
  rfl

theorem LinesOnly.sys (h : LinesOnly m n) : n.sys = m.sys := by
  obtain ⟨⟨_, _, _, _, rfl⟩, -⟩ := h
  rfl

/-! ### Limits, core silence and the test port (R21, R36, R37, R524) -/

theorem mem_silentLines (m : Module) {l : Nat} (hl : l < 32)
    (hb : (m.cf R.PWM_FL_SILENT F.PWM_FL_SILENT_MASK).testBit l = true) : l ∈ m.silentLines := by
  refine List.mem_filter.2 ⟨List.mem_range.2 hl, decide_eq_true ?_⟩
  rw [Nat.testBit_eq_decide_div_mod_eq, decide_eq_true_eq] at hb
  rwa [bitN, Nat.shiftRight_eq_div_pow]

theorem coreSilence_of_not_issuesEnds (h : m.issuesEnds = false) : m.coreSilence = m := by
  simp [Module.coreSilence, h]

/-- The core is declared silent: latched, its lines asserted, every block stopped, and of a lead its HALT notice. -/
theorem coreSilence_inv (h : m.issuesEnds = true) : ∃ n p x, LinesOnly { m with sys := { m.sys with coreSilent := true } } n
    ∧ (∀ l ∈ m.silentLines, l < 64 → Asserts n l .silent)
    ∧ EnginesOnly n p ∧ (∀ e < 8, StoppedOn e p) ∧ m.coreSilence = { p with hl := x } := by
  unfold Module.coreSilence
  rw [if_neg (by simp [h])]
  extract_lets sys m1 m2 m3
  have lines : LinesOnly m1 m2 := LinesOnly.foldl (fun n l => requestLine_linesOnly n l .silent) m1.silentLines m1
  have asserted : ∀ l ∈ m1.silentLines, l < 64 → Asserts m2 l .silent :=
    foldl_establishes (P := fun l n => l < 64 → Asserts n l .silent) (fun n l hl => requestLine_asserts n hl (by simp))
      (fun n l k ha hl => (ha hl).requestLine hl (by simp) k .silent) m1.silentLines m1
  have engines : EnginesOnly m2 m3 := stopBlocks_enginesOnly m2
  have stopped : ∀ e < 8, StoppedOn e m3 := fun _ => stopBlocks_stoppedOn m2
  clear_value m3 m2
  split
  · exact ⟨m2, m3, _, lines, asserted, engines, stopped, rfl⟩
  · exact ⟨m2, m3, m3.hl, lines, asserted, engines, stopped, rfl⟩

theorem coreSilence_leads (h : m.issuesEnds = true) : m.coreSilence.sys.coreSilent = true
    ∧ (∀ l < 32, (m.cf R.PWM_FL_SILENT F.PWM_FL_SILENT_MASK).testBit l = true → m.coreSilence.bit R.PWM_FL_ACT l = true)
    ∧ (∀ e < 8, StoppedOn e m.coreSilence)
    ∧ m.coreSilence.rf R.SYS_MODE F.SYS_MODE_MODE = m.rf R.SYS_MODE F.SYS_MODE_MODE := by
  obtain ⟨n, p, x, lines, asserted, engines, stopped, eq⟩ := coreSilence_inv h
  rw [eq]
  refine ⟨?_, fun l hl hb => ?_, stopped, ?_⟩
  · show p.sys.coreSilent = true
    rw [engines.sys, lines.sys]
  · exact (engines.asserts (asserted l (mem_silentLines m hl hb) (by omega))).active
  · have mode : p.rd R.SYS_MODE = m.rd R.SYS_MODE := (engines.rd_of_lt (by decide)).trans (lines.2 _ (by decide))
    exact congrArg (fget · F.SYS_MODE_MODE) mode

theorem issuesEnds_false (h : m.up = false ∨ m.sys.coreSilent = true ∨ m.activeCopy = none ∨ m.ticking = false) :
    m.issuesEnds = false := by
  obtain h | h | h | h := h <;> simp [Module.issuesEnds, h]

theorem coreAnswers_of_unreported (silent : m.sys.coreSilent = true) (unreported : ∀ r ∈ m.reports, r.src ≠ FS.CORE_SILENT)
    (cause : m.haltCause ≠ 8) : m.coreAnswers = m.raiseFree FS.CORE_SILENT .none := by
  have reported : m.reports.any (·.src == FS.CORE_SILENT) = false := by simpa using unreported
  simp [Module.coreAnswers, silent, reported, cause]

/-- A command of a unit that needs the supply changes nothing without it. -/
theorem runOn_of_unpowered {s : State} (h : s.mod.powered = false) (f : Module → Module) : s.runOn f = .next s := by
  simp [State.runOn, State.run, h]

theorem runOn_of_powered {s : State} (h : s.mod.powered = true) (f : Module → Module) :
    s.runOn f = .next ⟨f s.mod, s.pending⟩ := by
  simp [State.runOn, State.run, h]

theorem raiseFree_raised (m : Module) (src : Nat) (o : Owner) : Raised m (m.raiseFree src o) src o := by
  refine ⟨Config.freeWord m.freeCtr, ?_⟩
  simp [Module.raiseFree, Module.free]

theorem runOn_of_fixed {s : State} {f : Module → Module} (h : s.mod.powered = true → f s.mod = s.mod) : s.runOn f = .next s := by
  by_cases hp : s.mod.powered = true
  · rw [runOn_of_powered hp, h hp]
  · exact runOn_of_unpowered (by simpa using hp) f

theorem exec_stopTExpiry_of_not_stopping {s : State}
    (h : s.mod.powered = false ∨ s.mod.flag R.SYS_MODE F.SYS_MODE_STOPPING = false) : exec .stopTExpiry s = .next s :=
  runOn_of_fixed fun hp => by simp [h.resolve_left (by simp [hp])]

theorem exec_stopTExpiry_of_stopping {s : State} (hp : s.mod.powered = true)
    (h : s.mod.flag R.SYS_MODE F.SYS_MODE_STOPPING = true) :
    exec .stopTExpiry s = .next ⟨{ s.mod with sys := { s.mod.sys with stopExpired := true } }, s.pending⟩ :=
  (runOn_of_powered hp _).trans (by simp [h])

theorem exec_departTimeout_of_not_due {s : State}
    (h : s.mod.powered = false ∨ s.mod.rf R.SYS_MODE F.SYS_MODE_MODE ≠ 6 ∨ s.mod.sys.departTimeout = true) :
    exec .departTimeout s = .next s := by
  show execDepartTimeout s = _
  exact runOn_of_fixed fun hp => if_pos (h.resolve_left (by simp [hp]))

theorem exec_departTimeout_of_due {s : State} (hp : s.mod.powered = true) (hm : s.mod.rf R.SYS_MODE F.SYS_MODE_MODE = 6)
    (hd : s.mod.sys.departTimeout = false) : exec .departTimeout s = .next
      ⟨({ s.mod with sys := { s.mod.sys with departTimeout := true } } : Module).raiseFree FS.DEPART_TIMEOUT .none, s.pending⟩ := by
  have due : ¬ (s.mod.mode ≠ 6 ∨ s.mod.sys.departTimeout = true) := by simp [Module.mode, hm, hd]
  show execDepartTimeout s = _
  rw [execDepartTimeout, runOn_of_powered hp, if_neg due]

theorem exec_coreAnswersAgain_of_not_silent {s : State} (h : s.mod.powered = false ∨ s.mod.sys.coreSilent = false) :
    exec .coreAnswersAgain s = .next s :=
  runOn_of_fixed fun hp => by simp [Module.coreAnswers, h.resolve_left (by simp [hp])]

theorem exec_jtagInstruction_of_usable {s : State} (hp : s.mod.powered = true) {i : TapInstr}
    (h : s.mod.rf R.SYS_MODE F.SYS_MODE_MODE = 3 ∨ i = .bypass ∨ i = .idcode) :
    exec (.jtagInstruction i) s = .next ⟨{ s.mod with tap := i }, s.pending⟩ := by
  show execJtagInstruction i s = _
  obtain h | rfl | rfl := h <;> simp [execJtagInstruction, State.run, Module.mode, *]

theorem exec_jtagInstruction_other_outside_halt {s : State} (n : BitVec 8) (h : s.mod.rf R.SYS_MODE F.SYS_MODE_MODE ≠ 3) :
    exec (.jtagInstruction (.other n)) s = .next s := by
  show execJtagInstruction (.other n) s = _
  simp [execJtagInstruction, State.run, Module.mode, h]

/-- Settles O28: the limits, the silent core's return and the test port by their equations above, the silence by
`coreSilence_leads`. -/
theorem limitsAndCoreSilence : Obligations.LimitsAndCoreSilence := by
  intro s
  refine ⟨exec_stopTExpiry_of_not_stopping, exec_stopTExpiry_of_stopping, exec_departTimeout_of_not_due, fun hp hm hd => ?_,
    fun h => ⟨_, rfl, coreSilence_leads h⟩, issuesEnds_false, fun h => ?_, exec_coreAnswersAgain_of_not_silent,
    fun hp silent unreported cause => ?_, fun hon i => exec_jtagInstruction_of_usable (by simp [Module.powered, hon]),
    exec_jtagInstruction_other_outside_halt⟩
  · exact ⟨_, exec_departTimeout_of_due hp hm hd, rfl, raiseFree_raised _ _ _, rfl⟩
  · show execCoreSilence s = _
    rw [execCoreSilence, State.run, coreSilence_of_not_issuesEnds h]
  · have answers : exec .coreAnswersAgain s = .next ⟨s.mod.coreAnswers, s.pending⟩ := runOn_of_powered hp _
    rw [coreAnswers_of_unreported silent unreported cause] at answers
    exact ⟨_, answers, raiseFree_raised _ _ _, rfl⟩

end Sys2Proof.Machine

namespace Sys2Proof.Machine
variable {m n : Module}

/-! ### A write of SYS_MODE_REQ (R34, R58, R67) -/

/-- The row of SYS_MODE_REQ (R67). -/
def modeReqRow : RegDef :=
  ⟨R.SYS_MODE_REQ, 1, 0, 1, 0, false, .val 0, .modeReq, false, [⟨31, 16, .wo⟩, ⟨4, 4, .ro⟩, ⟨3, 0, .rb⟩]⟩

/-- A write of `v` to SYS_MODE_REQ in the normal window, as the decision table sees it. -/
def modeReqWr (v : DWord) : Wr := ⟨⟨modeReqRow, 0, 0, 0⟩, R.SYS_MODE_REQ, Win.normal, v, v, v⟩

theorem place_modeReq (m : Module) : m.place R.SYS_MODE_REQ 4 = .ok ⟨Win.normal, R.SYS_MODE_REQ, ⟨modeReqRow, 0, 0, 0⟩⟩ := by
  have low : ¬ (m.sys.inspecting = true ∧ 0x20000 ≤ R.SYS_MODE_REQ) := fun h => absurd h.2 (by decide)
  have window : winOf R.SYS_MODE_REQ = some (Win.normal, R.SYS_MODE_REQ) := by decide
  have row : findReg R.SYS_MODE_REQ regTable = some ⟨modeReqRow, 0, 0, 0⟩ := rfl
  simp only [Module.place, window, row, if_neg low]
  rfl

theorem lanes_word {v : Nat} (h : v < 2 ^ 32) : lanes (BitVec.ofNat 64 v) 0 4 = BitVec.ofNat 64 v := by
  have fits : v % 2 ^ 64 = v := Nat.mod_eq_of_lt (by omega)
  rw [lanes, BitVec.toNat_ofNat, fits]
  exact congrArg _ (Nat.mod_eq_of_lt h)

/-- No reason of R58 refuses a write of SYS_MODE_REQ that leaves the reserved bits 0, but to the standby of a pair. -/
theorem writeReason_modeReq (role : m.role ≠ 2) {v : DWord} (used : v &&& ~~~ modeReqRow.used = 0) :
    m.writeReason (modeReqWr v) = none := by
  have held : m.heldBits ⟨modeReqRow, 0, 0, 0⟩ R.SYS_MODE_REQ = 0 := by
    simp [Module.heldBits, RegDef.maskOf, modeReqRow, Access.voted]
  have may : m.mayWrite (modeReqWr v) = true := by simp [Module.mayWrite, modeReqWr, modeReqRow, role]
  have writable : ¬ (modeReqRow.fields.all (fun f => f.acc == .ro) = true ∨ R.SYS_MODE_REQ / 0x10000 = 0xD) := by decide
  rw [Module.writeReason, may]
  simp only [modeReqWr, used, held, if_neg writable]
  simp

theorem writeEffect_modeReq (m : Module) (v : DWord) : m.writeEffect (modeReqWr v) = m.modeWritten (modeReqWr v) := by
  have block : R.SYS_MODE_REQ / 0x10000 < 8 := by decide
  simp only [Module.writeEffect, Module.afterWrite, Module.afterCore, modeReqWr, modeReqRow, block, if_true]

theorem regWrite_modeReq (role : m.role ≠ 2) {v : Nat} (fits : v < 2 ^ 32) (used : BitVec.ofNat 64 v &&& ~~~ modeReqRow.used = 0) :
    m.regWrite .pcie R.SYS_MODE_REQ 4 (BitVec.ofNat 64 v)
      = ((m.setHigh .pcie none).modeWritten (modeReqWr (BitVec.ofNat 64 v)), .done) := by
  have accepted := writeReason_modeReq (m := m.setHigh .pcie none) role used
  have effect := writeEffect_modeReq (m.setHigh .pcie none) (BitVec.ofNat 64 v)
  have narrow : modeReqRow.wide = false := rfl
  simp only [modeReqWr] at accepted effect ⊢
  simp only [Module.regWrite, place_modeReq, lanes_word fits, winOp, narrow]
  simp [accepted, effect]

/-- A mode request is a write of SYS_MODE_REQ that the decision table accepts. -/
theorem requestMode_eq (live : m.live = true) (role : m.role ≠ 2) {key code : Nat} (fits : key <<< 16 + code < 2 ^ 32)
    (used : BitVec.ofNat 64 (key <<< 16 + code) &&& ~~~ modeReqRow.used = 0) :
    m.requestMode key code = (m.setHigh .pcie none).modeWritten (modeReqWr (BitVec.ofNat 64 (key <<< 16 + code))) := by
  simp only [Module.requestMode, Module.write32, Module.pcieWrite, Module.hostServed, live, Bool.not_true, Bool.false_eq_true,
    if_false, regWrite_modeReq role fits used]

/-- The module with the pending request of this instant, if any, replaced by one of value `v`, which PEND shows (R34, R61). -/
def Module.requestHeld (m : Module) (v : DWord) : Module :=
  ({ m with pendF := m.pendF.filter (fun p => p.addr ≠ R.SYS_MODE_REQ || decide (p.at' < m.now))
      ++ [⟨R.SYS_MODE_REQ, fmask F.SYS_MODE_REQ_REQ, v, m.now⟩] } : Module).setFlag R.SYS_MODE_REQ F.SYS_MODE_REQ_PEND true

/-- A request for another mode than HALT is held. -/
theorem modeWritten_of_ne_halt (m : Module) {v : DWord} (h : fget v F.SYS_MODE_REQ_REQ ≠ 3) :
    m.modeWritten (modeReqWr v) = m.requestHeld v := by
  unfold Module.modeWritten
  exact if_neg h

/-- A request for HALT is a HALT decision with cause 3 (R35). -/
theorem modeWritten_of_halt (m : Module) {v : DWord} (h : fget v F.SYS_MODE_REQ_REQ = 3) :
    ∃ pend, m.modeWritten (modeReqWr v)
      = (({ m with pendF := pend } : Module).wf R.SYS_MODE_REQ F.SYS_MODE_REQ_REQ 3).haltEnter 3 0 := by
  unfold Module.modeWritten
  exact ⟨_, if_pos h⟩

/-- A request for another mode is held with its code and key, and PEND shows it; every other register stays. -/
theorem requestMode_holds (live : m.live = true) (role : m.role ≠ 2) {key code v : Nat} (value : key <<< 16 + code = v)
    (fits : v < 2 ^ 32) (used : BitVec.ofNat 64 v &&& ~~~ modeReqRow.used = 0)
    (other : fget (BitVec.ofNat 64 v) F.SYS_MODE_REQ_REQ ≠ 3) :
    (m.requestMode key code).pendF = m.pendF.filter (fun p => p.addr ≠ R.SYS_MODE_REQ || decide (p.at' < m.now))
        ++ [⟨R.SYS_MODE_REQ, fmask F.SYS_MODE_REQ_REQ, BitVec.ofNat 64 v, m.now⟩]
      ∧ (m.requestMode key code).flag R.SYS_MODE_REQ F.SYS_MODE_REQ_PEND = true
      ∧ (∀ a, a ≠ R.SYS_MODE_REQ → (m.requestMode key code).rd a = m.rd a)
      ∧ m.requestMode key code = { m with regs := (m.requestMode key code).regs, pendF := (m.requestMode key code).pendF, host :=
          { m.host with high := (m.requestMode key code).host.high } } := by
  subst value
  rw [requestMode_eq live role fits used, modeWritten_of_ne_halt _ other]
  exact ⟨rfl, flag_setFlag_same _ _ _ true (by decide) rfl, fun a ha => rd_setFlag_ne _ _ true ha.symm, rfl⟩

/-! ### Entry into HALT (R35, R45) -/

/-- `n` differs from `m` at most in registers from the engines' block up, and in the substitution under way. -/
def SubOnly (m n : Module) : Prop := (∃ regs sid, n = { m with regs := regs, sid := sid }) ∧ ∀ a < 0x30000, n.rd a = m.rd a

theorem SubOnly.refl (m : Module) : SubOnly m m := ⟨⟨_, _, rfl⟩, fun _ _ => rfl⟩

theorem SubOnly.trans {l : Module} (h : SubOnly l m) (h' : SubOnly m n) : SubOnly l n := by
  obtain ⟨⟨_, _, rfl⟩, low⟩ := h
  obtain ⟨⟨_, _, rfl⟩, low'⟩ := h'
  exact ⟨⟨_, _, rfl⟩, fun a ha => (low' a ha).trans (low a ha)⟩

theorem SubOnly.wf (m : Module) {a : Nat} (f : Field) (v : Nat) (h : 0x30000 ≤ a) : SubOnly m (m.wf a f v) :=
  ⟨⟨_, _, rfl⟩, fun b hb => rd_wf_ne m f v (by omega)⟩

theorem shadowFlag_subOnly (m : Module) (unit res : Nat) (b : Bool) : SubOnly m (m.shadowFlag unit res b) := by
  have engine (p : Nat) : 0x30000 ≤ R.ENG_STAT p := by simp only [R.ENG_STAT]; omega
  have generator (g : Nat) : 0x30000 ≤ R.PWM_MAP g := by simp only [R.PWM_MAP]; omega
  have port (g : Nat) : 0x30000 ≤ R.LN_MAP g := by simp only [R.LN_MAP]; omega
  unfold Module.shadowFlag
  split
  · exact (SubOnly.wf m _ _ (engine _)).trans (.wf _ _ _ (engine _))
  · split
    · exact .wf m _ _ (generator _)
    · exact .refl m
  · split
    · exact .wf m _ _ (port _)
    · exact .refl m
  · exact .refl m

theorem abandonSub_subOnly (m : Module) (last : Nat) : SubOnly m (m.abandonSub last) := by
  unfold Module.abandonSub
  split
  · exact .refl m
  · exact (((shadowFlag_subOnly m _ _ _).trans (.wf _ _ _ (by decide))).trans (.wf _ _ _ (by decide))).trans
      ⟨⟨_, _, rfl⟩, fun _ _ => rfl⟩

theorem SubOnly.sys (h : SubOnly m n) : n.sys = m.sys := by
  obtain ⟨⟨_, _, rfl⟩, -⟩ := h
  rfl

theorem SubOnly.eng (h : SubOnly m n) : n.eng = m.eng := by
  obtain ⟨⟨_, _, rfl⟩, -⟩ := h
  rfl

theorem LinesOnly.eng (h : LinesOnly m n) : n.eng = m.eng := by
  obtain ⟨⟨_, _, _, _, rfl⟩, -⟩ := h
  rfl

/-- A HALT decision on a powered module that is not halted: the cause recorded, blocks stopped, a substitution abandoned,
the mode hold, and of a lead its notice; then HALT at once during INSPECT, else HALTING. -/
theorem haltEnter_inv (power : m.powered = true) (run : m.halted = false) (cause inc : Nat) : ∃ p, AllOff p
    ∧ p.sys.inspecting = m.sys.inspecting ∧ (∀ e < 8, StoppedOn e p) ∧ (∀ a < 0x30000, p.rd a = (m.haltRecord cause inc).rd a)
    ∧ m.haltEnter cause inc = if p.sys.inspecting then
        ({ p with sys := { p.sys with inspecting := false, inspectPassed := false } } : Module).wf R.SYS_MODE F.SYS_MODE_MODE 3
      else p.setFlag R.SYS_MODE F.SYS_MODE_HALTING true := by
  unfold Module.haltEnter
  rw [if_neg (by simp [power]), if_neg (by simp [run])]
  extract_lets m1 m2 m3 hl m4
  have engines : EnginesOnly m1 m1.stopBlocks := stopBlocks_enginesOnly m1
  have stopped : ∀ e < 8, StoppedOn e m1.stopBlocks := fun _ => stopBlocks_stoppedOn m1
  have sub : SubOnly m1.stopBlocks m2 := abandonSub_subOnly _ 4
  have lines : LinesOnly { m2 with sys := { m2.sys with modeHold := true } } m3 := setHold_linesOnly m2 true
  have off : AllOff m3 := setHold_allOff m2
  have low : ∀ a < 0x30000, m3.rd a = m1.rd a := fun a ha =>
    ((lines.2 a (by omega)).trans (sub.2 a ha)).trans (engines.rd_of_lt ha)
  clear_value m3 m2
  generalize m1.stopBlocks = q at engines stopped sub
  have sys : m3.sys.inspecting = m.sys.inspecting := by
    rw [lines.sys]
    show m2.sys.inspecting = _
    rw [sub.sys, engines.sys]
    rfl
  have eng : m3.eng = q.eng := lines.eng.trans sub.eng
  have stopped : ∀ e < 8, StoppedOn e m3 := fun e he b hb => stopped e he b (by rwa [Module.blk, ← eng])
  have notice : ∃ x, m4 = { m3 with hl := x } := by
    unfold m4
    split
    · exact ⟨_, rfl⟩
    · exact ⟨m3.hl, rfl⟩
  clear_value m4
  obtain ⟨x, rfl⟩ := notice
  exact ⟨{ m3 with hl := x }, off.congr rfl rfl, sys, stopped, low, rfl⟩

/-- The module is in HALT or on its way into it, with its cause and incident, the mode hold and no block under way (R35). -/
structure Halts (m : Module) (cause inc : Nat) (n : Module) : Prop where
  cause : n.rf R.SYS_HALT_CAUSE F.SYS_HALT_CAUSE_CAUSE = cause
  inc : n.rf R.SYS_HALT_INC F.SYS_HALT_INC_INC = inc
  off : AllOff n
  stopped : ∀ e < 8, StoppedOn e n
  running : m.sys.inspecting = false → n.flag R.SYS_MODE F.SYS_MODE_HALTING = true
    ∧ n.rf R.SYS_MODE F.SYS_MODE_MODE = m.rf R.SYS_MODE F.SYS_MODE_MODE
  inspecting : m.sys.inspecting = true → n.rf R.SYS_MODE F.SYS_MODE_MODE = 3 ∧ n.sys.inspecting = false

theorem Halts.congr {l : Module} {cause inc : Nat} (h : Halts m cause inc n) (sys : m.sys.inspecting = l.sys.inspecting)
    (mode : m.rd R.SYS_MODE = l.rd R.SYS_MODE) : Halts l cause inc n := by
  refine ⟨h.cause, h.inc, h.off, h.stopped, fun hl => ?_, fun hl => h.inspecting (sys.trans hl)⟩
  obtain ⟨halting, kept⟩ := h.running (sys.trans hl)
  exact ⟨halting, kept.trans (congrArg (fget · F.SYS_MODE_MODE) mode)⟩

theorem haltEnter_halts (power : m.powered = true) (run : m.halted = false) {cause inc : Nat} (hc : cause < 2 ^ 8)
    (hi : inc < 2 ^ 16) : Halts m cause inc (m.haltEnter cause inc) := by
  obtain ⟨p, off, insp, stopped, low, eq⟩ := haltEnter_inv power run cause inc
  have recorded : p.rf R.SYS_HALT_CAUSE F.SYS_HALT_CAUSE_CAUSE = cause ∧ p.rf R.SYS_HALT_INC F.SYS_HALT_INC_INC = inc := by
    rw [Module.rf, Module.rf, low _ (by decide), low _ (by decide)]
    refine ⟨(rf_wf_ne _ _ F.SYS_HALT_CAUSE_CAUSE inc (by decide)).trans ?_, ?_⟩
    · rw [rf_wf_same _ _ _ _ (by decide)]
      exact Nat.mod_eq_of_lt hc
    · exact (rf_wf_same _ _ _ inc (by decide)).trans (Nat.mod_eq_of_lt hi)
  have mode : p.rd R.SYS_MODE = m.rd R.SYS_MODE := by
    rw [low _ (by decide)]
    exact (rd_wf_ne _ _ _ (by decide)).trans (rd_wf_ne _ _ _ (by decide))
  rw [eq]
  split
  · next h =>
    exact ⟨(rf_wf_ne _ _ _ 3 (by decide)).trans recorded.1, (rf_wf_ne _ _ _ 3 (by decide)).trans recorded.2,
      off.congr rfl rfl, stopped, fun hn => by simp [← insp, h] at hn, fun _ => ⟨rf_wf_same _ _ _ 3 (by decide), rfl⟩⟩
  · next h =>
    exact ⟨(rf_wf_ne _ _ _ _ (by decide)).trans recorded.1, (rf_wf_ne _ _ _ _ (by decide)).trans recorded.2,
      off.congr rfl rfl, stopped, fun _ => ⟨flag_setFlag_same _ _ _ true (by decide) rfl,
        (rf_wf_apart _ _ _ F.SYS_MODE_MODE _ (by decide) (by decide)).trans (congrArg (fget · F.SYS_MODE_MODE) mode)⟩,
      fun hn => absurd (insp.trans hn) h⟩

/-- A request for HALT enters it, with cause 3. -/
theorem requestMode_halts (live : m.live = true) (role : m.role ≠ 2) (run : m.halted = false) :
    Halts m 3 0 (m.requestMode 0 3) := by
  rw [requestMode_eq live role (by decide) (by decide)]
  obtain ⟨pend, eq⟩ := modeWritten_of_halt (m.setHigh .pcie none) (v := BitVec.ofNat 64 (0 <<< 16 + 3)) (by decide)
  rw [eq]
  have power : m.powered = true := (Bool.and_eq_true_iff.1 live).1
  generalize hn : ({ m.setHigh .pcie none with pendF := pend } : Module).wf R.SYS_MODE_REQ F.SYS_MODE_REQ_REQ 3 = n
  have mode : n.rd R.SYS_MODE = m.rd R.SYS_MODE := hn ▸ rd_wf_ne _ _ 3 (by decide)
  have sys : n.sys = m.sys := hn ▸ rfl
  have h : Halts n 3 0 (n.haltEnter 3 0) :=
    haltEnter_halts (by rw [Module.powered, sys]; exact power)
      (by rw [Module.halted, Module.mode, Module.flag, Module.rf, Module.rf, mode]; exact run) (by decide) (by decide)
  exact h.congr (congrArg Sys.inspecting sys) mode

/-- A module already halted keeps its cause, but for a removal (R45). -/
theorem haltEnter_of_halted (power : m.powered = true) (halted : m.halted = true) (cause inc : Nat) :
    m.haltEnter cause inc = if cause = 0x0A then m.haltRecord cause inc else m := by
  simp [Module.haltEnter, power, halted]

theorem haltRecord_leads (m : Module) {cause inc : Nat} (hc : cause < 2 ^ 8) (hi : inc < 2 ^ 16) :
    (m.haltRecord cause inc).rf R.SYS_HALT_CAUSE F.SYS_HALT_CAUSE_CAUSE = cause
      ∧ (m.haltRecord cause inc).rf R.SYS_HALT_INC F.SYS_HALT_INC_INC = inc
      ∧ ∀ a, a ≠ R.SYS_HALT_CAUSE → a ≠ R.SYS_HALT_INC → (m.haltRecord cause inc).rd a = m.rd a := by
  refine ⟨(rf_wf_ne _ _ F.SYS_HALT_CAUSE_CAUSE inc (by decide)).trans ?_,
    (rf_wf_same _ _ _ inc (by decide)).trans (Nat.mod_eq_of_lt hi),
    fun a h1 h2 => (rd_wf_ne _ _ inc h2.symm).trans (rd_wf_ne _ _ cause h1.symm)⟩
  rw [rf_wf_same _ _ _ _ (by decide)]
  exact Nat.mod_eq_of_lt hc

theorem exec_haltEnter (s : State) {cause : BitVec 8} (inc : BitVec 16) (low : 3 ≤ cause.toNat) (high : cause.toNat ≤ 0xA) :
    exec (.haltEnter cause inc) s = .next ⟨s.mod.haltEnter cause.toNat inc.toNat, s.pending⟩ := by
  show execHaltEnter cause inc s = _
  rw [execHaltEnter, State.run, if_pos ⟨low, high⟩]

/-- Settles O25: requests by `requestMode_holds`, the HALT decision by `haltEnter_halts`. -/
theorem modeRequestsAndHalt : Obligations.ModeRequestsAndHalt := by
  refine ⟨fun s live role => ?_, fun s on => ?_⟩
  · have held := @requestMode_holds s.mod live role
    refine ⟨⟨_, rfl, held rfl (by decide) (by decide) (by decide)⟩, ⟨_, rfl, held rfl (by decide) (by decide) (by decide)⟩,
      ⟨_, rfl, held rfl (by decide) (by decide) (by decide)⟩, ⟨_, rfl, held rfl (by decide) (by decide) (by decide)⟩,
      ⟨_, rfl, held rfl (by decide) (by decide) (by decide)⟩, fun c hc => ⟨_, rfl, held rfl ?_ ?_ ?_⟩⟩
    · omega
    · revert c; decide
    · revert c; decide
  · have power : s.mod.powered = true := by simp [Module.powered, on]
    have running (h : ¬ (s.mod.rf R.SYS_MODE F.SYS_MODE_MODE = 3 ∨ s.mod.flag R.SYS_MODE F.SYS_MODE_HALTING = true)) :
        s.mod.halted = false := by simpa [Module.halted, Module.mode] using h
    have halted (h : s.mod.rf R.SYS_MODE F.SYS_MODE_MODE = 3 ∨ s.mod.flag R.SYS_MODE F.SYS_MODE_HALTING = true) :
        s.mod.halted = true := by simpa [Module.halted, Module.mode] using h
    refine ⟨fun h holdUp role => ?_, fun cause inc low high => ⟨fun h => ?_, fun h hc => ?_, fun h hc => ?_⟩⟩
    · have h := requestMode_halts (by simp [Module.live, power, holdUp]) role (running h)
      exact ⟨_, rfl, h.cause, h.inc, h.off.hold, h.stopped, fun _ => h.off.gateLevel, h.off.off, h.running, h.inspecting⟩
    · have h := haltEnter_halts power (running h) cause.isLt inc.isLt
      exact ⟨_, exec_haltEnter s inc low high, h.cause, h.inc, h.off.hold, h.stopped, fun _ => h.off.gateLevel, h.off.off,
        h.running, h.inspecting⟩
    · rw [exec_haltEnter s inc low high, haltEnter_of_halted power (halted h), if_neg hc]
    · have answers := exec_haltEnter s inc low high
      rw [haltEnter_of_halted power (halted h), if_pos hc] at answers
      obtain ⟨recorded, incident, others⟩ := haltRecord_leads s.mod cause.isLt inc.isLt
      exact ⟨_, answers, recorded.trans hc, incident, others, rfl⟩

end Sys2Proof.Machine

namespace Sys2Proof.Machine
variable {m n : Module}

/-! ### Words of memory -/

theorem mbytes_congr {a c : Nat} (h : ∀ k, a ≤ k → k < a + c → n.mb k = m.mb k) : n.mbytes a c = m.mbytes a c := by
  induction c generalizing a with
  | zero => rfl
  | succ c ih => rw [Module.mbytes, Module.mbytes, h a (Nat.le_refl a) (by omega), ih fun k h1 h2 => h k (by omega) (by omega)]

theorem mn_congr {a c : Nat} (h : ∀ k, a ≤ k → k < a + c → n.mb k = m.mb k) : n.mn a c = m.mn a c := by
  rw [Module.mn, Module.mn, mbytes_congr h]

theorem mw_congr {a : Nat} (h : ∀ k, a ≤ k → k < a + 4 → n.mb k = m.mb k) : n.mw a = m.mw a := by
  rw [Module.mw, Module.mw, mn_congr h]

@[simp] theorem mw_setMw_same (m : Module) (a : Nat) (w : Word) : (m.setMw a w).mw a = w := by
  rw [Module.mw, Module.setMw, mn_setMn_same, show 256 ^ 4 = 2 ^ 32 from rfl, Nat.mod_eq_of_lt w.isLt, BitVec.ofNat_toNat,
    BitVec.setWidth_eq]

theorem mb_setMw (m : Module) {a k : Nat} (w : Word) (h : k < a ∨ a + 4 ≤ k) : (m.setMw a w).mb k = m.mb k :=
  mb_setMn m a 4 _ k h

theorem mw_setMn_apart (m : Module) {a b c v : Nat} (h : b + 4 ≤ a ∨ a + c ≤ b) : (m.setMn a c v).mw b = m.mw b := by
  rw [Module.mw, Module.mw, mn_setMn_apart m a b c 4 v h]

theorem mw_setMw_apart (m : Module) {a b : Nat} (w : Word) (h : b + 4 ≤ a ∨ a + 4 ≤ b) : (m.setMw a w).mw b = m.mw b :=
  mw_setMn_apart m h

/-! ### A journal written back (R105) -/

theorem dmAddr_setMw (m : Module) (a : Nat) (w : Word) (e off : Nat) : (m.setMw a w).dmAddr e off = m.dmAddr e off := by
  rw [Module.dmAddr, Module.dmAddr, Module.phys, Module.phys, setMw_engMap]

/-- Outside the words of a journal its write-back leaves memory as it was. -/
theorem mb_unjournal (m : Module) (e : Nat) {k : Nat} (j : List (Nat × Word))
    (h : ∀ p ∈ j, k < m.dmAddr e p.1 ∨ m.dmAddr e p.1 + 4 ≤ k) : (m.unjournal e j).mb k = m.mb k := by
  induction j generalizing m with
  | nil => rfl
  | cons p j ih =>
    obtain ⟨hp, hj⟩ := List.forall_mem_cons.1 h
    rw [Module.unjournal, ih _ (by simpa only [dmAddr_setMw] using hj), mb_setMw m p.2 hp]

/-- A word of a journal that no other entry overlaps has its old value back. -/
theorem mw_unjournal (m : Module) (e : Nat) {p : Nat × Word} (j : List (Nat × Word)) (hp : p ∈ j)
    (h : ∀ q ∈ j, q = p ∨ q.1 + 4 ≤ p.1 ∨ p.1 + 4 ≤ q.1) : (m.unjournal e j).mw (m.dmAddr e p.1) = p.2 := by
  induction j generalizing m with
  | nil => simp at hp
  | cons q j ih =>
    obtain ⟨-, hj⟩ := List.forall_mem_cons.1 h
    rw [Module.unjournal, ← dmAddr_setMw m (m.dmAddr e q.1) q.2 e p.1]
    by_cases later : p ∈ j
    · exact ih _ later hj
    · obtain rfl : p = q := (List.mem_cons.1 hp).resolve_right later
      have apart : ∀ r ∈ j, r.1 + 4 ≤ p.1 ∨ p.1 + 4 ≤ r.1 := fun r hr =>
        (hj r hr).resolve_left fun hrp => later (hrp ▸ hr)
      refine (mw_congr fun k h1 h2 => mb_unjournal _ e j fun r hr => ?_).trans ?_
      · have := apart r hr
        simp only [Module.dmAddr] at h1 h2 ⊢
        omega
      · rw [dmAddr_setMw, mw_setMw_same]

/-! ### The end of a block at danger, stopped, or silent (R21, R88, R105) -/

theorem mb_stopBlk (m : Module) (e : Nat) (b : Blk) (k : Nat) : (m.stopBlk e b).mb k = (m.unjournal e b.journal).mb k := rfl

theorem bump_of_lt {a sat i : Nat} (h : m.rn a < 0xFFFFFFFE) : m.bump a sat i = m.wn a (m.rn a + 1) := by
  have below : m.rn a < 0xFFFFFFFF := by omega
  simp only [Module.bump, if_pos below, if_neg (Nat.not_le.2 h)]

theorem subDanger_eq (m : Module) (p : Nat) : ∃ x, m.subDanger p = { m with sid := x } := by
  unfold Module.subDanger
  split
  · exact ⟨_, rfl⟩
  · exact ⟨m.sid, rfl⟩

/-- A block at danger that is no re-run: the journal written back, the block closed, its overrun counted and reported. -/
theorem danger_eq (m : Module) (e : Nat) {b : Blk} (h : b.rerun = false) : ∃ n x,
    n = ((m.unjournal e b.journal).setBlk e none).engState e 0
      ∧ m.danger e b = { ((n.bump (R.TTB_OVR e) R.TTB_SAT e).raiseFree FS.TT_OVERRUN (.task b.task) : Module) with sid := x } := by
  obtain ⟨x, hx⟩ := subDanger_eq (((((m.unjournal e b.journal).setBlk e none).engState e 0).bump (R.TTB_OVR e) R.TTB_SAT
    e).raiseFree FS.TT_OVERRUN (.task b.task)) (m.phys e)
  refine ⟨_, x, rfl, ?_⟩
  rw [← hx]
  simp only [Module.danger, Module.restore, h]
  rfl

/-- What danger leaves: the block closed and nothing it staged applied, the words of its journal as they were, the overrun
counted and reported (R88). -/
theorem danger_leads (m : Module) {e : Nat} (he : e < 8) {b : Blk} (rerun : b.rerun = false)
    (room : m.rn (R.TTB_OVR e) < 0xFFFFFFFE) : (m.danger e b).blk e = none
      ∧ (m.danger e b).rn (R.TTB_OVR e) = m.rn (R.TTB_OVR e) + 1
      ∧ Raised m (m.danger e b) FS.TT_OVERRUN (.task b.task)
      ∧ (∀ k, (m.danger e b).mb k = (m.unjournal e b.journal).mb k)
      ∧ m.danger e b = { m with mem := (m.danger e b).mem, regs := (m.danger e b).regs, eng := (m.danger e b).eng,
                                 sid := (m.danger e b).sid, reports := (m.danger e b).reports, freeCtr := (m.danger e b).freeCtr } := by
  obtain ⟨n, x, hn, eq⟩ := danger_eq m e rerun
  have engines : EnginesOnly m n := hn ▸ ((unjournal_enginesOnly m e b.journal).trans (setBlk_enginesOnly _ e none)).trans
    (engState_enginesOnly _ e 0)
  have closed : n.blk e = none := hn ▸ setBlk_blk_same _ _ _
  have memory (k) : n.mb k = (m.unjournal e b.journal).mb k := hn ▸ rfl
  have count : n.rn (R.TTB_OVR e) = m.rn (R.TTB_OVR e) :=
    congrArg BitVec.toNat (engines.rd_of_lt (by simp only [R.TTB_OVR]; omega))
  rw [bump_of_lt (by rwa [count]), count] at eq
  rw [eq]
  clear hn eq
  refine ⟨closed, ?_, ?_, memory, ?_⟩
  · show ((n.wn (R.TTB_OVR e) (m.rn (R.TTB_OVR e) + 1)).rd (R.TTB_OVR e)).toNat = _
    rw [rd_wn, if_pos rfl, BitVec.toNat_ofNat]
    exact Nat.mod_eq_of_lt (by omega)
  · obtain ⟨⟨_, _, _, rfl⟩, -⟩ := engines
    exact raiseFree_raised _ _ _
  · obtain ⟨⟨_, _, _, rfl⟩, -⟩ := engines
    rfl

theorem blockEnd_of_none {e : Nat} (h : m.blk e = none) : m.blockEnd e = m := by simp only [Module.blockEnd, h]

theorem blockEnd_of_stopped {e : Nat} {b : Blk} (h : m.blk e = some b) (hs : b.state = .stopped) :
    m.blockEnd e = m.setBlk e none := by simp only [Module.blockEnd, h, hs]

theorem blockEnd_of_silent {e : Nat} {b : Blk} (h : m.blk e = some b) (hs : b.state = .ready)
    (silent : m.sys.coreSilent = true) : m.blockEnd e = (m.stopBlk e b).setBlk e none := by
  simp only [Module.blockEnd, h, hs, silent, if_true]

theorem blockEnd_of_late {e : Nat} {b : Blk} (h : m.blk e = some b)
    (hs : b.state = .running ∨ (b.state = .ready ∧ m.sys.coreSilent = false ∧ m.now < b.readyAt + 4)) :
    m.blockEnd e = m.danger e b := by
  obtain hs | ⟨hs, answers, late⟩ := hs
  · simp only [Module.blockEnd, h, hs]
  · simp only [Module.blockEnd, h, hs, answers, Bool.false_eq_true, if_false, if_neg (Nat.not_le.2 late)]

theorem blockEnd_of_ready {e : Nat} {b : Blk} (h : m.blk e = some b) (hs : b.state = .ready)
    (answers : m.sys.coreSilent = false) (due : b.readyAt + 4 ≤ m.now) :
    m.blockEnd e = ((m.setBlk e none).engState e 0).commit e b := by
  simp only [Module.blockEnd, h, hs, answers, Bool.false_eq_true, if_false, if_pos due]

end Sys2Proof.Machine

namespace Sys2Proof.Machine
variable {m n : Module}

/-! ### The commit of words, events and posts (R106, R148, R163, R164) -/

/-- A block that staged words, events and posts only commits these. -/
theorem commit_eq (m : Module) (e : Nat) {b : Blk} {ws es ps} (h : b.st = { Staged.empty with words := ws, evts := es, posts := ps }) :
    m.commit e b = ((m.commitWords e ws).commitEvents b es).commitPosts e b.task ps := by
  simp only [Module.commit, h, Staged.empty, Module.commitLu, Module.commitSel, Module.commitFields, Module.commitRings,
    Module.commitLib, List.foldl_nil, List.foldr_nil, List.isEmpty_nil, if_true]

/-- The staged words written, the oldest first. -/
def Module.putWords (m : Module) (ws : List (Nat × Word)) : Module := ws.foldr (fun w m => m.setMw w.1 w.2) m

theorem putWords_eq (m : Module) (ws : List (Nat × Word)) : ∃ mem failing,
    m.putWords ws = { m with mem := mem, eng := { m.eng with failing := failing } } := by
  induction ws with
  | nil => exact ⟨_, _, rfl⟩
  | cons w ws ih =>
    obtain ⟨_, _, h⟩ := ih
    have word := setBytes_eq (leBytes 4 w.2.toNat) (m.putWords ws) w.1
    exact ⟨_, _, word.trans (by rw [h])⟩

theorem mb_putWords (m : Module) {k : Nat} (ws : List (Nat × Word)) (h : ∀ w ∈ ws, k < w.1 ∨ w.1 + 4 ≤ k) :
    (m.putWords ws).mb k = m.mb k := by
  induction ws with
  | nil => rfl
  | cons w ws ih =>
    obtain ⟨hw, hws⟩ := List.forall_mem_cons.1 h
    exact (mb_setMw _ w.2 hw).trans (ih hws)

/-- Words at different aligned places each hold the value written. -/
theorem mw_putWords (m : Module) (ws : List (Nat × Word)) (aligned : ∀ w ∈ ws, w.1 % 4 = 0) (nodup : (ws.map (·.1)).Nodup) :
    ∀ w ∈ ws, (m.putWords ws).mw w.1 = w.2 := by
  induction ws with
  | nil => simp
  | cons v ws ih =>
    obtain ⟨hv, hws⟩ := List.forall_mem_cons.1 aligned
    obtain ⟨fresh, nodup⟩ := List.nodup_cons.1 nodup
    refine List.forall_mem_cons.2 ⟨mw_setMw_same _ _ _, fun w hw => ?_⟩
    have other : w.1 ≠ v.1 := fun h => fresh (List.mem_map.2 ⟨w, hw, h⟩)
    have := hws w hw
    exact (mw_setMw_apart _ v.2 (by omega)).trans (ih hws nodup w hw)

/-- Words of the yard are no CAN row. -/
theorem canCommit_of_yard (m : Module) {as : List Nat} (h : ∀ a ∈ as, a < 0x01000000) : m.canCommit as = m := by
  have quiet (port : Nat) (t : Nat × Nat × Nat) :
      as.any (fun w => decide (canRow port t.2.1 ≤ w ∧ w < canRow port t.2.1 + t.2.2)) = false := by
    rw [List.any_eq_false]
    intro w hw row
    have inRow := of_decide_eq_true row
    have low := h w hw
    simp only [canRow] at inRow
    omega
  simp only [Module.canCommit, quiet, Bool.false_eq_true, if_false, List.foldl_fixed]

/-- The commit of yard words: the words written, and their drain (R106, R107). -/
theorem commitWords_of_yard (m : Module) (e : Nat) {ws : List (Nat × Word)} (h : ∀ w ∈ ws, w.1 < 0x01000000) :
    ∃ eng, eng.blks = m.eng.blks ∧ m.commitWords e ws = { m.putWords ws with eng := eng } := by
  have low : ∀ a ∈ ws.map (·.1), a < 0x01000000 := by simpa using h
  have quiet (k : Nat) : (ws.map (·.1)).any (fun a => decide (0x01860000 + 512 * k ≤ a ∧ a < 0x01860200 + 512 * k)) = false := by
    rw [List.any_eq_false]
    intro a ha
    have := low a ha
    simp only [decide_eq_true_eq]
    omega
  obtain ⟨_, _, put⟩ := putWords_eq m ws
  unfold Module.commitWords
  split
  · next empty =>
    rw [List.isEmpty_iff] at empty
    exact ⟨m.eng, rfl, by rw [empty]; rfl⟩
  · simp only [canCommit_of_yard _ low, quiet, Bool.false_eq_true, if_false, List.foldl_fixed]
    refine ⟨_, ?_, rfl⟩
    exact congrArg (fun x => x.eng.blks) put

/-- A staged fault event is reported with the task's identity (R163); the word of GC_RT_STATE is kept beside it (R335). -/
theorem commitEvents_fault (m : Module) (b : Blk) (src : Nat) (w : Word) :
    ∃ sys, m.commitEvents b [(0, src, w)] = ({ m with sys := sys } : Module).raise src w.toNat (.task b.task) := by
  simp only [Module.commitEvents, List.foldl_cons, List.foldl_nil, if_true]
  split
  · exact ⟨_, rfl⟩
  · exact ⟨m.sys, rfl⟩

/-! #### Posts -/

theorem irq_eq (m : Module) (i : Nat) : ∃ host, m.irq i = { m.setBit R.HOST_IRQ_STAT i true with host := host } := by
  unfold Module.irq
  extract_lets was m1
  split
  · exact ⟨_, rfl⟩
  · exact ⟨m.host, rfl⟩

/-- The four words of a mailbox after a post of `v` and `w` by task `task` of engine `e`, its sequence number counted up. -/
def Module.putPost (m : Module) (e task k : Nat) (v w : Word) : Module :=
  let a := 0x01839000 + 16 * k
  let m := (m.setMw a v).setMw (a + 4) w
  let m := m.setMn (a + 8) 4 ((m.mn (a + 8) 4 + 1) % 2 ^ 32)
  m.setMn (a + 12) 4 (e <<< 28 + task)

theorem putPost_mailbox (m : Module) (e task k : Nat) (v w : Word) :
    (m.putPost e task k v w).mw (0x01839000 + 16 * k) = v ∧ (m.putPost e task k v w).mw (0x01839004 + 16 * k) = w
      ∧ (m.putPost e task k v w).mn (0x01839008 + 16 * k) 4 = (m.mn (0x01839008 + 16 * k) 4 + 1) % 2 ^ 32 := by
  unfold Module.putPost
  extract_lets a m1 m2
  rw [show 0x01839004 + 16 * k = a + 4 by omega, show 0x01839008 + 16 * k = a + 8 by omega]
  have seq : m1.mn (a + 8) 4 = m.mn (a + 8) 4 :=
    (mn_setMn_apart _ _ _ 4 4 _ (by omega)).trans (mn_setMn_apart _ _ _ 4 4 _ (by omega))
  refine ⟨?_, ?_, ?_⟩
  · rw [mw_setMn_apart _ (by omega), mw_setMn_apart _ (by omega), mw_setMw_apart _ w (by omega), mw_setMw_same]
  · rw [mw_setMn_apart _ (by omega), mw_setMn_apart _ (by omega), mw_setMw_same]
  · rw [mn_setMn_apart _ _ _ 4 4 _ (by omega), mn_setMn_same, seq]
    exact Nat.mod_mod _ _

theorem putPost_blks (m : Module) (e task k : Nat) (v w : Word) : (m.putPost e task k v w).eng.blks = m.eng.blks := by
  have word (n : Module) (a c x : Nat) : (n.setMn a c x).eng.blks = n.eng.blks :=
    congrArg (fun n => n.eng.blks) (setBytes_eq (leBytes c x) n a)
  exact (word _ _ _ _).trans ((word _ _ _ _).trans ((word _ _ _ _).trans (word _ _ _ _)))

theorem bit_congr {a : Nat} (h : n.rd a = m.rd a) (i : Nat) : n.bit a i = m.bit a i := by
  rw [Module.bit, Module.bit, Module.flag, Module.flag, Module.rf, Module.rf, h]

/-- A post: the mailbox written, shown pending, and the host interrupted (R164). -/
theorem commitPosts_one (m : Module) (e task k : Nat) (v w : Word) (hk : k < 8) :
    (m.commitPosts e task [(k, v, w)]).eng.blks = m.eng.blks
      ∧ (m.commitPosts e task [(k, v, w)]).mem = (m.putPost e task k v w).mem
      ∧ (m.commitPosts e task [(k, v, w)]).bit R.XS_MBX_PEND k = true
      ∧ (m.commitPosts e task [(k, v, w)]).bit R.HOST_IRQ_STAT 1 = true := by
  have blks := putPost_blks m e task k v w
  have eq : m.commitPosts e task [(k, v, w)] = ((if (m.putPost e task k v w).bit R.XS_MBX_PEND k
      then (m.putPost e task k v w).bump R.XS_MBX_LOST R.XS_SAT 1 else m.putPost e task k v w).setBit R.XS_MBX_PEND k
        true).irq 1 := rfl
  generalize m.putPost e task k v w = p at blks eq
  have counted : ∃ regs, (if p.bit R.XS_MBX_PEND k then p.bump R.XS_MBX_LOST R.XS_SAT 1 else p) = { p with regs := regs } := by
    split
    · obtain ⟨regs, h, -⟩ := bump_inv p R.XS_MBX_LOST R.XS_SAT 1
      exact ⟨regs, h⟩
    · exact ⟨p.regs, rfl⟩
  obtain ⟨regs, hregs⟩ := counted
  rw [eq, hregs]
  have pend := bit_setBit_same { p with regs := regs } R.XS_MBX_PEND k true (by omega)
  generalize hq : ({ p with regs := regs } : Module).setBit R.XS_MBX_PEND k true = q at pend
  obtain ⟨host, hhost⟩ := irq_eq q 1
  have shown : (q.setBit R.HOST_IRQ_STAT 1 true).bit R.HOST_IRQ_STAT 1 = true := bit_setBit_same q _ 1 true (by omega)
  have kept : (q.setBit R.HOST_IRQ_STAT 1 true).rd R.XS_MBX_PEND = q.rd R.XS_MBX_PEND := rd_setBit_ne q 1 true (by decide)
  have read (a : Nat) : (q.irq 1).rd a = (q.setBit R.HOST_IRQ_STAT 1 true).rd a := by rw [hhost]; rfl
  refine ⟨?_, ?_, (bit_congr ((read _).trans kept) k).trans pend, (bit_congr (read _) 1).trans shown⟩
  · rw [hhost, ← hq]
    exact blks
  · rw [hhost, ← hq]
    rfl

end Sys2Proof.Machine

namespace Sys2Proof.Machine
variable {m n : Module}

/-! ### O15: the end of a block, committed or at danger -/

/-- The module a block's commit works on: the block closed, the engine idle. -/
def Module.closed (m : Module) (e : Nat) : Module := (m.setBlk e none).engState e 0

theorem closed_eq (m : Module) (e : Nat) : ∃ regs eng, m.closed e = { m with regs := regs, eng := eng } := ⟨_, _, rfl⟩

theorem closed_blk (m : Module) (e : Nat) : (m.closed e).blk e = none := setBlk_blk_same m e none

theorem blk_congr (h : n.eng.blks = m.eng.blks) (e : Nat) : n.blk e = m.blk e := by rw [Module.blk, Module.blk, h]

/-- The commit of yard words (R106): each word there, every other byte as it was, and the block closed. -/
theorem commitWords_closed (m : Module) (e : Nat) {ws : List (Nat × Word)} (yard : ∀ w ∈ ws, w.1 % 4 = 0 ∧ w.1 < 0x01000000)
    (nodup : (ws.map (·.1)).Nodup) {n : Module} (hn : n = (m.closed e).commitWords e ws) :
    n.blk e = none ∧ (∀ w ∈ ws, n.mw w.1 = w.2) ∧ (∀ k, (∀ w ∈ ws, k < w.1 ∨ w.1 + 4 ≤ k) → n.mb k = m.mb k)
      ∧ n = { m with mem := n.mem, regs := n.regs, eng := n.eng } := by
  obtain ⟨regs, eng, base⟩ := closed_eq m e
  have idle := closed_blk m e
  rw [base] at idle hn
  obtain ⟨eng', blks, eq⟩ := commitWords_of_yard { m with regs := regs, eng := eng } e fun w hw => (yard w hw).2
  obtain ⟨mem, failing, put⟩ := putWords_eq { m with regs := regs, eng := eng } ws
  rw [hn, eq]
  refine ⟨(blk_congr blks e).trans idle, mw_putWords _ ws (fun w hw => (yard w hw).1) nodup, fun k hk => mb_putWords _ ws hk, ?_⟩
  rw [put]

/-- A staged fault event at the end of its block (R163). -/
theorem commitEvents_closed (m : Module) (e : Nat) (b : Blk) (src : Nat) (w : Word) :
    ((m.closed e).commitEvents b [(0, src, w)]).blk e = none
      ∧ ((m.closed e).commitEvents b [(0, src, w)]).mem = m.mem
      ∧ ((m.closed e).commitEvents b [(0, src, w)]).reports
          = m.reports ++ [⟨src, w, .task b.task, m.now, m.todSec, m.todNs⟩] := by
  obtain ⟨regs, eng, base⟩ := closed_eq m e
  have idle := closed_blk m e
  rw [base] at idle ⊢
  obtain ⟨sys, eq⟩ := commitEvents_fault { m with regs := regs, eng := eng } b src w
  rw [eq]
  refine ⟨idle, rfl, ?_⟩
  rw [Module.raise, BitVec.ofNat_toNat, BitVec.setWidth_eq]

/-- A post at the end of its block (R164). -/
theorem commitPosts_closed (m : Module) (e task k : Nat) (v w : Word) (hk : k < 8) {n : Module}
    (hn : n = (m.closed e).commitPosts e task [(k, v, w)]) :
    n.blk e = none ∧ n.mw (0x01839000 + 16 * k) = v ∧ n.mw (0x01839004 + 16 * k) = w
      ∧ n.mn (0x01839008 + 16 * k) 4 = (m.mn (0x01839008 + 16 * k) 4 + 1) % 2 ^ 32
      ∧ n.bit R.XS_MBX_PEND k = true ∧ n.bit R.HOST_IRQ_STAT 1 = true := by
  obtain ⟨regs, eng, base⟩ := closed_eq m e
  have idle := closed_blk m e
  rw [base] at idle hn
  obtain ⟨blks, mem, pend, irq⟩ := commitPosts_one { m with regs := regs, eng := eng } e task k v w hk
  obtain ⟨first, second, seq⟩ := putPost_mailbox { m with regs := regs, eng := eng } e task k v w
  rw [← hn] at blks mem pend irq
  have byte (i : Nat) : n.mb i = (Module.putPost { m with regs := regs, eng := eng } e task k v w).mb i := by
    rw [Module.mb, Module.mb, mem]
  refine ⟨(blk_congr blks e).trans idle, (mw_congr fun i _ _ => byte i).trans first, (mw_congr fun i _ _ => byte i).trans second,
    (mn_congr fun i _ _ => byte i).trans seq, pend, irq⟩

section
variable {s : State} {e : Fin 8} {b : Blk}

theorem exec_blockEnd {m : Module} (h : s.mod.blockEnd e = m) : exec (.blockEnd e) s = .next ⟨m, s.pending⟩ := h ▸ rfl

/-- A block ready in time, with the core answering: what each kind of staged effect leads to. -/
theorem blockEnd_commits (opened : s.mod.blk e = some b) (ready : b.state = .ready) (due : b.readyAt + 4 ≤ s.mod.now)
    (answers : s.mod.sys.coreSilent = false) {ws es ps}
    (staged : b.st = { Staged.empty with words := ws, evts := es, posts := ps }) :
    exec (.blockEnd e) s = .next ⟨(((s.mod.closed e).commitWords e ws).commitEvents b es).commitPosts e b.task ps, s.pending⟩ :=
  exec_blockEnd ((blockEnd_of_ready opened ready answers due).trans (commit_eq (s.mod.closed e) e staged))

/-- A silent core: the block ends stopped, its journal written back (R21). -/
theorem blockEnd_silent (opened : s.mod.blk e = some b) (ready : b.state = .ready) (silent : s.mod.sys.coreSilent = true) :
    Leads (.blockEnd e) s (fun m => m.blk e = none ∧ m = { s.mod with mem := m.mem, regs := m.regs, eng := m.eng }
      ∧ ∀ k, (∀ p ∈ b.journal, k < s.mod.dmAddr e p.1 ∨ s.mod.dmAddr e p.1 + 4 ≤ k) → m.mb k = s.mod.mb k) := by
  refine ⟨_, exec_blockEnd (blockEnd_of_silent opened ready silent), setBlk_blk_same _ _ _, ?_, fun k hk =>
    (mb_stopBlk s.mod e b k).trans (mb_unjournal s.mod e b.journal hk)⟩
  obtain ⟨⟨_, _, _, eq⟩, -⟩ := (stopBlk_enginesOnly s.mod e b).trans (setBlk_enginesOnly _ e none)
  rw [eq]

/-- A block late or not ready: nothing it staged applies, its journal is written back, and its overrun reported (R88, R105). -/
theorem blockEnd_overruns (opened : s.mod.blk e = some b)
    (late : b.state = .running ∨ (b.state = .ready ∧ s.mod.sys.coreSilent = false ∧ s.mod.now < b.readyAt + 4))
    (rerun : b.rerun = false) (room : s.mod.rn (R.TTB_OVR e) < 0xFFFFFFFE) :
    Leads (.blockEnd e) s (fun m => m.blk e = none
      ∧ m.rn (R.TTB_OVR e) = s.mod.rn (R.TTB_OVR e) + 1
      ∧ Raised s.mod m FS.TT_OVERRUN (.task b.task)
      ∧ (∀ k, (∀ p ∈ b.journal, k < s.mod.dmAddr e p.1 ∨ s.mod.dmAddr e p.1 + 4 ≤ k) → m.mb k = s.mod.mb k)
      ∧ (∀ p ∈ b.journal, (∀ q ∈ b.journal, q = p ∨ q.1 + 4 ≤ p.1 ∨ p.1 + 4 ≤ q.1) → m.mw (s.mod.dmAddr e p.1) = p.2)
      ∧ m = { s.mod with mem := m.mem, regs := m.regs, eng := m.eng, sid := m.sid, reports := m.reports, freeCtr := m.freeCtr }) := by
  obtain ⟨closed, count, raised, memory, frame⟩ := danger_leads s.mod e.isLt rerun room
  exact ⟨_, exec_blockEnd (blockEnd_of_late opened late), closed, count, raised,
    fun k hk => (memory k).trans (mb_unjournal s.mod e b.journal hk),
    fun p hp apart => (mw_congr fun k _ _ => memory k).trans (mw_unjournal s.mod e b.journal hp apart), frame⟩

end

/-- Settles O15: the commit of each kind of staged effect on the closed block, and the ends without a commit. -/
theorem blocksEndWithCommitOrDanger : Obligations.BlocksEndWithCommitOrDanger := by
  unfold Obligations.BlocksEndWithCommitOrDanger
  refine ⟨fun s le b opened ready due answers => ⟨?words, ?fault, ?ready, ?stopped, ?post⟩, fun s le => ⟨?none, fun b opened =>
    ⟨fun stopped => exec_blockEnd (blockEnd_of_stopped opened stopped), blockEnd_silent opened, blockEnd_overruns opened⟩⟩⟩
  case words =>
    intro ws staged yard nodup
    exact ⟨_, blockEnd_commits opened ready due answers (es := []) (ps := []) staged, commitWords_closed s.mod le yard nodup rfl⟩
  case fault =>
    intro src w staged
    exact ⟨_, blockEnd_commits opened ready due answers (ws := []) (ps := []) staged, commitEvents_closed s.mod le b src w⟩
  case ready =>
    intro w staged
    exact ⟨_, blockEnd_commits opened ready due answers (ws := []) (ps := []) staged, closed_blk s.mod le, rfl⟩
  case stopped =>
    intro w staged
    exact ⟨_, blockEnd_commits opened ready due answers (ws := []) (ps := []) staged, closed_blk s.mod le, rfl⟩
  case post =>
    intro k v w hk staged
    exact ⟨_, blockEnd_commits opened ready due answers (ws := []) (es := []) staged, commitPosts_closed s.mod le b.task k v w hk rfl⟩
  case none =>
    intro idle
    exact exec_blockEnd (blockEnd_of_none idle)

end Sys2Proof.Machine

namespace Sys2Proof.Machine

/-! ### O39: GO of a register with a disturbed copy -/

/-- The module up in SHUNT with STEP = 0, one copy of SYS_SHUNT.DUTY disturbed (R33, R62). -/
def shuntDisturbed : Module :=
  { State.reset.mod.wf R.SYS_MODE F.SYS_MODE_MODE 5 with
    sys := { State.reset.mod.sys with power := .on, inspecting := false, holdUp := false }
    upsets := [⟨BitVec.ofNat 22 R.SYS_SHUNT, 8, 0, 1⟩] }

theorem shuntDisturbed_stands_in_shunt : shuntDisturbed.powered = true ∧ shuntDisturbed.up = true
    ∧ shuntDisturbed.rf R.SYS_MODE F.SYS_MODE_MODE = 5 ∧ shuntDisturbed.cflag R.SYS_SHUNT F.SYS_SHUNT_STEP = false := by
  decide +kernel

/-- GO is set through the SET window, whose read votes SYS_SHUNT: the disturbed copy is outvoted and counted (R56, R62). -/
theorem shuntGo_counts_disturbed_copy : shuntDisturbed.rd R.HOST_VOTE_FIX = 0
    ∧ (shuntDisturbed.setBitHost R.SYS_SHUNT F.SYS_SHUNT_GO).rd R.HOST_VOTE_FIX = 1 := by decide +kernel

/-- Refutes O39: without STEP, GO is claimed to leave every register but SYS_SHUNT, yet with a copy of SYS_SHUNT.DUTY disturbed
the write of GO repairs that copy, which HOST_VOTE_FIX counts. -/
theorem not_generatorsReload : ¬ Obligations.GeneratorsReload := by
  unfold Obligations.GeneratorsReload
  intro h
  obtain ⟨powered, up, shunt, noStep⟩ := shuntDisturbed_stands_in_shunt
  obtain ⟨-, -, -, -, go⟩ := h ⟨shuntDisturbed, []⟩ 0 powered
  obtain ⟨m, answer, -, -, kept⟩ := (go up shunt).1 noStep
  obtain ⟨before, after⟩ := shuntGo_counts_disturbed_copy
  have written : exec .shuntGo ⟨shuntDisturbed, []⟩
      = .next ⟨shuntDisturbed.setBitHost R.SYS_SHUNT F.SYS_SHUNT_GO, []⟩ := rfl
  rw [written] at answer
  obtain rfl : shuntDisturbed.setBitHost R.SYS_SHUNT F.SYS_SHUNT_GO = m := by
    injection answer with answer
    injection answer
  have same := kept R.HOST_VOTE_FIX (by decide)
  rw [after] at same
  exact absurd (same.trans before) (by decide)

end Sys2Proof.Machine

namespace Sys2Proof.Machine
variable {m n : Module}

/-! ### Register reads (R52, R55, R58, R62) -/

/-- A register none of whose fields is triplicated has no copies to vote (R62). -/
theorem voteReg_of_unvoted (m : Module) {a : Nat} {f : Found} (row : findReg a regTable = some f)
    (unvoted : f.reg.fields.all (fun d => !d.acc.voted) = true) : m.voteReg a = m := by
  have none_voted (n : Module) (lo : Fin 64) : n.votedField a lo = none := by
    simp only [Module.votedField, row]
    split
    · rfl
    · rw [List.find?_eq_none]
      intro d hd
      have := List.all_eq_true.1 unvoted d hd
      simp_all
  exact List.foldl_fixed' (fun u => by rw [Module.voteField, none_voted]) _

/-- The addresses of the normal window (R55). -/
theorem winOf_normal {a : Nat} (h : a < 0x400000) : winOf a = some (Win.normal, a) := by
  simpa [winOf, List.range_succ_eq_map, winBase] using h

theorem place_normal {a bytes : Nat} {f : Found} (row : findReg a regTable = some f) (normal : a < 0x400000)
    (reach : m.sys.inspecting = false ∨ a < 0x20000) (aligned : a % bytes = 0) : m.place a bytes = .ok ⟨Win.normal, a, f⟩ := by
  have reached : ¬ (m.sys.inspecting = true ∧ 0x20000 ≤ a) := by
    rintro ⟨h, low⟩
    simp_all
    omega
  simp only [Module.place, winOf_normal normal, row, if_neg reached, aligned, ne_eq, not_true_eq_false, if_false]

theorem highOf_setHigh (m : Module) (i : Initiator) (h : Option HighLatch) : (m.setHigh i h).highOf i = h :=
  SMap.getD_setD_same _ _ _ _

/-- The module with `v` as the answer of its last PCIe read (R52). -/
def Module.answer (m : Module) (v : DWord) : Module := { m with host := { m.host with pcie := .data v } }

theorem highOf_answer (m : Module) (v : DWord) (i : Initiator) : (m.answer v).highOf i = m.highOf i := rfl

theorem fresh_of_ne {a : Nat} (clock : a / 8 ≠ R.KEEP_RTC / 8) (locks : a ≠ R.NVM_STAT) : m.fresh a = m := by
  simp [Module.fresh, clock, locks]

/-- A read over PCIe that the decision table allows shows its data. -/
theorem pcieRead_of_data {a bytes : Nat} {v : DWord} (live : m.live = true) (read : m.regRead .pcie a bytes = (n, .data v)) :
    m.pcieRead a bytes = n.answer v := by
  simp only [Module.pcieRead, Module.hostServed, live, read]
  rfl

/-- `a` is a 64-bit register whose reads have no other effect, found at its low word as `f` and at its high word as `g`. -/
structure PlainWide (a : Nat) (f g : Found) : Prop where
  low : findReg a regTable = some f
  lowByte : f.byte = 0
  wide : f.reg.wide = true
  unvoted : f.reg.fields.all (fun d => !d.acc.voted) = true
  high : findReg (a + 4) regTable = some g
  highByte : g.byte = 4
  highWide : g.reg.wide = true
  aligned : a % 8 = 0
  normal : a + 4 < 0x400000
  clock : a / 8 ≠ R.KEEP_RTC / 8
  locks : a ≠ R.NVM_STAT ∧ a + 4 ≠ R.NVM_STAT
  mode : a / 4 ≠ R.SYS_MODE / 4 ∧ (a + 4) / 4 ≠ R.SYS_MODE / 4

/-- What `PlainWide` asks, as a check of the register table. -/
def plainWide (a : Nat) : Bool :=
  match findReg a regTable, findReg (a + 4) regTable with
  | some f, some g => f.byte == 0 && f.reg.wide && f.reg.fields.all (fun d => !d.acc.voted) && g.byte == 4 && g.reg.wide
      && decide (a % 8 = 0 ∧ a + 4 < 0x400000 ∧ a / 8 ≠ R.KEEP_RTC / 8 ∧ (a ≠ R.NVM_STAT ∧ a + 4 ≠ R.NVM_STAT)
        ∧ (a / 4 ≠ R.SYS_MODE / 4 ∧ (a + 4) / 4 ≠ R.SYS_MODE / 4))
  | _, _ => false

theorem found_of_plainWide {a : Nat} (h : plainWide a = true) : ∃ f g, PlainWide a f g := by
  unfold plainWide at h
  split at h
  · next f g low high =>
    simp only [Bool.and_eq_true, beq_iff_eq, decide_eq_true_eq] at h
    obtain ⟨⟨⟨⟨⟨lowByte, wide⟩, unvoted⟩, highByte⟩, highWide⟩, aligned, normal, clock, locks, mode⟩ := h
    exact ⟨f, g, low, lowByte, wide, unvoted, high, highByte, highWide, aligned, normal, clock, locks, mode⟩
  · simp at h

section
variable {a : Nat} {f g : Found}

/-- A read of 8 bytes gives both words (R58). -/
theorem regRead_whole (w : PlainWide a f g) (reach : m.sys.inspecting = false) :
    m.regRead .pcie a 8 = (m.setHigh .pcie none, .data (m.rd a)) := by
  have placed := place_normal (m := m) (bytes := 8) w.low (by have := w.normal; omega) (.inl reach) w.aligned
  have whole : lanes (m.rd a) 0 8 = m.rd a := by
    have fits : (m.rd a).toNat % 2 ^ 64 = (m.rd a).toNat := Nat.mod_eq_of_lt (m.rd a).isLt
    simp only [lanes, Nat.mul_zero, Nat.shiftRight_zero, fits, BitVec.ofNat_toNat, BitVec.setWidth_eq]
  simp [Module.regRead, placed, w.wide, w.lowByte, voteReg_of_unvoted m w.low w.unvoted, fresh_of_ne w.clock w.locks.1,
    Module.readEffect, w.mode.1, Module.readValue, whole]

/-- A read of the low word latches the high word (R58). -/
theorem regRead_low (w : PlainWide a f g) (reach : m.sys.inspecting = false) :
    m.regRead .pcie a 4 = ((m.setHigh .pcie none).setHigh .pcie (some ⟨a, BitVec.ofNat 32 (m.rn a / 2 ^ 32)⟩),
      .data (BitVec.ofNat 64 (m.rn a % 2 ^ 32))) := by
  have aligned := w.aligned
  have placed := place_normal (m := m) (bytes := 4) w.low (by have := w.normal; omega) (.inl reach) (by omega)
  simp [Module.regRead, placed, w.wide, w.lowByte, voteReg_of_unvoted m w.low w.unvoted, fresh_of_ne w.clock w.locks.1,
    Module.readEffect, w.mode.1, Module.readValue, lanes, Module.rn, Nat.shiftRight_eq_div_pow]

/-- A read of the high word gives the word latched for this register, else the present one (R58). -/
theorem regRead_high (w : PlainWide a f g) (reach : m.sys.inspecting = false) {h : Word}
    (latch : m.highOf .pcie = some ⟨a, h⟩ ∨ ((∀ k, m.highOf .pcie ≠ some ⟨a, k⟩) ∧ h = BitVec.ofNat 32 (m.rn a / 2 ^ 32))) :
    m.regRead .pcie (a + 4) 4 = (m.setHigh .pcie none, .data (BitVec.ofNat 64 h.toNat)) := by
  have aligned := w.aligned
  have placed := place_normal (m := m) (bytes := 4) w.high w.normal (.inl reach) (by omega)
  have clock : (a + 4) / 8 ≠ R.KEEP_RTC / 8 := by have := w.clock; omega
  have mode : a / 4 + 1 ≠ R.SYS_MODE / 4 := by have := w.mode.2; omega
  have word : lanes (h.setWidth 64) 0 4 = h.setWidth 64 := by
    rw [← BitVec.ofNat_toNat, lanes_word h.isLt]
  rw [Module.rn, ← Nat.shiftRight_eq_div_pow] at latch
  cases kept : m.highOf .pcie with
  | none =>
    have current : BitVec.ofNat 32 ((m.rd a).toNat >>> 32) = h := by simpa [kept, eq_comm] using latch
    simp [Module.regRead, placed, w.highWide, w.highByte, voteReg_of_unvoted m w.low w.unvoted, fresh_of_ne clock w.locks.2,
      Module.readEffect, mode, Module.readValue, kept, current, word]
  | some l =>
    have given : (if l.addr = a then l.high else BitVec.ofNat 32 ((m.rd a).toNat >>> 32)) = h := by
      obtain own | ⟨other, rfl⟩ := latch
      · obtain rfl : l = ⟨a, h⟩ := Option.some.inj (kept.symm.trans own)
        exact if_pos rfl
      · exact if_neg fun same => other l.high (by rw [kept, ← same])
    simp [Module.regRead, placed, w.highWide, w.highByte, voteReg_of_unvoted m w.low w.unvoted, fresh_of_ne clock w.locks.2,
      Module.readEffect, mode, Module.readValue, kept, given, word]

end

/-! #### SYS_MODE (R34, R67) -/

/-- A read of SYS_MODE gives it as it stands and clears REFUSE (R67). -/
theorem regRead_sysMode (m : Module) : m.regRead .pcie R.SYS_MODE 4
    = ((m.wf R.SYS_MODE F.SYS_MODE_REFUSE 0).setHigh .pcie none, .data (BitVec.ofNat 64 (m.rn R.SYS_MODE % 2 ^ 32))) := by
  obtain ⟨f, row, byte, narrow, unvoted⟩ : ∃ f, findReg R.SYS_MODE regTable = some f ∧ f.byte = 0 ∧ f.reg.wide = false
      ∧ f.reg.fields.all (fun d => !d.acc.voted) = true := ⟨_, rfl, rfl, rfl, by decide⟩
  have placed := place_normal (m := m) (bytes := 4) row (by decide) (.inr (by decide)) (by decide)
  simp [Module.regRead, placed, narrow, byte, voteReg_of_unvoted m row unvoted,
    fresh_of_ne (m := m) (a := R.SYS_MODE) (by decide) (by decide), Module.readEffect, Module.readValue, lanes, Module.rn]

/-- A read of a plain 64-bit register over PCIe touches `host` only: it shows `v` and leaves the latch `h`. -/
def ShowsWord (m : Module) (v : Nat) (h : Option HighLatch) (n : Module) : Prop :=
  n.host.pcie = .data (BitVec.ofNat 64 v) ∧ n.highOf .pcie = h ∧ n = { m with host := n.host }

section
variable {a : Nat} {f g : Found}

theorem pcieRead_low_shows (live : m.live = true) (w : PlainWide a f g) (reach : m.sys.inspecting = false) :
    ShowsWord m (m.rn a % 2 ^ 32) (some ⟨a, BitVec.ofNat 32 (m.rn a / 2 ^ 32)⟩) (m.pcieRead a 4) := by
  rw [pcieRead_of_data live (regRead_low w reach)]
  exact ⟨rfl, (highOf_answer _ _ _).trans (highOf_setHigh _ _ _), rfl⟩

theorem pcieRead_high_shows (live : m.live = true) (w : PlainWide a f g) (reach : m.sys.inspecting = false) {h : Word}
    (latch : m.highOf .pcie = some ⟨a, h⟩ ∨ ((∀ k, m.highOf .pcie ≠ some ⟨a, k⟩) ∧ h = BitVec.ofNat 32 (m.rn a / 2 ^ 32))) :
    ShowsWord m h.toNat none (m.pcieRead (a + 4) 4) := by
  rw [pcieRead_of_data live (regRead_high w reach latch)]
  exact ⟨rfl, (highOf_answer _ _ _).trans (highOf_setHigh _ _ _), rfl⟩

theorem pcieRead_whole_shows (live : m.live = true) (w : PlainWide a f g) (reach : m.sys.inspecting = false) :
    ShowsWord m (m.rn a) none (m.pcieRead a 8) := by
  rw [pcieRead_of_data live (regRead_whole w reach)]
  refine ⟨congrArg Reply.data ?_, (highOf_answer _ _ _).trans (highOf_setHigh _ _ _), rfl⟩
  rw [Module.rn, BitVec.ofNat_toNat, BitVec.setWidth_eq]

end

/-- A read of SYS_MODE over PCIe: REFUSE cleared, the answer and the latch in `host`, and nothing else (R67). -/
theorem pcieRead_sysMode (live : m.live = true) : ∃ x : HostPort, x.pcie = .data (BitVec.ofNat 64 (m.rn R.SYS_MODE % 2 ^ 32))
    ∧ x = { m.host with pcie := x.pcie, high := x.high }
    ∧ m.pcieRead R.SYS_MODE 4 = { m.wf R.SYS_MODE F.SYS_MODE_REFUSE 0 with host := x } := by
  rw [pcieRead_of_data live (regRead_sysMode m)]
  exact ⟨_, rfl, rfl, rfl⟩

theorem exec_lowWordRead (s : State) {a : Nat} (fits : a < 2 ^ 22) :
    exec (.lowWordRead (BitVec.ofNat 22 a)) s = .next ⟨s.mod.pcieRead a 4, s.pending⟩ := by
  have addr : (BitVec.ofNat 22 a).toNat = a := Nat.mod_eq_of_lt fits
  show execLowWordRead _ s = _
  rw [execLowWordRead, State.run, addr]

theorem exec_highWordRead (s : State) {a : Nat} (fits : a < 2 ^ 22) :
    exec (.highWordRead (BitVec.ofNat 22 a)) s = .next ⟨s.mod.pcieRead a 4, s.pending⟩ :=
  exec_lowWordRead s fits

theorem exec_hostAccessComplete_whole (s : State) {a : Nat} (fits : a < 2 ^ 25) :
    exec (.hostAccessComplete (.pcie 3 (BitVec.ofNat 25 a))) s = .next ⟨s.mod.pcieRead a 8, s.pending⟩ := by
  have addr : (BitVec.ofNat 25 a).toNat = a := Nat.mod_eq_of_lt fits
  show s.run (·.pcieRead (BitVec.ofNat 25 a).toNat 8) = _
  rw [State.run, addr]

/-- Settles O20: each read by its equation above, of a row that the register table shows to be plain. -/
theorem registerReadsAndTheirEffects : Obligations.RegisterReadsAndTheirEffects := by
  unfold Obligations.RegisterReadsAndTheirEffects
  refine ⟨fun s live reach a ha => ?wide, fun s => ⟨fun dead => ?dead, fun live => ?mode⟩⟩
  case wide =>
    have rows : ∀ a ∈ [R.SYS_UID, R.HOST_VIOL_TIME, R.TTB_FRAMES, R.CLK_TOD_SEC, R.CLK_GMID, R.PB_GS_LOST, R.SID_MARK_G],
        plainWide a = true := by decide +kernel
    obtain ⟨f, g, w⟩ := found_of_plainWide (rows a ha)
    have fits := w.normal
    have answersLow := exec_lowWordRead s (a := a) (by omega)
    have answersHigh := exec_highWordRead s (a := a + 4) (by omega)
    have answersWhole := exec_hostAccessComplete_whole s (a := a) (by omega)
    refine ⟨⟨_, answersLow, pcieRead_low_shows live w reach⟩,
      fun h own => ⟨_, answersHigh, pcieRead_high_shows live w reach (.inl own)⟩, fun other => ⟨_, answersHigh, ?_⟩,
      ⟨_, answersWhole, pcieRead_whole_shows live w reach⟩⟩
    have fitsWord : (BitVec.ofNat 32 (s.mod.rn a / 2 ^ 32)).toNat = s.mod.rn a / 2 ^ 32 := by
      have : s.mod.rn a < 2 ^ 64 := (s.mod.rd a).isLt
      exact Nat.mod_eq_of_lt (by omega)
    have shown := pcieRead_high_shows live w reach (.inr ⟨other, rfl⟩)
    rwa [fitsWord] at shown
  case dead =>
    show execSysModeRead s = _
    simp [execSysModeRead, State.run, Module.pcieRead, Module.hostServed, dead]
  case mode =>
    have answers : exec .sysModeRead s = .next ⟨s.mod.pcieRead R.SYS_MODE 4, s.pending⟩ := rfl
    obtain ⟨x, data, hx, eq⟩ := pcieRead_sysMode live
    rw [eq] at answers
    have kept (f : Field) (hf : f.hi < 64) (apart : F.SYS_MODE_REFUSE.hi < f.lo ∨ f.hi < F.SYS_MODE_REFUSE.lo) :=
      rf_wf_apart s.mod R.SYS_MODE F.SYS_MODE_REFUSE f 0 hf apart
    refine ⟨_, answers, data, rf_wf_same s.mod _ _ 0 (by decide), kept F.SYS_MODE_MODE (by decide) (by decide),
      kept F.SYS_MODE_SUB (by decide) (by decide), congrArg (· != 0) (kept F.SYS_MODE_STOPPING (by decide) (by decide)),
      congrArg (· != 0) (kept F.SYS_MODE_HALTING (by decide) (by decide)), fun a ha => rd_wf_ne s.mod _ 0 ha.symm, ?_⟩
    rw [← hx]
    rfl

end Sys2Proof.Machine

namespace Sys2Proof.Machine
variable {m n : Module}

/-! ### The Interlocking while the stop signal stands (R47, R452) -/

section
variable (x : Il) (i now : Nat)

theorem Il.twoHand_stopSig : (x.twoHand i now).stopSig = x.stopSig := by
  unfold Il.twoHand
  extract_lets a b f
  split
  · rfl
  · split
    · split
      · rfl
      · split <;> rfl
    · rfl

theorem Il.muting_stopSig : (x.muting i now).stopSig = x.stopSig := by
  unfold Il.muting
  extract_lets k m1 m2 f
  split
  · rfl
  · split
    · split <;> rfl
    · split
      · rfl
      · split
        · rfl
        · split
          · split <;> rfl
          · rfl

theorem Il.fbNext_stopSig : (x.fbNext i now).1.stopSig = x.stopSig := by
  unfold Il.fbNext
  split
  · rfl
  · split
    · exact x.twoHand_stopSig i now
    · extract_lets y f
      have muted : y.stopSig = x.stopSig := by
        unfold y
        split
        · exact x.muting_stopSig i now
        · rfl
      refine Eq.trans ?_ muted
      clear_value y
      split
      · split <;> rfl
      · split
        · rfl
        · split
          · split <;> rfl
          · rfl

end

/-- `n` follows from `m` by a step of the Interlocking under the stop signal: the signal stands, and a removal's request keeps
its line active. -/
structure UnderStop (m n : Module) : Prop where
  frame : ∃ regs pwm gate rings il reports freeCtr, n = { m with
    regs := regs, pwm := pwm, gate := gate, rings := rings, il := il, reports := reports, freeCtr := freeCtr }
  stop : n.il.stopSig = true
  asserts : ∀ {l : Nat}, l < 64 → Asserts m l .removal → Asserts n l .removal

theorem UnderStop.refl (h : m.il.stopSig = true) : UnderStop m m := ⟨⟨_, _, _, _, _, _, _, rfl⟩, h, fun _ ha => ha⟩

theorem UnderStop.trans {l : Module} (h : UnderStop l m) (h' : UnderStop m n) : UnderStop l n := by
  obtain ⟨⟨_, _, _, _, _, _, _, rfl⟩, -, asserts⟩ := h
  obtain ⟨⟨_, _, _, _, _, _, _, rfl⟩, stop, asserts'⟩ := h'
  exact ⟨⟨_, _, _, _, _, _, _, rfl⟩, stop, fun hl ha => asserts' hl (asserts hl ha)⟩

theorem UnderStop.foldl {α : Type} {f : Module → α → Module} (hf : ∀ m x, m.il.stopSig = true → UnderStop m (f m x))
    (l : List α) (h : m.il.stopSig = true) : UnderStop m (l.foldl f m) :=
  List.foldlRecOn l f (.refl h) fun n hn x _ => hn.trans (hf n x hn.stop)

theorem UnderStop.setIl (m : Module) {x : Il} (h : x.stopSig = true) : UnderStop m (m.setIl x) :=
  ⟨⟨_, _, _, _, _, _, _, rfl⟩, h, fun _ ha => ha.congr rfl rfl⟩

theorem UnderStop.raiseFree (h : m.il.stopSig = true) (src : Nat) (o : Owner) : UnderStop m (m.raiseFree src o) :=
  ⟨⟨_, _, _, _, _, _, _, rfl⟩, h, fun _ ha => ha.congr rfl rfl⟩

theorem UnderStop.requestLine (h : m.il.stopSig = true) (k : Nat) (r : Req) : UnderStop m (m.requestLine k r) := by
  obtain ⟨⟨_, _, _, _, eq⟩, -⟩ := requestLine_linesOnly m k r
  refine ⟨⟨_, _, _, _, _, _, _, eq⟩, ?_, fun hl ha => ha.requestLine hl (by simp) k r⟩
  rw [eq]
  exact h

theorem GatesOnly.asserts (h : GatesOnly m n) {l : Nat} {r : Req} (ha : Asserts m l r) : Asserts n l r := by
  obtain ⟨⟨_, _, rfl⟩, kept⟩ := h
  refine ha.congr rfl (kept _ fun ch => ?_)
  simp only [R.PWM_FL_ACT, R.GD_STAT]
  omega

theorem gateEnables_off_gatesOnly (m : Module) : GatesOnly m (m.gateEnables false false) :=
  List.foldlRecOn _ _ (GatesOnly.gate m _) fun n h ch _ => h.trans (gdOff_gatesOnly n ch)

theorem UnderStop.gateEnables (h : m.il.stopSig = true) : UnderStop m (m.gateEnables false false) := by
  have gates := gateEnables_off_gatesOnly m
  have asserts := @gates.asserts
  obtain ⟨⟨_, _, eq⟩, -⟩ := gates
  refine ⟨⟨_, _, _, _, _, _, _, eq⟩, ?_, fun _ ha => asserts ha⟩
  rw [eq]
  exact h

/-- Under the stop signal no output is released (R449, R452). -/
theorem Il.released_of_stopSig {x : Il} (h : x.stopSig = true) (j : Nat) : x.released j = false := by
  simp [Il.released, h]

theorem stoFollow_underStop (h : m.il.stopSig = true) : UnderStop m m.stoFollow := by
  unfold Module.stoFollow
  simp only [Il.released_of_stopSig h, Bool.false_eq_true, if_false]
  split
  · split
    · exact .refl h
    · exact .requestLine h _ _
  · have off : UnderStop m (m.setIl { m.il with stoRel := false }) := .setIl m h
    have gates := off.trans (.gateEnables off.stop)
    exact gates.trans (.requestLine gates.stop _ _)

theorem outFollow_underStop (h : m.il.stopSig = true) (j : Nat) : UnderStop m (m.outFollow j) := by
  unfold Module.outFollow
  simp only [Il.released_of_stopSig h, Bool.false_eq_true, if_false]
  split
  · exact .refl h
  · split
    · exact .setIl m h
    · exact .setIl m h

theorem outsFollow_underStop (h : m.il.stopSig = true) :
    UnderStop m ((List.range 4).foldl (fun m j => m.outFollow (j + 1)) m.stoFollow) := by
  have sto := stoFollow_underStop h
  exact sto.trans (.foldl (fun n j hn => outFollow_underStop hn (j + 1)) _ sto.stop)

theorem ilEval_underStop (h : m.il.stopSig = true) : UnderStop m m.ilEval := by
  unfold Module.ilEval
  split
  · exact outsFollow_underStop h
  · extract_lets normal demand m1 m2 was m3 went
    have msel : UnderStop m m1 := by
      unfold m1
      split
      · exact .refl h
      · exact .setIl m h
    have fbs : UnderStop m1 m2 := by
      refine .foldl (fun n i hn => ?_) _ msel.stop
      extract_lets r n1
      have next : UnderStop n n1 := .setIl n ((n.il.fbNext_stopSig i n.now).trans hn)
      split
      · exact next.trans (.raiseFree next.stop _ _)
      · exact next
    have outs : UnderStop m m3 := (msel.trans fbs).trans (outsFollow_underStop fbs.stop)
    split
    · exact outs.trans (.raiseFree outs.stop _ _)
    · exact outs

/-- The stop signal is a new state of the Interlocking, evaluated (R452). -/
theorem stopSignal_eq (m : Module) : ∃ x : Il, x.stopSig = true ∧ m.stopSignal true = (m.setIl x).ilEval := by
  unfold Module.stopSignal
  rw [if_pos rfl]
  exact ⟨_, by exact rfl, rfl⟩

theorem stopSignal_underStop (m : Module) : UnderStop m (m.stopSignal true) := by
  obtain ⟨x, stop, eq⟩ := stopSignal_eq m
  rw [eq]
  exact (UnderStop.setIl m stop).trans (ilEval_underStop stop)

/-! ### The hold-up sequence starts (R47, R48) -/

theorem stopBlk_noFrame (m : Module) (e : Nat) (b : Blk) : (m.stopBlk e b).eng.noFrame = m.eng.noFrame := by
  obtain ⟨_, _, back⟩ := unjournal_eq m e b.journal
  exact congrArg (fun n => n.eng.noFrame) back

theorem stopBlocks_noFrame (m : Module) : m.stopBlocks.eng.noFrame = m.eng.noFrame := by
  unfold Module.stopBlocks
  refine List.foldlRecOn (motive := fun n : Module => n.eng.noFrame = m.eng.noFrame) _ _ rfl fun n h e _ => ?_
  split
  · split
    · exact h
    · exact (stopBlk_noFrame n e _).trans h
  · exact h

/-- The hold-up sequence has begun: its line active, the stop signal at the Interlocking, blocks stopped and no frame marked. -/
structure HeldUp (m n : Module) : Prop where
  sys : n.sys = { m.sys with holdUp := true }
  keep : n.keep = m.keep
  now : n.now = m.now
  noFrame : n.eng.noFrame = true
  stop : n.il.stopSig = true
  line : n.bit R.PWM_FL_ACT m.removalLine = true
  stopped : ∀ e < 8, StoppedOn e n

theorem removalLine_lt (m : Module) : m.removalLine < 64 := by
  rw [Module.removalLine, Module.cf, fget_eq]
  exact lt_of_lt_of_le (Nat.mod_lt _ (by decide)) (by decide)

theorem holdUpStart_heldUp (h : m.sys.holdUp = false) : HeldUp m m.holdUpStart := by
  unfold Module.holdUpStart
  rw [if_neg (by simp [h])]
  extract_lets sys eng m1 m2
  have lines : LinesOnly m1 m2 := requestLine_linesOnly m1 m1.removalLine .removal
  have asserted : Asserts m2 m.removalLine .removal := requestLine_asserts m1 (removalLine_lt m) (by simp)
  have engines : EnginesOnly m2 m2.stopBlocks := stopBlocks_enginesOnly m2
  have stopped : ∀ e < 8, StoppedOn e m2.stopBlocks := fun _ => stopBlocks_stoppedOn m2
  have frames : m2.stopBlocks.eng.noFrame = true := by
    rw [stopBlocks_noFrame, lines.eng]
  have under := stopSignal_underStop m2.stopBlocks
  generalize m2.stopBlocks = p at engines stopped frames under
  generalize p.stopSignal true = q at under
  have line := (under.asserts (removalLine_lt m) (engines.asserts asserted)).active
  have stop := under.stop
  obtain ⟨⟨_, _, _, _, _, _, _, rfl⟩, -, -⟩ := under
  have same : p.keep = m.keep ∧ p.now = m.now := by
    obtain ⟨⟨_, _, _, eq⟩, -⟩ := engines
    obtain ⟨⟨_, _, _, _, eq'⟩, -⟩ := lines
    rw [eq, eq']
    exact ⟨rfl, rfl⟩
  exact ⟨engines.sys.trans lines.sys, same.1, same.2, frames, stop, line, stopped⟩

/-! ### The incident closed at the end of the sequence (R47, R493) -/

/-- `n` differs from `m` at most in registers, memory, what the engines hold and what waits for the log writer. -/
def Recorded (m n : Module) : Prop := ∃ regs mem eng logq, n = { m with regs := regs, mem := mem, eng := eng, logq := logq }

theorem Recorded.refl (m : Module) : Recorded m m := ⟨_, _, _, _, rfl⟩

theorem Recorded.trans {l : Module} (h : Recorded l m) (h' : Recorded m n) : Recorded l n := by
  obtain ⟨_, _, _, _, rfl⟩ := h
  obtain ⟨_, _, _, _, rfl⟩ := h'
  exact ⟨_, _, _, _, rfl⟩

theorem Recorded.setMn (m : Module) (a c v : Nat) : Recorded m (m.setMn a c v) := ⟨_, _, _, _, setBytes_eq (leBytes c v) m a⟩

/-- Without the domains running no publication is compared (R47, R228). -/
theorem gpCompare_of_not_up (h : m.up = false) (k : Nat) : m.gpCompare k = m := by
  simp [Module.gpCompare, h]

theorem Recorded.up (h : Recorded m n) : n.up = m.up := by
  obtain ⟨_, _, _, _, rfl⟩ := h
  rfl

theorem recorded_publishAlarm (down : m.up = false) (num src sev : Nat) (b : Bool) (sec ns : Nat) :
    Recorded m (m.publishAlarm num src sev b sec ns) := by
  unfold Module.publishAlarm
  extract_lets k a m1 m2 m3 m4 m5 m6
  split
  · exact .refl m
  · have values : Recorded m m6 := (((((Recorded.setMn m _ _ _).trans (.setMn m1 _ _ _)).trans (.setMn m2 _ _ _)).trans
      (.setMn m3 _ _ _)).trans (.setMn m4 _ _ _)).trans (.setMn m5 _ _ _)
    rw [gpCompare_of_not_up (values.up.trans down)]
    exact values

theorem closeIncident_of_none (h : m.coll.inc = none) (cause : Nat) : m.closeIncident cause = m := by
  simp only [Module.closeIncident, h]

/-- An incident closes: none is open, and its record and flags are written (R493). -/
theorem closeIncident_recorded (down : m.up = false) (cause : Nat) :
    Recorded { m with coll := { m.coll with inc := none } } (m.closeIncident cause) := by
  unfold Module.closeIncident
  split
  · next none =>
    rw [← none]
    exact .refl m
  · extract_lets coll m1 m2 m3 m4
    have logged : Recorded m1 m3 := ⟨_, _, _, _, rfl⟩
    have settled : Recorded m3 m4 := List.foldlRecOn _ _ (.refl m3) fun n h s _ => h.trans (.setMn n _ _ _)
    have closed : Recorded m1 m4 := logged.trans settled
    split
    · exact closed.trans (recorded_publishAlarm (closed.up.trans down) _ _ _ _ _ _)
    · exact closed

/-! ### The commit at the end of the sequence (R47 to R49) -/

theorem commitRecords_eq (rs : List (Nat × List Byte)) (m : Module) : ∃ mem eng,
    m.commitRecords rs = { m with mem := mem, eng := eng } := by
  induction rs generalizing m with
  | nil => exact ⟨_, _, rfl⟩
  | cons r rs ih =>
    obtain ⟨_, _, h⟩ := ih (m.setBytes r.1 r.2)
    exact ⟨_, _, h.trans (by rw [setBytes_eq])⟩

/-- A commit that the store does not cut short: every record waiting, and then the meter registers. -/
theorem holdUpCommit_whole {cut : Option Nat} (h : m.sys.vmainValid = true ∨ cut = none) :
    m.holdUpCommit cut = (({ m with logq := [] } : Module).commitRecords m.logq).meterCommit := by
  have all : (if m.sys.vmainValid then none else cut) = none := by
    obtain h | h := h
    · rw [if_pos h]
    · rw [h, ite_self]
  simp only [Module.holdUpCommit, all]

theorem freeBytes_length (m : Module) (k : Nat) : (m.freeBytes k).1.length = k := by
  induction k generalizing m with
  | zero => rfl
  | succ k ih => exact congrArg (· + 1) (ih m.free.2)

theorem freeBytes_eq (m : Module) (k : Nat) : ∃ freeCtr, (m.freeBytes k).2 = { m with freeCtr := freeCtr } := by
  induction k generalizing m with
  | zero => exact ⟨_, rfl⟩
  | succ k ih =>
    obtain ⟨_, h⟩ := ih m.free.2
    exact ⟨_, h⟩

/-- A record whose commit is cut short is marked, with the record before it kept; every byte outside its place stands (R49). -/
theorem tearRecord_leads (m : Module) (a : Nat) (bs : List Byte) :
    (m.tearRecord (a, bs)).sys = { m.sys with torn := m.sys.torn ++ [(a, m.mbytes a bs.length)] }
      ∧ ∀ k, k < a ∨ a + bs.length ≤ k → (m.tearRecord (a, bs)).mb k = m.mb k := by
  obtain ⟨_, drawn⟩ := freeBytes_eq m bs.length
  have long := freeBytes_length m bs.length
  unfold Module.tearRecord
  extract_lets b m' sys
  have kept : m'.sys = m.sys := (setBytes_sys _ _ _).trans (congrArg (·.sys) drawn)
  refine ⟨?_, fun k hk => ?_⟩
  · show ({ m'.sys with torn := m'.sys.torn ++ [(a, m.mbytes a bs.length)] } : Sys) = _
    rw [kept]
  · show m'.mb k = m.mb k
    have outside : ¬ (a ≤ k ∧ k < a + b.1.length) := by
      show ¬ (a ≤ k ∧ k < a + (m.freeBytes bs.length).1.length)
      rw [long]
      omega
    rw [mb_setBytes, if_neg outside]
    exact congrArg (·.mb k) drawn

/-- The end of the sequence with its commit `n` made (R47, R48). -/
def Module.shedDone (n : Module) : Module :=
  { n with sys := { n.sys with
    holdUp := false, shed := true, power := if n.sys.vmainValid && !n.sys.seated then n.sys.power else .watch } }

theorem holdUpDone_eq (h : m.sys.holdUp = true) (cut : Option Nat) :
    m.holdUpDone cut = ((m.closeIncident 3).holdUpCommit cut).shedDone := by
  unfold Module.holdUpDone Module.shedDone
  rw [if_neg (by simp [h])]
  generalize (m.closeIncident 3).holdUpCommit cut = n
  by_cases stays : (n.sys.vmainValid && !n.sys.seated) = true
  · simp only [stays, if_true]
  · simp only [stays, if_false, Bool.false_eq_true]

/-- During the sequence the domains do not run (R47). -/
theorem not_up_of_holdUp (h : m.sys.holdUp = true) : m.up = false := by simp [Module.up, Module.live, h]

/-- The sequence ends with its whole commit: no incident open, no record waiting, each record in its place. -/
theorem holdUpDone_whole (h : m.sys.holdUp = true) {cut : Option Nat} (whole : m.sys.vmainValid = true ∨ cut = none) :
    (m.holdUpDone cut).coll.inc = none ∧ (m.holdUpDone cut).logq = []
      ∧ (m.holdUpDone cut).sys = { m.sys with
          holdUp := false, shed := true, power := if m.sys.vmainValid && !m.sys.seated then m.sys.power else .watch }
      ∧ (m.coll.inc = none → ∀ a bs, m.logq = [(a, bs)] → (m.holdUpDone cut).mbytes a bs.length = bs) := by
  have closed := closeIncident_recorded (not_up_of_holdUp h) 3
  have same := closeIncident_of_none (m := m) (cause := 3)
  rw [holdUpDone_eq h]
  generalize m.closeIncident 3 = n at closed same
  have sys : n.sys = m.sys := by
    obtain ⟨_, _, _, _, rfl⟩ := closed
    rfl
  have inc : n.coll.inc = none := by
    obtain ⟨_, _, _, _, rfl⟩ := closed
    rfl
  rw [holdUpCommit_whole (by rw [sys]; exact whole)]
  obtain ⟨_, _, written⟩ := commitRecords_eq n.logq { n with logq := [] }
  have state : (({ n with logq := [] } : Module).commitRecords n.logq).sys = m.sys := by rw [written, ← sys]
  refine ⟨?_, ?_, ?_, fun none a bs waiting => ?_⟩
  · show (({ n with logq := [] } : Module).commitRecords n.logq).coll.inc = none
    rw [written]
    exact inc
  · show (({ n with logq := [] } : Module).commitRecords n.logq).logq = []
    rw [written]
  · rw [← state]
    rfl
  · rw [same none, waiting]
    refine Eq.trans (mbytes_congr fun k _ _ => ?_) (mbytes_setBytes_same { m with logq := [] } a bs)
    rfl

/-- The sequence ends in the commit of its one record, VMAIN gone: that record is marked, and the module goes to WATCH. -/
theorem holdUpDone_cut (h : m.sys.holdUp = true) (lost : m.sys.vmainValid = false) (closed : m.coll.inc = none)
    {a : Nat} {bs : List Byte} (waiting : m.logq = [(a, bs)]) :
    (m.holdUpDone (some 0)).sys.torn = m.sys.torn ++ [(a, m.mbytes a bs.length)]
      ∧ (m.holdUpDone (some 0)).sys.holdUp = false ∧ (m.holdUpDone (some 0)).sys.power = .watch
      ∧ ∀ k, k < a ∨ a + bs.length ≤ k → (m.holdUpDone (some 0)).mb k = m.mb k := by
  have torn : m.holdUpCommit (some 0) = ({ m with logq := [] } : Module).tearRecord (a, bs) := by
    simp [Module.holdUpCommit, lost, waiting, Module.commitRecords]
  obtain ⟨sys, outside⟩ := tearRecord_leads { m with logq := [] } a bs
  have before : ({ m with logq := [] } : Module).mbytes a bs.length = m.mbytes a bs.length := mbytes_congr fun _ _ _ => rfl
  rw [before] at sys
  rw [holdUpDone_eq h, closeIncident_of_none closed, torn]
  generalize ({ m with logq := [] } : Module).tearRecord (a, bs) = n at sys outside
  refine ⟨congrArg (·.torn) sys, rfl, ?_, outside⟩
  simp [Module.shedDone, sys, lost]

/-! ### Supply and seating (R40, R46 to R48) -/

/-- What the Keeper holds once it has noted a loss of VMAIN (R46). -/
theorem noteLoss_eq (m : Module) : m.noteLoss = { m with keep :=
    if m.sys.vmainValid && !m.keep.stopped then { m.keep with lostAt := some m.rtc } else m.keep } := by
  unfold Module.noteLoss
  split <;> rfl

/-- A loss of VMAIN as noted, before anything follows from it. -/
def Module.lossNoted (m : Module) : Module :=
  { m with
    sys := { m.sys with vmainValid := false }
    keep := if m.sys.vmainValid && !m.keep.stopped then { m.keep with lostAt := some m.rtc } else m.keep }

theorem vmainLost_eq (m : Module) : m.vmainLost = if !m.lossNoted.powered then m.lossNoted
    else if m.lossNoted.sys.shed then { m.lossNoted with sys := { m.lossNoted.sys with power := .watch } }
    else m.lossNoted.holdUpStart := by
  simp only [Module.vmainLost, noteLoss_eq, Module.lossNoted]

theorem vmainLost_of_not_starting (h : m.sys.power ≠ .on ∨ (m.sys.shed = false ∧ m.sys.holdUp = true)) :
    m.vmainLost = m.lossNoted := by
  rw [vmainLost_eq]
  obtain off | ⟨load, running⟩ := h
  · rw [if_pos (by simpa [Module.powered, Module.lossNoted] using off)]
  · have once : m.lossNoted.holdUpStart = m.lossNoted := if_pos running
    rw [if_neg (show ¬ m.lossNoted.sys.shed = true by simp [Module.lossNoted, load]), once, ite_self]

theorem vmainLost_of_shed (power : m.sys.power = .on) (shed : m.sys.shed = true) :
    m.vmainLost = { m.lossNoted with sys := { m.lossNoted.sys with power := .watch } } := by
  rw [vmainLost_eq, if_neg (by simp [Module.powered, Module.lossNoted, power]),
    if_pos (show m.lossNoted.sys.shed = true from shed)]

theorem vmainLost_of_loaded (power : m.sys.power = .on) (shed : m.sys.shed = false) :
    m.vmainLost = m.lossNoted.holdUpStart := by
  rw [vmainLost_eq, if_neg (by simp [Module.powered, Module.lossNoted, power]),
    if_neg (show ¬ m.lossNoted.sys.shed = true by simp [Module.lossNoted, shed])]

/-- No WAKE burst runs (R475): a valid VMAIN ends nothing. -/
theorem keepVmainValid_of_no_wake (h : ∀ b, m.keep.burst = some b → b.req.cls ≠ 2) : m.keepVmainValid = m := by
  unfold Module.keepVmainValid
  split
  · next b burst => exact if_neg (h b burst)
  · rfl

/-- A burst that ends leaves the Keeper without one (R473). -/
theorem endBurst_leaves_none (m : Module) (b : Burst) (cause : Nat) :
    (m.endBurst b cause).sys = m.sys ∧ (m.endBurst b cause).keep.burst = none ∧ (m.endBurst b cause).mem = m.mem := by
  simp only [Module.endBurst, Module.keepShow, setFlag_keep, setFlag_sys, setFlag_mem, wf_keep, wf_sys, wf_mem, and_self]

/-- A WAKE burst ends when VMAIN becomes valid (R475). -/
theorem keepVmainValid_of_wake {b : Burst} (burst : m.keep.burst = some b) (wake : b.req.cls = 2) :
    m.keepVmainValid.sys = m.sys ∧ m.keepVmainValid.keep.burst = none ∧ m.keepVmainValid.mem = m.mem := by
  simp only [Module.keepVmainValid, burst, if_pos wake]
  exact endBurst_leaves_none m b 0

theorem exec_removalDeclared_of_not_due {s : State}
    (h : s.mod.sys.power ≠ .on ∨ s.mod.sys.seated = true ∨ s.mod.sys.removed = true) : exec .removalDeclared s = .next s := by
  have notDue : (!s.mod.powered) = true ∨ s.mod.sys.seated = true ∨ s.mod.sys.removed = true := by
    simpa [Module.powered] using h
  show execRemovalDeclared s = _
  rw [execRemovalDeclared, State.run, if_pos notDue]

theorem exec_removalDeclared_of_due {s : State} (power : s.mod.sys.power = .on) (opened : s.mod.sys.seated = false)
    (present : s.mod.sys.removed = false) : exec .removalDeclared s = .next
      ⟨({ s.mod with sys := { s.mod.sys with removed := true } } : Module).holdUpStart.raiseFree FS.SYS_REMOVAL .none,
        s.pending⟩ := by
  show execRemovalDeclared s = _
  rw [execRemovalDeclared, State.run, if_neg (by simp [Module.powered, power, opened, present])]

theorem exec_vmainValid_of_invalid {s : State} (h : s.mod.sys.vmainValid = false) : exec .vmainValid s = .next
    ⟨({ s.mod with sys := { s.mod.sys with vmainValid := true } } : Module).keepVmainValid, s.pending⟩ := by
  show execVmainValid s = _
  rw [execVmainValid, State.run, if_neg (by simp [h])]

/-- Settles O26: the start of the sequence by `holdUpStart_heldUp`, its end by `holdUpDone_whole` and `holdUpDone_cut`. -/
theorem supplySeatingAndHoldUp : Obligations.SupplySeatingAndHoldUp := by
  intro s
  have lost : exec .vmainInvalid s = .next ⟨s.mod.vmainLost, s.pending⟩ := rfl
  have done (cut : Option (BitVec 8)) : exec (.holdupCommitDone cut) s
      = .next ⟨s.mod.holdUpDone (cut.map BitVec.toNat), s.pending⟩ := rfl
  refine ⟨?valid, ?wake, fun h => ?noted, fun power shed => ?watch, fun power shed free => ?start, rfl, rfl,
    exec_removalDeclared_of_not_due, fun power opened present free => ?removal, fun cut free => ?ended,
    fun a bs running invalid closed waiting => ?cut, fun cut running whole => ?whole⟩
  case valid =>
    intro h
    by_cases valid : s.mod.sys.vmainValid = true
    · show execVmainValid s = _
      rw [execVmainValid, State.run, if_pos valid, ← valid]
    · have noWake := keepVmainValid_of_no_wake (m := { s.mod with sys := { s.mod.sys with vmainValid := true } })
        (h.resolve_left valid)
      rw [exec_vmainValid_of_invalid (by simpa using valid), noWake]
  case wake =>
    intro invalid b burst wake
    exact ⟨_, exec_vmainValid_of_invalid invalid, keepVmainValid_of_wake burst wake⟩
  case noted =>
    rw [lost, vmainLost_of_not_starting h]
    rfl
  case watch =>
    rw [lost, vmainLost_of_shed power shed]
    rfl
  case start =>
    rw [vmainLost_of_loaded power shed] at lost
    have held : HeldUp s.mod.lossNoted s.mod.lossNoted.holdUpStart := holdUpStart_heldUp free
    exact ⟨_, lost, congrArg (·.vmainValid) held.sys, held.keep, congrArg (·.holdUp) held.sys, held.noFrame, held.stop,
      held.line, held.stopped⟩
  case removal =>
    have held := holdUpStart_heldUp (m := { s.mod with sys := { s.mod.sys with removed := true } }) free
    have answers := exec_removalDeclared_of_due power opened present
    generalize ({ s.mod with sys := { s.mod.sys with removed := true } } : Module).holdUpStart = n at held answers
    obtain ⟨sys, -, now, noFrame, stop, line, stopped⟩ := held
    obtain ⟨w, reported⟩ := raiseFree_raised n FS.SYS_REMOVAL .none
    refine ⟨_, answers, congrArg (·.removed) sys, ⟨congrArg (·.holdUp) sys, noFrame, stop, line, stopped⟩, ?_⟩
    rw [reported, List.getLast?_concat, now]
    rfl
  case ended =>
    rw [done, Module.holdUpDone, if_pos (by simp [free])]
  case cut => exact ⟨_, done (some 0), holdUpDone_cut running invalid closed waiting⟩
  case whole =>
    exact ⟨_, done cut, holdUpDone_whole running (whole.imp_right (congrArg (Option.map BitVec.toNat)))⟩

end Sys2Proof.Machine

namespace Sys2Proof.Machine
variable {m n : Module}

/-! ### O17: the end of an admission (R81, R94, R97) -/

/-- `n` differs from `m` at most in memory, registers and what the engines hold. -/
def TablesOnly (m n : Module) : Prop := n = { m with mem := n.mem, regs := n.regs, eng := n.eng }

theorem TablesOnly.trans {l : Module} (h : TablesOnly l m) (h' : TablesOnly m n) : TablesOnly l n := by
  unfold TablesOnly at *
  rw [h', h]

theorem TablesOnly.now (h : TablesOnly m n) : n.now = m.now := by rw [h]

theorem TablesOnly.foldl {α : Type} {f : Module → α → Module} (hf : ∀ m a, TablesOnly m (f m a)) (l : List α) (m : Module) :
    TablesOnly m (l.foldl f m) :=
  List.foldlRecOn (motive := TablesOnly m) l f rfl fun _ h a _ => h.trans (hf _ a)

theorem setBytes_tablesOnly (m : Module) (a : Nat) (bs : List Byte) : TablesOnly m (m.setBytes a bs) := by
  unfold TablesOnly
  rw [setBytes_eq]

/-- `n` has the registers of `m`, and the same copy in admission. -/
def Arms (m n : Module) : Prop := TablesOnly m n ∧ n.regs = m.regs ∧ n.eng.armCopy = m.eng.armCopy

theorem Arms.refl (m : Module) : Arms m m := ⟨rfl, rfl, rfl⟩

theorem Arms.trans {l : Module} (h : Arms l m) (h' : Arms m n) : Arms l n :=
  ⟨h.1.trans h'.1, h'.2.1.trans h.2.1, h'.2.2.trans h.2.2⟩

theorem Arms.ite {c : Prop} [Decidable c] (h : Arms m n) : Arms m (if c then n else m) := by
  split
  · exact h
  · exact .refl m

theorem Arms.foldl {α : Type} {f : Module → α → Module} (hf : ∀ m a, Arms m (f m a)) (l : List α) (m : Module) :
    Arms m (l.foldl f m) :=
  List.foldlRecOn (motive := Arms m) l f (.refl m) fun _ h a _ => h.trans (hf _ a)

theorem setBytes_arms (m : Module) (a : Nat) (bs : List Byte) : Arms m (m.setBytes a bs) :=
  ⟨setBytes_tablesOnly m a bs, setBytes_regs m a bs, by rw [setBytes_eq]⟩

theorem setMn_arms (m : Module) (a n v : Nat) : Arms m (m.setMn a n v) := setBytes_arms m a _

theorem loadRegions_arms (m : Module) (c : Nat) (rs : List (Nat × Nat)) : Arms m (m.loadRegions c rs) :=
  .foldl (fun m _ => ((setMn_arms m _ _ _).trans (setMn_arms _ _ _ _)).trans (setMn_arms _ _ _ _)) _ m

/-- A task is loaded into memory and the engines' lists; no register changes (R99, R100). -/
theorem loadTask_arms (m : Module) (e : Nat) (t : TaskInfo) : Arms m (m.loadTask e t) :=
  ((setBytes_arms m _ _).trans (.ite (setBytes_arms _ _ _))).trans ⟨rfl, rfl, rfl⟩

theorem admissionDone_of_idle (h : m.eng.armCopy = none ∨ m.flag R.TTB_STAT F.TTB_STAT_BUSY = false)
    (regions : List (Nat × Nat)) : m.admissionDone regions = m := by
  unfold Module.admissionDone
  split
  · rfl
  · next copy => rw [if_pos (by simpa using h.resolve_left (by simp [copy]))]

/-- A failing copy is armed no longer, and shows why (R81). -/
theorem admissionDone_of_failed {c : Nat} (copy : m.eng.armCopy = some c) (busy : m.flag R.TTB_STAT F.TTB_STAT_BUSY = true)
    {regions : List (Nat × Nat)} (failed : (m.admission c (regions.take 64)).1 ≠ 0) : m.admissionDone regions =
      m.dropArm.ttResult (m.admission c (regions.take 64)).1 (m.admission c (regions.take 64)).2 := by
  simp only [Module.admissionDone, copy, busy]
  rw [if_neg (by simp), if_pos failed]

/-- The tasks of a copy loaded, and its region table (R99, R100, R113). -/
def Module.loadCopy (m : Module) (c : Nat) (rs : List (Nat × Nat)) : Module :=
  let es := m.entries c
  ((List.range 8).foldl (fun m e => (m.placeTasks es e).foldl (fun m t => m.loadTask e t) m) m).loadRegions c rs

theorem loadCopy_arms (m : Module) (c : Nat) (rs : List (Nat × Nat)) : Arms m (m.loadCopy c rs) :=
  .trans (.foldl (fun m e => .foldl (fun m t => loadTask_arms m e t) _ m) _ m) (loadRegions_arms _ c rs)

/-- No admission runs any more, and a copy stands armed or not (R97). -/
def Module.endArm (m : Module) (armed : Bool) : Module :=
  ((m.setFlag R.TTB_STAT F.TTB_STAT_BUSY false).setFlag R.TTB_STAT F.TTB_STAT_ARMED armed).setFlag R.TTB_CTRL F.TTB_CTRL_ARM false

/-- The copy in admission shows that it passed, with the tick and checksum it was armed with (R81, R94). -/
def Module.armed (m : Module) (c : Nat) : Module :=
  let m := (m.ttResult 0 noEntry).endArm true
  { m with eng := { m.eng with armTick := m.now, armedCrc := m.copyCrc c, armedBank := m.activeBank } }

/-- A passing copy is loaded, then shown armed (R81, R94). -/
theorem admissionDone_of_passed {c : Nat} (copy : m.eng.armCopy = some c) (busy : m.flag R.TTB_STAT F.TTB_STAT_BUSY = true)
    {regions : List (Nat × Nat)} (passed : (m.admission c (regions.take 64)).1 = 0) :
    m.admissionDone regions = (m.loadCopy c (regions.take 64)).armed c := by
  simp only [Module.admissionDone, copy, busy]
  rw [if_neg (by simp), if_neg (by simp [passed])]
  rfl

/-- What TTB_STAT and TTB_CTRL show once no admission runs: RESULT, and whether a copy stands armed (R97). -/
structure AdmissionShown (m : Module) (result : Nat) (armed : Bool) : Prop where
  busy : m.flag R.TTB_STAT F.TTB_STAT_BUSY = false
  armed : m.flag R.TTB_STAT F.TTB_STAT_ARMED = armed
  arm : m.flag R.TTB_CTRL F.TTB_CTRL_ARM = false
  result : m.rf R.TTB_STAT F.TTB_STAT_RESULT = result % 256

theorem flag_wf_apart (m : Module) (a : Nat) (f g : Field) (n : Nat) (hg : g.hi < 64) (h : f.hi < g.lo ∨ g.hi < f.lo) :
    (m.wf a f n).flag a g = m.flag a g := by
  rw [Module.flag, rf_wf_apart m a f g n hg h, ← Module.flag]

theorem flag_wf_ne (m : Module) {a b : Nat} (f g : Field) (n : Nat) (h : a ≠ b) : (m.wf a f n).flag b g = m.flag b g := by
  rw [Module.flag, rf_wf_ne m f g n h, ← Module.flag]

theorem flag_setFlag_apart (m : Module) (a : Nat) (f g : Field) (x : Bool) (hg : g.hi < 64) (h : f.hi < g.lo ∨ g.hi < f.lo) :
    (m.setFlag a f x).flag a g = m.flag a g := flag_wf_apart m a f g _ hg h

theorem flag_setFlag_ne (m : Module) {a b : Nat} (f g : Field) (x : Bool) (h : a ≠ b) :
    (m.setFlag a f x).flag b g = m.flag b g := flag_wf_ne m f g _ h

theorem rf_setFlag_apart (m : Module) (a : Nat) (f g : Field) (x : Bool) (hg : g.hi < 64) (h : f.hi < g.lo ∨ g.hi < f.lo) :
    (m.setFlag a f x).rf a g = m.rf a g := rf_wf_apart m a f g _ hg h

theorem rf_setFlag_ne (m : Module) {a b : Nat} (f g : Field) (x : Bool) (h : a ≠ b) :
    (m.setFlag a f x).rf b g = m.rf b g := rf_wf_ne m f g _ h

theorem rd_congr (h : n.regs = m.regs) (a : Nat) : n.rd a = m.rd a := by rw [Module.rd, h, ← Module.rd]

theorem AdmissionShown.congr {result : Nat} {armed : Bool} (h : AdmissionShown m result armed) (regs : n.regs = m.regs) :
    AdmissionShown n result armed := by
  obtain ⟨busy, armed, arm, result⟩ := h
  constructor <;> simpa only [Module.flag, Module.rf, rd_congr regs]

/-- The end of an admission leaves RESULT as it stands (R97). -/
theorem endArm_shown (m : Module) (armed : Bool) : AdmissionShown (m.endArm armed) (m.rf R.TTB_STAT F.TTB_STAT_RESULT) armed where
  busy := by
    rw [Module.endArm, flag_setFlag_ne _ _ _ _ (by decide), flag_setFlag_apart _ _ _ _ _ (by decide) (by decide)]
    exact flag_setFlag_same _ _ _ _ (by decide) rfl
  armed := by
    rw [Module.endArm, flag_setFlag_ne _ _ _ _ (by decide)]
    exact flag_setFlag_same _ _ _ _ (by decide) rfl
  arm := flag_setFlag_same _ _ _ _ (by decide) rfl
  result := by
    rw [Module.endArm, rf_setFlag_ne _ _ _ _ (by decide), rf_setFlag_apart _ _ _ _ _ (by decide) (by decide),
      rf_setFlag_apart _ _ _ _ _ (by decide) (by decide)]
    exact (Nat.mod_eq_of_lt (Nat.mod_lt _ (by decide))).symm

theorem ttResult_result (m : Module) (r e : Nat) : (m.ttResult r e).rf R.TTB_STAT F.TTB_STAT_RESULT = r % 256 := by
  rw [Module.ttResult, rf_wf_apart _ _ _ _ _ (by decide) (by decide)]
  exact rf_wf_same _ _ _ _ (by decide)

theorem flag_ttResult (m : Module) (r e : Nat) {g : Field} (h : g.hi < 8) :
    (m.ttResult r e).flag R.TTB_STAT g = m.flag R.TTB_STAT g := by
  have entry : g.hi < F.TTB_STAT_ENTRY.lo := Nat.lt_trans h (by decide)
  rw [Module.ttResult, flag_wf_apart _ _ _ _ _ (by omega) (.inr entry), flag_wf_apart _ _ _ _ _ (by omega) (.inr h)]

theorem AdmissionShown.ttResult {result : Nat} {armed : Bool} (h : AdmissionShown m result armed) (r e : Nat) :
    AdmissionShown (m.ttResult r e) r armed where
  busy := (flag_ttResult m r e (by decide)).trans h.busy
  armed := (flag_ttResult m r e (by decide)).trans h.armed
  arm := by
    rw [Module.ttResult, flag_wf_ne _ _ _ _ (by decide), flag_wf_ne _ _ _ _ (by decide)]
    exact h.arm
  result := ttResult_result m r e

theorem dropArm_shown (m : Module) (r e : Nat) : AdmissionShown (m.dropArm.ttResult r e) r false := by
  have dropped : m.dropArm.regs = (m.endArm false).regs := rfl
  exact ((endArm_shown m false).congr dropped).ttResult r e

theorem ttResult_eq (m : Module) (r e : Nat) : ∃ regs, m.ttResult r e = { m with regs := regs } := ⟨_, rfl⟩

theorem endArm_eq (m : Module) (armed : Bool) : ∃ regs, m.endArm armed = { m with regs := regs } := ⟨_, rfl⟩

theorem dropArm_eq (m : Module) : ∃ regs, m.dropArm = { m with regs := regs, eng := { m.eng with armCopy := none, armedTasks := [] } } :=
  ⟨_, rfl⟩

theorem armed_shown (m : Module) (c : Nat) : AdmissionShown (m.armed c) 0 true := by
  have shown := endArm_shown (m.ttResult 0 noEntry) true
  rw [ttResult_result] at shown
  have regs : (m.armed c).regs = ((m.ttResult 0 noEntry).endArm true).regs := rfl
  exact shown.congr regs

theorem armed_tablesOnly (m : Module) (c : Nat) : TablesOnly m (m.armed c) ∧ (m.armed c).eng.armTick = m.now
    ∧ (m.armed c).eng.armCopy = m.eng.armCopy := by
  obtain ⟨r, shown⟩ := ttResult_eq m 0 noEntry
  obtain ⟨regs, ended⟩ := endArm_eq { m with regs := r } true
  unfold Module.armed
  rw [shown, ended]
  exact ⟨rfl, rfl, rfl⟩

/-- A copy that fails: its RESULT, nothing armed, memory as it was (R81). -/
theorem admission_failed_leads (m : Module) (r e : Nat) : AdmissionShown (m.dropArm.ttResult r e) r false
    ∧ (m.dropArm.ttResult r e).eng.armCopy = none ∧ (m.dropArm.ttResult r e).mem = m.mem
    ∧ TablesOnly m (m.dropArm.ttResult r e) := by
  refine ⟨dropArm_shown m r e, ?_⟩
  obtain ⟨_, drop⟩ := dropArm_eq m
  obtain ⟨_, shown⟩ := ttResult_eq m.dropArm r e
  rw [shown, drop]
  exact ⟨rfl, rfl, rfl⟩

/-- A copy that passes: RESULT 0, armed at this tick (R81, R94). -/
theorem admission_passed_leads (m : Module) {c : Nat} (copy : m.eng.armCopy = some c) (rs : List (Nat × Nat)) :
    AdmissionShown ((m.loadCopy c rs).armed c) 0 true ∧ ((m.loadCopy c rs).armed c).eng.armTick = m.now
    ∧ ((m.loadCopy c rs).armed c).eng.armCopy = some c ∧ TablesOnly m ((m.loadCopy c rs).armed c) := by
  obtain ⟨only, -, keeps⟩ := loadCopy_arms m c rs
  obtain ⟨shown, tick, still⟩ := armed_tablesOnly (m.loadCopy c rs) c
  exact ⟨armed_shown _ c, tick.trans only.now, still.trans (keeps.trans copy), only.trans shown⟩

/-- Settles O17: a failing copy by `admission_failed_leads`, a passing one by `admission_passed_leads`. -/
theorem admissionShowsItsResult : Obligations.AdmissionShowsItsResult := by
  intro s regions
  generalize hrs : regions.map (fun r => (r.1.toNat, r.2.toNat)) = rs
  have ends : exec (.admissionDone regions) s = s.runOn (·.admissionDone rs) := hrs ▸ rfl
  rw [ends]
  refine ⟨fun idle => runOn_of_fixed fun power => admissionDone_of_idle (idle.resolve_left (by simp [power])) rs,
    fun c power copy busy => ⟨_, ends.trans (runOn_of_powered power _), ?_⟩⟩
  by_cases passed : (s.mod.admission c (rs.take 64)).1 = 0
  · rw [admissionDone_of_passed copy busy passed]
    obtain ⟨⟨idle, armed, arm, result⟩, tick, still, only⟩ := admission_passed_leads s.mod copy (rs.take 64)
    exact ⟨idle, by simpa [passed] using armed, arm, by simpa [passed] using result, fun _ => ⟨tick, still⟩,
      fun failed => absurd passed failed, only⟩
  · rw [admissionDone_of_failed copy busy passed]
    obtain ⟨⟨idle, armed, arm, result⟩, free, mem, only⟩ := admission_failed_leads s.mod _ _
    exact ⟨idle, armed.trans (by simpa using passed), arm, result, fun h => absurd h passed, fun _ => ⟨free, mem⟩, only⟩

end Sys2Proof.Machine

namespace Sys2Proof.Machine
variable {m n : Module}

/-! ### O14: the start of a block (R73, R100, R110, R121) -/

/-- The block of entry `x` opens on engine `e`, which shows it runs (R73). -/
def Module.opened (m : Module) (e : Nat) (x : Entry) : Module := (m.setBlk e (some (m.openBlk e x))).engState e 1

theorem blockStart_of_entry {c i : Nat} {x : Entry} (active : m.activeCopy = some c) (entry : m.entry c i = some x) (e : Nat)
    (lib : Option LibRun) : m.blockStart e i lib = if m.blockRuns c e x then
      (match lib with
        | some r => ((m.reinitDm e x.task).opened e x).runLib e r
        | none => (m.reinitDm e x.task).opened e x) else m := by
  simp only [Module.blockStart, active, entry]
  cases m.blockRuns c e x <;> rfl

theorem opened_eq (m : Module) (e : Nat) (x : Entry) : ∃ regs, m.opened e x =
    { m with regs := regs, eng := { m.eng with blks := SMap.setD none m.eng.blks e (some (m.openBlk e x)) } } := ⟨_, rfl⟩

theorem opened_blk_same (m : Module) (e : Nat) (x : Entry) : (m.opened e x).blk e = some (m.openBlk e x) :=
  setBlk_blk_same m e _

theorem opened_blk_ne (m : Module) {e l : Nat} (x : Entry) (h : l ≠ e) : (m.opened e x).blk l = m.blk l :=
  setBlk_blk_ne m _ h.symm

theorem opened_rd (m : Module) {e a : Nat} (x : Entry) (h : a ≠ R.ENG_STAT (m.phys e)) : (m.opened e x).rd a = m.rd a :=
  rd_wf_ne _ _ _ h.symm

theorem opened_state (m : Module) (e : Nat) (x : Entry) :
    (m.opened e x).rf (R.ENG_STAT (m.phys e)) F.ENG_STAT_STATE = 1 := rf_wf_same _ _ _ _ (by decide)

theorem opened_mb (m : Module) (e : Nat) (x : Entry) (k : Nat) : (m.opened e x).mb k = m.mb k := rfl

theorem reinitDm_of_not_due {e t : Nat} (h : (e, t) ∉ m.eng.reinit) : m.reinitDm e t = m := by
  simp [Module.reinitDm, h]

theorem rg_setG (r : RegFile) (k n : Nat) (v : Word) (h : k ≠ 0) : (r.setG k v).rg n = if n = k then v else r.rg n := by
  rw [RegFile.setG, if_neg h]
  unfold RegFile.rg
  by_cases same : n = k
  · subst same
    rw [if_neg h, if_pos rfl, SMap.getD_setD_same]
  · rw [if_neg same, SMap.getD_setD_ne _ _ _ (Ne.symm same)]

/-- The g registers at a block's start (R121). -/
theorem startRegs_rg (w i b n : Nat) : (startRegs w i b).rg n = if n = 1 then BitVec.ofNat 32 w
    else if n = 2 then BitVec.ofNat 32 i else if n = 3 then BitVec.ofNat 32 b else 0 := by
  unfold startRegs
  rw [rg_setG _ _ _ _ (by decide), rg_setG _ _ _ _ (by decide), rg_setG _ _ _ _ (by decide)]
  have zero : RegFile.zero.rg n = 0 := by simp [RegFile.rg, RegFile.zero, SMap.getD, SMap.get]
  rw [zero]
  by_cases third : n = 3
  · simp [third]
  by_cases second : n = 2
  · simp [second]
  · simp [third, second]

/-- The other registers at a block's start read 0, c7 apart (R121). -/
theorem startRegs_rest (w i b n : Nat) :
    (startRegs w i b).rF n = 0 ∧ (startRegs w i b).rc n = (n == 7) := by
  refine ⟨rfl, ?_⟩
  show (n == 7 || false) = _
  rw [Bool.or_false]

/-- A DM area's fresh load is no longer due, and what a library task kept there is dropped (R110). -/
def Module.dueTaken (m : Module) (e t : Nat) : Module :=
  Module.dropLib { m with eng := { m.eng with reinit := m.eng.reinit.filter (· ≠ (e, t)) } } e t

theorem reinitDm_of_due {e t : Nat} (due : (e, t) ∈ m.eng.reinit) {info : TaskInfo} (loaded : m.taskInfo e t = some info) :
    m.reinitDm e t = (m.dueTaken e t).setBytes (m.dmAddr e info.dmBase) ((m.dueTaken e t).mbytes info.dataOff info.dmSize) := by
  have still : (m.dueTaken e t).taskInfo e t = some info := loaded
  rw [Module.reinitDm, if_neg (by simp [due])]
  show (match (m.dueTaken e t).taskInfo e t with
    | some i => (m.dueTaken e t).setBytes ((m.dueTaken e t).dmAddr e i.dmBase) ((m.dueTaken e t).mbytes i.dataOff i.dmSize)
    | none => m.dueTaken e t) = _
  rw [still]
  rfl

/-- A DM area that is due: no longer due, loaded from its image, every other byte as it was (R100, R110). -/
theorem reinitDm_loads {e t : Nat} (due : (e, t) ∈ m.eng.reinit) {info : TaskInfo} (loaded : m.taskInfo e t = some info) :
    (e, t) ∉ (m.reinitDm e t).eng.reinit
    ∧ (∀ k < info.dmSize, (m.reinitDm e t).mb (m.dmAddr e info.dmBase + k) = m.mb (info.dataOff + k))
    ∧ ∀ k, k < m.dmAddr e info.dmBase ∨ m.dmAddr e info.dmBase + info.dmSize ≤ k → (m.reinitDm e t).mb k = m.mb k := by
  rw [reinitDm_of_due due loaded]
  refine ⟨?_, fun k inside => ?_, fun k outside => ?_⟩
  · rw [setBytes_eq]
    simp [Module.dueTaken, Module.dropLib]
  · rw [mb_setBytes, mbytes_length, if_pos (by omega), Nat.add_sub_cancel_left, mbytes_getD _ _ _ _ inside]
    rfl
  · rw [mb_setBytes, mbytes_length, if_neg (by omega)]
    rfl

/-- Settles O14: the block of `opened`, on the memories of `reinitDm` where its DM area is due. -/
theorem blockStartsFromItsEntry : Obligations.BlockStartsFromItsEntry := by
  intro s le i c e active entry
  have starts (lib : Option LibRun) := blockStart_of_entry active entry le.val lib
  have exec_start (lib : Option LibRun) : exec (.blockStart le i lib) s = .next ⟨s.mod.blockStart le i lib, s.pending⟩ := rfl
  refine ⟨fun no lib => ?idle, fun runs fresh => ?opens, fun runs t due loaded => ?loads, fun runs r m ends => ?lib⟩
  case idle => rw [exec_start, starts, no, if_neg Bool.false_ne_true]
  case opens =>
    refine ⟨_, exec_start none, ?_⟩
    rw [starts, if_pos runs, reinitDm_of_not_due fresh]
    refine ⟨?_, fun a other => opened_rd s.mod e other, opened_state s.mod le e, fun l other => opened_blk_ne s.mod e other,
      _, opened_blk_same s.mod le e, rfl, rfl, rfl, rfl, rfl, rfl, rfl, rfl, rfl, rfl, rfl, rfl, rfl, rfl, rfl,
      startRegs_rg _ _ _, startRegs_rest _ _ _⟩
    obtain ⟨regs, opens⟩ := opened_eq s.mod le e
    rw [opens]
  case loads =>
    refine ⟨_, exec_start none, ?_⟩
    rw [starts, if_pos runs]
    obtain ⟨done, inside, outside⟩ := reinitDm_loads due loaded
    exact ⟨done, inside, outside⟩
  case lib =>
    rw [exec_start, starts, if_pos runs] at ends ⊢
    injection ends with ends
    injection ends with ends
    subst ends
    rfl

end Sys2Proof.Machine

namespace Sys2Proof.Machine
variable {m n : Module}

/-! ### O9: what keeps an instruction from issuing (R73, R108, R110, R116) -/

/-- `n` is what an instruction of engine `x.le` that issues leads to, whatever its effect. -/
def Module.IssuesAs (m : Module) (x : Issue) (n : Module) : Prop := ∃ sem, n = m.issueRaw x sem

theorem issueRaw_issuesAs (m : Module) (x : Issue) (sem) : m.IssuesAs x (m.issueRaw x sem) := ⟨_, rfl⟩

theorem issue_issuesAs (m : Module) (x : Issue) (len : Nat) (sem) : m.IssuesAs x (m.issue x len sem) := ⟨_, rfl⟩

/-- Every Ranzor instruction is issued: those of control flow, the waits and `cmt` set the place in the code themselves, the
others go on behind themselves. -/
theorem exec_issuesAs {c : Instr} {x : Issue} (h : issueOf c = some x) (s : State) :
    ∃ n, exec c s = .next ⟨n, s.pending⟩ ∧ s.mod.IssuesAs x n := by
  cases c
  case bt | bf | rep | brk | call | ret | sw | cmt | waitDelay | waitAdc | waitArmCapture | waitCapture | waitReload
    | waitComparator | waitRingCycle => cases h; exact ⟨_, rfl, issueRaw_issuesAs _ _ _⟩
  all_goals cases h
  all_goals exact ⟨_, rfl, issue_issuesAs _ _ _ _⟩

section
variable {x : Issue} {b : Blk} (sem : Module → Blk → Except Stop (Module × Blk))

theorem issueRaw_of_no_block (h : m.blk x.le = none) : m.issueRaw x sem = m := by simp only [Module.issueRaw, h]

theorem issueRaw_of_waiting (isOpen : m.blk x.le = some b) (h : b.state ≠ .running ∨ b.wait ≠ none) : m.issueRaw x sem = m := by
  simp only [Module.issueRaw, isOpen]
  rw [if_pos (h.imp_right Option.isSome_iff_ne_none.2)]

theorem issueRaw_of_detection (isOpen : m.blk x.le = some b) (running : b.state = .running) (free : b.wait = none)
    {d : Detection} (h : m.fetchDet x b = some d) : m.issueRaw x sem = m.detect x.le b d := by
  simp only [Module.issueRaw, isOpen, running, free, h]
  rfl

theorem issueRaw_of_beyond_code (isOpen : m.blk x.le = some b) (running : b.state = .running) (free : b.wait = none)
    (undetected : m.fetchDet x b = none) (h : m.codeWords x.le b ≤ b.pc) :
    m.issueRaw x sem = m.violate x.le b 0x45 3 (m.imOff x.le b b.pc) false := by
  simp only [Module.issueRaw, isOpen, running, free, undetected, if_pos h]
  rfl

theorem fetchDet_of_bad_line (h : (x.le.val, m.imOff x.le b b.pc / 64) ∈ m.eng.badLines) :
    m.fetchDet x b = some ⟨0, BitVec.ofNat 24 (m.imOff x.le b b.pc / 64 * 64), false⟩ := by
  rw [Module.fetchDet, if_pos (List.contains_iff_mem.2 h)]

theorem fetchDet_of_good_line (h : (x.le.val, m.imOff x.le b b.pc / 64) ∉ m.eng.badLines) : m.fetchDet x b = x.det := by
  rw [Module.fetchDet, if_neg (mt List.contains_iff_mem.1 h)]

/-- What an instruction that does not complete leads to (R106 to R108, R116, R141). -/
def Module.stopFor (m : Module) (x : Issue) (b : Blk) : Stop → Module
  | .violation r space off w => m.violate x.le b r space off w
  | .shape => m.detect x.le b ⟨0, BitVec.ofNat 24 (m.imOff x.le b b.pc), false⟩
  | .bad d => m.detect x.le b d
  | .wait => m

variable {sem}

theorem issueRaw_of_stop (issues : Issues m x b) {e : Stop} (h : sem m b = .error e) : m.issueRaw x sem = m.stopFor x b e := by
  obtain ⟨isOpen, running, free, undetected, inCode⟩ := issues
  simp only [Module.issueRaw, isOpen, running, free, undetected, if_neg (Nat.not_le.2 inCode), h]
  cases e <;> rfl

theorem issue_of_stop (issues : Issues m x b) {e : Stop} (len : Nat) (h : sem m b = .error e) :
    m.issue x len sem = m.stopFor x b e := issueRaw_of_stop issues (by rw [h]; rfl)

theorem loadInto_of_stop (issues : Issues m x b) {e : Stop} (len : Nat) (set : RegFile → Word → RegFile)
    {ld : Module → Blk → Except Stop Word} (h : ld m b = .error e) : m.loadInto x len set ld = m.stopFor x b e :=
  issue_of_stop issues len (by rw [h]; rfl)

end

/-! ### The checks of R132 -/

theorem dmCheck_of_unaligned {t : TaskInfo} {a : Nat} (h : a % 4 ≠ 0) (write : Bool) :
    dmCheck t a write = .error (.violation 0x44 3 (2 ^ 27 + a % 2 ^ 27) write) := if_pos h

theorem dmCheck_of_outside {t : TaskInfo} {a : Nat} (aligned : a % 4 = 0) (h : a < t.dmBase ∨ t.dmBase + t.dmSize ≤ a)
    (write : Bool) : dmCheck t a write = .error (.violation 0x40 3 (2 ^ 27 + a % 2 ^ 27) write) := by
  rw [dmCheck, if_neg (by simp [aligned]), if_pos h]

theorem dmCheck_of_inside {t : TaskInfo} {a : Nat} (aligned : a % 4 = 0) (low : t.dmBase ≤ a) (high : a < t.dmBase + t.dmSize)
    (write : Bool) : dmCheck t a write = .ok () := by
  rw [dmCheck, if_neg (by simp [aligned]), if_neg (by omega)]

theorem yardCheck_of_unaligned {a : Nat} (h : a % 4 ≠ 0) (e : Nat) (write : Bool) :
    m.yardCheck e a write = .error (.violation 0x44 1 a write) := if_pos h

theorem yardCheck_of_unreadable {e a : Nat} (aligned : a % 4 = 0) (h : m.yardReadable e a = false) :
    m.yardCheck e a false = .error (.violation 0x41 1 a false) := by
  simp [Module.yardCheck, aligned, h]

theorem yardCheck_of_unwritable {e a : Nat} (aligned : a % 4 = 0) (h : m.yardWritable e a = false) :
    m.yardCheck e a true = .error (.violation 0x42 1 a true) := by
  simp [Module.yardCheck, aligned, h]

theorem yardCheck_of_readable {e a : Nat} (aligned : a % 4 = 0) (h : m.yardReadable e a = true) :
    m.yardCheck e a false = .ok () := by
  simp [Module.yardCheck, aligned, h]

section
variable {e a : Nat} {b : Blk} {t : TaskInfo} {stop : Stop}

theorem certE_of_loaded (loaded : m.taskInfo e b.task = some t) : m.certE e b = .ok t := by
  simp only [Module.certE, Module.cert, loaded]

theorem dmLoad_of_failed_check (loaded : m.taskInfo e b.task = some t) (h : dmCheck t a false = .error stop) :
    m.dmLoad e b a = .error stop := by
  rw [Module.dmLoad, certE_of_loaded loaded]
  show (dmCheck t a false >>= _) = _
  rw [h]
  rfl

theorem dmLoad_of_failing (loaded : m.taskInfo e b.task = some t) (inside : dmCheck t a false = .ok ())
    (h : m.dmAddr e a ∈ m.eng.failing) : m.dmLoad e b a = .error (.bad ⟨1, BitVec.ofNat 24 a, true⟩) := by
  rw [Module.dmLoad, certE_of_loaded loaded]
  show (dmCheck t a false >>= _) = _
  rw [inside]
  exact if_pos (List.contains_iff_mem.2 h)

theorem dmStore_of_failed_check (loaded : m.taskInfo e b.task = some t) (h : dmCheck t a true = .error stop) (w : Word) :
    m.dmStore e b a w = .error stop := by
  rw [Module.dmStore, certE_of_loaded loaded]
  show (dmCheck t a true >>= _) = _
  rw [h]
  rfl

theorem dmStore_of_full_journal (loaded : m.taskInfo e b.task = some t) (inside : dmCheck t a true = .ok ())
    (h : 2048 ≤ b.journal.length) (w : Word) : m.dmStore e b a w = .error (.violation 0x4B 3 (2 ^ 27 + a) true) := by
  rw [Module.dmStore, certE_of_loaded loaded]
  show (dmCheck t a true >>= _) = _
  rw [inside]
  exact if_pos h

theorem yardLoad_of_failed_check (h : m.yardCheck e a false = .error stop) : m.yardLoad e b a = .error stop := by
  rw [Module.yardLoad, h]
  rfl

theorem yardStore_of_failed_check (h : m.yardCheck e a true = .error stop) (w : Word) : m.yardStore e b a w = .error stop := by
  rw [Module.yardStore, h]
  rfl

/-- A read of a yard word that the block has not staged waits for its drain, and checks its parity (R107, R108). -/
theorem yardLoad_of_failed_read (readable : m.yardCheck e a false = .ok ()) (unstaged : b.staged a = false)
    (h : m.readCheck e a 2 0 = .error stop) : m.yardLoad e b a = .error stop := by
  rw [Module.yardLoad, readable]
  show (if b.staged a then _ else m.readCheck e a 2 0 >>= _) = _
  rw [unstaged, h]
  rfl

theorem readCheck_of_draining (h : m.drains e a = true) (src base : Nat) : m.readCheck e a src base = .error .wait := if_pos h

theorem readCheck_of_failing (undrained : m.drains e a = false) (h : a ∈ m.eng.failing) (src base : Nat) :
    m.readCheck e a src base = .error (.bad ⟨Fin.ofNat 9 src, BitVec.ofNat 24 (a - base), true⟩) := by
  rw [Module.readCheck, if_neg (by simp [undrained]), if_pos (List.contains_iff_mem.2 h)]

theorem tblCheck_of_no_item {tbl : Nat} (loaded : m.taskInfo e b.task = some t) (h : t.tbl[tbl]? = none) (idx word : Nat)
    (write : Bool) : m.tblCheck e b tbl idx word write = .error (.violation 0x43 1 0 write) := by
  rw [Module.tblCheck, certE_of_loaded loaded]
  show (match t.tbl[tbl]? with | none => _ | some i => _) = _
  rw [h]

theorem tblCheck_of_no_word {tbl idx word : Nat} {i : TblItem} (loaded : m.taskInfo e b.task = some t) (item : t.tbl[tbl]? = some i)
    (h : i.count ≤ idx ∨ i.size ≤ word) (write : Bool) :
    m.tblCheck e b tbl idx word write = .error (.violation 0x43 1 i.base write) := by
  rw [Module.tblCheck, certE_of_loaded loaded]
  show (match t.tbl[tbl]? with | none => _ | some i => _) = _
  rw [item]
  exact if_pos h

end

/-! ### Loads and stores that stop -/

theorem run_of_eq {s : State} {f : Module → Module} (h : f s.mod = n) : s.run f = .next ⟨n, s.pending⟩ := by
  rw [State.run, h]

section
variable {s : State} {x : Issue} {b : Blk} {stop : Stop} {d a : Fin 32} {imm : BitVec 16} (issues : Issues s.mod x b)
include issues

theorem exec_ld_of_stop (h : s.mod.dmLoad x.le b (effAddr b.regs a imm) = .error stop) :
    exec (.ld x d a imm) s = .next ⟨s.mod.stopFor x b stop, s.pending⟩ := by
  show s.run (·.loadInto x 1 (·.setG d) (fun m b => m.dmLoad x.le b (effAddr b.regs a imm))) = _
  exact run_of_eq (loadInto_of_stop issues 1 _ h)

theorem exec_st_of_stop (h : s.mod.dmStore x.le b (effAddr b.regs a imm) (b.regs.rg d) = .error stop) :
    exec (.st x d a imm) s = .next ⟨s.mod.stopFor x b stop, s.pending⟩ := by
  show s.run (·.issue x 1 (fun m b => m.dmStore x.le b (effAddr b.regs a imm) (b.regs.rg d))) = _
  exact run_of_eq (issue_of_stop issues 1 h)

theorem exec_ldy_of_stop (h : s.mod.yardLoad x.le b (effAddr b.regs a imm) = .error stop) :
    exec (.ldy x d a imm) s = .next ⟨s.mod.stopFor x b stop, s.pending⟩ := by
  show s.run (·.loadInto x 1 (·.setG d) (fun m b => m.yardLoad x.le b (effAddr b.regs a imm))) = _
  exact run_of_eq (loadInto_of_stop issues 1 _ h)

theorem exec_sty_of_stop (h : s.mod.yardStore x.le b (effAddr b.regs a imm) (b.regs.rg d) = .error stop) :
    exec (.sty x d a imm) s = .next ⟨s.mod.stopFor x b stop, s.pending⟩ := by
  show s.run (·.issue x 1 (fun m b => m.yardStore x.le b (effAddr b.regs a imm) (b.regs.rg d))) = _
  exact run_of_eq (issue_of_stop issues 1 h)

theorem exec_ldt_of_stop {tbl : Fin 64} {word : Fin 1024}
    (h : s.mod.tblCheck x.le b tbl (b.regs.rg a).toNat word false = .error stop) :
    exec (.ldt x d a tbl word) s = .next ⟨s.mod.stopFor x b stop, s.pending⟩ := by
  show s.run (·.tblLoad x a tbl word (·.setG d)) = _
  exact run_of_eq (issue_of_stop issues 1 (by rw [h]; rfl))

theorem exec_stt_of_stop {tbl : Fin 64} {word : Fin 1024}
    (h : s.mod.tblCheck x.le b tbl (b.regs.rg a).toNat word true = .error stop) :
    exec (.stt x d a tbl word) s = .next ⟨s.mod.stopFor x b stop, s.pending⟩ := by
  show s.run (·.issue x 1 (fun m b => do
    let p ← m.tblCheck x.le b tbl (b.regs.rg a).toNat word true
    let b ← m.stageWord x.le b p (b.regs.rg d)
    pure (m, b))) = _
  exact run_of_eq (issue_of_stop issues 1 (by rw [h]; rfl))

end

/-- Settles O9: the first part by `exec_issuesAs`, the second by the check of R132 that fails. -/
theorem stopsOfInstructionsAndAccesses : Obligations.StopsOfInstructionsAndAccesses := by
  refine ⟨fun c x s named => ?_, fun x d a imm s b t issues loaded => ?_⟩
  · obtain ⟨n, answer, sem, rfl⟩ := exec_issuesAs named s
    rw [answer]
    refine ⟨fun none => ?_, fun b isOpen => ⟨fun waits => ?_, fun running free => ⟨⟨fun d detects good => ?_, fun bad => ?_⟩,
      fun undetected beyond => ?_⟩⟩⟩
    · rw [issueRaw_of_no_block sem none]
    · rw [issueRaw_of_waiting sem isOpen waits]
    · rw [issueRaw_of_detection sem isOpen running free ((fetchDet_of_good_line good).trans detects)]
    · rw [issueRaw_of_detection sem isOpen running free (fetchDet_of_bad_line bad)]
    · rw [issueRaw_of_beyond_code sem isOpen running free undetected beyond]
  · refine ⟨fun odd => ⟨?_, ?_, ?_, ?_⟩, fun aligned outside => ⟨?_, ?_⟩, fun aligned unreadable => ?_,
      fun aligned unwritable => ?_, fun aligned low high full => ?_, fun aligned low high fails => ?_,
      fun aligned readable unstaged => ⟨fun drains => ?_, fun undrained fails => ?_⟩, fun tbl word missing => ⟨?_, ?_⟩,
      fun tbl word i item beyond => ⟨?_, ?_⟩⟩
    · exact (exec_ld_of_stop issues (dmLoad_of_failed_check loaded (dmCheck_of_unaligned odd false)) :)
    · exact (exec_st_of_stop issues (dmStore_of_failed_check loaded (dmCheck_of_unaligned odd true) _) :)
    · exact (exec_ldy_of_stop issues (yardLoad_of_failed_check (yardCheck_of_unaligned odd _ false)) :)
    · exact (exec_sty_of_stop issues (yardStore_of_failed_check (yardCheck_of_unaligned odd _ true) _) :)
    · exact (exec_ld_of_stop issues (dmLoad_of_failed_check loaded (dmCheck_of_outside aligned outside false)) :)
    · exact (exec_st_of_stop issues (dmStore_of_failed_check loaded (dmCheck_of_outside aligned outside true) _) :)
    · exact (exec_ldy_of_stop issues (yardLoad_of_failed_check (yardCheck_of_unreadable aligned unreadable)) :)
    · exact (exec_sty_of_stop issues (yardStore_of_failed_check (yardCheck_of_unwritable aligned unwritable) _) :)
    · exact (exec_st_of_stop issues (dmStore_of_full_journal loaded (dmCheck_of_inside aligned low high true) full _) :)
    · exact (exec_ld_of_stop issues (dmLoad_of_failing loaded (dmCheck_of_inside aligned low high false) fails) :)
    · exact (exec_ldy_of_stop issues (yardLoad_of_failed_read (yardCheck_of_readable aligned readable) unstaged
        (readCheck_of_draining drains 2 0)) :)
    · exact (exec_ldy_of_stop issues (yardLoad_of_failed_read (yardCheck_of_readable aligned readable) unstaged
        (readCheck_of_failing undrained fails 2 0)) :)
    · exact (exec_ldt_of_stop issues (tblCheck_of_no_item loaded missing _ _ false) :)
    · exact (exec_stt_of_stop issues (tblCheck_of_no_item loaded missing _ _ true) :)
    · exact (exec_ldt_of_stop issues (tblCheck_of_no_word loaded item beyond false) :)
    · exact (exec_stt_of_stop issues (tblCheck_of_no_word loaded item beyond true) :)

end Sys2Proof.Machine

namespace Sys2Proof.Machine
variable {m n : Module}

/-! ### O18: the frame-start word (R86, R87) -/

/-- The word that engines read is the one R87 lays out. -/
def FrameTold (m : Module) : Prop := m.sys.frameStart = BitVec.ofNat 32 m.frameWord

/-- The frame-start word rests on the registers of the mode and of the timetable. -/
theorem frameWord_congr (h : ∀ a, a ≠ R.HOST_IRQ_STAT → n.rd a = m.rd a) : n.frameWord = m.frameWord := by
  have mode := h R.SYS_MODE (by decide)
  have frames := h R.TTB_FRAMES (by decide)
  have shed := h R.TTB_SHED (by decide)
  have stat := h R.TTB_STAT (by decide)
  simp only [Module.frameWord, Module.frameNo, Module.shedLevel, Module.activeCopy, Module.mode, Module.flag, Module.rf, Module.rn,
    mode, frames, shed, stat]
  rfl

theorem FrameTold.congr (h : FrameTold m) (regs : ∀ a, a ≠ R.HOST_IRQ_STAT → n.rd a = m.rd a)
    (sys : n.sys.frameStart = m.sys.frameStart) : FrameTold n := by
  rw [FrameTold, sys, frameWord_congr regs]
  exact h

theorem irq_frameTold (h : FrameTold m) (i : Nat) : FrameTold (m.irq i) := by
  obtain ⟨host, irq⟩ := irq_eq m i
  rw [irq]
  exact h.congr (fun a other => rd_setBit_ne m i true other.symm) rfl

/-- The frame-start word is set; then the lead takes its snapshot, and the host hears of a mode other than `was` (R51, R514). -/
def Module.tellFrame (m : Module) (was : Nat × Nat) : Module :=
  let m := { m with sys := { m.sys with frameStart := BitVec.ofNat 32 m.frameWord } }
  let m := m.takeSnapshot
  let m := { m with sys := { m.sys with readySeen := [] } }
  if was = (m.mode, m.rf R.SYS_MODE F.SYS_MODE_SUB) then m else m.irq Irq.MODE

theorem tellFrame_told (m : Module) (was : Nat × Nat) : FrameTold (m.tellFrame was) := by
  let told : Module := { m with sys := { m.sys with frameStart := BitVec.ofNat 32 m.frameWord } }
  let taken : Module := { told.takeSnapshot with sys := { told.takeSnapshot.sys with readySeen := [] } }
  have kept : FrameTold taken := FrameTold.congr (m := told) rfl (fun _ _ => rfl) rfl
  show FrameTold (if was = _ then taken else taken.irq Irq.MODE)
  split
  · exact kept
  · exact irq_frameTold kept _

/-- A boundary leads to INSPECT, or tells the frame once the mode and the shed level stand (R86). -/
theorem frameBoundary_inv (m : Module) (peer : Option Peer) (mismatch : Bool) :
    (m.frameBoundary peer mismatch).up = false ∨ ∃ l was, m.frameBoundary peer mismatch = Module.tellFrame l was := by
  unfold Module.frameBoundary
  split
  · next down => exact .inl (by simpa using down)
  · extract_lets
    split
    · next down => exact .inl (by simpa using down)
    · exact .inr ⟨_, _, rfl⟩

/-- The fields of a frame-start word (R87). -/
theorem frameWord_layout {frames level sub mode : Nat} (hf : frames < 65536) (hl : level < 16) (hu : sub < 16) (hm : mode < 16)
    (shed active stop was : Bool) {w : Nat} (h : w = frames * 65536 + level * 4096 + shed.toNat * 1024 + active.toNat * 512
      + stop.toNat * 256 + sub * 16 + mode + was.toNat * 2048) :
    bitsN w 3 0 = mode ∧ bitsN w 7 4 = sub ∧ w.testBit 8 = stop ∧ w.testBit 9 = active ∧ w.testBit 10 = shed
    ∧ w.testBit 11 = was ∧ bitsN w 15 12 = level ∧ bitsN w 31 16 = frames ∧ w < 2 ^ 32 := by
  have hs := shed.toNat_lt
  have ha := active.toNat_lt
  have hp := stop.toNat_lt
  have hw := was.toNat_lt
  have bit (i : Nat) (b : Bool) (value : w / 2 ^ i % 2 = b.toNat) : w.testBit i = b := by
    rw [Nat.testBit_eq_decide_div_mod_eq, value]
    cases b <;> rfl
  simp only [bitsN, Nat.shiftRight_eq_div_pow]
  refine ⟨by omega, by omega, bit 8 stop (by omega), bit 9 active (by omega), bit 10 shed (by omega), bit 11 was (by omega),
    by omega, by omega, by omega⟩

theorem ite_eq_toNat_mul (b : Bool) (k : Nat) : (if b = true then k else 0) = b.toNat * k := by cases b <;> simp

theorem activeCopy_eq_one (m : Module) : (decide (m.activeCopy = some 1)) =
    (!m.flag R.TTB_STAT F.TTB_STAT_NONE && m.rf R.TTB_STAT F.TTB_STAT_ACTIVE == 1) := by
  unfold Module.activeCopy
  cases m.flag R.TTB_STAT F.TTB_STAT_NONE with
  | false => simp; rfl
  | true => rfl

theorem shedLevel_isSome (m : Module) : m.shedLevel.isSome = m.flag R.TTB_SHED F.TTB_SHED_ACT := by
  unfold Module.shedLevel
  cases m.flag R.TTB_SHED F.TTB_SHED_ACT <;> rfl

theorem frameWord_eq (m : Module) : m.frameWord = m.rn R.TTB_FRAMES % 65536 * 65536 + m.shedLevel.getD 0 * 4096
    + (m.flag R.TTB_SHED F.TTB_SHED_ACT).toNat * 1024
    + (!m.flag R.TTB_STAT F.TTB_STAT_NONE && m.rf R.TTB_STAT F.TTB_STAT_ACTIVE == 1).toNat * 512
    + (m.flag R.SYS_MODE F.SYS_MODE_STOPPING).toNat * 256
    + m.rf R.SYS_MODE F.SYS_MODE_SUB * 16 + m.rf R.SYS_MODE F.SYS_MODE_MODE := by
  have active : (if m.activeCopy = some 1 then 512 else 0) = (decide (m.activeCopy = some 1)).toNat * 512 := by
    rw [← ite_eq_toNat_mul]
    simp
  rw [Module.frameWord, active, activeCopy_eq_one, ite_eq_toNat_mul, ite_eq_toNat_mul, shedLevel_isSome]
  rfl

theorem rf_lt (m : Module) (a : Nat) (f : Field) : m.rf a f < 2 ^ (f.hi + 1 - f.lo) := Nat.mod_lt _ (Nat.two_pow_pos _)

theorem shedLevel_lt (m : Module) : m.shedLevel.getD 0 < 16 := by
  unfold Module.shedLevel
  split
  · exact rf_lt m _ F.TTB_SHED_LEVEL
  · decide

theorem frameWord_lt (m : Module) : m.frameWord < 2 ^ 32 := by
  have word := frameWord_eq m
  rw [← Nat.add_zero (_ + m.rf R.SYS_MODE F.SYS_MODE_MODE)] at word
  obtain ⟨-, -, -, -, -, -, -, -, fits⟩ := frameWord_layout (Nat.mod_lt _ (by decide)) (shedLevel_lt m)
    (rf_lt m _ F.SYS_MODE_SUB) (rf_lt m _ F.SYS_MODE_MODE) _ _ _ false word
  exact fits

theorem taskWord_of_told (h : FrameTold m) (t : Nat) : m.taskWord t = m.frameWord + (m.eng.shedPrev.contains t).toNat * 2048 := by
  rw [Module.taskWord, h, BitVec.toNat_ofNat, Nat.mod_eq_of_lt (frameWord_lt m), ite_eq_toNat_mul]

/-- The word of a task in a frame that is told has the layout of R87. -/
theorem taskWord_layout (told : FrameTold m) (t : Nat) :
    bitsN (m.taskWord t) 3 0 = m.rf R.SYS_MODE F.SYS_MODE_MODE ∧ bitsN (m.taskWord t) 7 4 = m.rf R.SYS_MODE F.SYS_MODE_SUB
    ∧ (m.taskWord t).testBit 8 = m.flag R.SYS_MODE F.SYS_MODE_STOPPING
    ∧ (m.taskWord t).testBit 9 = (!m.flag R.TTB_STAT F.TTB_STAT_NONE && m.rf R.TTB_STAT F.TTB_STAT_ACTIVE == 1)
    ∧ (m.taskWord t).testBit 10 = m.flag R.TTB_SHED F.TTB_SHED_ACT
    ∧ (m.taskWord t).testBit 11 = m.eng.shedPrev.contains t
    ∧ bitsN (m.taskWord t) 15 12 = m.shedLevel.getD 0
    ∧ bitsN (m.taskWord t) 31 16 = m.rn R.TTB_FRAMES % 65536 ∧ m.taskWord t < 2 ^ 32 :=
  frameWord_layout (Nat.mod_lt _ (by decide)) (shedLevel_lt m) (rf_lt m _ F.SYS_MODE_SUB) (rf_lt m _ F.SYS_MODE_MODE) _ _ _ _
    ((taskWord_of_told told t).trans (by rw [frameWord_eq]))

theorem shedLevel_of_acting (h : m.flag R.TTB_SHED F.TTB_SHED_ACT = true) :
    m.shedLevel.getD 0 = m.rf R.TTB_SHED F.TTB_SHED_LEVEL := by
  rw [Module.shedLevel, if_pos h]
  rfl

/-- Settles O18: the boundary tells the frame or leads to INSPECT, and the word told has the layout of R87. -/
theorem frameStartWordTellsTheFrame : Obligations.FrameStartWordTellsTheFrame := by
  intro s peer mismatch _
  refine ⟨s.mod.frameBoundary peer mismatch, rfl, fun up t => ?_⟩
  obtain down | ⟨l, was, tells⟩ := frameBoundary_inv s.mod peer mismatch
  · exact absurd up (by simp [down])
  have told : FrameTold (s.mod.frameBoundary peer mismatch) := tells ▸ tellFrame_told l was
  obtain ⟨mode, sub, stop, active, shed, shedBefore, level, frames, fits⟩ := taskWord_layout told t
  exact ⟨mode, sub, stop, active, shed, shedBefore, fun acts => level.trans (shedLevel_of_acting (shed ▸ acts)), frames, fits⟩

end Sys2Proof.Machine

namespace Sys2Proof.Machine
variable {m n : Module}

/-! ### The budget of a bus master (R90 to R93) -/

/-- Master `b` has `k` beats left in its period, and no access of it waits (R91). -/
def Module.grants (m : Module) (b k : Nat) : Prop := (∀ w ∈ m.eng.busWait, w.1 ≠ b) ∧ m.used b + k ≤ m.budget b

theorem mbytes_of_mem (h : n.mem = m.mem) (a c : Nat) : n.mbytes a c = m.mbytes a c :=
  mbytes_congr fun k _ _ => by rw [Module.mb, h, ← Module.mb]

theorem mn_of_mem (h : n.mem = m.mem) (a c : Nat) : n.mn a c = m.mn a c := by rw [Module.mn, Module.mn, mbytes_of_mem h]

theorem mw_of_mem (h : n.mem = m.mem) (a : Nat) : n.mw a = m.mw a := by rw [Module.mw, Module.mw, mn_of_mem h]

theorem used_congr (h : n.eng = m.eng) (b : Nat) : n.used b = m.used b := by rw [Module.used, h, ← Module.used]

theorem budget_congr (eng : n.eng = m.eng) (mem : n.mem = m.mem) (stat : n.rd R.TTB_STAT = m.rd R.TTB_STAT) (b : Nat) :
    n.budget b = m.budget b := by
  have copy : n.activeCopy = m.activeCopy := by simp only [Module.activeCopy, Module.flag, Module.rf, stat]; rfl
  have held : n.heldBeats b = m.heldBeats b := by
    have waiting (k : Nat) : n.waitingBeats k = m.waitingBeats k := by rw [Module.waitingBeats, eng, ← Module.waitingBeats]
    simp only [Module.heldBeats, used_congr eng, funext waiting]
  simp only [Module.budget, copy, held, mn_of_mem mem]

theorem grants_congr (eng : n.eng = m.eng) (mem : n.mem = m.mem) (stat : n.rd R.TTB_STAT = m.rd R.TTB_STAT) (b k : Nat) :
    n.grants b k ↔ m.grants b k := by
  rw [Module.grants, Module.grants, eng, used_congr eng, budget_congr eng mem stat]

/-- What is left to master `b` in its period: nothing behind an access that waits (R91). -/
def Module.beatsLeft (m : Module) (b : Nat) : Nat :=
  if m.eng.busWait.any (fun w => w.1 == b) then 0 else m.budget b - m.used b

theorem le_beatsLeft_of_grants {b k : Nat} (h : m.grants b k) : k ≤ m.beatsLeft b := by
  obtain ⟨free, fits⟩ := h
  have idle : m.eng.busWait.any (fun w => w.1 == b) = false := by simpa using free
  rw [Module.beatsLeft, if_neg (by simp [idle])]
  omega

theorem beatsLeft_of_not_grants {b k : Nat} (h : ¬ m.grants b k) (some' : 0 < k) (within : m.used b ≤ m.budget b) :
    m.beatsLeft b < k := by
  unfold Module.beatsLeft
  split
  · exact some'
  · next idle =>
    have free : ∀ w ∈ m.eng.busWait, w.1 ≠ b := fun w hw same => idle (List.any_eq_true.2 ⟨w, hw, beq_iff_eq.2 same⟩)
    have beyond : ¬ m.used b + k ≤ m.budget b := fun fits => h ⟨free, fits⟩
    omega

theorem busAsk_of_le {b k : Nat} (h : k ≤ m.beatsLeft b) (op : BusOp) (run : Module → Module) :
    m.busAsk b k op run = run (m.charge b k) := if_pos h

theorem busAsk_of_grants {b k : Nat} (h : m.grants b k) (op : BusOp) (run : Module → Module) :
    m.busAsk b k op run = run (m.charge b k) := busAsk_of_le (le_beatsLeft_of_grants h) op run

theorem delay_eq (m : Module) (b : Nat) : ∃ delayed, m.delay b = { m with eng := { m.eng with delayed := delayed } } := by
  unfold Module.delay
  split
  · exact ⟨m.eng.delayed, rfl⟩
  · exact ⟨_, rfl⟩

/-- An access without its beats takes those left, and waits for the rest (R91). -/
theorem busAsk_of_short {b k : Nat} (h : m.beatsLeft b < k) (op : BusOp) (run : Module → Module) : ∃ delayed,
    m.busAsk b k op run = { m with eng := { m.eng with
      budgetUsed := SMap.setD 0 m.eng.budgetUsed b (m.used b + m.beatsLeft b), delayed := delayed
      busWait := m.eng.busWait ++ [(b, k - m.beatsLeft b, op)] } } := by
  obtain ⟨delayed, slow⟩ := delay_eq (m.charge b (m.beatsLeft b)) b
  have waits : m.busAsk b k op run = { (m.charge b (m.beatsLeft b)).delay b with
      eng := { ((m.charge b (m.beatsLeft b)).delay b).eng with
        busWait := ((m.charge b (m.beatsLeft b)).delay b).eng.busWait ++ [(b, k - m.beatsLeft b, op)] } } :=
    if_neg (Nat.not_le.2 h)
  exact ⟨delayed, by rw [waits, slow]; rfl⟩

theorem busAsk_of_not_grants {b k : Nat} (h : ¬ m.grants b k) (some' : 0 < k) (within : m.used b ≤ m.budget b) (op : BusOp)
    (run : Module → Module) : ∃ eng rest, m.busAsk b k op run = { m with eng := eng }
      ∧ eng.busWait = m.eng.busWait ++ [(b, rest, op)] ∧ SMap.getD 0 eng.budgetUsed b + rest = m.used b + k := by
  have short := beatsLeft_of_not_grants h some' within
  obtain ⟨delayed, waits⟩ := busAsk_of_short short op run
  have used : SMap.getD 0 (SMap.setD 0 m.eng.budgetUsed b (m.used b + m.beatsLeft b)) b = m.used b + m.beatsLeft b :=
    SMap.getD_setD_same _ _ _ _
  exact ⟨_, _, waits, rfl, (congrArg (· + _) used).trans (by omega)⟩

end Sys2Proof.Machine

namespace Sys2Proof.Machine
variable {m n : Module}

/-! ### O34: the row of a GOOSE subscription (R222 to R224) -/

/-- `n` differs from `m` at most in memory, and in which of its words fail parity. -/
def BytesOnly (m n : Module) : Prop := ∃ mem failing, n = { m with mem := mem, eng := { m.eng with failing := failing } }

theorem BytesOnly.refl (m : Module) : BytesOnly m m := ⟨_, _, rfl⟩

theorem BytesOnly.trans {l : Module} (h : BytesOnly l m) (h' : BytesOnly m n) : BytesOnly l n := by
  obtain ⟨_, _, rfl⟩ := h
  obtain ⟨_, _, rfl⟩ := h'
  exact ⟨_, _, rfl⟩

theorem BytesOnly.foldl {α : Type} {f : Module → α → Module} (hf : ∀ m a, BytesOnly m (f m a)) (l : List α) (m : Module) :
    BytesOnly m (l.foldl f m) := List.foldlRecOn l f (.refl m) fun _ h a _ => h.trans (hf _ a)

theorem setMn_bytesOnly (m : Module) (a c v : Nat) : BytesOnly m (m.setMn a c v) := ⟨_, _, setBytes_eq (leBytes c v) m a⟩

/-- The head of row `n` from a frame taken (R224). -/
def Module.gsHead (m : Module) (n : Nat) (f : GsFrame) (ns flags : Nat) : Module :=
  let r := gsRow n
  let m := m.setMn r 4 (m.mn r 4 + 1)
  let m := m.setMn (r + 4) 4 f.st.toNat
  let m := m.setMn (r + 8) 4 f.sq.toNat
  let m := m.setMn (r + 0xC) 4 f.tal.toNat
  let m := m.setMn (r + 0x10) 4 f.tSec.toNat
  let m := m.setMn (r + 0x14) 4 (f.tQual.toNat <<< 24 + f.tFrac.toNat)
  let m := m.setMn (r + 0x18) 4 flags
  m.setMn (r + 0x1C) 4 ns

/-- Member `x.2` of a row at `r` (R224). -/
def Module.gsMember (r : Nat) (m : Module) (x : GsMember × Nat) : Module :=
  (m.setMw (r + 0x20 + 8 * x.2) x.1.word).setMn (r + 0x24 + 8 * x.2) 4 ((x.1.type.getD 0).toNat <<< 24 + x.1.frac.toNat)

/-- The members of row `n` from a frame taken; none of a frame whose values wait for commissioning (R223). -/
def Module.gsMembers (m : Module) (n : Nat) (f : GsFrame) : Module :=
  if f.ndsCom then m else f.members.zipIdx.foldl (Module.gsMember (gsRow n)) m

theorem gsStore_eq (m : Module) (n : Nat) (f : GsFrame) (gap : Bool) (ns : Nat) : ∃ flags, m.gsStore n f gap ns =
    ((m.gsHead n f ns flags).gsMembers n f).setMn (gsRow n) 4 (((m.gsHead n f ns flags).gsMembers n f).mn (gsRow n) 4 + 1) :=
  ⟨_, rfl⟩

theorem gsMember_mb (r : Nat) (x : GsMember × Nat) {a : Nat} (h : a < r + 0x20 + 8 * x.2 ∨ r + 0x28 + 8 * x.2 ≤ a) :
    (Module.gsMember r m x).mb a = m.mb a := by
  rw [Module.gsMember, mb_setMn _ _ _ _ _ (by omega), mb_setMw _ _ (by omega)]

theorem gsMember_mw (r : Nat) (x : GsMember × Nat) : (Module.gsMember r m x).mw (r + 0x20 + 8 * x.2) = x.1.word := by
  rw [Module.gsMember, mw_setMn_apart _ (by omega), mw_setMw_same]

/-- Members from number `i` on leave the bytes beside them as they were. -/
theorem gsMember_foldl_mb (r : Nat) {a : Nat} (l : List GsMember) (i : Nat) (m : Module)
    (h : a < r + 0x20 + 8 * i ∨ r + 0x20 + 8 * (i + l.length) ≤ a) : ((l.zipIdx i).foldl (Module.gsMember r) m).mb a = m.mb a := by
  induction l generalizing i m with
  | nil => rfl
  | cons x l ih =>
    rw [List.length_cons] at h
    rw [List.zipIdx_cons, List.foldl_cons, ih (i + 1) _ (by omega), gsMember_mb r (x, i) (by dsimp only; omega)]

/-- Member `j` stands in its word. -/
theorem gsMember_foldl_mw (r : Nat) (l : List GsMember) (i : Nat) (m : Module) (j : Nat) (h : j < l.length) :
    ((l.zipIdx i).foldl (Module.gsMember r) m).mw (r + 0x20 + 8 * (i + j)) = l[j].word := by
  induction l generalizing i m j with
  | nil => exact absurd h (Nat.not_lt_zero j)
  | cons x l ih =>
    rw [List.zipIdx_cons, List.foldl_cons]
    cases j with
    | zero =>
      rw [Nat.add_zero, mw_congr fun k low high => gsMember_foldl_mb r l (i + 1) _ (by omega)]
      exact gsMember_mw r (x, i)
    | succ j =>
      rw [show i + (j + 1) = i + 1 + j by omega, ih (i + 1) _ j (Nat.lt_of_succ_lt_succ h)]
      rfl

section
variable (n : Nat) (f : GsFrame) (ns flags : Nat)

theorem gsMembers_mb {a : Nat} (h : a < gsRow n + 0x20 ∨ gsRow n + 0x20 + 8 * f.members.length ≤ a) :
    (m.gsMembers n f).mb a = m.mb a := by
  unfold Module.gsMembers
  split
  · rfl
  · exact gsMember_foldl_mb _ _ 0 m (by omega)

theorem gsMembers_mn {a c : Nat} (h : a + c ≤ gsRow n + 0x20) : (m.gsMembers n f).mn a c = m.mn a c :=
  mn_congr fun _ _ _ => gsMembers_mb n f (by omega)

theorem gsMembers_mw (stored : f.ndsCom = false) (j : Nat) (h : j < f.members.length) :
    (m.gsMembers n f).mw (gsRow n + 0x20 + 8 * j) = f.members[j].word := by
  rw [Module.gsMembers, if_neg (by simp [stored])]
  simpa using gsMember_foldl_mw (gsRow n) f.members 0 m j h

theorem gsHead_mb {a : Nat} (h : a < gsRow n ∨ gsRow n + 0x20 ≤ a) : (m.gsHead n f ns flags).mb a = m.mb a := by
  unfold Module.gsHead
  simp (disch := omega) only [mb_setMn]

/-- The words of a row's head (R224). -/
theorem gsHead_mn : (m.gsHead n f ns flags).mn (gsRow n) 4 = (m.mn (gsRow n) 4 + 1) % 2 ^ 32
    ∧ (m.gsHead n f ns flags).mn (gsRow n + 4) 4 = f.st.toNat ∧ (m.gsHead n f ns flags).mn (gsRow n + 8) 4 = f.sq.toNat
    ∧ (m.gsHead n f ns flags).mn (gsRow n + 0xC) 4 = f.tal.toNat ∧ (m.gsHead n f ns flags).mn (gsRow n + 0x10) 4 = f.tSec.toNat
    ∧ (m.gsHead n f ns flags).mn (gsRow n + 0x1C) 4 = ns % 2 ^ 32 := by
  have word (w : BitVec 32) : w.toNat % 2 ^ 32 = w.toNat := Nat.mod_eq_of_lt w.isLt
  unfold Module.gsHead
  simp (disch := omega) only [mn_setMn_same, mn_setMn_apart, show 256 ^ 4 = 2 ^ 32 from rfl, word, and_self]

end

end Sys2Proof.Machine

namespace Sys2Proof.Machine
variable {m n : Module}

/-- Row `n` as a frame taken at `ns` leaves it (R223, R224): UPD counted twice, the head and the members of the frame, and no
byte beside the row changed. -/
structure RowTaken (m : Module) (n : Nat) (f : GsFrame) (ns : Nat) (l : Module) : Prop where
  upd : l.mn (gsRow n) 4 = (m.mn (gsRow n) 4 + 2) % 2 ^ 32
  st : l.mn (gsRow n + 4) 4 = f.st.toNat
  sq : l.mn (gsRow n + 8) 4 = f.sq.toNat
  tal : l.mn (gsRow n + 0xC) 4 = f.tal.toNat
  sec : l.mn (gsRow n + 0x10) 4 = f.tSec.toNat
  arrival : l.mn (gsRow n + 0x1C) 4 = ns % 2 ^ 32
  members : f.ndsCom = false → ∀ j (h : j < f.members.length), l.mw (gsRow n + 0x20 + 8 * j) = f.members[j].word
  rest : ∀ a, a < gsRow n ∨ gsRow n + 1024 ≤ a → l.mb a = m.mb a

/-- A row rests on memory only. -/
theorem RowTaken.congr {k f ns} {m' l l' : Module} (h : RowTaken m k f ns l) (base : m'.mem = m.mem) (mem : l'.mem = l.mem) :
    RowTaken m' k f ns l' := by
  obtain ⟨upd, st, sq, tal, sec, arrival, members, rest⟩ := h
  constructor <;> simpa only [mn_of_mem mem, mn_of_mem base, mw_of_mem mem, Module.mb, mem, base]

theorem gsStore_rowTaken (m : Module) (n : Nat) (f : GsFrame) (gap : Bool) (ns : Nat) (fits : f.members.length ≤ 64) :
    RowTaken m n f ns (m.gsStore n f gap ns) := by
  obtain ⟨flags, stored⟩ := gsStore_eq m n f gap ns
  obtain ⟨upd, st, sq, tal, sec, arrival⟩ := gsHead_mn (m := m) n f ns flags
  rw [stored]
  refine ⟨?_, ?_, ?_, ?_, ?_, ?_, fun shown j inside => ?_, fun a beside => ?_⟩
  · rw [mn_setMn_same, gsMembers_mn n f (by omega), upd]
    omega
  · rw [mn_setMn_apart _ _ _ _ _ _ (by omega), gsMembers_mn n f (by omega), st]
  · rw [mn_setMn_apart _ _ _ _ _ _ (by omega), gsMembers_mn n f (by omega), sq]
  · rw [mn_setMn_apart _ _ _ _ _ _ (by omega), gsMembers_mn n f (by omega), tal]
  · rw [mn_setMn_apart _ _ _ _ _ _ (by omega), gsMembers_mn n f (by omega), sec]
  · rw [mn_setMn_apart _ _ _ _ _ _ (by omega), gsMembers_mn n f (by omega), arrival]
  · rw [mw_setMn_apart _ (by omega), gsMembers_mw n f shown j inside]
  · rw [mb_setMn _ _ _ _ _ (by omega), gsMembers_mb n f (by omega), gsHead_mb n f ns flags (by omega)]

theorem gsStore_bytesOnly (m : Module) (n : Nat) (f : GsFrame) (gap : Bool) (ns : Nat) : BytesOnly m (m.gsStore n f gap ns) := by
  have head (flags : Nat) : BytesOnly m (m.gsHead n f ns flags) := by
    unfold Module.gsHead
    repeat' apply BytesOnly.trans _ (setMn_bytesOnly _ _ _ _)
    exact .refl m
  have members (l : Module) : BytesOnly l (l.gsMembers n f) := by
    unfold Module.gsMembers
    split
    · exact .refl l
    · exact .foldl (fun l x => (setMn_bytesOnly l _ _ _).trans (setMn_bytesOnly _ _ _ _)) _ l
  obtain ⟨flags, stored⟩ := gsStore_eq m n f gap ns
  rw [stored]
  exact ((head flags).trans (members _)).trans (setMn_bytesOnly _ _ _ _)

/-! ### The fast-trip filters (R225, R226) -/

/-- `n` differs from `m` at most in lines and filters: what their units hold, their registers, and reports added. -/
def TripsOnly (m n : Module) : Prop :=
  (∃ regs pwm gate rings ft reports, n = { m with
    regs := regs, pwm := pwm, gate := gate, rings := rings, pb := { m.pb with ftMatch := ft }, reports := m.reports ++ reports })
  ∧ ∀ a < 0x90000, a ≠ R.PB_FT_ACT → n.rd a = m.rd a

theorem TripsOnly.refl (m : Module) : TripsOnly m m :=
  ⟨⟨_, _, _, _, m.pb.ftMatch, [], by rw [List.append_nil]⟩, fun _ _ _ => rfl⟩

theorem TripsOnly.trans {l : Module} (h : TripsOnly l m) (h' : TripsOnly m n) : TripsOnly l n := by
  obtain ⟨⟨_, _, _, _, _, _, rfl⟩, kept⟩ := h
  obtain ⟨⟨_, _, _, _, _, _, rfl⟩, kept'⟩ := h'
  exact ⟨⟨_, _, _, _, _, _, by rw [List.append_assoc]⟩, fun a low other => (kept' a low other).trans (kept a low other)⟩

theorem TripsOnly.foldl {α : Type} {f : Module → α → Module} (hf : ∀ m a, TripsOnly m (f m a)) (l : List α) (m : Module) :
    TripsOnly m (l.foldl f m) := List.foldlRecOn l f (.refl m) fun _ h a _ => h.trans (hf _ a)

theorem LinesOnly.tripsOnly (h : LinesOnly m n) : TripsOnly m n := by
  obtain ⟨⟨_, _, _, _, rfl⟩, kept⟩ := h
  exact ⟨⟨_, _, _, _, m.pb.ftMatch, [], by rw [List.append_nil]⟩, fun a low _ => kept a low⟩

theorem filterFollow_tripsOnly (m : Module) (k : Nat) : TripsOnly m (m.filterFollow k) := by
  unfold Module.filterFollow
  extract_lets w sub line want m1 m2
  have released : TripsOnly m m1 := by
    refine .foldl (fun m l => ?_) _ m
    split
    · exact .refl m
    · exact (withdrawLine_linesOnly m l _).tripsOnly
  have shown : TripsOnly m m2 := released.trans
    ⟨⟨_, _, _, _, m1.pb.ftMatch, [], by rw [List.append_nil]; rfl⟩, fun a _ other => rd_setBit_ne m1 k want other.symm⟩
  split
  · exact shown.trans (requestLine_linesOnly m2 line _).tripsOnly
  · exact shown

theorem filtersFollow_tripsOnly (m : Module) : TripsOnly m m.filtersFollow := .foldl filterFollow_tripsOnly _ m

theorem filterEval_tripsOnly (m : Module) (n : Nat) (f : GsFrame) : TripsOnly m (m.filterEval n f) := by
  refine .foldl (fun m k => ?_) _ m
  extract_lets was is rest matched
  split
  · exact ⟨⟨_, _, _, _, _, _, rfl⟩, fun _ _ _ => rfl⟩
  · exact ⟨⟨_, _, _, _, _, [], by rw [List.append_nil]⟩, fun _ _ _ => rfl⟩

end Sys2Proof.Machine

namespace Sys2Proof.Machine
variable {m n : Module}

/-! ### O34: GOOSE frames received, and subscriptions lost (R210, R222, R223, R231) -/

/-- An untagged frame of another node, without security, is taken as it is (R208, R210). -/
theorem receive_of_plain (up : m.up = true) {p : Nat} {h : PbHead} (foreign : m.ownFrame p h.src = false) (untagged : h.tag = none)
    (unsecured : h.secured = false) (take : Module → Module) : m.receive p h take = take m := by
  simp [Module.receive, up, foreign, untagged, unsecured, Module.isDup, Module.noteFrame]

theorem filter_range_eq_singleton {p : Nat → Bool} {c k : Nat} (inside : k < c) (own : p k = true)
    (others : ∀ j < c, j ≠ k → ¬ p j = true) : (List.range c).filter p = [k] := by
  have same : ∀ j ∈ List.range c, p j = (j == k) := by
    intro j hj
    by_cases h : j = k
    · simp [h, own]
    · rw [beq_eq_false_iff_ne.2 h]
      exact Bool.eq_false_iff.2 (others j (List.mem_range.1 hj) h)
  rw [List.filter_congr same, List.filter_beq, List.count_eq_one_of_mem List.nodup_range (List.mem_range.2 inside)]
  rfl

section
variable {p : Nat} {f : GsFrame} (up : m.up = true) (foreign : m.ownFrame p f.head.src = false) (untagged : f.head.tag = none)
  (unsecured : f.head.secured = false) (encoded : f.fixed = false)
include up foreign untagged unsecured encoded

theorem gsFrame_of_no_subscription (h : ∀ k < 64, ¬ m.gsFeeds k p f = true) : m.gsFrame p f = m.rxDisc p := by
  have none : (List.range 64).filter (fun k => m.gsFeeds k p f) = [] :=
    List.filter_eq_nil_iff.2 fun k hk => h k (List.mem_range.1 hk)
  rw [Module.gsFrame, receive_of_plain up foreign untagged unsecured, none, encoded]
  rfl

theorem gsFrame_of_one_subscription {k : Nat} (inside : k < 64) (own : m.gsFeeds k p f = true)
    (others : ∀ j < 64, j ≠ k → ¬ m.gsFeeds j p f = true) : m.gsFrame p f = m.gsReach p k f := by
  rw [Module.gsFrame, receive_of_plain up foreign untagged unsecured, filter_range_eq_singleton inside own others, encoded]
  rfl

end

/-! #### The frame at its subscription -/

section
variable {p k : Nat} {f : GsFrame} (real : f.head.sim = false) (normal : m.pb.gsSim = [])
include real normal

/-- A frame that is not simulated, at a subscription that takes such frames (R219). -/
theorem gsReach_of_real : m.gsReach p k f = if m.gsShape k f = false then (m.rxDisc p).gsCfgRaise k else
    match m.gsOrder k f with
    | .taken gap => m.gsTake k f gap
    | .duplicate => m
    | .stale => m.rxDisc p := by
  have takes : simTakes m.simCfg (m.pb.gsSim.contains k) f.head.sim = true := by
    rw [real, normal]
    cases m.simCfg <;> rfl
  have still : m.gsSimOn k f.head.sim = m := by
    rw [Module.gsSimOn, real]
    rfl
  unfold Module.gsReach
  rw [takes, still]
  cases m.gsShape k f <;> rfl

theorem gsReach_of_other_shape (h : m.gsShape k f = false) : m.gsReach p k f = (m.rxDisc p).gsCfgRaise k := by
  rw [gsReach_of_real real normal, if_pos h]

theorem gsReach_of_first (h : m.gsShape k f = true) (first : SMap.getD none m.pb.gs k = none) :
    m.gsReach p k f = m.gsTake k f false := by
  have order : m.gsOrder k f = .taken false := by rw [Module.gsOrder, first]
  rw [gsReach_of_real real normal, if_neg (by simp [h]), order]

theorem gsReach_of_repeated (h : m.gsShape k f = true) {l : GooseLast} (last : SMap.getD none m.pb.gs k = some l)
    (st : l.st = f.st.toNat) (sq : l.sq = f.sq.toNat) (notFresh : ¬ (f.st.toNat = 1 ∧ f.sq.toNat = 0))
    (live : m.bit R.PB_GS_LOST k = false) : m.gsReach p k f = m := by
  have order : m.gsOrder k f = .duplicate := by
    have ahead : (f.st.toNat + 2 ^ 32 - l.st) % 2 ^ 32 = 0 := by rw [st]; omega
    simp only [Module.gsOrder, last]
    rw [if_neg (by simpa [live] using notFresh), if_pos ahead, if_pos sq.symm]
  rw [gsReach_of_real real normal, if_neg (by simp [h]), order]

end

/-! #### Discards -/

/-- An event counter counts up, and stands at its largest value (R65). -/
theorem rn_bump_same (m : Module) {a sat : Nat} (i : Nat) (h : sat ≠ a) :
    (m.bump a sat i).rn a = if m.rn a < 0xFFFFFFFF then m.rn a + 1 else m.rn a := by
  unfold Module.bump
  extract_lets v m1
  have counted : m1.rn a = if m.rn a < 0xFFFFFFFF then m.rn a + 1 else m.rn a := by
    unfold m1 v
    split
    · next below => rw [Module.rn, Module.wn, rd_wr_same, BitVec.toNat_ofNat, Nat.mod_eq_of_lt (by omega)]
    · rfl
  split
  · rw [Module.rn, rd_setBit_ne m1 i true h]
    exact counted
  · exact counted

theorem rxdisc_ne_sat (p : Fin 4) : R.PB_SAT ≠ R.PB_RXDISC p := by
  simp only [R.PB_SAT, R.PB_RXDISC]
  omega

/-- A frame discarded is counted, and nothing else changes (R206). -/
theorem rxDisc_leads (m : Module) (p : Fin 4) :
    (m.rxDisc p).rn (R.PB_RXDISC p) = (if m.rn (R.PB_RXDISC p) < 0xFFFFFFFF then m.rn (R.PB_RXDISC p) + 1 else m.rn (R.PB_RXDISC p))
    ∧ (∀ a, a ≠ R.PB_RXDISC p → a ≠ R.PB_SAT → (m.rxDisc p).rd a = m.rd a) ∧ m.rxDisc p = { m with regs := (m.rxDisc p).regs } := by
  refine ⟨rn_bump_same m p (rxdisc_ne_sat p), ?_⟩
  obtain ⟨regs, counts, kept⟩ := bump_inv m (R.PB_RXDISC p) R.PB_SAT p
  have discards : m.rxDisc p = { m with regs := regs } := counts
  rw [discards]
  exact ⟨kept, rfl⟩

/-- A frame of another shape: discarded, and reported where no report of it went out in this second (R222, R231). -/
theorem rxDisc_gsCfgRaise_leads (m : Module) (p : Fin 4) (k : Nat) :
    ((m.rxDisc p).gsCfgRaise k).rn (R.PB_RXDISC p) = (m.rxDisc p).rn (R.PB_RXDISC p) ∧ ((m.rxDisc p).gsCfgRaise k).mem = m.mem
    ∧ (SMap.getD 0 m.pb.gsCfgSec k ≠ m.todSec + 1 → ((m.rxDisc p).gsCfgRaise k).reports
        = m.reports ++ [⟨FS.PB_GOOSE_CFG, BitVec.ofNat 32 k, .none, m.now, m.todSec, m.todNs⟩]) := by
  obtain ⟨-, -, discards⟩ := rxDisc_leads m p
  rw [discards]
  generalize (m.rxDisc p).regs = regs
  unfold Module.gsCfgRaise
  split
  · next told => exact ⟨rfl, rfl, fun new => absurd told new⟩
  · exact ⟨rfl, rfl, fun _ => rfl⟩

/-! #### A frame taken -/

/-- The frame is kept as the last of subscription `k`, which is live (R223). -/
def Module.gsKept (m : Module) (k : Nat) (last : GooseLast) : Module :=
  Module.setBit { m with pb := { m.pb with gs := SMap.setD none m.pb.gs k (some last) } } R.PB_GS_LOST k false

theorem gsKept_gs (m : Module) (k : Nat) (last : GooseLast) : (m.gsKept k last).pb.gs = SMap.setD none m.pb.gs k (some last) := rfl

theorem gsKept_mem (m : Module) (k : Nat) (last : GooseLast) : (m.gsKept k last).mem = m.mem := rfl

/-- The row of a frame taken is asked for (R91, R223). -/
def Module.gsAsked (m : Module) (k : Nat) (f : GsFrame) (gap : Bool) : Module :=
  m.gsAsk k (0x20 + 8 * f.members.length) (.gsRow k f gap m.todNs) (·.gsStore k f gap m.todNs)

/-- A frame taken: its row asked for and the frame kept; then the filters follow (R223, R226). -/
theorem gsTake_tripsOnly (m : Module) (k : Nat) (f : GsFrame) (gap : Bool) :
    TripsOnly ((m.gsAsked k f gap).gsKept k ⟨f.st.toNat, f.sq.toNat, (m.gsAsked k f gap).now + 500000 * f.tal.toNat⟩)
      (m.gsTake k f gap) := by
  refine TripsOnly.trans (m := if f.ndsCom then _ else Module.filterEval _ k f) ?_ (filtersFollow_tripsOnly _)
  split
  · exact .refl _
  · exact filterEval_tripsOnly _ k f

theorem TripsOnly.bit_lost (h : TripsOnly m n) (k : Nat) : n.bit R.PB_GS_LOST k = m.bit R.PB_GS_LOST k :=
  bit_congr (h.2 R.PB_GS_LOST (by decide) (by decide)) k

theorem TripsOnly.mem (h : TripsOnly m n) : n.mem = m.mem := by
  obtain ⟨⟨_, _, _, _, _, _, rfl⟩, -⟩ := h
  rfl

theorem TripsOnly.eng (h : TripsOnly m n) : n.eng = m.eng := by
  obtain ⟨⟨_, _, _, _, _, _, rfl⟩, -⟩ := h
  rfl

theorem TripsOnly.gs (h : TripsOnly m n) : n.pb.gs = m.pb.gs := by
  obtain ⟨⟨_, _, _, _, _, _, rfl⟩, -⟩ := h
  rfl

theorem TripsOnly.reports (h : TripsOnly m n) : ∀ r ∈ m.reports, r ∈ n.reports := by
  obtain ⟨⟨_, _, _, _, _, _, rfl⟩, -⟩ := h
  exact fun r hr => List.mem_append_left _ hr

/-- A frame taken whose row has its beats: the row written, the subscription live, the frame kept as the last (R223). -/
theorem gsTake_leads (m : Module) {k : Nat} (f : GsFrame) (gap : Bool) (inside : k < 64) (fits : f.members.length ≤ 64)
    (room : m.grants Bus.pb (beatsOf (gsRow k) (0x20 + 8 * f.members.length))) :
    RowTaken m k f m.todNs (m.gsTake k f gap) ∧ (m.gsTake k f gap).bit R.PB_GS_LOST k = false
    ∧ SMap.getD none (m.gsTake k f gap).pb.gs k = some ⟨f.st.toNat, f.sq.toNat, m.now + 500000 * f.tal.toNat⟩ := by
  have trips := gsTake_tripsOnly m k f gap
  have asked : m.gsAsked k f gap = (m.charge Bus.pb (beatsOf (gsRow k) (0x20 + 8 * f.members.length))).gsStore k f gap m.todNs :=
    busAsk_of_grants room (.gsRow k f gap m.todNs) (·.gsStore k f gap m.todNs)
  have stored := gsStore_rowTaken (m.charge Bus.pb (beatsOf (gsRow k) (0x20 + 8 * f.members.length))) k f gap m.todNs fits
  rw [← asked] at stored
  have now : (m.gsAsked k f gap).now = m.now := by
    obtain ⟨_, _, bytes⟩ := gsStore_bytesOnly (m.charge Bus.pb (beatsOf (gsRow k) (0x20 + 8 * f.members.length))) k f gap m.todNs
    rw [asked, bytes]
    rfl
  refine ⟨stored.congr rfl (trips.mem.trans (gsKept_mem _ _ _)), (trips.bit_lost k).trans (bit_setBit_same _ _ k _ inside), ?_⟩
  rw [trips.gs, ← now, gsKept_gs]
  exact SMap.getD_setD_same _ _ _ _

/-! #### A subscription lost -/

theorem gsLose_of_not_due {k : Nat} (h : m.gsEnabled k = false ∨ SMap.getD none m.pb.gs k = none ∨ m.bit R.PB_GS_LOST k = true) :
    m.gsLose k = m := by
  rw [Module.gsLose, if_pos]
  obtain h | h | h := h <;> simp [h]

/-- The FLAGS of row `k` changed by `g`: UPD counted twice, and no byte beside these two words changed (R223, R224). -/
theorem gsReflag_leads (m : Module) (k : Nat) (g : Nat → Nat) :
    (m.gsReflag k g).mn (gsRow k) 4 = (m.mn (gsRow k) 4 + 2) % 2 ^ 32
    ∧ (m.gsReflag k g).mn (gsRow k + 0x18) 4 = g (m.mn (gsRow k + 0x18) 4) % 2 ^ 32
    ∧ ∀ a, a < gsRow k ∨ (gsRow k + 4 ≤ a ∧ a < gsRow k + 0x18) ∨ gsRow k + 0x1C ≤ a → (m.gsReflag k g).mb a = m.mb a := by
  unfold Module.gsReflag
  refine ⟨?_, ?_, fun a beside => ?_⟩
  · simp (disch := omega) only [mn_setMn_same, mn_setMn_apart]
    omega
  · simp (disch := omega) only [mn_setMn_same, mn_setMn_apart, show 256 ^ 4 = 2 ^ 32 from rfl]
  · rw [mb_setMn _ _ _ _ _ (by omega), mb_setMn _ _ _ _ _ (by omega), mb_setMn _ _ _ _ _ (by omega)]

/-- A bit of the lowest byte of a number in memory. -/
theorem mb_getLsbD (m : Module) (a : Nat) {i : Nat} (h : i < 8) (c : Nat) : (m.mb a).getLsbD i = (m.mn a (c + 1)).testBit i := by
  have low : (m.mb a).toNat = m.mn a (c + 1) % 2 ^ 8 := by
    have := (m.mb a).isLt
    show _ = ((m.mb a).toNat + 256 * leNat (m.mbytes (a + 1) c)) % 2 ^ 8
    omega
  rw [BitVec.getLsbD, low, Nat.testBit_mod_two_pow]
  simp [h]

/-- Row `k` shows its subscription lost (R223, R224). -/
theorem gsShowLost_leads (m : Module) (k : Nat) : ((m.gsShowLost k).mb (gsRow k + 0x18)).getLsbD 0 = true
    ∧ (m.gsShowLost k).mn (gsRow k) 4 = (m.mn (gsRow k) 4 + 2) % 2 ^ 32
    ∧ ∀ a, a < gsRow k ∨ (gsRow k + 4 ≤ a ∧ a < gsRow k + 0x18) ∨ gsRow k + 0x1C ≤ a → (m.gsShowLost k).mb a = m.mb a := by
  obtain ⟨upd, flags, rest⟩ := gsReflag_leads m k (fun v => setBitN v 0 true)
  refine ⟨?_, upd, rest⟩
  rw [mb_getLsbD _ _ (by decide) 3]
  show (Module.mn (m.gsReflag k _) _ 4).testBit 0 = true
  rw [flags, Nat.testBit_mod_two_pow]
  simp [setBitN]

/-- `n` differs from `m` at most in memory and what the engines hold. -/
def MemEng (m n : Module) : Prop := ∃ mem eng, n = { m with mem := mem, eng := eng }

theorem gsReflag_memEng (m : Module) (k : Nat) (g : Nat → Nat) : MemEng m (m.gsReflag k g) := by
  obtain ⟨_, _, bytes⟩ := ((setMn_bytesOnly m (gsRow k) 4 (m.mn (gsRow k) 4 + 1)).trans (setMn_bytesOnly _ (gsRow k + 0x18) 4 _)).trans
    (setMn_bytesOnly _ (gsRow k) 4 _)
  exact ⟨_, _, bytes⟩

/-- What an access changes beside its own effect: beats, and what waits (R91). -/
theorem busAsk_memEng {run : Module → Module} (h : ∀ l, MemEng l (run l)) (m : Module) (b k : Nat) (op : BusOp) :
    MemEng m (m.busAsk b k op run) := by
  by_cases fits : k ≤ m.beatsLeft b
  · obtain ⟨_, _, effect⟩ := h (m.charge b k)
    exact ⟨_, _, (busAsk_of_le fits op run).trans effect⟩
  · obtain ⟨_, waits⟩ := busAsk_of_short (Nat.not_le.1 fits) op run
    exact ⟨_, _, waits⟩

/-- A loss: the flag shown, the row asked for, the loss reported; then the filters follow (R223). -/
theorem gsLose_of_due {k : Nat} (enabled : m.gsEnabled k = true) {l : GooseLast} (last : SMap.getD none m.pb.gs k = some l)
    (live : m.bit R.PB_GS_LOST k = false) :
    TripsOnly (((m.setBit R.PB_GS_LOST k true).gsAsk k 0x20 (.gsLost k) (·.gsShowLost k)).raiseFree FS.PB_GOOSE_LOST .none)
      (m.gsLose k) := by
  rw [Module.gsLose, if_neg (by simp [enabled, last, live])]
  exact filtersFollow_tripsOnly _

/-- The access by which a subscription lost shows it: with beats its row is written, else it waits (R91, R223). -/
theorem askLost_leads (m : Module) (k : Nat) (l : Module) (h : m.gsAsk k 0x20 (.gsLost k) (·.gsShowLost k) = l) :
    MemEng m l
    ∧ (m.grants Bus.pb (beatsOf (gsRow k) 0x20) → (l.mb (gsRow k + 0x18)).getLsbD 0 = true
      ∧ l.mn (gsRow k) 4 = (m.mn (gsRow k) 4 + 2) % 2 ^ 32
      ∧ ∀ a, a < gsRow k ∨ (gsRow k + 4 ≤ a ∧ a < gsRow k + 0x18) ∨ gsRow k + 0x1C ≤ a → l.mb a = m.mb a)
    ∧ (¬ m.grants Bus.pb (beatsOf (gsRow k) 0x20) → m.used Bus.pb ≤ m.budget Bus.pb → l.mem = m.mem
      ∧ ∃ c op, l.eng.busWait = m.eng.busWait ++ [(Bus.pb, c, op)] ∧ l.used Bus.pb + c = m.used Bus.pb + beatsOf (gsRow k) 0x20) := by
  subst h
  refine ⟨busAsk_memEng (fun l => gsReflag_memEng l k _) _ _ _ _, fun room => ?_, fun full within => ?_⟩
  · rw [Module.gsAsk, busAsk_of_grants room]
    exact gsShowLost_leads (m.charge Bus.pb _) k
  · have beats : 0 < beatsOf (gsRow k) 0x20 := by
      unfold beatsOf
      omega
    obtain ⟨eng, rest, waits, queued, charged⟩ := busAsk_of_not_grants full beats within (.gsLost k) (·.gsShowLost k)
    rw [Module.gsAsk, waits]
    exact ⟨rfl, rest, _, queued, charged⟩

/-- A subscription whose time runs out (R223): lost and reported; its row shows it, or waits for its beats. -/
theorem gsLose_leads (m : Module) {k : Nat} (inside : k < 64) (enabled : m.gsEnabled k = true) {last : GooseLast}
    (taken : SMap.getD none m.pb.gs k = some last) (live : m.bit R.PB_GS_LOST k = false) :
    (m.gsLose k).bit R.PB_GS_LOST k = true
    ∧ (m.grants Bus.pb (beatsOf (gsRow k) 0x20) → ((m.gsLose k).mb (gsRow k + 0x18)).getLsbD 0 = true
      ∧ (m.gsLose k).mn (gsRow k) 4 = (m.mn (gsRow k) 4 + 2) % 2 ^ 32
      ∧ ∀ a, a < gsRow k ∨ (gsRow k + 4 ≤ a ∧ a < gsRow k + 0x18) ∨ gsRow k + 0x1C ≤ a → (m.gsLose k).mb a = m.mb a)
    ∧ (¬ m.grants Bus.pb (beatsOf (gsRow k) 0x20) → m.used Bus.pb ≤ m.budget Bus.pb → (m.gsLose k).mem = m.mem
      ∧ ∃ c op, (m.gsLose k).eng.busWait = m.eng.busWait ++ [(Bus.pb, c, op)]
        ∧ (m.gsLose k).used Bus.pb + c = m.used Bus.pb + beatsOf (gsRow k) 0x20)
    ∧ ∃ r ∈ (m.gsLose k).reports, r.src = FS.PB_GOOSE_LOST ∧ r.at' = m.now := by
  have trips := gsLose_of_due enabled taken live
  generalize hl : (m.setBit R.PB_GS_LOST k true).gsAsk k 0x20 (.gsLost k) (·.gsShowLost k) = l at trips
  obtain ⟨⟨mem, eng, asked⟩, written, waiting⟩ := askLost_leads (m.setBit R.PB_GS_LOST k true) k l hl
  have stat : (m.setBit R.PB_GS_LOST k true).rd R.TTB_STAT = m.rd R.TTB_STAT := rd_setBit_ne m k true (by decide)
  have room := grants_congr (m := m) (n := m.setBit R.PB_GS_LOST k true) rfl rfl stat Bus.pb (beatsOf (gsRow k) 0x20)
  have memory : (m.gsLose k).mem = l.mem := trips.mem
  have engines : (m.gsLose k).eng = l.eng := trips.eng
  refine ⟨?_, fun grants => ?_, fun full within => ?_, ?_⟩
  · rw [trips.bit_lost k, asked]
    exact bit_setBit_same m _ k true inside
  · obtain ⟨shown, upd, rest⟩ := written (room.2 grants)
    exact ⟨by rw [Module.mb, memory]; exact shown, (mn_of_mem memory _ _).trans upd, fun a beside => by
      rw [Module.mb, memory]
      exact rest a beside⟩
  · obtain ⟨still, c, op, queued, charged⟩ := waiting (mt room.1 full)
      ((budget_congr (m := m) (n := m.setBit R.PB_GS_LOST k true) rfl rfl stat Bus.pb).symm ▸ within)
    exact ⟨memory.trans still, c, op, by rw [engines]; exact queued, by rw [used_congr engines]; exact charged⟩
  · refine ⟨_, trips.reports _ (List.mem_append_right _ (List.mem_singleton.2 rfl)), rfl, ?_⟩
    rw [asked]
    rfl

theorem runUp_of_up {s : State} (h : s.mod.up = true) (f : Module → Module) : s.runUp f = .next ⟨f s.mod, s.pending⟩ := by
  simp [State.runUp, State.run, h]

theorem runUp_of_fixed {s : State} {f : Module → Module} (h : s.mod.up = true → f s.mod = s.mod) : s.runUp f = .next s := by
  by_cases up : s.mod.up = true
  · rw [runUp_of_up up, h up]
  · simp [State.runUp, State.run, up]

/-- Settles O34: a frame by the subscription it reaches, a loss by `gsLose_leads`. -/
theorem gooseReceivedAndLost : Obligations.GooseReceivedAndLost := by
  intro s p f untagged unsecured encoded up foreign
  have frame (m : Module) (h : s.mod.gsFrame p f = m) : exec (.gooseFrameReceived p f) s = .next ⟨m, s.pending⟩ :=
    h ▸ runUp_of_up up (·.gsFrame p f)
  refine ⟨fun none => ?_, fun k own others real normal => ⟨fun shape => ?_, fun shape fits first room => ?_,
    fun shape l last st sq notFresh live => ?_⟩, fun k idle => ?_, fun k l last enabled live => ?_⟩
  · refine ⟨_, frame _ (gsFrame_of_no_subscription up foreign untagged unsecured encoded none), ?_⟩
    exact rxDisc_leads s.mod p
  · have reached := gsFrame_of_one_subscription up foreign untagged unsecured encoded k.isLt own others
    refine ⟨_, frame _ (reached.trans (gsReach_of_other_shape real normal shape)), ?_⟩
    obtain ⟨count, mem, reports⟩ := rxDisc_gsCfgRaise_leads s.mod p k
    exact ⟨count.trans (rxDisc_leads s.mod p).1, mem, reports⟩
  · have reached := gsFrame_of_one_subscription up foreign untagged unsecured encoded k.isLt own others
    refine ⟨_, frame _ (reached.trans (gsReach_of_first real normal shape first)), ?_⟩
    obtain ⟨⟨upd, stNum, sqNum, tal, sec, arrival, members, rest⟩, live, kept⟩ := gsTake_leads s.mod f false k.isLt fits room
    exact ⟨upd, stNum, sqNum, tal, sec, arrival, members, rest, live, kept⟩
  · have reached := gsFrame_of_one_subscription up foreign untagged unsecured encoded k.isLt own others
    exact frame _ (reached.trans (gsReach_of_repeated real normal shape last st sq notFresh live))
  · exact runUp_of_fixed (f := (·.gsLose k)) fun _ => gsLose_of_not_due idle
  · exact ⟨_, runUp_of_up up (·.gsLose k), gsLose_leads s.mod k.isLt enabled last live⟩

end Sys2Proof.Machine

namespace Sys2Proof.Machine
variable {m n : Module}

/-! ### O35: publications (R220, R221, R227, R228) -/

/-- A read by a bus master finds its words whole (R91, R112). -/
def Module.readsWhole (m : Module) (b a c : Nat) : Prop :=
  m.grants b (beatsOf a c) ∧ ∀ w ∈ m.eng.failing, w + 4 ≤ a ∨ a + c ≤ w

theorem masterRead_of_whole {a c : Nat} (h : ∀ w ∈ m.eng.failing, w + 4 ≤ a ∨ a + c ≤ w) (reader : Nat) :
    m.masterRead reader a c = m := by
  have none : m.eng.failing.find? (fun w => decide (a < w + 4 ∧ w < a + c)) = none := by
    rw [List.find?_eq_none]
    intro w hw inside
    have apart := h w hw
    have overlap := of_decide_eq_true inside
    omega
  simp only [Module.masterRead, none]

/-- An access that reads whole words at once goes on with them (R91, R112). -/
theorem busAsk_of_readsWhole {b a c : Nat} (h : m.readsWhole b a c) (reader : Nat) (op : BusOp) (run : Module → Module) :
    m.busAsk b (beatsOf a c) op (fun m => run (m.masterRead reader a c)) = run (m.charge b (beatsOf a c)) := by
  rw [busAsk_of_grants h.1, masterRead_of_whole (m := m.charge b (beatsOf a c)) h.2]

theorem seqsOn_eq (m : Module) (h : SentHead) : ∃ seqs, m.seqsOn h = { m with pb := { m.pb with seqs := seqs } } := by
  refine List.foldlRecOn (motive := fun l : Module => ∃ seqs, l = { m with pb := { m.pb with seqs := seqs } }) _ _ ⟨m.pb.seqs, rfl⟩ ?_
  rintro _ ⟨seqs, rfl⟩ q -
  split
  · exact ⟨_, rfl⟩
  · exact ⟨_, rfl⟩

/-! #### SV publications (R221) -/

/-- Samples per second of SV publication `k`, those of one frame, and the last instant that has passed (R220, R221). -/
def Module.svRateOut (m : Module) (k : Nat) : Nat := svRate (bitsN (m.svPub k 0) 25 23)
def Module.svCount (m : Module) (k : Nat) : Nat := max 1 (min 8 (bitsN (m.svPub k 0) 19 16))
def Module.svLast (m : Module) (k : Nat) : Nat := m.todSec * m.svRateOut k + m.todNs * m.svRateOut k / 1000000000

/-- Sample `num` of SV publication `k` (R220). -/
def Module.svSent (m : Module) (k num : Nat) : SvSent :=
  ⟨num % m.svRateOut k, m.svPubSynch k,
    (List.range (bitsN (m.svPub k 0) 15 11)).map (fun c => m.svPubValue k c (svTime (m.svRateOut k) num) (m.svRateOut k))⟩

section
variable {k : Nat}

theorem svPublish_of_off (h : (m.svPub k 0).testBit 31 = false ∨ m.up = false ∨ m.hl.hold = true) : m.svPublish k = m := by
  refine if_pos ?_
  obtain h | h | h := h <;> simp [h]

variable (enabled : (m.svPub k 0).testBit 31 = true) (up : m.up = true) (follows : m.hl.hold = false)
include enabled up follows

theorem svPublish_of_readsWhole (whole : m.readsWhole Bus.pb (0x01840C00 + 96 * k) 96) :
    m.svPublish k = (m.charge Bus.pb (beatsOf (0x01840C00 + 96 * k) 96)).svPublishNow k := by
  have on : ¬ ((!(m.svPub k 0).testBit 31) = true ∨ (!m.up) = true ∨ m.hl.hold = true) := by simp [enabled, up, follows]
  exact (if_neg on).trans (busAsk_of_readsWhole whole 0xB (.sv k) (·.svPublishNow k))

variable (rate : bitsN (m.svPub k 0) 25 23 ≤ 4)
include rate

/-- Without ticks a publication stops (R221). -/
theorem svPublishNow_of_not_ticking (h : m.ticking = false) :
    m.svPublishNow k = { m with pb := { m.pb with svPubNext := SMap.setD 0 m.pb.svPubNext k 0 } } := by
  have on : ¬ ((!(m.svPub k 0).testBit 31) = true ∨ 4 < bitsN (m.svPub k 0) 25 23 ∨ (!m.up) = true ∨ m.hl.hold = true) := by
    simp [enabled, up, follows, rate]
  simp only [Module.svPublishNow, if_neg on, h]
  rfl

/-- Under way, with its last instant passed, a publication sends its samples (R220, R221). -/
theorem svPublishNow_of_due (ticks : m.ticking = true) (underWay : SMap.getD 0 m.pb.svPubNext k ≠ 0)
    (due : SMap.getD 0 m.pb.svPubNext k + m.svCount k ≤ m.svLast k + 2) :
    m.svPublishNow k = Module.seqsOn { m with pb := { m.pb with
      sentSv := SMap.setD [] m.pb.sentSv k ((List.range (m.svCount k)).map (fun j => m.svSent k (m.svLast k + 1 - m.svCount k + j)))
      svHead := SMap.setD none m.pb.svHead k (some (m.svPubHead k))
      svPubNext := SMap.setD 0 m.pb.svPubNext k (m.svLast k + 2) } } (m.svPubHead k) := by
  have on : ¬ ((!(m.svPub k 0).testBit 31) = true ∨ 4 < bitsN (m.svPub k 0) 25 23 ∨ (!m.up) = true ∨ m.hl.hold = true) := by
    simp [enabled, up, follows, rate]
  have running : ¬ (!m.ticking) = true := by simp [ticks]
  have begun : ¬ (SMap.getD 0 m.pb.svPubNext k = 0 ∧ (m.svLast k + 1 - m.svCount k) % m.svRateOut k ≠ 0) := fun h => underWay h.1
  have passed : ¬ (m.svLast k + 1 - m.svCount k + 1 < SMap.getD 0 m.pb.svPubNext k) := by omega
  exact (if_neg on).trans ((if_neg running).trans ((if_neg begun).trans (if_neg passed)))

end

/-- What a publication's frame leaves: its samples numbered up to the last instant, and the instant it waits for (R221). -/
theorem svPublishNow_leads {k : Nat} {l : Module} (underWay : SMap.getD 0 m.pb.svPubNext k ≠ 0)
    (due : SMap.getD 0 m.pb.svPubNext k + m.svCount k ≤ m.svLast k + 2)
    (sends : l = Module.seqsOn { m with pb := { m.pb with
      sentSv := SMap.setD [] m.pb.sentSv k ((List.range (m.svCount k)).map (fun j => m.svSent k (m.svLast k + 1 - m.svCount k + j)))
      svHead := SMap.setD none m.pb.svHead k (some (m.svPubHead k))
      svPubNext := SMap.setD 0 m.pb.svPubNext k (m.svLast k + 2) } } (m.svPubHead k)) :
    (SMap.getD [] l.pb.sentSv k).map (·.smpCnt)
      = (List.range (m.svCount k)).map (fun j => (m.svLast k + 1 + j - m.svCount k) % m.svRateOut k)
    ∧ (∀ x ∈ SMap.getD [] l.pb.sentSv k, x.vals.length = bitsN (m.svPub k 0) 15 11)
    ∧ SMap.getD 0 l.pb.svPubNext k = m.svLast k + 2 ∧ SMap.getD none l.pb.svHead k = some (m.svPubHead k)
    ∧ l = { m with pb := { m.pb with
        sentSv := l.pb.sentSv, svPubNext := l.pb.svPubNext, svHead := l.pb.svHead, seqs := l.pb.seqs } } := by
  obtain ⟨seqs, numbered⟩ := seqsOn_eq _ (m.svPubHead k)
  rw [numbered] at sends
  subst sends
  have enough : m.svCount k ≤ m.svLast k + 1 := by omega
  simp only [SMap.getD_setD_same]
  refine ⟨?_, ?_, trivial, trivial, trivial⟩
  · rw [List.map_map]
    refine List.map_congr_left fun j _ => ?_
    show (m.svLast k + 1 - m.svCount k + j) % _ = _
    rw [show m.svLast k + 1 - m.svCount k + j = m.svLast k + 1 + j - m.svCount k by omega]
  · intro x hx
    obtain ⟨j, -, rfl⟩ := List.mem_map.1 hx
    rw [Module.svSent, List.length_map, List.length_range]

/-! #### GOOSE publications (R227, R228) -/

theorem gpSend_leads (m : Module) (k : Nat) (g : GoosePub) (fresh : Bool) :
    SMap.getD none (m.gpSend k g fresh).pb.pubs k = some g
    ∧ m.gpSend k g fresh = { m with pb := { m.pb with
        pubs := (m.gpSend k g fresh).pb.pubs, gpHead := (m.gpSend k g fresh).pb.gpHead, seqs := (m.gpSend k g fresh).pb.seqs } } := by
  unfold Module.gpSend
  extract_lets t h
  obtain ⟨seqs, numbered⟩ := seqsOn_eq { m with pb := { m.pb with
    pubs := SMap.setD none m.pb.pubs k (some g), gpHead := SMap.setD none m.pb.gpHead k (some h) } } h
  have sent : SMap.getD none (SMap.setD none m.pb.pubs k (some g)) k = some g := SMap.getD_setD_same ..
  rw [numbered]
  exact ⟨sent, rfl⟩

theorem gpTmin_congr {k : Nat} (entry : ∀ w, n.gpEntry k w = m.gpEntry k w) : n.gpTmin k = m.gpTmin k := by
  simp only [Module.gpTmin, entry]

theorem gpVals_congr {k : Nat} (mem : n.mem = m.mem) (entry : ∀ w, n.gpEntry k w = m.gpEntry k w) : n.gpVals k = m.gpVals k := by
  rw [Module.gpVals, Module.gpVals, entry, mbytes_of_mem mem]

section
variable {k : Nat}

theorem gpRetransmit_of_off (h : m.gpEnabled k = false ∨ m.up = false ∨ m.hl.hold = true ∨ SMap.getD none m.pb.pubs k = none) :
    m.gpRetransmit k = m := by
  unfold Module.gpRetransmit
  split
  · rfl
  · next on =>
    split
    · rfl
    · next g state => simp_all

variable (enabled : m.gpEnabled k = true) (up : m.up = true) (follows : m.hl.hold = false) {g : GoosePub}
  (state : SMap.getD none m.pb.pubs k = some g)
include enabled up follows state

theorem gpRetransmit_of_state : m.gpRetransmit k = m.gpSend k ⟨g.st, gooseNext g.sq, min (2 * g.interval) (m.gpTmax k), m.now, g.vals,
    2 * min (2 * g.interval) (m.gpTmax k)⟩ false := by
  rw [Module.gpRetransmit, if_neg (by simp [enabled, up, follows]), state]

/-- The values compared with the set last published: the same leave the publication, others begin its next state (R228). -/
theorem gpCompareNow_leads : SMap.getD none (m.gpCompareNow k).pb.pubs k = (if g.vals = m.gpVals k then some g else
      some ⟨gooseNext g.st, 0, m.gpTmin k, m.now, m.gpVals k, 2 * m.gpTmin k⟩)
    ∧ (m.gpCompareNow k).mem = m.mem := by
  rw [Module.gpCompareNow, if_neg (by simp [enabled, up, follows]), state]
  show SMap.getD none (Module.pb (if g.vals = m.gpVals k then m else m.gpSend k _ true)).pubs k = _
    ∧ Module.mem (if g.vals = m.gpVals k then m else m.gpSend k _ true) = _
  split
  · exact ⟨state, rfl⟩
  · obtain ⟨sent, only⟩ := gpSend_leads m k ⟨gooseNext g.st, 0, m.gpTmin k, m.now, m.gpVals k, 2 * m.gpTmin k⟩ true
    refine ⟨sent, ?_⟩
    rw [only]

theorem gpCompare_leads (whole : m.readsWhole Bus.pb (0x01860000 + 512 * k) (8 * bitsN (m.gpEntry k 0) 6 0)) :
    SMap.getD none (m.gpCompare k).pb.pubs k = (if g.vals = m.gpVals k then some g else
      some ⟨gooseNext g.st, 0, m.gpTmin k, m.now, m.gpVals k, 2 * m.gpTmin k⟩)
    ∧ (m.gpCompare k).mem = m.mem := by
  have asks : m.gpCompare k = (m.charge Bus.pb (beatsOf (0x01860000 + 512 * k) (8 * bitsN (m.gpEntry k 0) 6 0))).gpCompareNow k :=
    (if_neg (by simp [enabled, up, follows])).trans (busAsk_of_readsWhole whole 0xB (.goose k) (·.gpCompareNow k))
  let l := m.charge Bus.pb (beatsOf (0x01860000 + 512 * k) (8 * bitsN (m.gpEntry k 0) 6 0))
  obtain ⟨compared, kept⟩ := gpCompareNow_leads (m := l) enabled up follows state
  rw [gpVals_congr (m := m) (n := l) rfl fun _ => rfl, gpTmin_congr (m := m) (n := l) fun _ => rfl] at compared
  rw [asks]
  exact ⟨compared, kept⟩

end

/-! #### A write of PB_GPUB_SEND in the SET window (R55, R58, R228) -/

/-- The row of PB_GPUB_SEND (R232). -/
def pubSendRow : RegDef := ⟨R.PB_GPUB_SEND, 1, 0, 1, 0, false, .val 0, .any, false, [⟨31, 0, .rw⟩]⟩

/-- Setting the bits `v` of PB_GPUB_SEND, which make it `new`, as the decision table sees it. -/
def pubSendWr (v new : DWord) : Wr := ⟨⟨pubSendRow, 0, 0, 0⟩, R.PB_GPUB_SEND, Win.set, v, v, new⟩

theorem findReg_pubSend : findReg R.PB_GPUB_SEND regTable = some ⟨pubSendRow, 0, 0, 0⟩ := rfl

theorem place_pubSend (free : m.sys.inspecting = false) :
    m.place (winBase Win.set + R.PB_GPUB_SEND) 4 = .ok ⟨Win.set, R.PB_GPUB_SEND, ⟨pubSendRow, 0, 0, 0⟩⟩ := by
  have reached : ¬ (m.sys.inspecting = true ∧ 0x20000 ≤ R.PB_GPUB_SEND) := by simp [free]
  have window : winOf (winBase Win.set + R.PB_GPUB_SEND) = some (Win.set, R.PB_GPUB_SEND) := by decide
  simp only [Module.place, window, findReg_pubSend, if_neg reached]
  rfl

/-- No reason of R58 refuses to set bits of PB_GPUB_SEND. -/
theorem writeReason_pubSend {v new : DWord} (used : v &&& ~~~ pubSendRow.used = 0) : m.writeReason (pubSendWr v new) = none := by
  have held : m.heldBits ⟨pubSendRow, 0, 0, 0⟩ R.PB_GPUB_SEND = 0 := by
    simp [Module.heldBits, RegDef.maskOf, pubSendRow, Access.voted]
  have may : m.mayWrite (pubSendWr v new) = true := rfl
  have writable : ¬ (pubSendRow.fields.all (fun f => f.acc == .ro) = true ∨ R.PB_GPUB_SEND / 0x10000 = 0xD) := by decide
  have plain : ¬ ((pubSendRow.counter || pubSendRow.holdsWo) = true) := by decide
  have free : pubSendRow.maskOf (fun f => f.acc == .ro || f.acc == .wo || f.acc == .w1c) = 0 := rfl
  rw [Module.writeReason, may]
  simp only [pubSendWr, used, held, free, if_neg writable, plain]
  simp

/-- The write sets the register and drops its upset copies, nothing else. -/
theorem writeFields_pubSend (m : Module) (v new : DWord) : ∃ regs upsets,
    m.writeFields (pubSendWr v new) = { m with regs := regs, upsets := upsets }
    ∧ ∀ a, a ≠ R.PB_GPUB_SEND → (m.writeFields (pubSendWr v new)).rd a = m.rd a := by
  have eq : m.writeFields (pubSendWr v new) = (m.wr R.PB_GPUB_SEND (((m.rd R.PB_GPUB_SEND &&& ~~~ pubSendRow.used)
      ||| (new &&& pubSendRow.used)) &&& ~~~ (0 &&& v))).dropUpsets R.PB_GPUB_SEND pubSendRow.used := by
    unfold Module.writeFields
    exact if_pos rfl
  rw [eq]
  exact ⟨_, _, rfl, fun a ha => rd_wr_ne m _ ha.symm⟩

theorem fget_fmask_bit {k j : Nat} (hj : j < 64) : (fget (fmask ⟨k, k⟩) ⟨j, j⟩ != 0) = decide (j = k) := by
  have bit : fget (fmask ⟨k, k⟩) ⟨j, j⟩ = ((fmask ⟨k, k⟩).getLsbD j).toNat := by
    rw [fget_eq, BitVec.getLsbD, Nat.toNat_testBit, show j + 1 - j = 1 by omega]
    rfl
  have own : (k ≤ j ∧ j < k + 1) ↔ j = k := by omega
  rw [bit, fmask_getLsbD _ _ hj, decide_eq_decide.2 own]
  cases decide (j = k) <;> rfl

/-- Of the sends a write of one bit asks for, one acts (R228). -/
theorem afterWrite_pubSend (m old : Module) (k : Fin 32) (new : DWord) :
    m.afterWrite old (pubSendWr (fmask ⟨k, k⟩) new) = m.goPubSend k := by
  have sends : m.afterWrite old (pubSendWr (fmask ⟨k, k⟩) new)
      = (List.range 32).foldl (fun m j => if fget (fmask ⟨k, k⟩) ⟨j, j⟩ != 0 then m.goPubSend j else m) m := by
    simp only [Module.afterWrite, Module.afterCore, Module.goIf, Wr.sets, pubSendWr, pubSendRow, R.PB_GPUB_SEND, R.SYS_MODE_REQ,
      R.SYS_SHUNT, R.SYS_TIMES, R.SYS_SHUNT_EX, R.HOST_IRQ_EN, R.TTB_CTRL, R.LU_CTRL, R.CLK_CFG, R.CLK_CTRL, R.ENG_GAUGE, R.PB_CTRL]
    rfl
  have asked (j : Nat) (hj : j < 32) : (fget (fmask ⟨k, k⟩) ⟨j, j⟩ != 0) = decide (j = k) := fget_fmask_bit (by omega)
  have one := filter_range_eq_singleton (p := fun j => fget (fmask ⟨k, k⟩) ⟨j, j⟩ != 0) k.isLt (by simp [asked k k.isLt])
    (fun j hj other => by simp [asked j hj, other])
  rw [sends, ← List.foldl_filter, one]
  rfl

theorem writeEffect_pubSend (m : Module) (k : Fin 32) (new : DWord) :
    m.writeEffect (pubSendWr (fmask ⟨k, k⟩) new) = (m.writeFields (pubSendWr (fmask ⟨k, k⟩) new)).goPubSend k := by
  have fields : ¬ R.PB_GPUB_SEND = R.SYS_MODE_REQ := by decide
  exact (congrArg (fun l : Module => l.afterWrite m (pubSendWr (fmask ⟨k, k⟩) new)) (if_neg fields)).trans (afterWrite_pubSend _ m k new)

/-- A host that sets a bit of PB_GPUB_SEND reaches its publication with the register written and nothing else changed. -/
theorem setBitHost_pubSend (up : m.up = true) (k : Fin 32) : ∃ l : Module, m.setBitHost R.PB_GPUB_SEND ⟨k, k⟩ = l.goPubSend k
    ∧ (∃ host regs upsets, l = { m with host := host, regs := regs, upsets := upsets })
    ∧ ∀ a, a ≠ R.PB_GPUB_SEND → l.rd a = m.rd a := by
  have ⟨live, free⟩ : m.live = true ∧ m.sys.inspecting = false := by simpa [Module.up] using up
  have ⟨word, used⟩ : lanes (fmask ⟨k, k⟩) 0 4 = fmask ⟨k, k⟩ ∧ fmask ⟨k, k⟩ &&& ~~~ pubSendRow.used = 0 := by
    revert k
    decide
  have voted := voteReg_of_unvoted (m.setHigh .pcie none) findReg_pubSend (by decide)
  have narrow : pubSendRow.wide = false := rfl
  have ones (old : DWord) : fmask ⟨k, k⟩ &&& (old ||| fmask ⟨k, k⟩) = fmask ⟨k, k⟩ := by
    ext i
    simp +contextual
  let new := (m.setHigh .pcie none).pendView R.PB_GPUB_SEND ||| fmask ⟨k, k⟩
  obtain ⟨regs, upsets, fields, others⟩ := writeFields_pubSend (m.setHigh .pcie none) (fmask ⟨k, k⟩) new
  have accepted := writeReason_pubSend (m := m.setHigh .pcie none) (new := new) used
  have effect := writeEffect_pubSend (m.setHigh .pcie none) k new
  refine ⟨_, ?_, ⟨_, regs, upsets, fields⟩, others⟩
  simp only [Module.setBitHost, Module.pcieWrite, Module.hostServed, live, Module.regWrite,
    place_pubSend (m := m.setHigh .pcie none) free, word, narrow, voted, winOp]
  simp only [pubSendWr, new] at accepted effect ⊢
  simp [accepted, effect, ones]

/-! #### PB_GPUB_SEND (R228) -/

theorem goPubSend_of_host {k : Nat} (enabled : m.gpEnabled k = true) (host : m.gpHost k = true) :
    m.goPubSend k = (m.gpCompare k).setBit R.PB_GPUB_SEND k false := by
  simp only [Module.goPubSend, enabled, host]
  rfl

theorem goPubSend_of_not_host {k : Nat} (h : m.gpHost k = false) : m.goPubSend k = m.setBit R.PB_GPUB_SEND k false := by
  simp only [Module.goPubSend, h, Bool.and_false]
  rfl

section
variable {k : Fin 32} (up : m.up = true)
include up

/-- A bit of PB_GPUB_SEND of a publication that engines own, or none does, is only cleared (R228). -/
theorem pubSend_of_not_host (h : m.gpHost k = false) : (m.setBitHost R.PB_GPUB_SEND ⟨k, k⟩).pb = m.pb
    ∧ (m.setBitHost R.PB_GPUB_SEND ⟨k, k⟩).bit R.PB_GPUB_SEND k = false := by
  obtain ⟨_, sends, ⟨host, regs, upsets, rfl⟩, -⟩ := setBitHost_pubSend up k
  let l : Module := { m with host := host, regs := regs, upsets := upsets }
  rw [sends, goPubSend_of_not_host (m := l) h]
  exact ⟨rfl, bit_setBit_same (m := l) _ _ _ (by omega)⟩

/-- A bit of PB_GPUB_SEND of a publication the host owns compares its values and is cleared (R228). -/
theorem pubSend_of_host {g : GoosePub} (enabled : m.gpEnabled k = true) (host : m.gpHost k = true) (follows : m.hl.hold = false)
    (state : SMap.getD none m.pb.pubs k = some g)
    (whole : m.readsWhole Bus.pb (0x01860000 + 512 * k) (8 * bitsN (m.gpEntry k 0) 6 0)) :
    SMap.getD none (m.setBitHost R.PB_GPUB_SEND ⟨k, k⟩).pb.pubs k = (if g.vals = m.gpVals k then some g else
      some ⟨gooseNext g.st, 0, m.gpTmin k, m.now, m.gpVals k, 2 * m.gpTmin k⟩)
    ∧ (m.setBitHost R.PB_GPUB_SEND ⟨k, k⟩).bit R.PB_GPUB_SEND k = false ∧ (m.setBitHost R.PB_GPUB_SEND ⟨k, k⟩).mem = m.mem := by
  obtain ⟨_, sends, ⟨port, regs, upsets, rfl⟩, others⟩ := setBitHost_pubSend up k
  let l : Module := { m with host := port, regs := regs, upsets := upsets }
  have grants : l.grants Bus.pb (beatsOf (0x01860000 + 512 * k) (8 * bitsN (m.gpEntry k 0) 6 0)) :=
    (grants_congr (m := m) (n := l) rfl rfl (others R.TTB_STAT (by decide)) _ _).2 whole.1
  obtain ⟨compared, kept⟩ := gpCompare_leads (m := l) enabled up follows state ⟨grants, whole.2⟩
  rw [gpVals_congr (m := m) (n := l) rfl fun _ => rfl, gpTmin_congr (m := m) (n := l) fun _ => rfl] at compared
  rw [sends, goPubSend_of_host (m := l) enabled host]
  exact ⟨compared, bit_setBit_same (m := l.gpCompare k) _ _ _ (by omega), kept⟩
end

/-! #### The obligation -/

theorem svRate_of_le {c : Nat} (h : c ≤ 4) : svRate c = [4000, 4800, 12800, 14400, 15360].getD c 0 := by
  interval_cases c <;> rfl

theorem gpTmin_eq (m : Module) (k : Nat) :
    m.gpTmin k = if bitsN (m.gpEntry k 5) 15 0 = 0 then 2 else bitsN (m.gpEntry k 5) 15 0 := by
  unfold Module.gpTmin
  split <;> simp_all

/-- What a bus master asks for and the words it reads are there (R91, R112). -/
theorem readsWhole_of {b a c : Nat} (h : (∀ w ∈ m.eng.busWait, w.1 ≠ b) ∧ m.used b + beatsOf a c ≤ m.budget b
    ∧ ∀ w ∈ m.eng.failing, w + 4 ≤ a ∨ a + c ≤ w) : m.readsWhole b a c :=
  ⟨⟨h.1, h.2.1⟩, h.2.2⟩

theorem exec_svPublicationSend_of_readsWhole {s : State} {k : Fin 4} (enabled : (s.mod.svPub k 0).testBit 31 = true)
    (up : s.mod.up = true) (follows : s.mod.hl.hold = false) (whole : s.mod.readsWhole Bus.pb (0x01840C00 + 96 * k) 96) :
    exec (.svPublicationSend k) s
      = .next ⟨(s.mod.charge Bus.pb (beatsOf (0x01840C00 + 96 * k) 96)).svPublishNow k, s.pending⟩ := by
  rw [← svPublish_of_readsWhole enabled up follows whole]
  exact runUp_of_up up (·.svPublish k)

/-- Settles O35: the access of a publication's values is granted (`svPublish_of_readsWhole`, `gpCompare_leads`), and then what
is sent is what `svPublishNow_leads` and `gpSend_leads` give; the host's bit is a write of PB_GPUB_SEND. -/
theorem publicationsAreSent : Obligations.PublicationsAreSent := by
  intro s
  refine ⟨fun k => ⟨fun off => runUp_of_fixed (f := (·.svPublish k)) fun _ => svPublish_of_off off,
      fun enabled rate up follows whole => ?_⟩,
    fun k => ⟨fun off => runUp_of_fixed (f := (·.gpRetransmit k)) fun _ => gpRetransmit_of_off off,
      fun enabled up follows g state => ⟨?_, ?_, ?_⟩⟩⟩
  · have whole := readsWhole_of whole
    have runs := exec_svPublicationSend_of_readsWhole enabled up follows whole
    let l := s.mod.charge Bus.pb (beatsOf (0x01840C00 + 96 * k) 96)
    refine ⟨fun stopped => ⟨_, runs, ?_⟩, fun ticks underWay due => ⟨_, runs, ?_⟩⟩
    · rw [svPublishNow_of_not_ticking (m := l) enabled up follows rate stopped]
      have waits : SMap.getD 0 (SMap.setD 0 s.mod.pb.svPubNext k 0) k = 0 := SMap.getD_setD_same ..
      exact ⟨waits, rfl, rfl⟩
    · rw [← svRate_of_le rate] at due ⊢
      obtain ⟨numbers, values, instant, header, only⟩ := svPublishNow_leads (m := l) underWay due
        (svPublishNow_of_due (m := l) enabled up follows rate ticks underWay due)
      refine ⟨numbers, values, instant, header, ?_, ?_⟩ <;> rw [only] <;> rfl
  · obtain ⟨sent, only⟩ := gpSend_leads s.mod k ⟨g.st, gooseNext g.sq, min (2 * g.interval) (s.mod.gpTmax k), s.mod.now, g.vals,
      2 * min (2 * g.interval) (s.mod.gpTmax k)⟩ false
    rw [← gpRetransmit_of_state enabled up follows state] at sent only
    exact ⟨_, runUp_of_up up (·.gpRetransmit k), sent, only⟩
  · intro host whole
    have compared := pubSend_of_host up enabled host follows state (readsWhole_of whole)
    rw [gpTmin_eq] at compared
    exact ⟨_, rfl, compared⟩
  · intro other
    obtain ⟨kept, cleared⟩ := pubSend_of_not_host up other
    refine ⟨_, rfl, ?_, cleared, kept⟩
    show SMap.getD none (s.mod.setBitHost R.PB_GPUB_SEND ⟨k, k⟩).pb.pubs k = some g
    rw [kept]
    exact state

end Sys2Proof.Machine

namespace Sys2Proof.Machine
variable {m n : Module}

/-! ### Instructions that complete (R73, R138) -/

section
variable {x : Issue} {b b' : Blk} {len pc : Nat} {reps : List Rep} {sem : Module → Blk → Except Stop (Module × Blk)}

theorem issueRaw_of_ok (issues : Issues m x b) (h : sem m b = .ok (n, b')) : m.issueRaw x sem = n.setBlk x.le (some b') := by
  obtain ⟨isOpen, running, free, undetected, inCode⟩ := issues
  simp only [Module.issueRaw, isOpen, running, free, undetected, if_neg (Nat.not_le.2 inCode), h]
  rfl

/-- An effect that keeps the calls and the repeats under way: the block goes on where `GoesOn` says. -/
theorem issue_of_ok (goes : GoesOn m x len b pc reps) (h : sem m b = .ok (n, b')) (calls : b'.calls = b.calls)
    (levels : b'.reps = b.reps) : m.issue x len sem = n.setBlk x.le (some { b' with pc := pc, reps := reps }) := by
  have onward : b'.goto (b.pc + len) = .ok { b' with pc := pc, reps := reps } := by
    rw [Blk.goto, calls, levels, goes.goes]
  refine issueRaw_of_ok goes.issues ?_
  rw [h]
  show (b'.goto (b.pc + len) >>= _) = _
  rw [onward]
  rfl

/-- A command that issues `sem` runs as `f` says where `sem` changes the block alone, by `f`. -/
theorem runsBlk_of_issue {c : Instr} {ok : Module → Blk → Prop} {f : Module → Blk → Blk}
    (isIssue : ∀ s, exec c s = s.run (·.issue x len sem)) (effect : ∀ m b, ok m b → sem m b = .ok (m, f m b))
    (calls : ∀ m b, (f m b).calls = b.calls) (levels : ∀ m b, (f m b).reps = b.reps) : RunsBlk c x len ok f := by
  intro s b pc reps goes allowed
  rw [isIssue]
  exact run_of_eq (issue_of_ok goes (effect s.mod b allowed) (calls s.mod b) (levels s.mod b))

/-- The same for a load into a register. -/
theorem runsBlk_of_load {c : Instr} {ok : Module → Blk → Prop} {set : RegFile → Word → RegFile}
    {ld : Module → Blk → Except Stop Word} {v : Module → Blk → Word} (isLoad : ∀ s, exec c s = s.run (·.loadInto x len set ld))
    (found : ∀ m b, ok m b → ld m b = .ok (v m b)) :
    RunsBlk c x len ok (fun m b => { b with regs := set b.regs (v m b) }) :=
  runsBlk_of_issue isLoad (fun m b allowed => by rw [found m b allowed]; rfl) (fun _ _ => rfl) (fun _ _ => rfl)

end

/-! ### Accesses that pass the checks of R132 -/

section
variable {e a : Nat} {b : Blk} {t : TaskInfo}

theorem dmLoad_of_inside (loaded : m.taskInfo e b.task = some t) (inside : dmCheck t a false = .ok ())
    (good : m.dmAddr e a ∉ m.eng.failing) : m.dmLoad e b a = .ok (m.mw (m.dmAddr e a)) := by
  rw [Module.dmLoad, certE_of_loaded loaded]
  show (dmCheck t a false >>= _) = _
  rw [inside]
  exact if_neg (mt List.contains_iff_mem.1 good)

theorem dmStore_of_inside (loaded : m.taskInfo e b.task = some t) (inside : dmCheck t a true = .ok ())
    (room : b.journal.length < 2048) (w : Word) : m.dmStore e b a w =
      .ok (m.setMw (m.dmAddr e a) w, { b with journal := (a, m.mw (m.dmAddr e a)) :: b.journal }) := by
  rw [Module.dmStore, certE_of_loaded loaded]
  show (dmCheck t a true >>= _) = _
  rw [inside]
  exact if_neg (Nat.not_le.2 room)

theorem yardCheck_of_writable (aligned : a % 4 = 0) (h : m.yardWritable e a = true) : m.yardCheck e a true = .ok () := by
  simp [Module.yardCheck, aligned, h]

theorem readCheck_of_good (undrained : m.drains e a = false) (good : a ∉ m.eng.failing) (src base : Nat) :
    m.readCheck e a src base = .ok () := by
  rw [Module.readCheck, if_neg (by simp [undrained]), if_neg (mt List.contains_iff_mem.1 good)]

theorem yardLoad_of_finds (readable : m.yardCheck e a false = .ok ()) (found : m.finds e b a) :
    m.yardLoad e b a = .ok (m.stagedRead b a) := by
  rw [Module.yardLoad, readable]
  show (if b.staged a then _ else m.readCheck e a 2 0 >>= _) = _
  obtain staged | ⟨undrained, good⟩ := found
  · exact if_pos staged
  · rw [readCheck_of_good undrained good]
    exact ite_self _

/-- What the block staged there, else what the memory holds (R106, R134). -/
theorem stagedRead_eq (m : Module) (b : Blk) (a : Nat) :
    m.stagedRead b a = ((b.st.words.find? (fun q => q.1 == a)).map (·.2)).getD (m.mw a) := by
  unfold Module.stagedRead
  split
  · next h => rw [h]; rfl
  · next h => rw [h]; rfl

theorem stageWord_of_room (room : b.staged a = true ∨ m.room e b 1) (w : Word) : m.stageWord e b a w =
    .ok { b with st := { b.st with words := (a, w) :: b.st.words.filter (fun q => q.1 ≠ a) } } := by
  unfold Module.stageWord
  extract_lets old
  obtain staged | ⟨own, buffer⟩ := room
  · have known : old = true := staged
    simp [known]
  · rw [if_neg (by simp; omega), if_neg (by simp; omega)]

theorem yardStore_of_room (writable : m.yardCheck e a true = .ok ()) (room : b.staged a = true ∨ m.room e b 1) (w : Word) :
    m.yardStore e b a w = .ok (m, { b with st := { b.st with words := (a, w) :: b.st.words.filter (fun q => q.1 ≠ a) } }) := by
  rw [Module.yardStore, writable]
  show (m.stageWord e b a w >>= _) = _
  rw [stageWord_of_room room]
  rfl

theorem tblCheck_of_word {tbl idx word : Nat} {i : TblItem} (loaded : m.taskInfo e b.task = some t) (item : t.tbl[tbl]? = some i)
    (entry : idx < i.count) (inEntry : word < i.size) (aligned : m.tblAddr i idx word % 4 = 0) {write : Bool}
    (allowed : write = false ∨ i.access = 2) : m.tblCheck e b tbl idx word write = .ok (m.tblAddr i idx word) := by
  rw [Module.tblCheck, certE_of_loaded loaded]
  show (match t.tbl[tbl]? with | none => _ | some i => _) = _
  rw [item]
  show (if _ then _ else if _ then _ else if _ then _ else _) = _
  rw [if_neg (by omega), if_neg (by omega), if_neg (by rcases allowed with h | h <;> simp [h])]
  rfl

/-- A read of a table word changes the block at most in the entries of the sample table it has frozen (R240). -/
theorem seeAfe_eq (m : Module) (b : Blk) (a : Nat) : ∃ v, m.seeAfe b a = { b with viewAfe := v } := by
  unfold Module.seeAfe
  extract_lets c
  split
  · exact ⟨_, rfl⟩
  · exact ⟨b.viewAfe, rfl⟩

theorem tblGet_of_finds (found : m.finds e b a) : m.tblGet e b a = .ok (m.tblRead b a) := by
  unfold Module.tblGet
  obtain staged | ⟨undrained, good⟩ := found
  · exact if_pos staged
  · rw [readCheck_of_good undrained good]
    exact ite_self _

theorem finds_seeAfe (found : m.finds e b a) (p : Nat) : m.finds e (m.seeAfe b p) a := by
  obtain ⟨v, h⟩ := seeAfe_eq m b p
  rw [h]
  exact found

end

end Sys2Proof.Machine

namespace Sys2Proof.Machine
variable {m n : Module}

/-! ### O5: loads and table accesses (R133, R134) -/

section
variable {s : State} {c : Instr} {x : Issue} {b : Blk} {pc : Nat} {reps : List Rep} {a tbl word p : Nat}

/-- A table load gives the word as the block sees it, and freezes its entry of the sample table (R133, R134, R240). -/
theorem exec_of_tblLoad {set : RegFile → Word → RegFile} (isLoad : exec c s = s.run (·.tblLoad x a tbl word set))
    (goes : GoesOn s.mod x 1 b pc reps) (checked : s.mod.tblCheck x.le b tbl (b.regs.rg a).toNat word false = .ok p)
    (found : s.mod.finds x.le b p) : exec c s = .next ⟨s.mod.setBlk x.le (some { s.mod.seeAfe b p with
      regs := set b.regs (s.mod.tblRead (s.mod.seeAfe b p) p), pc := pc, reps := reps }), s.pending⟩ := by
  have own : (s.mod.seeAfe b p).calls = b.calls ∧ (s.mod.seeAfe b p).reps = b.reps := by
    obtain ⟨_, seen⟩ := seeAfe_eq s.mod b p
    rw [seen]
    exact ⟨rfl, rfl⟩
  refine isLoad.trans (run_of_eq (issue_of_ok goes
    (b' := { s.mod.seeAfe b p with regs := set b.regs (s.mod.tblRead (s.mod.seeAfe b p) p) }) ?_ own.1 own.2))
  rw [checked]
  show (s.mod.tblGet x.le (s.mod.seeAfe b p) p >>= _) = _
  rw [tblGet_of_finds (finds_seeAfe found p)]
  rfl

/-- A table store stages its word (R106, R133). -/
theorem exec_of_tblStore {v : Blk → Word} (isStore : exec c s = s.run (·.issue x 1 (fun m b => do
      let p ← m.tblCheck x.le b tbl (b.regs.rg a).toNat word true
      let b ← m.stageWord x.le b p (v b)
      pure (m, b))))
    (goes : GoesOn s.mod x 1 b pc reps) (checked : s.mod.tblCheck x.le b tbl (b.regs.rg a).toNat word true = .ok p)
    (room : b.staged p = true ∨ s.mod.room x.le b 1) : exec c s = .next ⟨s.mod.setBlk x.le (some { b with
      pc := pc, reps := reps, st := { b.st with words := (p, v b) :: b.st.words.filter (fun q => q.1 ≠ p) } }), s.pending⟩ := by
  refine isStore.trans (run_of_eq (issue_of_ok goes
    (b' := { b with st := { b.st with words := (p, v b) :: b.st.words.filter (fun q => q.1 ≠ p) } }) ?_ rfl rfl))
  rw [checked]
  show (s.mod.stageWord x.le b p (v b) >>= _) = _
  rw [stageWord_of_room room]
  rfl

end

/-- Settles O5: each load finds its word (`dmLoad_of_inside`, `yardLoad_of_finds`, `exec_of_tblLoad`), and each table store
stages it (`exec_of_tblStore`). -/
theorem loadsAndTableAccesses : Obligations.LoadsAndTableAccesses := by
  refine ⟨fun x d a imm w => ?_, fun x d a tbl word => ?_⟩
  · extract_lets ea inDm inYard dm yard g f
    have dmFound (p : Blk → Nat) (m : Module) (b : Blk) : inDm p m b → m.dmLoad x.le b (p b) = .ok (dm p m b) := by
      rintro ⟨aligned, t, loaded, low, high, good⟩
      exact dmLoad_of_inside loaded (dmCheck_of_inside aligned low high false) good
    have yardFound (p : Blk → Nat) (m : Module) (b : Blk) : inYard p m b → m.yardLoad x.le b (p b) = .ok (yard p m b) := by
      rintro ⟨aligned, readable, found⟩
      rw [yardLoad_of_finds (yardCheck_of_readable aligned readable) found, stagedRead_eq]
    exact ⟨runsBlk_of_load (set := (·.setG d)) (fun _ => rfl) (dmFound ea),
      runsBlk_of_load (set := (·.setF d)) (fun _ => rfl) (dmFound ea),
      runsBlk_of_load (set := (·.setG d)) (fun _ => rfl) (yardFound ea),
      runsBlk_of_load (set := (·.setF d)) (fun _ => rfl) (yardFound ea),
      runsBlk_of_load (set := (·.setG d)) (fun _ => rfl) (yardFound fun _ => w.toNat),
      runsBlk_of_load (set := (·.setF d)) (fun _ => rfl) (yardFound fun _ => w.toNat)⟩
  · extract_lets at' named loads stores
    have read (s : State) (b : Blk) (i : TblItem) : named s.mod b i →
        s.mod.tblCheck x.le b tbl (b.regs.rg a).toNat word false = .ok (at' s.mod b i) := by
      rintro ⟨t, loaded, item, entry, inEntry, aligned⟩
      exact tblCheck_of_word loaded item entry inEntry aligned (.inl rfl)
    have written (s : State) (b : Blk) (i : TblItem) (allowed : i.access = 2) : named s.mod b i →
        s.mod.tblCheck x.le b tbl (b.regs.rg a).toNat word true = .ok (at' s.mod b i) := by
      rintro ⟨t, loaded, item, entry, inEntry, aligned⟩
      exact tblCheck_of_word loaded item entry inEntry aligned (.inr allowed)
    refine ⟨fun s b pc reps i goes item found => ?_, fun s b pc reps i goes item found => ?_,
      fun s b pc reps i goes item allowed room => ?_, fun s b pc reps i goes item allowed room => ?_⟩
    · exact exec_of_tblLoad (set := (·.setG d)) rfl goes (read s b i item) found
    · exact exec_of_tblLoad (set := (·.setF d)) rfl goes (read s b i item) found
    · exact exec_of_tblStore (v := fun b => b.regs.rg d) rfl goes (written s b i allowed item) room
    · exact exec_of_tblStore (v := fun b => b.regs.rF d) rfl goes (written s b i allowed item) room

/-- Settles O56: a case of `exec_answers` for each instruction. -/
theorem engineInstructionsComplete : Obligations.EngineInstructionsComplete := by
  intro s x b _
  simp only [exec_answers, implies_true, and_self]

end Sys2Proof.Machine

namespace Sys2Proof.Machine
variable {m n : Module}

/-! ### O6: stores to DM and yard (R104 to R106, R133) -/

theorem setMw_eng (m : Module) {a : Nat} (aligned : a % 4 = 0) (w : Word) :
    (m.setMw a w).eng = { m.eng with failing := m.eng.failing.filter (fun k => k ≠ a) } := by
  have places : a / 4 * 4 = a ∧ (a + 1) / 4 * 4 = a ∧ (a + 1 + 1) / 4 * 4 = a ∧ (a + 1 + 1 + 1) / 4 * 4 = a := by omega
  simp [Module.setMw, Module.setMn, leBytes, Module.setBytes, places, List.filter_filter]

theorem dmAddr_aligned (m : Module) (e : Nat) {a : Nat} (h : a % 4 = 0) : m.dmAddr e a % 4 = 0 := by
  simp only [Module.dmAddr]
  omega

section
variable {s : State} {c : Instr} {x : Issue} {b : Blk} {pc : Nat} {reps : List Rep} {t : TaskInfo}

/-- A store to DM: its word there, the old one in the journal, and its parity good again (R104, R111, R133). -/
theorem exec_of_dmStore {p : Blk → Nat} {v : Blk → Word}
    (isStore : exec c s = s.run (·.issue x 1 (fun m b => m.dmStore x.le b (p b) (v b)))) (goes : GoesOn s.mod x 1 b pc reps)
    (aligned : p b % 4 = 0) (loaded : s.mod.taskInfo x.le b.task = some t) (low : t.dmBase ≤ p b)
    (high : p b < t.dmBase + t.dmSize) (room : b.journal.length < 2048) : ∃ m, exec c s = .next ⟨m, s.pending⟩
      ∧ m = { s.mod with mem := m.mem, eng := m.eng }
      ∧ m.eng = { (s.mod.setBlk x.le (some { b with
          journal := (p b, s.mod.mw (s.mod.dmAddr x.le (p b))) :: b.journal, pc := pc, reps := reps })).eng with
            failing := s.mod.eng.failing.filter (fun k => k ≠ s.mod.dmAddr x.le (p b)) }
      ∧ m.mw (s.mod.dmAddr x.le (p b)) = v b
      ∧ ∀ k, k < s.mod.dmAddr x.le (p b) ∨ s.mod.dmAddr x.le (p b) + 4 ≤ k → m.mb k = s.mod.mb k := by
  have stored := dmStore_of_inside loaded (dmCheck_of_inside aligned low high true) room (v b)
  have word := mw_setMw_same s.mod (s.mod.dmAddr x.le (p b)) (v b)
  have others (k : Nat) := mb_setMw s.mod (a := s.mod.dmAddr x.le (p b)) (k := k) (v b)
  have eng := setMw_eng s.mod (dmAddr_aligned s.mod x.le aligned) (v b)
  obtain ⟨mem, failing, bytes⟩ := setMn_bytesOnly s.mod (s.mod.dmAddr x.le (p b)) 4 (v b).toNat
  change s.mod.setMw _ _ = _ at bytes
  rw [bytes] at stored word others eng
  refine ⟨_, isStore.trans (run_of_eq (issue_of_ok goes stored rfl rfl)), rfl, ?_, word, others⟩
  rw [show failing = _ from congrArg Eng.failing eng]
  rfl

end

/-! ### O6: a block abandoned (R105, R116) -/

theorem irq_regs_host (m : Module) (i : Nat) : ∃ regs host, m.irq i = { m with regs := regs, host := host } := by
  obtain ⟨host, irq⟩ := irq_eq m i
  exact ⟨_, host, irq⟩

theorem logViolation_eq (m : Module) (addr info : Word) (owner : Nat) : ∃ regs host logq,
    m.logViolation addr info owner = { m with regs := regs, host := host, logq := logq } := by
  unfold Module.logViolation
  extract_lets m1 m2 m3 m4 fresh v
  have shown : ∃ regs host, m4 = { m3 with regs := regs, host := host } := irq_regs_host m3 Irq.VIOL
  have written : ∃ regs, m3 = { m2 with regs := regs } := ⟨_, rfl⟩
  clear_value v fresh m4 m3
  obtain ⟨_, rfl⟩ := written
  obtain ⟨_, _, rfl⟩ := shown
  exact ⟨_, _, _, rfl⟩

/-- A violation stops its block; beside that it is counted, reported and logged. -/
theorem violate_eq (m : Module) (e : Nat) (b : Blk) (reason space off : Nat) (write : Bool) :
    ∃ regs host logq sid reports freeCtr, m.violate e b reason space off write = { m.stopBlk e b with
      regs := regs, host := host, logq := logq, sid := sid, reports := reports, freeCtr := freeCtr } := by
  unfold Module.violate
  extract_lets p m1 m2 m3
  obtain ⟨_, sub⟩ : ∃ sid, m1 = { m.stopBlk e b with sid := sid } := subDanger_eq (m.stopBlk e b) p
  obtain ⟨_, counted⟩ : ∃ regs, m2 = { m1 with regs := regs } := by
    obtain ⟨regs, counted, -⟩ := bump_inv m1 (R.ENG_VIOL p) (R.ENG_SAT p) 3
    exact ⟨regs, counted⟩
  obtain ⟨_, _, _, logged⟩ := logViolation_eq m3 (violAddr space off) (violInfo (if space = 1 then 5 else 0) write 4 .program reason)
    (e <<< 12 + b.task)
  rw [logged]
  unfold m3
  rw [counted, sub]
  exact ⟨_, _, _, _, _, _, rfl⟩

theorem stopBlk_blk_same (m : Module) (e : Nat) (b : Blk) :
    (m.stopBlk e b).blk e = some { (m.restore e b).2 with state := .stopped } := setBlk_blk_same _ _ _

/-- Settles O6: a DM store is `exec_of_dmStore`, a yard store stages its word (`yardStore_of_room`), and a violation leaves what
stopping the block does (`violate_eq`). -/
theorem storesAreJournalledOrStaged : Obligations.StoresAreJournalledOrStaged := by
  refine ⟨fun x d a imm w => ?_, fun m e reason space off b write => ?_⟩
  · extract_lets ea dmStores yardStores
    have staged (p : Blk → Nat) (v : Blk → Word) (m : Module) (b : Blk) : (p b % 4 = 0 ∧ m.yardWritable x.le (p b) = true
        ∧ (b.staged (p b) = true ∨ m.room x.le b 1)) → m.yardStore x.le b (p b) (v b) = .ok (m, { b with
          st := { b.st with words := (p b, v b) :: b.st.words.filter (fun q => q.1 ≠ p b) } }) := by
      rintro ⟨aligned, writable, room⟩
      exact yardStore_of_room (yardCheck_of_writable aligned writable) room (v b)
    refine ⟨fun s b pc reps t => exec_of_dmStore (p := ea) (v := fun b => b.regs.rg d) rfl,
      fun s b pc reps t => exec_of_dmStore (p := ea) (v := fun b => b.regs.rF d) rfl, ?_, ?_, ?_, ?_⟩
    · exact runsBlk_of_issue (fun _ => rfl) (staged ea fun b => b.regs.rg d) (fun _ _ => rfl) (fun _ _ => rfl)
    · exact runsBlk_of_issue (fun _ => rfl) (staged ea fun b => b.regs.rF d) (fun _ _ => rfl) (fun _ _ => rfl)
    · exact runsBlk_of_issue (fun _ => rfl) (staged (fun _ => w.toNat) fun b => b.regs.rg d) (fun _ _ => rfl) (fun _ _ => rfl)
    · exact runsBlk_of_issue (fun _ => rfl) (staged (fun _ => w.toNat) fun b => b.regs.rF d) (fun _ _ => rfl) (fun _ _ => rfl)
  · obtain ⟨_, _, _, _, _, _, stopped⟩ := violate_eq m e b reason space off write
    have memory (k : Nat) : (m.violate e b reason space off write).mb k = (m.unjournal e b.journal).mb k := by rw [stopped]; rfl
    have blocks (l : Nat) : (m.violate e b reason space off write).blk l = (m.stopBlk e b).blk l := by rw [stopped]; rfl
    refine ⟨⟨_, (blocks e).trans (stopBlk_blk_same m e b), rfl, rfl, rfl, rfl⟩, fun k outside => ?_, fun p named apart => ?_,
      fun l other => ?_⟩
    · exact (memory k).trans (mb_unjournal m e b.journal outside)
    · exact (mw_congr fun k _ _ => memory k).trans (mw_unjournal m e b.journal named apart)
    · exact (blocks l).trans (stopBlk_blk_ne m b other.symm)

end Sys2Proof.Machine

namespace Sys2Proof.Machine
variable {m n : Module}

/-! ### O16: what a served host access leaves of the drains (R107, R112) -/

theorem setMn_draining (m : Module) (a c v : Nat) : (m.setMn a c v).eng.draining = m.eng.draining := by
  obtain ⟨_, _, bytes⟩ := setMn_bytesOnly m a c v
  rw [bytes]

theorem hostWord_draining (m : Module) (a v : Nat) : (m.hostWord a v).eng.draining = m.eng.draining := by
  unfold Module.hostWord
  split
  · rfl
  · split
    · rfl
    · extract_lets old new m1
      have deferred : m1.eng = m.eng := by
        unfold m1
        split <;> rfl
      rw [setMn_draining, deferred]

theorem failWord_draining (m : Module) (a : Nat) : (m.failWord a).eng.draining = m.eng.draining := by
  unfold Module.failWord
  split <;> rfl

theorem yardDetect_eng (m : Module) (reader off : Nat) : (m.yardDetect reader off).eng = m.eng := by
  obtain ⟨_, counted, -⟩ := bump_inv m R.YARD_DETECT R.YARD_SAT 0
  unfold Module.yardDetect
  rw [counted]
  rfl

theorem rowHit_draining (m : Module) (r : Row) : (m.rowHit r).eng.draining = m.eng.draining := by
  unfold Module.rowHit Module.retireRow
  extract_lets win recent m1
  split
  · split <;> rfl
  · rfl

theorem freshRecs_draining (m : Module) (a : Nat) : (m.freshRecs a).eng.draining = m.eng.draining := by
  unfold Module.freshRecs
  split
  · exact setMn_draining _ _ _ _
  · rfl

theorem serveBar2_draining (m : Module) (x : Bar2Access) : (m.serveBar2 x).eng.draining = m.eng.draining := by
  unfold Module.serveBar2
  split
  · exact List.foldlRecOn (motive := fun n : Module => n.eng.draining = m.eng.draining) _ _ rfl fun n kept a _ =>
      (hostWord_draining n a _).trans kept
  · split
    · extract_lets m1 m2 m3
      have failed : m1.eng.draining = m.eng.draining := by
        unfold m1
        split
        · exact failWord_draining m _
        · rfl
      have detected : m2.eng.draining = m.eng.draining := by
        unfold m2
        rw [raiseFree_eng, yardDetect_eng, failed]
      show m3.eng.draining = _
      unfold m3
      split
      · exact (rowHit_draining m2 _).trans detected
      · exact detected
    · exact freshRecs_draining m x.off

theorem grant_draining (m : Module) (b k : Nat) : (m.grant b k).2.eng.draining = m.eng.draining := by
  unfold Module.grant Module.delay
  split
  · rfl
  · split <;> rfl

theorem serveHeld_draining (m : Module) : m.serveHeld.eng.draining = m.eng.draining := by
  unfold Module.serveHeld
  split
  · rfl
  · next x rest _ =>
    split
    · rfl
    · extract_lets g
      have granted : g.2.eng.draining = m.eng.draining := grant_draining m _ _
      split
      · exact (serveBar2_draining _ x).trans granted
      · exact granted

theorem serveQueue_draining (m : Module) (k : Nat) : (m.serveQueue k).eng.draining = m.eng.draining := by
  induction k generalizing m with
  | zero => rfl
  | succ k ih => exact (ih _).trans (serveHeld_draining m)

section
variable {s : State} {le : Fin 8} {d : Nat × List Nat}

/-- The module once its drain `d` has ended (R107). -/
def Module.drained (m : Module) (d : Nat × List Nat) : Module :=
  { m with eng := { m.eng with draining := m.eng.draining.erase d } }

theorem exec_commitDrainComplete (oldest : s.mod.eng.draining.find? (fun d => d.1 == le.val) = some d) :
    exec (.commitDrainComplete le) s = .next ⟨if s.mod.hostServed then (s.mod.drained d).serveQueue s.mod.host.queue.length
      else s.mod.drained d, s.pending⟩ := by
  show execCommitDrainComplete le s = _
  unfold execCommitDrainComplete
  refine run_of_eq ?_
  simp only [oldest]
  rfl

theorem commitDrainComplete_alone (oldest : s.mod.eng.draining.find? (fun d => d.1 == le.val) = some d)
    (idle : s.mod.host.queue = []) : exec (.commitDrainComplete le) s = .next ⟨s.mod.drained d, s.pending⟩ := by
  rw [exec_commitDrainComplete oldest, idle]
  simp only [List.length_nil, Module.serveQueue, ite_self]

theorem commitDrainComplete_leads (oldest : s.mod.eng.draining.find? (fun d => d.1 == le.val) = some d) :
    Leads (.commitDrainComplete le) s (fun m => m.eng.draining = s.mod.eng.draining.erase d) := by
  refine ⟨_, exec_commitDrainComplete oldest, ?_⟩
  split
  · exact serveQueue_draining _ _
  · rfl

end

end Sys2Proof.Machine

namespace Sys2Proof.Machine
variable {m n : Module}

/-! ### O16: wear, gauges and spare rows (R101 to R103, R111, R503) -/

/-- `n` differs from `m` at most in registers other than the gauges, in what is kept of wear, and in reports. -/
def WearOnly (m n : Module) : Prop :=
  (∃ regs sid reports freeCtr, n = { m with regs := regs, sid := sid, reports := reports, freeCtr := freeCtr })
    ∧ ∀ p < 10, n.rd (R.ENG_GAUGE p) = m.rd (R.ENG_GAUGE p)

theorem WearOnly.refl (m : Module) : WearOnly m m := ⟨⟨_, _, _, _, rfl⟩, fun _ _ => rfl⟩

theorem WearOnly.trans {l : Module} (h : WearOnly l m) (h' : WearOnly m n) : WearOnly l n := by
  obtain ⟨⟨_, _, _, _, rfl⟩, kept⟩ := h
  obtain ⟨⟨_, _, _, _, rfl⟩, kept'⟩ := h'
  exact ⟨⟨_, _, _, _, rfl⟩, fun p hp => (kept' p hp).trans (kept p hp)⟩

theorem WearOnly.ite {c : Prop} [Decidable c] {l k : Module} (hl : WearOnly m l) (hk : WearOnly m k) :
    WearOnly m (if c then l else k) := by
  split
  · exact hl
  · exact hk

theorem WearOnly.wr (m : Module) {a : Nat} (v : DWord) (h : ∀ p < 10, a ≠ R.ENG_GAUGE p) : WearOnly m (m.wr a v) :=
  ⟨⟨_, _, _, _, rfl⟩, fun p hp => rd_wr_ne m v (h p hp)⟩

theorem WearOnly.wf (m : Module) {a : Nat} (f : Field) (v : Nat) (h : ∀ p < 10, a ≠ R.ENG_GAUGE p) : WearOnly m (m.wf a f v) :=
  .wr m _ h

theorem WearOnly.raise (m : Module) (src info : Nat) (o : Owner) : WearOnly m (m.raise src info o) :=
  ⟨⟨_, _, _, _, rfl⟩, fun _ _ => rfl⟩

theorem WearOnly.raiseFree (m : Module) (src : Nat) (o : Owner) : WearOnly m (m.raiseFree src o) :=
  ⟨⟨_, _, _, _, rfl⟩, fun _ _ => rfl⟩

theorem WearOnly.sid (m : Module) (x : Sid) (k : Nat) : WearOnly m { m with sid := x, freeCtr := k } :=
  ⟨⟨_, _, _, _, rfl⟩, fun _ _ => rfl⟩

theorem ne_gauge_of_ge {a : Nat} (h : 0x3A000 ≤ a) : ∀ p < 10, a ≠ R.ENG_GAUGE p := by
  simp only [R.ENG_GAUGE]
  omega

theorem markEngine_wearOnly (m : Module) (p : Nat) : WearOnly m (m.markEngine p) := by
  unfold Module.markEngine
  refine .ite (.refl m) ?_
  have role : WearOnly m (if m.rf (R.ENG_STAT p) F.ENG_STAT_ROLE = 0 then m.wf (R.ENG_STAT p) F.ENG_STAT_ROLE 4 else m) :=
    .ite (.wf m _ _ fun q _ => by simp only [R.ENG_STAT, R.ENG_GAUGE]; omega) (.refl m)
  exact role.trans ((WearOnly.wf _ _ _ (ne_gauge_of_ge (a := R.SID_MARK_A) (by decide))).trans (.raise _ _ _ _))

theorem engineWear_wearOnly (m : Module) (p v : Nat) : WearOnly m (m.engineWear p v) := by
  unfold Module.engineWear
  extract_lets norm m1 hour was m2 mean m3
  have worn : WearOnly m m3 := (WearOnly.sid m _ _).trans (.wf m2 _ _ (ne_gauge_of_ge (by simp only [R.SID_WEAR]; omega)))
  exact .ite (worn.trans (markEngine_wearOnly m3 p)) worn

theorem retireCount_wearOnly (m : Module) (r : Row) : WearOnly m (m.retireCount r) := by
  have spare (q p : Nat) (_ : p < 10) : R.ENG_SPARE q ≠ R.ENG_GAUGE p := by
    simp only [R.ENG_SPARE, R.ENG_GAUGE]
    omega
  have engine {l : Module} (q : Nat) {c : Prop} [Decidable c] (counted : WearOnly m l) :
      WearOnly m (if c then (l.raiseFree FS.ENG_SPARE_OUT (l.engOwner q)).markEngine q else l) :=
    .ite ((counted.trans (.raiseFree _ _ _)).trans (markEngine_wearOnly _ q)) counted
  cases r with
  | yard row =>
    have counted (v : Nat) : WearOnly m (m.wf (R.YARD_SPARE (row / 1024)) F.YARD_SPARE_USED v) :=
      .wf m _ v (ne_gauge_of_ge (by simp only [R.YARD_SPARE]; omega))
    exact .ite ((counted _).trans (.raiseFree _ _ _)) (counted _)
  | dm q row => exact engine q (.wf m F.ENG_SPARE_DM _ (spare q))
  | im q row => exact engine q (.wf m F.ENG_SPARE_IM _ (spare q))

/-- The reading `v` of gauge `p` counted (R85). -/
def Module.gaugeCounted (m : Module) (p v : Nat) : Module :=
  { m with eng := { m.eng with
    gaugeMiss := SMap.setD 0 m.eng.gaugeMiss p 0
    gaugeN := SMap.setD 0 m.eng.gaugeN p (SMap.getD 0 m.eng.gaugeN p + 1)
    gaugeMax := SMap.setD 0 m.eng.gaugeMax p (max (SMap.getD 0 m.eng.gaugeMax p) v) } }

/-- The same shown as LAST and taken into MAX (R101). -/
def Module.gaugeTaken (m : Module) (p v : Nat) : Module :=
  let m := (m.gaugeCounted p v).wf (R.ENG_GAUGE p) F.ENG_GAUGE_LAST v
  m.wf (R.ENG_GAUGE p) F.ENG_GAUGE_MAX (if m.eng.maxFresh.contains p then v else max v (m.rf (R.ENG_GAUGE p) F.ENG_GAUGE_MAX))

/-- The same with MAX no longer as software wrote it (R101). -/
def Module.gaugeShown (m : Module) (p v : Nat) : Module :=
  { m.gaugeTaken p v with eng := { (m.gaugeTaken p v).eng with maxFresh := m.eng.maxFresh.filter (· ≠ p) } }

/-- A reading is shown; what else follows from it is wear and reports (R101 to R103). -/
theorem gaugeReading_some_inv (m : Module) (p v : Nat) : WearOnly (m.gaugeShown p v) (m.gaugeReading p (some v)) := by
  unfold Module.gaugeReading
  dsimp -zeta only
  extract_lets g engines m1 m2 m3 engines' m4 m5 m6
  have wear : WearOnly (m.gaugeShown p v) m6 := (engineWear_wearOnly m4 p v).trans
    (.ite ((WearOnly.raiseFree m5 _ _).trans (markEngine_wearOnly _ p)) (.refl m5))
  split
  · exact wear.trans (.ite (.raiseFree _ _ _) (.refl _))
  · exact wear

theorem gaugeTaken_last (m : Module) (p : Nat) {v : Nat} (hv : v < 2 ^ 16) :
    (m.gaugeTaken p v).rf (R.ENG_GAUGE p) F.ENG_GAUGE_LAST = v := by
  unfold Module.gaugeTaken
  extract_lets l
  rw [rf_wf_apart l _ F.ENG_GAUGE_MAX F.ENG_GAUGE_LAST _ (by decide) (by decide)]
  exact (rf_wf_same _ _ F.ENG_GAUGE_LAST v (by decide)).trans (Nat.mod_eq_of_lt hv)

theorem gaugeTaken_max (m : Module) (p : Nat) {v : Nat} (hv : v < 2 ^ 16) :
    (m.gaugeTaken p v).rf (R.ENG_GAUGE p) F.ENG_GAUGE_MAX
      = if p ∈ m.eng.maxFresh then v else max v (m.rf (R.ENG_GAUGE p) F.ENG_GAUGE_MAX) := by
  unfold Module.gaugeTaken
  extract_lets l
  have was : l.rf (R.ENG_GAUGE p) F.ENG_GAUGE_MAX = m.rf (R.ENG_GAUGE p) F.ENG_GAUGE_MAX :=
    rf_wf_apart (m.gaugeCounted p v) _ F.ENG_GAUGE_LAST F.ENG_GAUGE_MAX v (by decide) (by decide)
  have fresh : l.eng.maxFresh = m.eng.maxFresh := rfl
  have fits : m.rf (R.ENG_GAUGE p) F.ENG_GAUGE_MAX < 2 ^ 16 := rf_lt m _ _
  rw [rf_wf_same l _ F.ENG_GAUGE_MAX _ (by decide), was, fresh]
  simp only [List.contains_iff_mem]
  refine Nat.mod_eq_of_lt ?_
  split
  · exact hv
  · exact Nat.max_lt.2 ⟨hv, fits⟩

/-- What a gauge reading shows and leaves (R101). -/
theorem gaugeReading_some_leads (m : Module) {p v : Nat} (hp : p < 10) (hv : v < 2 ^ 16) :
    (m.gaugeReading p (some v)).rf (R.ENG_GAUGE p) F.ENG_GAUGE_LAST = v
      ∧ (m.gaugeReading p (some v)).rf (R.ENG_GAUGE p) F.ENG_GAUGE_MAX
        = (if p ∈ m.eng.maxFresh then v else max v (m.rf (R.ENG_GAUGE p) F.ENG_GAUGE_MAX))
      ∧ SMap.getD 0 (m.gaugeReading p (some v)).eng.gaugeMiss p = 0 ∧ (m.gaugeReading p (some v)).mem = m.mem := by
  obtain ⟨⟨_, _, _, _, frame⟩, gauges⟩ := gaugeReading_some_inv m p v
  have shown (f : Field) : (m.gaugeReading p (some v)).rf (R.ENG_GAUGE p) f = (m.gaugeTaken p v).rf (R.ENG_GAUGE p) f :=
    congrArg (fget · f) (gauges p hp)
  refine ⟨(shown _).trans (gaugeTaken_last m p hv), (shown _).trans (gaugeTaken_max m p hv), ?_, ?_⟩
  · rw [frame]
    exact SMap.getD_setD_same 0 m.eng.gaugeMiss p 0
  · rw [frame]
    rfl

/-- An absent reading is counted, and the third in a row reported (R103). -/
theorem gaugeReading_none_leads (m : Module) (p : Nat) :
    SMap.getD 0 (m.gaugeReading p none).eng.gaugeMiss p = SMap.getD 0 m.eng.gaugeMiss p + 1
      ∧ (m.gaugeReading p none).regs = m.regs ∧ (m.gaugeReading p none).mem = m.mem
      ∧ (if SMap.getD 0 m.eng.gaugeMiss p = 2 then Raised m (m.gaugeReading p none) FS.ENG_GAUGE_LOST (m.engOwner p)
        else (m.gaugeReading p none).reports = m.reports) := by
  unfold Module.gaugeReading
  dsimp -zeta only
  extract_lets k engines m1
  have third : k = 3 ↔ SMap.getD 0 m.eng.gaugeMiss p = 2 := by omega
  have counted : SMap.getD 0 m1.eng.gaugeMiss p = k := SMap.getD_setD_same 0 m.eng.gaugeMiss p k
  by_cases h : k = 3
  · rw [if_pos h, if_pos (third.1 h)]
    exact ⟨counted, rfl, rfl, raiseFree_raised m1 _ _⟩
  · rw [if_neg h, if_neg (mt third.2 h)]
    exact ⟨counted, rfl, rfl, rfl⟩

end Sys2Proof.Machine

namespace Sys2Proof.Machine
variable {m n : Module}

/-! ### O16: rows under retirement (R111) -/

theorem spareLeft_eng (m : Module) (g : Eng) (r : Row) : ({ m with eng := g } : Module).spareLeft r = m.spareLeft r := by
  cases r <;> rfl

section
variable {r : Row} {rs : List Row}

theorem retireDone_of_no_spare (first : m.eng.retiring = r :: rs) (none : m.spareLeft r = false) :
    m.retireDone = { m with eng := { m.eng with retiring := rs } } := by
  simp only [Module.retireDone, first, spareLeft_eng, none]
  rfl

theorem retireDone_of_spare (first : m.eng.retiring = r :: rs) (left : m.spareLeft r = true) : m.retireDone =
    (({ m with eng := { m.eng with retiring := rs, hits := m.eng.hits.filter (fun h => h.1 ≠ r) } } : Module).retireCount
      r).raiseFree FS.ROW_RETIRED .none := by
  simp only [Module.retireDone, first, spareLeft_eng, left]
  rfl

theorem retireDone_leads (first : m.eng.retiring = r :: rs) (left : m.spareLeft r = true) :
    m.retireDone.eng.retiring = rs ∧ (∀ h ∈ m.retireDone.eng.hits, h.1 ≠ r) ∧ m.retireDone.mem = m.mem
      ∧ ∃ l w, m.retireDone.reports = l ++ [⟨FS.ROW_RETIRED, w, .none, m.now, m.todSec, m.todNs⟩] := by
  obtain ⟨⟨_, _, _, _, counted⟩, -⟩ := retireCount_wearOnly
    { m with eng := { m.eng with retiring := rs, hits := m.eng.hits.filter (fun h => h.1 ≠ r) } } r
  rw [retireDone_of_spare first left, counted]
  exact ⟨rfl, fun h mem => by simpa using (List.mem_filter.1 mem).2, rfl, _, _, rfl⟩

end

/-! ### O16: a failing IM line rewritten (R110) -/

theorem imRewrite_leads {e line : Nat} (bad : (e, line) ∈ m.eng.badLines) :
    (e, line) ∉ (m.imRewrite e line).eng.badLines
      ∧ m.imRewrite e line = { m with mem := (m.imRewrite e line).mem, eng := (m.imRewrite e line).eng }
      ∧ ∀ k, k < m.imAddr e (64 * line) ∨ m.imAddr e (64 * line) + 64 ≤ k → (m.imRewrite e line).mb k = m.mb k := by
  unfold Module.imRewrite
  rw [if_neg (by simp [bad])]
  extract_lets bank off owner m1 engines
  have written : BytesOnly m m1 ∧ ∀ k, k < m.imAddr e (64 * line) ∨ m.imAddr e (64 * line) + 64 ≤ k → m1.mb k = m.mb k := by
    unfold m1
    clear engines m1
    clear_value owner
    cases owner with
    | none => exact ⟨.refl m, fun _ _ => rfl⟩
    | some t =>
      refine ⟨⟨_, _, setBytes_eq _ m _⟩, fun k outside => ?_⟩
      rw [mb_setBytes, mbytes_length, if_neg (by omega)]
  clear_value m1
  obtain ⟨⟨_, _, frame⟩, bytes⟩ := written
  refine ⟨by simp, ?_, bytes⟩
  rw [frame]

/-! ### O16: a substitution's copy (R505) -/

theorem setMb_bytesOnly (m : Module) (a : Nat) (v : Byte) : BytesOnly m (m.setMb a v) := ⟨_, _, rfl⟩

theorem copyRange_bytesOnly (m : Module) (a b k : Nat) : BytesOnly m (m.copyRange a b k) := by
  unfold Module.copyRange
  extract_lets src m1
  have dropped : BytesOnly m m1 := ⟨_, _, rfl⟩
  exact dropped.trans (.foldl (fun l (q : Nat × Byte) => setMb_bytesOnly l _ q.2) src m1)

theorem copyEngine_eq (m : Module) (p r : Nat) : ∃ mem regs failing,
    m.copyEngine p r = { m with mem := mem, regs := regs, eng := { m.eng with failing := failing } } := by
  unfold Module.copyEngine
  extract_lets half base m1 m2
  obtain ⟨_, _, copied⟩ : BytesOnly m m2 := (copyRange_bytesOnly m _ _ _).trans (copyRange_bytesOnly m1 _ _ _)
  rw [copied]
  exact ⟨_, _, _, rfl⟩

theorem subCopied_of_waiting (waits : m.sid.copyLeft ≠ 0) : m.subCopied = m := if_pos (.inr waits)

theorem subCopied_leads (copying : m.rf R.SID_STAT F.SID_STAT_STATE = 1) (all : m.sid.copyLeft = 0) :
    m.subCopied.sid = { m.sid with copied := true } ∧ m.subCopied = { m with
      mem := m.subCopied.mem, regs := m.subCopied.regs, sid := m.subCopied.sid,
      eng := { m.eng with failing := m.subCopied.eng.failing } } := by
  unfold Module.subCopied
  rw [if_neg (by simp [copying, all])]
  extract_lets was m1
  split
  · next p r _ _ =>
    obtain ⟨_, _, _, copied⟩ := copyEngine_eq m1 p r
    rw [copied]
    exact ⟨rfl, rfl⟩
  · exact ⟨rfl, rfl⟩

/-! ### O16: a generator off its placement (R503) -/

theorem markUnit_generator_leads {g : Nat} (hg : g < 34) (fresh : m.marked .generator g = false) :
    (m.markUnit .generator g).marked .generator g = true
      ∧ (m.markUnit .generator g).reports
        = m.reports ++ [⟨FS.SID_WEAR, BitVec.ofNat 32 (0x10 + g), .none, m.now, m.todSec, m.todNs⟩]
      ∧ m.markUnit .generator g = { m with regs := (m.markUnit .generator g).regs, reports := (m.markUnit .generator g).reports } := by
  have marks : m.markUnit .generator g = (m.setBit R.SID_MARK_G g true).raise FS.SID_WEAR (0x10 + g) .none :=
    if_neg (by simp [fresh])
  rw [marks]
  exact ⟨bit_setBit_same m R.SID_MARK_G g true (by omega), rfl, rfl⟩

/-- Settles O16: each clause is what its event does (`exec_commitDrainComplete`, `gaugeReading_some_leads`, `imRewrite_leads`,
`retireDone_leads`, `subCopied_leads`, `markUnit_generator_leads`) in a module that its unit's supply reaches. -/
theorem engineUpkeep : Obligations.EngineUpkeep := by
  refine fun s => ⟨?drain, ?gauge, ?absent, ?line, ?noSpare, ?spare, ?copied, ?waiting, ?generator⟩
  case drain => exact fun le d oldest => ⟨commitDrainComplete_alone oldest, commitDrainComplete_leads oldest⟩
  case gauge =>
    exact fun powered p v => ⟨_, runOn_of_powered powered (·.gaugeReading p (some v.toNat)),
      gaugeReading_some_leads s.mod p.isLt v.isLt⟩
  case absent =>
    exact fun powered p => ⟨_, runOn_of_powered powered (·.gaugeReading p none), gaugeReading_none_leads s.mod p⟩
  case line =>
    exact fun powered le line bad => ⟨_, runOn_of_powered powered (·.imRewrite le line), imRewrite_leads bad⟩
  case noSpare =>
    exact fun powered r rs first none => (runOn_of_powered powered Module.retireDone).trans
      (by rw [retireDone_of_no_spare first none])
  case spare =>
    exact fun powered r rs first left => ⟨_, runOn_of_powered powered Module.retireDone, retireDone_leads first left⟩
  case copied =>
    exact fun up copying all => ⟨_, runUp_of_up up Module.subCopied, subCopied_leads copying all⟩
  case waiting => exact fun _ _ waits => runUp_of_fixed fun _ => subCopied_of_waiting waits
  case generator =>
    exact fun g up fresh => ⟨_, runUp_of_up up (·.markUnit .generator g),
      markUnit_generator_leads g.isLt fresh⟩

end Sys2Proof.Machine

namespace Sys2Proof.Machine
variable {m n : Module}

/-! ### O1: instructions on the registers alone (R122 to R127) -/

theorem exec_of_issue {s : State} {c : Instr} {x : Issue} {b b' : Blk} {len pc : Nat} {reps : List Rep}
    {sem : Module → Blk → Except Stop (Module × Blk)} (isIssue : exec c s = s.run (·.issue x len sem))
    (goes : GoesOn s.mod x len b pc reps) (h : sem s.mod b = .ok (n, b')) (calls : b'.calls = b.calls)
    (levels : b'.reps = b.reps) : exec c s = .next ⟨n.setBlk x.le (some { b' with pc := pc, reps := reps }), s.pending⟩ :=
  isIssue.trans (run_of_eq (issue_of_ok goes h calls levels))

theorem runsRegs_of_issueRegs {c : Instr} {x : Issue} {len : Nat} {f g : RegFile → RegFile}
    (isRegs : ∀ s, exec c s = s.run (·.issueRegs x len g)) (same : ∀ r, g r = f r) : RunsRegs c x len f := by
  intro s b pc reps goes
  rw [← same]
  exact exec_of_issue (isRegs s) goes (b' := { b with regs := g b.regs }) rfl rfl rfl

theorem runsRegs_nop (x : Issue) : RunsRegs (.nop x) x 1 id := runsRegs_of_issueRegs (fun _ => rfl) fun _ => rfl

/-! ### O1: the results of R126 over the integers -/

theorem satInt_eq (n : Int) : satInt n = BitVec.ofInt 32 (max (-2147483648) (min 2147483647 n)) := by
  unfold satInt
  split
  · next high => rw [min_eq_left (by omega)]; rfl
  · next fits =>
    split
    · next low => rw [min_eq_right (by omega), max_eq_left (by omega)]; rfl
    · next inside => rw [min_eq_right (by omega), max_eq_right (by omega)]

theorem sub_eq_ofInt (p q : Word) : p - q = BitVec.ofInt 32 ((p.toNat : Int) - q.toNat) := by
  apply BitVec.eq_of_toInt_eq
  rw [BitVec.toInt_sub, BitVec.toInt_ofInt, BitVec.toInt_eq_toNat_bmod, BitVec.toInt_eq_toNat_bmod, Int.bmod_sub_bmod,
    Int.sub_bmod_bmod]

/-- A word whose bits are those of a list. -/
theorem eq_ofBoolListLE {w : Word} {f : Nat → Bool} (h : ∀ i < 32, w.getLsbD i = f i) :
    w = BitVec.ofBoolListLE ((List.range 32).map f) := by
  apply BitVec.eq_of_getLsbD_eq
  intro i hi
  rw [h i hi]
  refine Eq.symm (BitVec.getLsbD_ofBoolListLE.trans ?_)
  simp [hi]

theorem shiftLeft_eq_ofNat (p : Word) (k : Nat) : p <<< k = BitVec.ofNat 32 (p.toNat * 2 ^ k) := by
  rw [← Nat.shiftLeft_eq]
  rfl

theorem ushiftRight_eq_ofNat (p : Word) (k : Nat) : p >>> k = BitVec.ofNat 32 (p.toNat / 2 ^ k) := by
  rw [← Nat.shiftRight_eq_div_pow]
  have fits : p.toNat >>> k < 2 ^ 32 := (Nat.shiftRight_le _ _).trans_lt p.isLt
  exact BitVec.eq_of_toNat_eq (Nat.mod_eq_of_lt fits).symm

theorem sshiftRight_eq_ofInt (p : Word) (k : Nat) : p.sshiftRight k = BitVec.ofInt 32 (p.toInt / 2 ^ k) := by
  rw [BitVec.sshiftRight, Int.shiftRight_eq_div_pow]
  norm_cast

theorem ofInt_min_toInt (p q : Word) : BitVec.ofInt 32 (min p.toInt q.toInt) = if p.toInt ≤ q.toInt then p else q := by
  rw [min_def, apply_ite (BitVec.ofInt 32), BitVec.ofInt_toInt, BitVec.ofInt_toInt]

theorem ofInt_max_toInt (p q : Word) : BitVec.ofInt 32 (max p.toInt q.toInt) = if p.toInt ≤ q.toInt then q else p := by
  rw [max_def, apply_ite (BitVec.ofInt 32), BitVec.ofInt_toInt, BitVec.ofInt_toInt]

theorem ofNat_min_toNat (p q : Word) : BitVec.ofNat 32 (min p.toNat q.toNat) = if p.toNat ≤ q.toNat then p else q := by
  rw [min_def, apply_ite (BitVec.ofNat 32), BitVec.ofNat_toNat, BitVec.ofNat_toNat, BitVec.setWidth_eq, BitVec.setWidth_eq]

theorem ofNat_max_toNat (p q : Word) : BitVec.ofNat 32 (max p.toNat q.toNat) = if p.toNat ≤ q.toNat then q else p := by
  rw [max_def, apply_ite (BitVec.ofNat 32), BitVec.ofNat_toNat, BitVec.ofNat_toNat, BitVec.setWidth_eq, BitVec.setWidth_eq]

theorem length_takeWhile_range {n k : Nat} {p : Nat → Bool} (stop : k < n → p k = false) (go : ∀ i < k, p i = true)
    (hk : k ≤ n) : ((List.range n).takeWhile p).length = k := by
  obtain ⟨r, rfl⟩ := Nat.exists_eq_add_of_le hk
  have front : ∀ i ∈ List.range k, p i = true := fun i hi => go i (List.mem_range.1 hi)
  rw [List.range_add, List.takeWhile_append_of_pos front]
  cases r with
  | zero => simp
  | succ r => simp [List.range_succ_eq_map, stop (by omega)]

theorem clzWord_eq (w : Word) : clzWord w = ((List.range 32).takeWhile (fun i => !w.getLsbD (31 - i))).length := by
  unfold clzWord
  split
  · next zero => subst zero; decide
  · next nonzero =>
    have pos : w.toNat ≠ 0 := fun h => nonzero (BitVec.eq_of_toNat_eq h)
    have small : w.toNat.log2 < 32 := (Nat.log2_lt pos).2 w.isLt
    refine (length_takeWhile_range (fun _ => ?_) (fun i hi => ?_) (by omega)).symm
    · rw [show 31 - (31 - w.toNat.log2) = w.toNat.log2 by omega, BitVec.getLsbD, Nat.testBit_log2 pos]
      rfl
    · rw [BitVec.getLsbD, Nat.testBit_lt_two_pow ((Nat.log2_lt pos).1 (by omega))]
      rfl

/-! ### R127 -/

/-- The one quotient of two signed words that does not fit is that of -2^31 by -1. -/
theorem tdiv_toInt_le (p q : Word) (h : ¬ (p = 0x80000000 ∧ q = 0xFFFFFFFF)) : p.toInt.tdiv q.toInt ≤ 2147483647 := by
  have bound := Int.natAbs_tdiv_le_natAbs p.toInt q.toInt
  have low : -2147483648 ≤ p.toInt := BitVec.le_toInt p
  have high : p.toInt < 2147483648 := BitVec.toInt_lt
  by_cases least : p.toInt = -2147483648
  · have p_eq : p = 0x80000000 := BitVec.eq_of_toInt_eq least
    have q_ne : q.toInt ≠ -1 := fun e => h ⟨p_eq, BitVec.eq_of_toInt_eq e⟩
    obtain one | large : q.toInt.natAbs ≤ 1 ∨ 2 ≤ q.toInt.natAbs := by omega
    · obtain zero | unit : q.toInt = 0 ∨ q.toInt = 1 := by omega
      · simp [zero]
      · simp [unit]; omega
    · have half : p.toInt.natAbs / q.toInt.natAbs ≤ p.toInt.natAbs / 2 := Nat.div_le_div_left large (by omega)
      have magnitude : (p.toInt.tdiv q.toInt).natAbs = p.toInt.natAbs / q.toInt.natAbs := Int.natAbs_tdiv _ _
      omega
  · omega

theorem divS_eq (p q : Word) : divS p q = if q = 0 then (if 0 ≤ p.toInt then 0x7FFFFFFF else 0x80000000)
    else BitVec.ofInt 32 (min 2147483647 (p.toInt.tdiv q.toInt)) := by
  unfold divS
  split
  · simp only [← not_lt, ite_not]
  · split
    · next overflow => obtain ⟨rfl, rfl⟩ := overflow; decide
    · next fits => rw [min_eq_right (tdiv_toInt_le p q fits)]

theorem remS_eq (p q : Word) : remS p q = BitVec.ofInt 32 (p.toInt.tmod q.toInt) := by
  unfold remS
  split
  · next zero => subst zero; simp
  · split
    · next overflow => obtain ⟨rfl, rfl⟩ := overflow; decide
    · rfl

theorem remU_eq (p q : Word) : remU p q = BitVec.ofNat 32 (p.toNat % q.toNat) := by
  unfold remU
  split
  · next zero => subst zero; simp
  · rfl

theorem zx_shiftLeft_eq_append (imm : BitVec 16) : zx imm <<< 16 = imm ++ (0 : BitVec 16) := by
  have small := imm.isLt
  have joined : (imm ++ (0 : BitVec 16) : BitVec 32).toNat = imm.toNat <<< 16 := by
    refine (BitVec.toNat_append imm (0 : BitVec 16)).trans ?_
    simp
  apply BitVec.eq_of_toNat_eq
  rw [joined, zx, BitVec.toNat_shiftLeft, BitVec.toNat_setWidth, Nat.shiftLeft_eq, Nat.shiftLeft_eq]
  omega

/-! ### O1: the instructions -/

/-- Format R on g registers with the value `f` gives. -/
theorem runsRegs_of_gRR {c : Instr} {x : Issue} {d a b : Nat} {op f : Word → Word → Word}
    (isOp : ∀ s, exec c s = s.run (·.issueRegs x 1 (gRR d a b op))) (value : ∀ p q, op p q = f p q) :
    RunsRegs c x 1 (fun r => r.setG d (f (r.rg a) (r.rg b))) :=
  runsRegs_of_issueRegs isOp fun r => by rw [gRR, value]

/-- Settles O1: each instruction acts on the registers alone, with the value of a lemma above. -/
theorem integerArithmeticAndImmediates : Obligations.IntegerArithmeticAndImmediates := by
  refine ⟨⟨?_, ?_⟩, ?_⟩
  · extract_lets sat
    refine ⟨fun r v => ⟨rfl, rfl⟩, fun x d a b => ?_⟩
    extract_lets two
    have value_of {c : Instr} {op f : Word → Word → Word} (isOp : ∀ s, exec c s = s.run (·.issueRegs x 1 (gRR d a b op)))
        (value : ∀ p q, op p q = f p q) : two c f := runsRegs_of_gRR isOp value
    clear_value two
    refine ⟨?_, ?_, ?_, ?_, ?_, ?_, ?_, ?_, ?_, ?_, ?_, ?_, ?_, ?_, ?_, ?_, ?_, ?_, ?_, ?_, fun c => ?_, runsRegs_nop x⟩
    · exact value_of (fun _ => rfl) fun _ _ => rfl
    · exact value_of (fun _ => rfl) sub_eq_ofInt
    · exact value_of (fun _ => rfl) fun p q => eq_ofBoolListLE (by simp)
    · exact value_of (fun _ => rfl) fun p q => eq_ofBoolListLE (by simp)
    · exact value_of (fun _ => rfl) fun p q => eq_ofBoolListLE (by simp)
    · exact value_of (fun _ => rfl) fun p q => eq_ofBoolListLE (by simp +contextual)
    · exact value_of (fun _ => rfl) fun p q => shiftLeft_eq_ofNat p (shamt q)
    · exact value_of (fun _ => rfl) fun p q => ushiftRight_eq_ofNat p (shamt q)
    · exact value_of (fun _ => rfl) fun p q => sshiftRight_eq_ofInt p (shamt q)
    · exact value_of (fun _ => rfl) fun p q => satInt_eq (p.toInt + q.toInt)
    · exact value_of (fun _ => rfl) fun p q => satInt_eq (p.toInt - q.toInt)
    · exact value_of (fun _ => rfl) fun p q => (ofInt_min_toInt p q).symm
    · exact value_of (fun _ => rfl) fun p q => (ofInt_max_toInt p q).symm
    · exact value_of (fun _ => rfl) fun p q => (ofNat_min_toNat p q).symm
    · exact value_of (fun _ => rfl) fun p q => (ofNat_max_toNat p q).symm
    · exact value_of (fun _ => rfl) fun _ _ => rfl
    · exact value_of (fun _ => rfl) fun _ _ => rfl
    · exact value_of (fun _ => rfl) fun _ _ => rfl
    · exact runsRegs_of_issueRegs (fun _ => rfl) fun r => by rw [gR, satInt_eq]
    · exact runsRegs_of_issueRegs (fun _ => rfl) fun r => by rw [gR, clzWord_eq]
    · exact runsRegs_of_issueRegs (fun _ => rfl) fun _ => rfl
  · intro x d a b
    extract_lets two
    have value_of {c : Instr} {op f : Word → Word → Word} (isOp : ∀ s, exec c s = s.run (·.issueRegs x 1 (gRR d a b op)))
        (value : ∀ p q, op p q = f p q) : two c f := runsRegs_of_gRR isOp value
    clear_value two
    exact ⟨value_of (fun _ => rfl) divS_eq, value_of (fun _ => rfl) fun _ _ => rfl,
      value_of (fun _ => rfl) remS_eq, value_of (fun _ => rfl) remU_eq⟩
  · intro x d a imm k w
    refine ⟨?_, ?_, ?_, ?_, ?_, ?_, ?_, ?lui, ?_, ?_, ?_⟩
    case lui => exact runsRegs_of_issueRegs (fun _ => rfl) fun r => by rw [zx_shiftLeft_eq_append]
    all_goals exact runsRegs_of_issueRegs (fun _ => rfl) fun _ => rfl

end Sys2Proof.Machine

namespace Sys2Proof.Machine

/-! ### O4: rounding to an integer (R131) -/

/-- `n` is the integer nearest to `q`, the even one of two as near. -/
def NearestEven (q : ℚ) (n : Int) : Prop := |q - n| ≤ 1 / 2 ∧ (|q - n| = 1 / 2 → n % 2 = 0)

theorem NearestEven.self (n : Int) : NearestEven n n := by simp [NearestEven]

theorem NearestEven.neg {q : ℚ} {n : Int} (h : NearestEven q n) : NearestEven (-q) (-n) := by
  have mirrored : |-q - ((-n : Int) : ℚ)| = |q - n| := by rw [← abs_neg]; push_cast; ring_nf
  rw [NearestEven, mirrored]
  exact ⟨h.1, fun tie => by have even := h.2 tie; omega⟩

namespace Fp

/-- What `shiftRne` loses is a part `p` of the unit of its result: up to one half of it, or from one half on, rounded up. -/
theorem shiftRne_cases (m k : Nat) : ∃ (d : Nat) (p : ℚ), (m : ℚ) / 2 ^ k = d + p ∧ 0 ≤ p
    ∧ ((shiftRne m k).2 = false ↔ p = 0)
    ∧ ((p ≤ 1 / 2 ∧ (p = 1 / 2 → d % 2 = 0) ∧ (shiftRne m k).1 = d)
      ∨ (1 / 2 ≤ p ∧ p < 1 ∧ (p = 1 / 2 → d % 2 = 1) ∧ (shiftRne m k).1 = d + 1)) := by
  have unit : (0 : ℚ) < 2 ^ k := by positivity
  have below := Nat.mod_lt m (Nat.two_pow_pos k)
  have whole := Nat.div_add_mod m (2 ^ k)
  set d := m / 2 ^ k with d_eq
  set r := m % 2 ^ k with r_eq
  have le_half : (r : ℚ) / 2 ^ k ≤ 1 / 2 ↔ 2 * r ≤ 2 ^ k := by
    rw [div_le_div_iff₀ unit two_pos, mul_comm, one_mul]; norm_cast
  have half_le : 1 / 2 ≤ (r : ℚ) / 2 ^ k ↔ 2 ^ k ≤ 2 * r := by
    rw [div_le_div_iff₀ two_pos unit, mul_comm (r : ℚ), one_mul]; norm_cast
  have eq_half : (r : ℚ) / 2 ^ k = 1 / 2 ↔ 2 * r = 2 ^ k := by
    rw [le_antisymm_iff, le_half, half_le, ← le_antisymm_iff]
  refine ⟨d, r / 2 ^ k, ?_, by positivity, ?_, ?_⟩
  · rw [← whole]
    push_cast
    field_simp
  · simp [shiftRne, ← r_eq, unit.ne']
  · rw [le_half, half_le, eq_half, div_lt_one unit]
    simp only [shiftRne, Nat.shiftRight_eq_div_pow, ← d_eq, ← r_eq, Bool.or_eq_true, Bool.and_eq_true,
      decide_eq_true_eq, beq_iff_eq]
    have part : (r : ℚ) < 2 ^ k := by exact_mod_cast below
    simp only [part, true_and]
    split <;> omega

theorem shiftRne_nearestEven (m k : Nat) : NearestEven ((m : ℚ) / 2 ^ k) (shiftRne m k).1 := by
  obtain ⟨d, p, whole, pos, -, ⟨low, tie, value⟩ | ⟨high, part, tie, value⟩⟩ := shiftRne_cases m k
  · have off : (m : ℚ) / 2 ^ k - (d : Int) = p := by rw [whole]; push_cast; ring
    rw [value, NearestEven, off, abs_of_nonneg pos]
    exact ⟨low, fun half => by have := tie half; omega⟩
  · have off : (m : ℚ) / 2 ^ k - ((d + 1 : Nat) : Int) = -(1 - p) := by rw [whole]; push_cast; ring
    rw [value, NearestEven, off, abs_neg, abs_of_nonneg (by linarith)]
    exact ⟨by linarith, fun half => by have := tie (by linarith); omega⟩

theorem shiftRne_exact (m k : Nat) : (shiftRne m k).2 = false ↔ (m : ℚ) / 2 ^ k = (shiftRne m k).1 := by
  obtain ⟨d, p, whole, pos, lost, ⟨low, tie, value⟩ | ⟨high, part, tie, value⟩⟩ := shiftRne_cases m k
  · rw [lost, whole, value, add_eq_left]
  · rw [lost, whole, value]
    push_cast
    constructor <;> intro h <;> linarith

/-- The value of a finite number. -/
def val (w : Word) : ℚ := (sMant w : ℚ) * 2 ^ exp2 w

/-- The value without its sign. -/
def magn (w : Word) : ℚ := (mant w : ℚ) * 2 ^ exp2 w

theorem val_eq_magn (w : Word) : val w = if sign w then -magn w else magn w := by
  unfold val magn sMant
  split <;> push_cast <;> ring

/-- The magnitude rounded, and whether anything was lost. -/
def magnRne (w : Word) : Nat × Bool :=
  if 0 ≤ exp2 w then (mant w <<< (exp2 w).toNat, false) else shiftRne (mant w) (-exp2 w).toNat

theorem magnRne_nearestEven (w : Word) : NearestEven (magn w) (magnRne w).1
    ∧ ((magnRne w).2 = false ↔ magn w = (magnRne w).1) := by
  unfold magnRne magn
  split
  · next whole =>
    obtain ⟨k, exp⟩ := Int.eq_ofNat_of_zero_le whole
    have shifted : (mant w : ℚ) * 2 ^ exp2 w = ((mant w <<< (exp2 w).toNat : Nat) : Int) := by
      rw [exp, Nat.shiftLeft_eq]; push_cast; rfl
    rw [shifted]
    exact ⟨.self _, iff_of_true rfl (Int.cast_natCast _)⟩
  · next part =>
    obtain ⟨k, exp⟩ := Int.eq_ofNat_of_zero_le (show 0 ≤ -exp2 w by omega)
    have shifted : (mant w : ℚ) * 2 ^ exp2 w = mant w / 2 ^ k := by
      rw [show exp2 w = -(k : Int) by omega, zpow_neg, zpow_natCast, div_eq_mul_inv]
    rw [shifted, exp]
    exact ⟨shiftRne_nearestEven _ _, shiftRne_exact _ _⟩

theorem toIntRne_eq (w : Word) : toIntRne w = (if sign w then -((magnRne w).1 : Int) else (magnRne w).1, (magnRne w).2) := by
  unfold toIntRne magnRne
  split <;> rfl

theorem toIntRne_nearestEven (w : Word) : NearestEven (val w) (toIntRne w).1 := by
  rw [toIntRne_eq, val_eq_magn]
  have near := (magnRne_nearestEven w).1
  by_cases negative : sign w = true
  · simpa [negative] using near.neg
  · simpa [negative] using near

theorem toIntRne_exact (w : Word) : (toIntRne w).2 = false ↔ val w = (toIntRne w).1 := by
  rw [toIntRne_eq, val_eq_magn, (magnRne_nearestEven w).2]
  by_cases negative : sign w = true
  · simp [negative]
  · simp [negative]

theorem toInt_of_nan {w : Word} (nan : isNaN w = true) : toInt w = (0, invalid) := if_pos nan

theorem toInt_of_inf {w : Word} (number : isNaN w = false) (infinite : isInf w = true) :
    toInt w = (if sign w then 0x80000000 else 0x7FFFFFFF, invalid) := by
  simp only [toInt, number, infinite]
  cases sign w <;> rfl

theorem toInt_of_finite {w : Word} (number : isNaN w = false) (finite : isInf w = false) :
    toInt w = if (toIntRne w).1 > 0x7FFFFFFF then (0x7FFFFFFF, invalid)
      else if (toIntRne w).1 < -0x80000000 then (0x80000000, invalid)
      else (BitVec.ofInt 32 (toIntRne w).1, if (toIntRne w).2 then inexact else 0) := by
  simp only [toInt, number, finite]
  rfl

end Fp

theorem toInt_ofInt_of_fits {n : Int} (low : -0x80000000 ≤ n) (high : n ≤ 0x7FFFFFFF) : (BitVec.ofInt 32 n).toInt = n := by
  rw [BitVec.toInt_ofInt]
  exact Int.bmod_eq_of_le (by omega) (by omega)

theorem runsRegs_fcvtWS (x : Issue) (d a : Fin 32) :
    RunsRegs (.fcvtWS x d a) x 1 (fun r => (r.setG d (Fp.toInt (r.rF a)).1).orX (Fp.toInt (r.rF a)).2) :=
  runsRegs_of_issueRegs (fun _ => rfl) fun _ => rfl

/-- Settles O4: the value is that of `Fp.toInt`, which rounds as `toIntRne_nearestEven` says. -/
theorem fcvtRoundsAndSaturates : Obligations.FcvtRoundsAndSaturates := by
  intro s x d a b pc reps goes
  refine ⟨(Fp.toInt (b.regs.rF a)).1, (Fp.toInt (b.regs.rF a)).2, runsRegs_fcvtWS x d a s b pc reps goes, ?_⟩
  extract_lets w q
  split
  · next nan =>
    rw [Fp.toInt_of_nan nan]
    exact ⟨rfl, rfl⟩
  next number =>
  have number : Fp.isNaN w = false := by simpa using number
  split
  · next infinite =>
    rw [Fp.toInt_of_inf number infinite]
    exact ⟨rfl, rfl⟩
  next finite =>
  have near : NearestEven q (Fp.toIntRne w).1 := Fp.toIntRne_nearestEven w
  have lossless : (Fp.toIntRne w).2 = false ↔ q = (Fp.toIntRne w).1 := Fp.toIntRne_exact w
  rw [Fp.toInt_of_finite number (by simpa using finite)]
  refine ⟨(Fp.toIntRne w).1, near.1, near.2, fun high => ?_, fun low => ?_, fun low high => ?_⟩
  · rw [if_pos high]
    exact ⟨rfl, rfl⟩
  · rw [if_neg (by omega), if_pos low]
    exact ⟨rfl, rfl⟩
  · rw [if_neg (Int.not_lt.2 high), if_neg (Int.not_lt.2 low)]
    refine ⟨toInt_ofInt_of_fits low high, ?_⟩
    simp only [← lossless]
    cases (Fp.toIntRne w).2 <;> rfl

end Sys2Proof.Machine

namespace Sys2Proof.Machine

/-! ### O2: the order of the FP numbers (R128) -/

namespace Fp

/-- The magnitude whose bits are `b`, in units of the least subnormal. -/
def units (b : Nat) : Nat := if b / 2 ^ 23 = 0 then b else (b % 2 ^ 23 + 2 ^ 23) * 2 ^ (b / 2 ^ 23 - 1)

theorem units_strictMono : StrictMono units := by
  refine strictMono_nat_of_lt_succ fun b => ?_
  obtain inside | carry : (b + 1) / 2 ^ 23 = b / 2 ^ 23 ∧ (b + 1) % 2 ^ 23 = b % 2 ^ 23 + 1
      ∨ (b + 1) / 2 ^ 23 = b / 2 ^ 23 + 1 ∧ (b + 1) % 2 ^ 23 = 0 ∧ b % 2 ^ 23 = 2 ^ 23 - 1 := by omega
  · obtain ⟨sameExp, nextFrac⟩ := inside
    rw [units, units, sameExp, nextFrac]
    split
    · omega
    · exact Nat.mul_lt_mul_of_pos_right (by omega) (Nat.two_pow_pos _)
  · obtain ⟨nextExp, zero, full⟩ := carry
    rw [units, units, nextExp, zero, full, if_neg (Nat.succ_ne_zero _), Nat.add_sub_cancel]
    split
    · next subnormal => rw [subnormal]; omega
    · next normal =>
      obtain ⟨e, exp⟩ := Nat.exists_eq_succ_of_ne_zero normal
      have scale := Nat.two_pow_pos e
      rw [exp, Nat.succ_sub_one, pow_succ]
      omega

/-- The magnitude bits of a word: the exponent over the fraction. -/
theorem w32_eq (w : Word) : cmpNum.w32 w = 2 ^ 23 * expo w + frac w := by
  have fits := w.isLt
  simp only [cmpNum.w32, expo, frac, Nat.shiftRight_eq_div_pow]
  omega

theorem frac_lt (w : Word) : frac w < 2 ^ 23 := Nat.mod_lt _ (Nat.two_pow_pos 23)

theorem magn_eq_units (w : Word) : magn w = units (cmpNum.w32 w) * 2 ^ (-149 : Int) := by
  have part := frac_lt w
  have exp : cmpNum.w32 w / 2 ^ 23 = expo w := by rw [w32_eq]; omega
  have low : cmpNum.w32 w % 2 ^ 23 = frac w := by rw [w32_eq]; omega
  unfold magn mant exp2 units
  rw [exp, low]
  split
  · next subnormal => rw [w32_eq, subnormal, Nat.mul_zero, Nat.zero_add]
  · next normal =>
    obtain ⟨e, he⟩ := Nat.exists_eq_succ_of_ne_zero normal
    rw [he, Nat.succ_sub_one, show ((e.succ : Nat) : Int) - 150 = e + -149 by omega, zpow_add₀ two_ne_zero, zpow_natCast]
    push_cast
    ring

/-- The magnitude whose bits are `b`, an infinity above all numbers. -/
def magnOf (b : Nat) : ℚ := if b = 0x7F800000 then 2 ^ 200 else units b * 2 ^ (-149 : Int)

theorem magnOf_strictMonoOn : StrictMonoOn magnOf {b | b ≤ 0x7F800000} := by
  intro a _ b (top : b ≤ 0x7F800000) (less : a < b)
  have grows := units_strictMono less
  rw [magnOf, if_neg (by omega), magnOf]
  split
  · next infinite =>
    have least : (units b : ℚ) = 2 ^ 23 * 2 ^ 254 := by rw [infinite]; norm_num [units]
    calc (units a : ℚ) * 2 ^ (-149 : Int) < units b * 2 ^ (-149 : Int) := by gcongr
      _ < 2 ^ 200 := by rw [least]; norm_num
  · gcongr

theorem magnOf_zero : magnOf 0 = 0 := by simp [magnOf, units]

/-- The same with a sign. -/
def valOf (z : Int) : ℚ := if z < 0 then -magnOf z.natAbs else magnOf z.natAbs

theorem valOf_strictMonoOn : StrictMonoOn valOf {z | z.natAbs ≤ 0x7F800000} := by
  intro x (hx : x.natAbs ≤ _) y (hy : y.natAbs ≤ _) less
  have zero : (0 : Nat) ∈ {b | b ≤ 0x7F800000} := Nat.zero_le _
  unfold valOf
  by_cases below : y < 0
  · rw [if_pos below, if_pos (by omega)]
    exact neg_lt_neg (magnOf_strictMonoOn hy hx (by omega))
  · rw [if_neg below]
    split
    · next negative =>
      have left : 0 < magnOf x.natAbs := magnOf_zero ▸ magnOf_strictMonoOn zero hx (by omega)
      have right : 0 ≤ magnOf y.natAbs := magnOf_zero ▸ magnOf_strictMonoOn.monotoneOn zero hy (Nat.zero_le _)
      linarith
    · exact magnOf_strictMonoOn hx hy (by omega)

/-- The value of a number or an infinity: 2^200 stands above every number. -/
def ext (w : Word) : ℚ := if isInf w then (if sign w then -1 else 1) * 2 ^ 200 else val w

/-- What `cmpNum` orders by. -/
def ord (w : Word) : Int := if isZero w then 0 else if sign w then -(cmpNum.w32 w : Int) else cmpNum.w32 w

theorem natAbs_ord (w : Word) : (ord w).natAbs = cmpNum.w32 w := by
  unfold ord
  split
  · next zero =>
    simp only [isZero, Bool.and_eq_true, beq_iff_eq] at zero
    rw [w32_eq, zero.1, zero.2]
    rfl
  · split <;> omega

theorem isInf_iff (w : Word) : isInf w = true ↔ cmpNum.w32 w = 0x7F800000 := by
  have part := frac_lt w
  simp only [isInf, Bool.and_eq_true, beq_iff_eq, w32_eq]
  omega

theorem w32_le {w : Word} (number : isNaN w = false) : cmpNum.w32 w ≤ 0x7F800000 := by
  have part := frac_lt w
  have exp : expo w < 256 := Nat.mod_lt _ (by decide)
  simp only [isNaN, Bool.and_eq_false_iff, beq_eq_false_iff_ne, bne_eq_false_iff_eq] at number
  rw [w32_eq]
  omega

theorem ext_eq_valOf (w : Word) : ext w = valOf (ord w) := by
  have magnitude : (if isInf w then 2 ^ 200 else magn w) = magnOf (cmpNum.w32 w) := by
    simp only [magnOf, isInf_iff, magn_eq_units]
  have signed : ext w = if sign w then -magnOf (cmpNum.w32 w) else magnOf (cmpNum.w32 w) := by
    rw [← magnitude, ext, val_eq_magn]
    split <;> split <;> ring
  rw [signed, valOf, natAbs_ord]
  obtain zero | nonzero := Nat.eq_zero_or_pos (cmpNum.w32 w)
  · simp [zero, magnOf_zero]
  · have sizes := natAbs_ord w
    have direction : ord w < 0 ↔ sign w = true := by
      unfold ord at sizes ⊢
      split
      · next isZero => simp [isZero] at sizes; omega
      · split <;> simp [*]
    simp only [direction]

theorem cmpNum_eq (p q : Word) : cmpNum p q = if ord p < ord q then -1 else if ord p = ord q then 0 else 1 := rfl

theorem unordered_comm (p q : Word) : unordered p q = unordered q p := Bool.or_comm _ _

section
variable {p q : Word} (numbers : unordered p q = false)
include numbers

theorem ord_mem : ord p ∈ {z : Int | z.natAbs ≤ 0x7F800000} ∧ ord q ∈ {z : Int | z.natAbs ≤ 0x7F800000} := by
  obtain ⟨hp, hq⟩ : isNaN p = false ∧ isNaN q = false := by simpa [unordered] using numbers
  exact ⟨(natAbs_ord p).trans_le (w32_le hp), (natAbs_ord q).trans_le (w32_le hq)⟩

theorem cmpNum_eq_neg_one_iff : cmpNum p q = -1 ↔ ext p < ext q := by
  obtain ⟨hp, hq⟩ := ord_mem numbers
  rw [ext_eq_valOf, ext_eq_valOf, valOf_strictMonoOn.lt_iff_lt hp hq, cmpNum_eq]
  split_ifs <;> simp <;> omega

theorem cmpNum_eq_zero_iff : cmpNum p q = 0 ↔ ext p = ext q := by
  obtain ⟨hp, hq⟩ := ord_mem numbers
  rw [ext_eq_valOf, ext_eq_valOf, valOf_strictMonoOn.injOn.eq_iff hp hq, cmpNum_eq]
  split_ifs <;> simp <;> omega

theorem cmpNum_ne_one_iff : cmpNum p q ≠ 1 ↔ ext p ≤ ext q := by
  obtain ⟨hp, hq⟩ := ord_mem numbers
  rw [ext_eq_valOf, ext_eq_valOf, valOf_strictMonoOn.le_iff_le hp hq, cmpNum_eq]
  split_ifs <;> simp <;> omega

end

theorem lt_eq_decide (p q : Word) : lt p q = (!unordered p q && decide (ext p < ext q)) := by
  cases numbers : unordered p q
  · simp [lt, numbers, ← cmpNum_eq_neg_one_iff numbers, beq_eq_decide]
  · simp [lt, numbers]

theorem le_eq_decide (p q : Word) : le p q = (!unordered p q && decide (ext p ≤ ext q)) := by
  cases numbers : unordered p q
  · simp [le, numbers, ← cmpNum_ne_one_iff numbers, bne, beq_eq_decide]
  · simp [le, numbers]

theorem eq_eq_beq (p q : Word) : eq p q = (!unordered p q && ext p == ext q) := by
  cases numbers : unordered p q
  · simp [eq, numbers, ← cmpNum_eq_zero_iff numbers, beq_eq_decide]
  · simp [eq, numbers]

/-- The eight conditions of `fcmp` over the values (R128). -/
theorem cond_eq (cc : Fin 8) (p q : Word) : cond cc p q =
    [!unordered p q && ext p == ext q, unordered p q || ext p != ext q, !unordered p q && decide (ext p < ext q),
      !unordered p q && decide (ext p ≤ ext q), !unordered p q && decide (ext q < ext p),
      !unordered p q && decide (ext q ≤ ext p), unordered p q, !unordered p q].getD cc false := by
  match cc with
  | 0 => exact eq_eq_beq p q
  | 1 =>
    show (!eq p q) = _
    rw [eq_eq_beq, Bool.not_and, Bool.not_not]
    rfl
  | 2 => exact lt_eq_decide p q
  | 3 => exact le_eq_decide p q
  | 4 => exact (lt_eq_decide q p).trans (by rw [unordered_comm]; rfl)
  | 5 => exact (le_eq_decide q p).trans (by rw [unordered_comm]; rfl)
  | 6 => rfl
  | 7 => rfl

end Fp

/-- The eight conditions of `cmp` (R128). -/
theorem intCond_eq (cc : Fin 8) (p q : Word) : intCond cc p q =
    [p == q, p != q, p.slt q, q.sle p, p.ult q, q.ule p, p &&& q != 0, p &&& q == 0].getD cc false := by
  match cc with
  | 0 | 1 | 2 | 3 | 4 | 5 | 6 | 7 => rfl

/-- Settles O2: each instruction writes one flag; the conditions are those of `intCond_eq` and `Fp.cond_eq`. -/
theorem comparesAndFlags : Obligations.ComparesAndFlags := by
  refine ⟨fun r v => ⟨rfl, rfl⟩, fun x cd cc ca cb a b imm => ?_⟩
  extract_lets int fp
  exact ⟨runsRegs_of_issueRegs (fun _ => rfl) fun r => congrArg (r.setC cd) (intCond_eq cc _ _),
    runsRegs_of_issueRegs (fun _ => rfl) fun r => congrArg (r.setC cd) (intCond_eq cc _ _),
    runsRegs_of_issueRegs (fun _ => rfl) fun r => congrArg (r.setC cd) (Fp.cond_eq cc _ _),
    runsRegs_of_issueRegs (fun _ => rfl) fun _ => rfl, runsRegs_of_issueRegs (fun _ => rfl) fun _ => rfl,
    runsRegs_of_issueRegs (fun _ => rfl) fun _ => rfl, runsRegs_of_issueRegs (fun _ => rfl) fun _ => rfl,
    runsRegs_of_issueRegs (fun _ => rfl) fun _ => rfl, runsRegs_of_issueRegs (fun _ => rfl) fun _ => rfl⟩

end Sys2Proof.Machine

namespace Sys2Proof.Machine
variable {m n : Module}

/-! ### O7: block moves (R133) -/

theorem forM_of_ok {f : Nat → Except Stop Unit} {l : List Nat} (h : ∀ k ∈ l, f k = .ok ()) : l.forM f = .ok () := by
  induction l with
  | nil => rfl
  | cons k l ih =>
    obtain ⟨first, rest⟩ := List.forall_mem_cons.1 h
    show (f k >>= fun _ => l.forM f) = _
    rw [first]
    exact ih rest

/-- Word `k` behind the first word of a range. -/
theorem nextWord (a k : Nat) : a + 4 + 4 * k = a + 4 * (k + 1) := by omega

/-- `c` aligned words from `dm` lie in the DM area of a task, and `y` is aligned too. -/
structure InDm (t : TaskInfo) (dm y c : Nat) : Prop where
  dmAligned : dm % 4 = 0
  yAligned : y % 4 = 0
  low : t.dmBase ≤ dm
  high : dm + 4 * c < t.dmBase + t.dmSize + 4

section
variable {e c dm y : Nat} {b : Blk} {t : TaskInfo}

theorem InDm.next (h : InDm t dm y (c + 1)) : InDm t (dm + 4) (y + 4) c := by
  obtain ⟨dmAligned, yAligned, low, high⟩ := h
  constructor <;> omega

theorem InDm.dmCheck (h : InDm t dm y c) {k : Nat} (hk : k < c) (write : Bool) : dmCheck t (dm + 4 * k) write = .ok () := by
  obtain ⟨dmAligned, yAligned, low, high⟩ := h
  exact dmCheck_of_inside (by omega) (by omega) (by omega) write

theorem InDm.dmCheck_first (h : InDm t dm y (c + 1)) (write : Bool) : Machine.dmCheck t dm write = .ok () :=
  h.dmCheck (Nat.succ_pos c) write

theorem InDm.yardAligned (h : InDm t dm y c) (k : Nat) : (y + 4 * k) % 4 = 0 := by
  have := h.yAligned
  omega

theorem blockCheck_of_ok (loaded : m.taskInfo e b.task = some t) (area : InDm t dm y c) {toYard : Bool}
    (checked : ∀ k < c, m.yardCheck e (y + 4 * k) toYard = .ok ()) : m.blockCheck e b dm y c toYard = .ok () := by
  have yard : (List.range c).forM (fun k => m.yardCheck e (y + 4 * k) toYard) = .ok () :=
    forM_of_ok fun k hk => checked k (List.mem_range.1 hk)
  have own : (List.range c).forM (fun k => Machine.dmCheck t (dm + 4 * k) (!toYard)) = .ok () :=
    forM_of_ok fun k hk => area.dmCheck (List.mem_range.1 hk) _
  rw [Module.blockCheck, certE_of_loaded loaded]
  show ((List.range c).forM (fun k => m.yardCheck e (y + 4 * k) toYard) >>= fun _ => (List.range c).forM _) = _
  rw [yard]
  exact own

/-! ### From the yard into DM -/

/-- The rights of engines stand in the region tables, above every DM (R57, R114). -/
theorem yardReadable_congr (bytes : BytesOnly m n) (tables : ∀ k, 0x01500000 ≤ k → n.mb k = m.mb k) (e a : Nat) :
    n.yardReadable e a = m.yardReadable e a := by
  have regions (copy i w : Nat) : n.region copy i w = m.region copy i w := mn_congr fun k low _ => tables k (by omega)
  have copy : n.activeCopy = m.activeCopy := by
    obtain ⟨_, _, rfl⟩ := bytes
    rfl
  simp only [Module.yardReadable, Module.regionGrants, Module.inRegion, copy, regions]

/-- The block with `j` entered in front of its journal (R104). -/
def Blk.addJournal (b : Blk) (j : List (Nat × Word)) : Blk := { b with journal := j ++ b.journal }

theorem addJournal_addJournal (b : Blk) (i j : List (Nat × Word)) : (b.addJournal i).addJournal j = b.addJournal (j ++ i) := by
  simp [Blk.addJournal]

/-- What `copyIn` needs of the module and the block. -/
structure ReadyIn (m : Module) (e : Nat) (b : Blk) (t : TaskInfo) (dm y c : Nat) : Prop where
  loaded : m.taskInfo e b.task = some t
  area : InDm t dm y c
  engineMem : m.dmAddr e dm + 4 * c ≤ 0x01500000
  readable : ∀ k < c, m.yardReadable e (y + 4 * k) = true
  found : ∀ k < c, m.finds e b (y + 4 * k)
  room : b.journal.length + c ≤ 2048

/-- What `copyIn` leads to. -/
structure CopiedIn (m : Module) (e : Nat) (b : Blk) (dm y c : Nat) (m' : Module) (b' : Blk) : Prop where
  bytesOnly : BytesOnly m m'
  moved : ∀ k < c, m'.mw (m.dmAddr e (dm + 4 * k)) = m.stagedRead b (y + 4 * k)
  others : ∀ k, k < m.dmAddr e dm ∨ m.dmAddr e dm + 4 * c ≤ k → m'.mb k = m.mb k
  journal : ∃ j, b' = b.addJournal j ∧ j.length = c

theorem ReadyIn.first (h : ReadyIn m e b t dm y (c + 1)) : m.yardLoad e b y = .ok (m.stagedRead b y) :=
  yardLoad_of_finds (yardCheck_of_readable h.area.yAligned (h.readable 0 (Nat.succ_pos c))) (h.found 0 (Nat.succ_pos c))

/-- The state of the move after its first word. -/
theorem ReadyIn.next (h : ReadyIn m e b t dm y (c + 1)) (w old : Word) :
    ReadyIn (m.setMw (m.dmAddr e dm) w) e (b.addJournal [(dm, old)]) t (dm + 4) (y + 4) c := by
  obtain ⟨loaded, area, engineMem, readable, found, room⟩ := h
  have bytes : BytesOnly m (m.setMw (m.dmAddr e dm) w) := setMn_bytesOnly m _ 4 _
  have tables (k : Nat) (hk : 0x01500000 ≤ k) : (m.setMw (m.dmAddr e dm) w).mb k = m.mb k := mb_setMw m w (by omega)
  have failing := congrArg Eng.failing (setMw_eng m (dmAddr_aligned m e area.dmAligned) w)
  refine ⟨?_, area.next, ?_, fun k hk => ?_, fun k hk => ?_, ?_⟩
  · obtain ⟨_, _, same⟩ := bytes
    rw [same]
    exact loaded
  · rw [dmAddr_setMw]
    simp only [Module.dmAddr] at engineMem ⊢
    omega
  · rw [yardReadable_congr bytes tables, nextWord]
    exact readable (k + 1) (by omega)
  · rw [nextWord]
    obtain staged | ⟨undrained, good⟩ := found (k + 1) (by omega)
    · exact .inl staged
    · refine .inr ⟨?_, ?_⟩
      · obtain ⟨_, _, same⟩ := bytes
        rw [same]
        exact undrained
      · rw [failing]
        exact fun bad => good (List.mem_filter.1 bad).1
  · simp only [Blk.addJournal, List.length_append, List.length_singleton]
    omega

/-- A word of the yard that the engine may read lies below every DM (R57). -/
theorem stagedRead_setMw_dm {a : Nat} (aligned : a % 4 = 0) (readable : m.yardReadable e a = true) (w : Word) :
    (m.setMw (m.dmAddr e dm) w).stagedRead b a = m.stagedRead b a := by
  have below : a < 0x01000000 := by
    simp only [Module.yardReadable, Bool.and_eq_true, decide_eq_true_eq] at readable
    exact readable.1
  rw [stagedRead_eq, stagedRead_eq, mw_setMw_apart m w (.inl (by simp only [Module.dmAddr]; omega))]

theorem copyIn_of_ready (h : ReadyIn m e b t dm y c) :
    ∃ m' b', m.copyIn e b dm y c = .ok (m', b') ∧ CopiedIn m e b dm y c m' b' := by
  induction c generalizing m b dm y with
  | zero => exact ⟨m, b, rfl, .refl m, fun _ hk => absurd hk (Nat.not_lt_zero _), fun _ _ => rfl, [], rfl, rfl⟩
  | succ c ih =>
    set w := m.stagedRead b y
    set old := m.mw (m.dmAddr e dm)
    have store : m.dmStore e b dm w = .ok (m.setMw (m.dmAddr e dm) w, b.addJournal [(dm, old)]) :=
      dmStore_of_inside h.loaded (h.area.dmCheck_first true) (by have := h.room; omega) w
    obtain ⟨m', b', copied, bytes, moved, others, j, rfl, count⟩ := ih (h.next w old)
    have places (k : Nat) : (m.setMw (m.dmAddr e dm) w).dmAddr e k = m.dmAddr e k := dmAddr_setMw m _ _ e k
    have step : m.dmAddr e (dm + 4) = m.dmAddr e dm + 4 := rfl
    refine ⟨m', _, ?_, (setMn_bytesOnly m _ 4 _).trans bytes, fun k hk => ?_, fun k outside => ?_,
      j ++ [(dm, old)], addJournal_addJournal b _ j, by simp [count]⟩
    · rw [Module.copyIn, h.first]
      show (m.dmStore e b dm w >>= fun p => p.1.copyIn e p.2 (dm + 4) (y + 4) c) = _
      rw [store]
      exact copied
    · cases k with
      | zero =>
        have kept : m'.mw (m.dmAddr e dm) = (m.setMw (m.dmAddr e dm) w).mw (m.dmAddr e dm) :=
          mw_congr fun k _ top => others k (.inl (by rw [places, step]; exact top))
        exact kept.trans (mw_setMw_same m _ _)
      | succ k =>
        have next := moved k (Nat.lt_of_succ_lt_succ hk)
        rw [places, nextWord, nextWord] at next
        exact next.trans (stagedRead_setMw_dm (h.area.yardAligned (k + 1)) (h.readable (k + 1) hk) _)
    · rw [others k (by rw [places, step]; omega)]
      exact mb_setMw m _ (by omega)

/-! ### From DM to the yard -/

/-- What `copyOut` needs of the module and the block. -/
structure ReadyOut (m : Module) (e : Nat) (b : Blk) (t : TaskInfo) (dm y c : Nat) : Prop where
  loaded : m.taskInfo e b.task = some t
  area : InDm t dm y c
  writable : ∀ k < c, m.yardWritable e (y + 4 * k) = true
  good : ∀ k < c, m.dmAddr e (dm + 4 * k) ∉ m.eng.failing
  room : m.room e b c

/-- The block with the words `ws` staged. -/
def Blk.withWords (b : Blk) (ws : List (Nat × Word)) : Blk := { b with st := { b.st with words := ws } }

/-- The block with one word more staged (R106). -/
def Blk.stage (b : Blk) (a : Nat) (w : Word) : Blk := b.withWords ((a, w) :: b.st.words.filter (fun q => q.1 ≠ a))

/-- What `copyOut` leads to. -/
structure CopiedOut (m : Module) (e : Nat) (b : Blk) (dm y c : Nat) (b' : Blk) : Prop where
  wordsOnly : ∃ ws, b' = b.withWords ws
  staged : ∀ k < c, m.stagedRead b' (y + 4 * k) = m.mw (m.dmAddr e (dm + 4 * k))
  others : ∀ p, p < y ∨ y + 4 * c ≤ p → m.stagedRead b' p = m.stagedRead b p

theorem stagedRead_stage_same (m : Module) (b : Blk) (a : Nat) (w : Word) : m.stagedRead (b.stage a w) a = w := by
  simp [stagedRead_eq, Blk.stage, Blk.withWords]

theorem stagedRead_stage_ne (m : Module) (b : Blk) {a p : Nat} (w : Word) (h : p ≠ a) :
    m.stagedRead (b.stage a w) p = m.stagedRead b p := by
  have skipped : (b.st.words.filter (fun q => q.1 ≠ a)).find? (fun q => q.1 == p) = b.st.words.find? (fun q => q.1 == p) := by
    rw [List.find?_filter]
    congr 1
    funext q
    by_cases own : q.1 = p <;> simp [own, h]
  rw [stagedRead_eq, stagedRead_eq, Blk.stage, Blk.withWords, List.find?_cons_of_neg (by simpa using h.symm), skipped]

theorem ReadyOut.next (h : ReadyOut m e b t dm y (c + 1)) (w : Word) : ReadyOut m e (b.stage y w) t (dm + 4) (y + 4) c := by
  obtain ⟨loaded, area, writable, good, own, buffer⟩ := h
  have longer : (b.stage y w).st.words.length ≤ b.st.words.length + 1 := Nat.succ_le_succ (List.length_filter_le _ _)
  exact ⟨loaded, area.next, fun k hk => nextWord y k ▸ writable (k + 1) (by omega),
    fun k hk => nextWord dm k ▸ good (k + 1) (by omega), by omega, by omega⟩

theorem ReadyOut.stores (h : ReadyOut m e b t dm y (c + 1)) (w : Word) : m.yardStore e b y w = .ok (m, b.stage y w) :=
  have ⟨own, buffer⟩ := h.room
  yardStore_of_room (yardCheck_of_writable h.area.yAligned (h.writable 0 (Nat.succ_pos c))) (.inr ⟨by omega, by omega⟩) w

theorem copyOut_of_ready (h : ReadyOut m e b t dm y c) :
    ∃ b', m.copyOut e b dm y c = .ok (m, b') ∧ CopiedOut m e b dm y c b' := by
  induction c generalizing b dm y with
  | zero => exact ⟨b, rfl, ⟨_, rfl⟩, fun _ hk => absurd hk (Nat.not_lt_zero _), fun _ _ => rfl⟩
  | succ c ih =>
    set w := m.mw (m.dmAddr e dm)
    have load : m.dmLoad e b dm = .ok w := dmLoad_of_inside h.loaded (h.area.dmCheck_first false) (h.good 0 (Nat.succ_pos c))
    obtain ⟨b', copied, ⟨ws, only⟩, staged, others⟩ := ih (h.next w)
    refine ⟨b', ?_, ⟨ws, only⟩, fun k hk => ?_, fun p outside => ?_⟩
    · rw [Module.copyOut, load]
      show (m.yardStore e b y w >>= fun p => p.1.copyOut e p.2 (dm + 4) (y + 4) c) = _
      rw [h.stores]
      exact copied
    · cases k with
      | zero => exact (others y (.inl (by omega))).trans (stagedRead_stage_same m b y w)
      | succ k =>
        have next := staged k (Nat.lt_of_succ_lt_succ hk)
        rwa [nextWord, nextWord] at next
    · exact (others p (by omega)).trans (stagedRead_stage_ne m b w (by omega))

end

/-- Settles O7: the checks pass (`blockCheck_of_ok`), and the words move one by one (`copyIn_of_ready`, `copyOut_of_ready`). -/
theorem blockMovesCopyWords : Obligations.BlockMovesCopyWords := by
  intro x d a nm1 s b pc reps t c dm y goes loaded dmAligned yAligned low high engineMem
  have area : InDm t dm y c := ⟨dmAligned, yAligned, low, by omega⟩
  refine ⟨fun yard room => ?_, fun yard room => ?_⟩
  · have checked := blockCheck_of_ok (toYard := false) loaded area fun k hk =>
      yardCheck_of_readable (area.yardAligned k) (yard k hk).1
    obtain ⟨m', b', copied, ⟨mem, failing, bytes⟩, moved, others, j, rfl, count⟩ := copyIn_of_ready
      ⟨loaded, area, engineMem, fun k hk => (yard k hk).1, fun k hk => (yard k hk).2, room⟩
    refine ⟨_, exec_of_issue rfl goes (b' := b.addJournal j) ?_ rfl rfl, ?_, moved, others, j, setBlk_blk_same _ _ _, count⟩
    · show (s.mod.blockCheck x.le b dm y c false >>= fun _ => s.mod.copyIn x.le b dm y c) = _
      rw [checked]
      exact copied
    · rw [setBlk_blk_same, bytes]
      rfl
  · have checked := blockCheck_of_ok (toYard := true) loaded area fun k hk =>
      yardCheck_of_writable (area.yardAligned k) (yard k hk).1
    obtain ⟨b', copied, ⟨ws, rfl⟩, staged, others⟩ := copyOut_of_ready
      ⟨loaded, area, fun k hk => (yard k hk).1, fun k hk => (yard k hk).2, room⟩
    refine ⟨_, exec_of_issue rfl goes (b' := b.withWords ws) ?_ rfl rfl, ?_, _, setBlk_blk_same _ _ _, rfl, rfl, rfl, staged,
      others⟩
    · show (s.mod.blockCheck x.le b dm y c true >>= fun _ => s.mod.copyOut x.le b dm y c) = _
      rw [checked]
      exact copied
    · rw [setBlk_blk_same]

end Sys2Proof.Machine

namespace Sys2Proof.Machine
variable {m n : Module}

/-! ### O8: where execution goes (R137 to R140) -/

section
variable {depth : Nat} {reps : List Rep} {r : Rep} {rs : List Rep}

theorem closeBody_of_inside {pc : Nat} (inside : ∀ r rs, reps = r :: rs → r.depth = depth → pc < r.stop) :
    closeBody depth reps pc = some (pc, reps) := by
  cases reps with
  | nil => rfl
  | cons r rs =>
    rw [closeBody]
    split
    · rfl
    · next own => rw [if_pos (inside r rs rfl (not_not.1 own))]

theorem closeBody_again (own : r.depth = depth) (more : 1 < r.left) :
    closeBody depth (r :: rs) r.stop = some (r.start, { r with left := r.left - 1 } :: rs) := by
  simp [closeBody, own, more]

theorem closeBody_done (own : r.depth = depth) (last : r.left ≤ 1) :
    closeBody depth (r :: rs) r.stop = closeBody depth rs r.stop := by
  rw [closeBody]
  simp [own, Nat.not_lt.2 last]

end

section
variable {b : Blk} {r : Rep} {rs reps : List Rep} {pc t : Nat}

theorem goto_of_closeBody (h : closeBody b.calls.length b.reps t = some (pc, reps)) :
    b.goto t = .ok { b with pc := pc, reps := reps } := by
  rw [Blk.goto, h]

theorem ownRep_of_own (levels : b.reps = r :: rs) (own : r.depth = b.calls.length) : b.ownRep = some (r, rs) := by
  rw [Blk.ownRep, levels]
  exact if_pos own

theorem ownRep_of_none (h : ∀ r rs, b.reps = r :: rs → r.depth ≠ b.calls.length) : b.ownRep = none := by
  unfold Blk.ownRep
  split
  · next levels => exact if_neg (h _ _ levels)
  · rfl

theorem ownRep_inv (h : b.ownRep = some (r, rs)) : b.reps = r :: rs ∧ r.depth = b.calls.length := by
  unfold Blk.ownRep at h
  split at h
  · next levels =>
    obtain ⟨own, h⟩ := Option.ite_none_right_eq_some.1 h
    cases h
    exact ⟨levels, own⟩
  · cases h

theorem jump_of_inside (inside : ∀ r rs, b.reps = r :: rs → r.depth = b.calls.length → t < r.stop) :
    b.jump t = .ok { b with pc := t } := by
  have onward : b.goto t = .ok { b with pc := t } := goto_of_closeBody (closeBody_of_inside inside)
  unfold Blk.jump
  split
  · next r rs innermost =>
    obtain ⟨levels, own⟩ := ownRep_inv innermost
    have before := inside r rs levels own
    rw [if_neg (Nat.ne_of_lt before), if_neg (Nat.lt_asymm before), onward]
  · exact onward

theorem jump_to_stop (levels : b.reps = r :: rs) (own : r.depth = b.calls.length)
    (h : closeBody b.calls.length rs r.stop = some (pc, reps)) : b.jump r.stop = .ok { b with pc := pc, reps := reps } := by
  rw [Blk.jump, ownRep_of_own levels own]
  exact (if_pos rfl).trans (goto_of_closeBody (b := { b with reps := rs }) h)

end

section
variable {s : State} {c : Instr} {x : Issue} {b b' : Blk}

theorem exec_of_issueRaw {sem : Module → Blk → Except Stop (Module × Blk)} (isRaw : exec c s = s.run (·.issueRaw x sem))
    (issues : Issues s.mod x b) (h : sem s.mod b = .ok (n, b')) : exec c s = .next ⟨n.setBlk x.le (some b'), s.pending⟩ :=
  isRaw.trans (run_of_eq (issueRaw_of_ok issues h))

section
variable {sense : Bool} {f off : Nat} (isBranch : exec c s = s.run (·.branch x sense f off)) (issues : Issues s.mod x b)
  (forward : off ≠ 0)
include isBranch issues forward

theorem exec_branch_taken (flag : b.regs.rc f = sense) (h : b.jump (b.pc + off) = .ok b') :
    exec c s = .next ⟨s.mod.setBlk x.le (some b'), s.pending⟩ := by
  refine exec_of_issueRaw isBranch issues ((if_neg forward).trans ?_)
  rw [if_pos flag, h]
  rfl

theorem exec_branch_untaken (flag : b.regs.rc f ≠ sense) (h : b.goto (b.pc + 1) = .ok b') :
    exec c s = .next ⟨s.mod.setBlk x.le (some b'), s.pending⟩ := by
  refine exec_of_issueRaw isBranch issues ((if_neg forward).trans ?_)
  rw [if_neg flag, h]
  rfl

end

variable (issues : Issues s.mod x b)
include issues

theorem exec_rep_skipped {len : Fin 1024} (body : len ≠ 0) (h : b.goto (b.pc + 1 + len) = .ok b') :
    exec (.rep x len 0) s = .next ⟨s.mod.setBlk x.le (some b'), s.pending⟩ := by
  refine exec_of_issueRaw rfl issues ((if_neg (Fin.val_ne_of_ne body)).trans ((if_pos rfl).trans ?_))
  rw [h]
  rfl

theorem exec_rep_opened {len : Fin 1024} {count : BitVec 16} (body : len ≠ 0) (repeats : count ≠ 0)
    (room : b.reps.length < 4) : exec (.rep x len count) s = .next ⟨s.mod.setBlk x.le (some { b with
      pc := b.pc + 1, reps := ⟨b.pc + 1, b.pc + 1 + len, count.toNat, b.calls.length⟩ :: b.reps }), s.pending⟩ :=
  exec_of_issueRaw rfl issues ((if_neg (Fin.val_ne_of_ne body)).trans
    ((if_neg (fun zero => repeats (BitVec.eq_of_toNat_eq zero))).trans (if_neg (Nat.not_le.2 room))))

theorem exec_brk_taken {sense : Bool} {f : Fin 8} {r : Rep} {rs : List Rep} (own : b.ownRep = some (r, rs))
    (flag : b.regs.rc f = sense) (h : Blk.goto { b with reps := rs } r.stop = .ok b') :
    exec (.brk x sense f) s = .next ⟨s.mod.setBlk x.le (some b'), s.pending⟩ := by
  refine exec_of_issueRaw rfl issues ?_
  rw [own]
  exact (if_pos flag).trans (by rw [h]; rfl)

theorem exec_brk_untaken {sense : Bool} {f : Fin 8} (own : b.ownRep.isSome) (flag : b.regs.rc f ≠ sense)
    (h : b.goto (b.pc + 1) = .ok b') : exec (.brk x sense f) s = .next ⟨s.mod.setBlk x.le (some b'), s.pending⟩ := by
  obtain ⟨_, own⟩ := Option.isSome_iff_exists.1 own
  refine exec_of_issueRaw rfl issues ?_
  rw [own]
  exact (if_neg flag).trans (by rw [h]; rfl)

theorem exec_call (tgt : BitVec 14) (room : b.calls.length < 8) : exec (.call x tgt) s =
    .next ⟨s.mod.setBlk x.le (some { b with pc := tgt.toNat, calls := (b.pc + 1) :: b.calls }), s.pending⟩ :=
  exec_of_issueRaw rfl issues (if_neg (Nat.not_le.2 room))

theorem exec_ret {a : Nat} {cs : List Nat} (calls : b.calls = a :: cs) (outside : b.ownRep = none)
    (h : Blk.goto { b with calls := cs } a = .ok b') :
    exec (.ret x) s = .next ⟨s.mod.setBlk x.le (some b'), s.pending⟩ := by
  refine exec_of_issueRaw rfl issues ?_
  rw [calls, outside]
  show (Blk.goto _ _ >>= _) = _
  rw [h]
  rfl

theorem exec_sw {a : Fin 32} {nm1 : Fin 64} {w : Nat}
    (entry : s.mod.mn (s.mod.imAddr x.le (s.mod.imOff x.le b (b.pc + 1 + min (b.regs.rg a).toNat nm1))) 4 = w)
    (target : w < 0x10000) (h : b.jump (b.pc + 2 + nm1 + w) = .ok b') :
    exec (.sw x a nm1) s = .next ⟨s.mod.setBlk x.le (some b'), s.pending⟩ := by
  refine exec_of_issueRaw rfl issues ?_
  show (if 0x10000 ≤ s.mod.mn _ 4 then _ else _) = _
  rw [entry, if_neg (Nat.not_le.2 target), show b.pc + 1 + (nm1.val + 1) + w = b.pc + 2 + nm1 + w by omega, h]
  rfl

end

/-- Settles O8: each instruction issues (`exec_of_issueRaw`) and goes on where `closeBody` says. -/
theorem controlFlowAndRepeatedBodies : Obligations.ControlFlowAndRepeatedBodies := by
  refine ⟨fun x s b => ?_, fun x s b r rs issues levels own stop => ?_⟩
  · extract_lets inside goes
    intro issues
    have nonzero {off : BitVec 22} (h : off ≠ 0) : off.toNat ≠ 0 := fun zero => h (BitVec.eq_of_toNat_eq zero)
    refine ⟨fun c off forward within => ⟨fun flag => ?_, fun flag => ?_⟩,
      fun c off r rs pc reps levels own stop forward closed => ⟨fun flag => ?_, fun flag => ?_⟩,
      fun c off pc reps forward closed => ⟨fun flag => ?_, fun flag => ?_⟩,
      fun len count body => ⟨fun repeats room => ?_, fun pc reps zero closed => ?_⟩,
      fun sense c r rs pc reps levels own => ⟨fun flag closed => ?_, fun flag closed => ?_⟩,
      fun tgt room => ?_, fun r cs pc reps calls outside closed => ?_, fun a nm1 => ?_, ?_⟩
    · exact exec_branch_taken rfl issues (nonzero forward) flag (jump_of_inside within)
    · exact exec_branch_taken rfl issues (nonzero forward) flag (jump_of_inside within)
    · exact exec_branch_taken rfl issues (nonzero forward) flag (stop ▸ jump_to_stop levels own closed)
    · exact exec_branch_taken rfl issues (nonzero forward) flag (stop ▸ jump_to_stop levels own closed)
    · exact exec_branch_untaken rfl issues (nonzero forward) (by simp [flag]) (goto_of_closeBody closed)
    · exact exec_branch_untaken rfl issues (nonzero forward) (by simp [flag]) (goto_of_closeBody closed)
    · exact exec_rep_opened issues body repeats room
    · subst zero
      exact exec_rep_skipped issues body (goto_of_closeBody closed)
    · exact exec_brk_taken issues (ownRep_of_own levels own) flag (goto_of_closeBody (b := { b with reps := rs }) closed)
    · exact exec_brk_untaken issues (by simp [ownRep_of_own levels own]) flag (goto_of_closeBody closed)
    · exact exec_call issues tgt room
    · exact exec_ret issues calls (ownRep_of_none outside) (goto_of_closeBody (b := { b with calls := cs }) closed)
    · intro k w target within
      exact exec_sw issues rfl target (jump_of_inside within)
    · exact exec_of_issueRaw rfl issues rfl
  · have ends {pc : Nat} {reps : List Rep} (h : closeBody b.calls.length (r :: rs) r.stop = some (pc, reps)) :=
      runsRegs_nop x s b pc reps ⟨issues, by rw [levels, ← stop]; exact h⟩
    refine ⟨fun more => ?_, fun last outer => ?_, fun last q qs levels' own' stop' more => ?_⟩
    · exact ends (closeBody_again own more)
    · have inside := closeBody_of_inside fun q qs h depth => outer q qs h (depth.trans own.symm)
      exact ends ((closeBody_done own last).trans inside)
    · refine ends ((closeBody_done own last).trans ?_)
      rw [levels', ← stop']
      exact closeBody_again (own'.trans own) more

end Sys2Proof.Machine

namespace Sys2Proof.Machine
variable {m n : Module}

/-! ### Primitive instructions that pass the checks of R151 -/

/-- The checks of R151 pass: the block is no monitoring task's where that counts, the unit is booked, every range of registers
ends at register 31 or before, and every output is listed. -/
theorem primCheck_of_passes {e : Nat} {b : Blk} {t : TaskInfo} {noMon : Bool} {booked : TaskInfo → Bool}
    {ranges outs : List (Nat × Nat)} (loaded : m.taskInfo e b.task = some t) (mon : noMon = false ∨ b.mon = false)
    (books : booked t = true) (fit : ∀ r ∈ ranges, r.1 + r.2 ≤ 32) (listed : ∀ o ∈ outs, o ∈ t.outs) :
    m.primCheck e b noMon booked ranges outs = .ok () := by
  have noRange : ranges.any (fun r => decide (32 < r.1 + r.2)) = false := by simpa using fit
  have noOut : outs.any (fun o => !t.outs.contains o) = false := by simpa using listed
  rw [Module.primCheck, certE_of_loaded loaded]
  show (if _ then _ else _) = _
  rw [if_neg (by rcases mon with h | h <;> simp [h]), books, noRange, noOut]
  rfl

/-- A command runs on engine `x.le` alone: its block becomes `k'`, at word `pc` with the levels `reps` open. -/
def Proceeds (s : State) (x : Issue) (pc : Nat) (reps : List Rep) (c : Instr) (k' : Blk) : Prop :=
  exec c s = .next ⟨s.mod.setBlk x.le (some { k' with pc := pc, reps := reps }), s.pending⟩

theorem proceeds_of_issue {s : State} {x : Issue} {k k' : Blk} {pc : Nat} {reps : List Rep} {c : Instr}
    {sem : Module → Blk → Except Stop (Module × Blk)} (goes : GoesOn s.mod x 1 k pc reps)
    (isIssue : exec c s = s.run (·.issue x 1 sem)) (calls : k'.calls = k.calls) (levels : k'.reps = k.reps)
    (h : sem s.mod k = .ok (s.mod, k')) : Proceeds s x pc reps c k' := exec_of_issue isIssue goes h calls levels

end Sys2Proof.Machine

namespace Sys2Proof.Machine
variable {m n : Module}

/-! ### O10: a step of a loop unit (R174 to R176) -/

namespace Fp

/-- The order of numbers by sign and magnitude bits, a zero having none. -/
theorem ord_eq_signed (w : Word) : ord w = if sign w then -(cmpNum.w32 w : Int) else cmpNum.w32 w := by
  have size := natAbs_ord w
  unfold ord at size ⊢
  split at size
  · next zero => rw [if_pos zero, ← size]; simp
  · next nonzero => rw [if_neg nonzero]

/-- `key` is that order with −0 and all below it one lower. -/
theorem key_eq_ord (w : Word) : key w = if sign w then ord w - 1 else ord w := by
  rw [ord_eq_signed, key]
  split
  · rfl
  · next positive =>
    have low := BitVec.toNat_lt_of_msb_false (Bool.eq_false_iff.2 positive)
    rw [cmpNum.w32, Nat.mod_eq_of_lt low]

theorem ord_le_of_key_le {p q : Word} (h : key p ≤ key q) : ord p ≤ ord q := by
  rw [key_eq_ord, key_eq_ord] at h
  rw [ord_eq_signed p, ord_eq_signed q] at h ⊢
  split_ifs at h ⊢ <;> omega

theorem key_le_of_ord_lt {p q : Word} (h : ord p < ord q) : key p ≤ key q := by
  rw [key_eq_ord, key_eq_ord]
  rw [ord_eq_signed p, ord_eq_signed q] at h ⊢
  split_ifs at h ⊢ <;> omega

theorem isNaN_of_isFinite {w : Word} (finite : isFinite w = true) : isNaN w = false := by
  simp only [isFinite, bne_iff_ne] at finite
  simp [isNaN, finite]

theorem le_of_key_le {p q : Word} (hp : isNaN p = false) (hq : isNaN q = false) (h : key p ≤ key q) : le p q = true := by
  have order := ord_le_of_key_le h
  have above : cmpNum p q ≠ 1 := by rw [cmpNum_eq]; split_ifs <;> omega
  simpa [le, unordered, hp, hq] using above

theorem key_le_of_lt {p q : Word} (h : lt p q = true) : key p ≤ key q := by
  simp only [lt, Bool.and_eq_true, beq_iff_eq, cmpNum_eq] at h
  refine key_le_of_ord_lt (not_le.1 fun notLess => ?_)
  rw [if_neg (not_lt.2 notLess)] at h
  split_ifs at h <;> simp at h

theorem clampV_eq {a lo hi : Word} (ha : isNaN a = false) (hlo : isNaN lo = false) (hhi : isNaN hi = false) :
    clampV a lo hi = let top := if key a ≤ key lo then lo else a; if key top ≤ key hi then top else hi := by
  have number : isNaN (if key a ≤ key lo then lo else a) = false := by split <;> assumption
  simp [clampV, clamp, max', min', ha, hlo, hhi, number]

/-- A clamped number lies between its limits (R129, R130). -/
theorem clampV_between {a lo hi : Word} (ha : isNaN a = false) (hlo : isNaN lo = false) (hhi : isNaN hi = false)
    (ordered : key lo ≤ key hi) : le lo (clampV a lo hi) = true ∧ le (clampV a lo hi) hi = true := by
  have result : isNaN (clampV a lo hi) = false ∧ key lo ≤ key (clampV a lo hi) ∧ key (clampV a lo hi) ≤ key hi := by
    rw [clampV_eq ha hlo hhi]
    extract_lets top
    have raised : isNaN top = false ∧ key lo ≤ key top := by
      unfold top
      split
      · exact ⟨hlo, le_rfl⟩
      · next above => exact ⟨ha, (not_le.1 above).le⟩
    split
    · next below => exact ⟨raised.1, raised.2, below⟩
    · exact ⟨hhi, ordered, le_rfl⟩
  obtain ⟨number, above, below⟩ := result
  exact ⟨le_of_key_le hlo number above, le_of_key_le number hhi below⟩

end Fp

section
variable (m : Module) (u : Nat) (l : LuState) {e ff : Word}

/-- The raw output of a step (R174): the core output with the feed-forward added. -/
def Module.luRaw (m : Module) (u : Nat) (l : LuState) (e ff : Word) : Word := Fp.addV (luCand (m.luForm u) (m.luK u) l e).yc ff

theorem luStep_of_nonfinite (h : Fp.isFinite e = false ∨ Fp.isFinite ff = false ∨ Fp.isFinite (m.luRaw u l e ff) = false) :
    let hi := Fp.gt (m.luRaw u l e ff) (m.luHi u)
    let lo := Fp.lt (m.luRaw u l e ff) (m.luLo u)
    m.luStep u l e ff = (l.out, { l with nan := true, satHi := hi, satLo := lo, steps := l.steps + 1,
                                         nanSteps := l.nanSteps + 1, satSteps := l.satSteps + if hi || lo then 1 else 0 }) := by
  refine if_pos ?_
  rw [Bool.or_eq_true, Bool.or_eq_true, or_assoc]
  exact h.imp (congrArg (! ·)) (Or.imp (congrArg (! ·)) (congrArg (! ·)))

/-- A step on finite numbers answers the raw output clamped, and keeps it as OUT, whether its integration stops or not. -/
theorem luStep_of_finite (he : Fp.isFinite e = true) (hff : Fp.isFinite ff = true)
    (hraw : Fp.isFinite (m.luRaw u l e ff) = true) :
    let r := m.luStep u l e ff
    r.1 = Fp.clampV (m.luRaw u l e ff) (m.luLo u) (m.luHi u) ∧ r.2.out = r.1 ∧ r.2.nan = false := by
  have goes : ¬ (!Fp.isFinite e || !Fp.isFinite ff || !Fp.isFinite (m.luRaw u l e ff)) = true := by simp [he, hff, hraw]
  unfold Module.luStep
  rw [Module.luRaw] at goes
  simp only [if_neg goes]
  split
  · exact ⟨rfl, rfl, rfl⟩
  · split <;> exact ⟨rfl, rfl, rfl⟩

end

/-- Where the certificate books the unit, a loop instruction issues on the unit's working values in the block. -/
theorem runsBlk_of_loopOp {c : Instr} {x : Issue} {u : Nat} {f : Module → Blk → Blk} {g : Module → Blk → LuState → Blk}
    (isLoop : ∀ s, exec c s = s.run (·.loopOp x u g)) (same : ∀ m k, g m k (m.luNow k u) = f m k)
    (calls : ∀ m k, (f m k).calls = k.calls) (levels : ∀ m k, (f m k).reps = k.reps) :
    RunsBlk c x 1 (fun m k => u < 96 ∧ ∃ t, m.taskInfo x.le k.task = some t ∧ t.luMap.testBit u = true) f := by
  refine runsBlk_of_issue isLoop (fun m k allowed => ?_) calls levels
  obtain ⟨defined, t, loaded, booked⟩ := allowed
  rw [if_neg (by omega), primCheck_of_passes loaded (.inl rfl) booked (by simp) (by simp), ← same]
  rfl

/-- Settles O10: each instruction issues by `runsBlk_of_loopOp`; a step by `luStep_of_finite` and `luStep_of_nonfinite`. -/
theorem loopUnitOperationsAndLimits : Obligations.LoopUnitOperationsAndLimits := by
  refine ⟨fun x d a b u => ?_, fun m u l e ff => ⟨fun he hff hraw hlo hhi ordered => ?_, fun h => ?_⟩⟩
  · extract_lets booked now stage step
    have steps {c : Instr} {e ff : Blk → Word}
        (isLoop : ∀ s, exec c s = s.run (·.loopOp x u fun m k l => m.luApply u d (e k) (ff k) k l)) :
        RunsBlk c x 1 booked (step e ff) := by
      refine runsBlk_of_loopOp isLoop (fun _ _ => rfl) (fun m k => ?_) (fun m k => ?_)
      all_goals
        unfold step
        split <;> rfl
    exact ⟨steps (fun _ => rfl), steps (fun _ => rfl),
      runsBlk_of_loopOp (fun _ => rfl) (fun _ _ => rfl) (fun _ _ => rfl) (fun _ _ => rfl),
      runsBlk_of_loopOp (fun _ => rfl) (fun _ _ => rfl) (fun _ _ => rfl) (fun _ _ => rfl),
      runsBlk_of_loopOp (fun _ => rfl) (fun _ _ => rfl) (fun _ _ => rfl) (fun _ _ => rfl)⟩
  · obtain ⟨value, out, nan⟩ := luStep_of_finite m u l he hff hraw
    obtain ⟨above, below⟩ := Fp.clampV_between (a := m.luRaw u l e ff) (Fp.isNaN_of_isFinite hraw) (Fp.isNaN_of_isFinite hlo)
      (Fp.isNaN_of_isFinite hhi) (Fp.key_le_of_lt ordered)
    rw [← value] at above below
    exact ⟨above, below, out, nan⟩
  · have held := luStep_of_nonfinite m u l h
    exact ⟨congrArg Prod.fst held, congrArg Prod.snd held⟩

end Sys2Proof.Machine

namespace Sys2Proof.Machine
variable {m n : Module}

/-! ### O11: transforms (R153, R154) -/

/-- Where the certificate books the unit and the ranges fit, a transform writes the outputs of its function and their flags. -/
theorem runsBlk_of_xfm {c : Instr} {x : Issue} {fn d a b u : Nat} (isXfm : ∀ s, exec c s = s.run (·.xfm x fn d a b u)) :
    RunsBlk c x 1 (fun m k => (∃ t, m.taskInfo x.le k.task = some t ∧ t.xsMap.testBit u = true)
        ∧ d + Xfm.outputs fn ≤ 32 ∧ a + (Xfm.inputs fn).1 ≤ 32)
      (fun _ k => { k with
        regs := (k.regs.setFs d (Xfm.run fn (xfmInputs fn a b k.regs)).1).orX (Xfm.run fn (xfmInputs fn a b k.regs)).2 }) := by
  refine runsBlk_of_issue isXfm (fun m k allowed => ?_) (fun _ _ => rfl) (fun _ _ => rfl)
  obtain ⟨⟨t, loaded, booked⟩, outputs, inputs⟩ := allowed
  rw [primCheck_of_passes loaded (.inl rfl) booked (by simpa using ⟨outputs, inputs⟩) (by simp)]
  rfl

theorem Xfm.run_of_nonfinite (fn : Nat) {ws : List Word} (h : ∃ w ∈ ws, Fp.isFinite w = false) :
    Xfm.run fn ws = (List.replicate (Xfm.outputs fn) Fp.qNaN, Fp.invalid) := if_pos (by simpa using h)

/-- Settles O11: each function by `runsBlk_of_xfm`, inputs that are not finite by `Xfm.run_of_nonfinite`. -/
theorem transformsWriteTheirOutputs : Obligations.TransformsWriteTheirOutputs := by
  refine ⟨fun x d a b u => ?_, fun fn _ _ h => Xfm.run_of_nonfinite fn h⟩
  exact ⟨runsBlk_of_xfm fun _ => rfl, runsBlk_of_xfm fun _ => rfl, runsBlk_of_xfm fun _ => rfl, runsBlk_of_xfm fun _ => rfl,
    runsBlk_of_xfm fun _ => rfl, runsBlk_of_xfm fun _ => rfl, runsBlk_of_xfm fun _ => rfl, runsBlk_of_xfm fun _ => rfl,
    runsBlk_of_xfm fun _ => rfl, runsBlk_of_xfm fun _ => rfl⟩

end Sys2Proof.Machine

namespace Sys2Proof.Machine
variable {m n : Module}

/-! ### O12: which cells an arm inserts (R155) -/

/-- The order of R155 on keys with their cells: by key, falling for DIR 0 and rising for DIR 1, and equal keys by cell. -/
def selBefore (dir : Bool) (p q : Nat × Nat) : Bool :=
  if p.1 = q.1 then decide (p.2 ≤ q.2) else if dir then decide (p.1 < q.1) else decide (q.1 < p.1)

theorem selBefore_total (dir : Bool) : Std.Total (fun p q => selBefore dir p q = true) := by
  refine ⟨fun p q => ?_⟩
  cases dir <;> simp only [selBefore] <;> grind

theorem selBefore_trans (dir : Bool) : IsTrans (Nat × Nat) (fun p q => selBefore dir p q = true) := by
  refine ⟨fun p q r => ?_⟩
  cases dir <;> simp only [selBefore] <;> grind

theorem key_le_of_selBefore {dir : Bool} {p q : Nat × Nat} (h : selBefore dir p q = true) :
    if dir then p.1 ≤ q.1 else q.1 ≤ p.1 := by
  cases dir <;> simp only [selBefore] at h ⊢ <;> grind

section
variable {α : Type} (le : α → α → Bool)

theorem insertBy_eq (v : α) (l : List α) : insertBy le v l = l.orderedInsert (fun p q => le p q = true) v := by
  induction l with
  | nil => rfl
  | cons w r ih => rw [insertBy, ih, List.orderedInsert_cons]

theorem sortBy_eq (l : List α) : sortBy le l = l.insertionSort (fun p q => le p q = true) := by
  rw [sortBy, show insertBy le = _ from funext₂ (insertBy_eq le)]
  rfl

end

/-- The candidates of an arm: its cells in STATE 1. -/
def Module.armCandidates (m : Module) (arm : Nat) : List Nat := (m.armCells arm).filter (fun i => m.cellState i == 1)

theorem armCandidates_nodup (m : Module) (arm : Nat) : (m.armCandidates arm).Nodup := (List.nodup_range.filter _).filter _

/-- The candidates with their keys, best first. -/
def Module.selRanked (m : Module) (arm req : Nat) : List (Nat × Nat) :=
  ((m.armCandidates arm).map fun i => (m.selKey (req.testBit 15) (bitsN req 31 16) i, i)).insertionSort
    (fun p q => selBefore (req.testBit 15) p q = true)

theorem selArm_eq (m : Module) (arm req : Nat) : m.selArm arm req =
    (((m.selRanked arm req).take (bitsN req 10 0)).map (·.2), decide ((m.armCandidates arm).length < bitsN req 10 0)) := by
  rw [Module.selRanked, ← sortBy_eq, ← List.length_map (as := m.armCandidates arm)]
  rfl

section
variable (m : Module) (arm req : Nat)

theorem selRanked_perm : ((m.selRanked arm req).map (·.2)).Perm (m.armCandidates arm) := by
  refine ((List.perm_insertionSort _ _).map _).trans (.of_eq ?_)
  rw [List.map_map]
  exact List.map_id _

theorem selRanked_sorted : (m.selRanked arm req).Pairwise (fun p q => selBefore (req.testBit 15) p q = true) :=
  haveI := selBefore_total (req.testBit 15)
  haveI := selBefore_trans (req.testBit 15)
  List.pairwise_insertionSort _ _

theorem mem_selRanked {p : Nat × Nat} : p ∈ m.selRanked arm req ↔
    p.2 ∈ m.armCandidates arm ∧ p.1 = m.selKey (req.testBit 15) (bitsN req 31 16) p.2 := by
  obtain ⟨k, i⟩ := p
  simp only [Module.selRanked, List.mem_insertionSort, List.mem_map, Prod.mk.injEq]
  constructor
  · rintro ⟨j, can, key, rfl⟩
    exact ⟨can, key.symm⟩
  · rintro ⟨can, key⟩
    exact ⟨i, can, key.symm, rfl⟩

/-- The cells taken come first in the ranking, so no candidate left out stands before one of them. -/
theorem selArm_takes_best {i j : Nat} (taken : i ∈ (m.selArm arm req).1) (can : j ∈ m.armCandidates arm)
    (left : j ∉ (m.selArm arm req).1) :
    let key := m.selKey (req.testBit 15) (bitsN req 31 16)
    if req.testBit 15 then key i ≤ key j else key j ≤ key i := by
  intro key
  rw [selArm_eq] at taken left
  obtain ⟨p, first, rfl⟩ := List.mem_map.1 taken
  have ranked : (key j, j) ∈ m.selRanked arm req := (mem_selRanked ..).2 ⟨can, rfl⟩
  have sorted := selRanked_sorted m arm req
  rw [← List.take_append_drop (bitsN req 10 0) (m.selRanked arm req)] at ranked sorted
  have later := (List.mem_append.1 ranked).resolve_left fun h => left (List.mem_map_of_mem h)
  have before := key_le_of_selBefore ((List.pairwise_append.1 sorted).2.2 p first _ later)
  obtain ⟨-, own⟩ := (mem_selRanked ..).1 (List.mem_of_mem_take first)
  rwa [own] at before

theorem selArm_sublist : (m.selArm arm req).1.Sublist ((m.selRanked arm req).map (·.2)) := by
  rw [selArm_eq]
  exact (List.take_sublist _ _).map _

theorem selArm_length : (m.selArm arm req).1.length = min (bitsN req 10 0) (m.armCandidates arm).length := by
  rw [selArm_eq, ← (selRanked_perm m arm req).length_eq]
  simp

end

theorem filter_testBit_two_pow : ∀ arm < 12, (List.range 12).filter (fun i => (2 ^ arm).testBit i) = [arm] := by decide

/-! ### O12: the primitives that stage (R157 to R164) -/

section
variable {x : Issue} {k : Blk} {pc : Nat} {reps : List Rep} {t : TaskInfo} {s : State}

/-- With no entry for the source or event and room for one more, the entry comes behind those that stand. -/
theorem stageEvt_of_fresh {kind code : Nat} (fresh : ∀ o ∈ k.st.evts, ¬(o.1 = kind ∧ o.2.1 = code))
    (room : k.st.evts.length < 16) (e : Nat) (w : Word) :
    m.stageEvt e k kind code w = .ok { k with st := { k.st with evts := k.st.evts ++ [(kind, code, w)] } } := by
  have none : (k.st.evts.any fun o => o.1 == kind && o.2.1 == code) = false := by simpa using fresh
  rw [Module.stageEvt, none]
  exact if_neg (Nat.not_le.2 room)

theorem pwstVal_of_raw {a field : Nat} (fits : (k.regs.rg a).toNat < 2 ^ consistWidth field) (e g : Nat) :
    m.pwstVal e k false a field g = .ok (k.regs.rg a) := if_neg (Nat.not_le.2 fits)

variable (goes : GoesOn s.mod x 1 k pc reps) (loaded : s.mod.taskInfo x.le k.task = some t)
include goes

theorem exec_svrd {c : Instr} {i : Bool} {d a q stream chan : Nat} (isSvrd : exec c s = s.run (·.svrd x i d a q stream chan))
    (readable : s.mod.svUnread stream chan = false) {r : Word × Word}
    (reading : s.mod.svReading k i (s.mod.periodNanos k + (k.regs.rg a).toInt) stream chan = (m, r)) :
    exec c s = .next ⟨m.setBlk x.le (some { k with
      regs := (k.regs.setF d r.1).setG q r.2, pc := pc, reps := reps }), s.pending⟩ := by
  refine exec_of_issue isSvrd goes (b' := { k with regs := (k.regs.setF d r.1).setG q r.2 }) ?_ rfl rfl
  rw [readable, reading]
  rfl

/-- An `evt` that stages an entry for a source or event of which none stands, with room for one more. -/
theorem proceeds_evt {c : Instr} {kind code a : Nat} {sem : Module → Blk → Except Stop (Module × Blk)}
    (isIssue : exec c s = s.run (·.issue x 1 sem))
    (stages : sem s.mod k = s.mod.stageEvt x.le k kind code (k.regs.rg a) >>= fun k' => pure (s.mod, k'))
    (fresh : ∀ o ∈ k.st.evts, ¬(o.1 = kind ∧ o.2.1 = code)) (room : k.st.evts.length < 16) :
    Proceeds s x pc reps c { k with st := { k.st with evts := k.st.evts ++ [(kind, code, k.regs.rg a)] } } := by
  refine proceeds_of_issue goes isIssue rfl rfl ?_
  rw [stages, stageEvt_of_fresh fresh room]
  rfl

theorem proceeds_hpost (mbx : Fin 8) (a b : Fin 32) : Proceeds s x pc reps (.hpost x mbx a b) { k with st := { k.st with
    posts := k.st.posts.filter (fun o => o.1 ≠ mbx.val) ++ [(mbx.val, k.regs.rg a, k.regs.rg b)] } } :=
  proceeds_of_issue goes rfl rfl rfl rfl

include loaded

theorem proceeds_pwst_raw {a inst field : Fin 32} (defined : field.val < 8) (mon : k.mon = false) (out : (1, inst.val) ∈ t.outs)
    (fits : (k.regs.rg a).toNat < 2 ^ consistWidth field) :
    Proceeds s x pc reps (.pwst x false false a inst field) (stageField k ⟨false, inst, field, k.regs.rg a⟩) := by
  refine proceeds_of_issue goes rfl rfl rfl ?_
  rw [if_neg (Nat.not_le.2 defined)]
  show (s.mod.primCheck x.le k true (fun _ => true) [] [(1, inst.val)] >>= _) = _
  rw [primCheck_of_passes loaded (.inr mon) rfl (by simp) (by simpa using out)]
  show ([inst.val].mapM (fun g => s.mod.pwstVal x.le k false a field g >>= _) >>= _) = _
  rw [List.mapM_cons, pwstVal_of_raw fits]
  rfl

theorem proceeds_macc {mp : Fin 4} {a b : Fin 32} (out : (3, mp.val) ∈ t.outs) (range : a.val + 12 ≤ 32)
    (positive : k.regs.rg b ≠ 0) (short : (k.regs.rg b).toNat ≤ 10000000)
    (room : (k.st.sets.filter (fun o => o.mp == mp.val)).length < 4) :
    Proceeds s x pc reps (.macc x mp a b) { k with st := { k.st with
      sets := k.st.sets ++ [⟨mp, (List.range 12).map (fun i => k.regs.rF (a + i)), (k.regs.rg b).toNat⟩] } } := by
  have nonzero : (k.regs.rg b).toNat ≠ 0 := fun zero => positive (BitVec.eq_of_toNat_eq zero)
  refine proceeds_of_issue goes rfl rfl rfl ?_
  rw [primCheck_of_passes loaded (.inl rfl) rfl (by simpa using range) (by simpa using out)]
  show (if _ then _ else if _ then _ else _) = _
  rw [if_neg (by omega), if_neg (by omega)]
  rfl

/-- `sel` for no arm stages nothing. -/
theorem proceeds_sel_none {d a b n : Fin 32} (banks : 0 < n.val) (few : n.val ≤ 16) (booked : t.xsMap.testBit 4 = true)
    (noArm : k.regs.rg a = 0) :
    Proceeds s x pc reps (.selSelection x d a b n) { k with regs := k.regs.setG d 0 } := by
  have arms : (List.range 12).filter (fun i => (k.regs.rg a).toNat.testBit i) = [] := by rw [noArm]; decide
  refine proceeds_of_issue goes rfl rfl rfl ?_
  rw [if_neg (by omega), primCheck_of_passes loaded (.inl rfl) booked (by simp) (by simp), arms]
  have kept : k.st.sel.filter (fun p => !([] : List Nat).contains p.1) ++ [] = k.st.sel := by simp
  exact congrArg (fun sel => Except.ok (s.mod, { k with regs := k.regs.setG d 0, st := { k.st with sel := sel } })) kept

/-- `sel` for one arm stages its selection in place of one that stands. -/
theorem proceeds_sel_one {d a b n : Fin 32} {arm : Nat} {w : Word} (isArm : arm < 12) (banks : 0 < n.val) (few : n.val ≤ 16)
    (booked : t.xsMap.testBit 4 = true) (asks : (k.regs.rg a).toNat = 2 ^ arm)
    (word : s.mod.dmLoad x.le k ((k.regs.rg b).toNat + 4 * arm) = .ok w) (count : bitsN w.toNat 10 0 ≤ 1024)
    (cells : ((s.mod.view k).armCells arm).length ≤ 256 * n.val) :
    Proceeds s x pc reps (.selSelection x d a b n) { k with
      regs := k.regs.setG d (if ((s.mod.view k).selArm arm w.toNat).2 then BitVec.ofNat 32 (2 ^ arm) else 0)
      st := { k.st with sel := k.st.sel.filter (fun p => p.1 ≠ arm) ++ [(arm, (s.mod.view k).selArm arm w.toNat)] } } := by
  refine proceeds_of_issue goes rfl rfl rfl ?_
  rw [if_neg (by omega), primCheck_of_passes loaded (.inl rfl) booked (by simp) (by simp), asks, filter_testBit_two_pow arm isArm]
  show ([arm].mapM (fun i => s.mod.dmLoad x.le k ((k.regs.rg b).toNat + 4 * i) >>= _) >>= _) = _
  rw [List.mapM_cons, word]
  show (pure [(arm, w.toNat)] >>= _) = _
  rw [pure_bind]
  refine (if_neg (by simpa using ⟨cells, count⟩)).trans ?_
  have kept : k.st.sel.filter (fun p => ! [arm].contains p.1) = k.st.sel.filter (fun p => p.1 ≠ arm) := by simp
  have short : BitVec.ofNat 32 (if ((s.mod.view k).selArm arm w.toNat).2 then 0 ||| 1 <<< arm else 0) =
      if ((s.mod.view k).selArm arm w.toNat).2 then BitVec.ofNat 32 (2 ^ arm) else 0 := by
    split
    · rw [Nat.zero_or, Nat.one_shiftLeft]
    · rfl
  rw [← kept, ← short]
  rfl

end

theorem svReading_draws (m : Module) (b : Blk) (interp : Bool) (t : Int) (stream chan : Nat) :
    (m.svReading b interp t stream chan).1 = m
      ∨ (m.svReading b interp t stream chan).1 = { m with freeCtr := m.freeCtr + 1 } := by
  unfold Module.svReading
  extract_lets p
  split
  · exact .inr rfl
  · extract_lets age scale
    split <;> exact .inl rfl

/-- Settles O12: the primitives by the lemma of each, the selection by its ranking (`selArm_eq`, `selArm_takes_best`). -/
theorem stagedPrimitivesAndSelection : Obligations.StagedPrimitivesAndSelection := by
  refine ⟨fun x d a b q s k pc reps t goesOn loaded => ?_, fun m arm req => ?_⟩
  · exact ⟨fun _ _ defined mon out fits => proceeds_pwst_raw goesOn loaded defined mon out fits,
      fun _ out range positive short room => proceeds_macc goesOn loaded out range positive short room,
      fun _ program => proceeds_evt goesOn rfl (if_neg (by simpa [Module.raisable] using program)),
      proceeds_evt goesOn rfl rfl, proceeds_evt goesOn rfl rfl, fun mbx => proceeds_hpost goesOn mbx a b,
      fun _ banks few booked noArm => proceeds_sel_none goesOn loaded banks few booked noArm,
      fun _ _ _ isArm banks few booked asks word count cells =>
        proceeds_sel_one goesOn loaded isArm banks few booked asks word count cells,
      fun _ _ readable => ⟨fun _ _ reading => exec_svrd goesOn rfl readable reading,
        fun _ _ reading => exec_svrd goesOn rfl readable reading, fun _ _ draws => draws ▸ svReading_draws ..⟩⟩
  · intro r can key
    have all := selRanked_perm m arm req
    refine ⟨(selArm_sublist m arm req).nodup (all.nodup_iff.2 (armCandidates_nodup m arm)),
      fun i taken => all.mem_iff.1 ((selArm_sublist m arm req).mem taken), selArm_length m arm req, ?_,
      fun i taken j can left => selArm_takes_best m arm req taken can left⟩
    rw [show r = _ from selArm_eq m arm req]
    exact decide_eq_true_iff

end Sys2Proof.Machine

namespace Sys2Proof.Machine
variable {m n : Module}

/-! ### O13: the ring primitives (R160, R161) -/

theorem lnxCheck_of_named {e p : Nat} {k : Blk} {cell : Option Nat} (named : m.portNamed p = true)
    (inRing : ∀ c ∈ cell, c < (m.port p).cfg.count) : m.lnxCheck e k p cell = .ok () := by
  refine if_neg ?_
  rw [named]
  cases cell with
  | none => simp
  | some c => simpa using inRing c rfl

section
variable (port : Nat) (bytes : Blk → Nat → List Byte) (cells : List Nat) (k : Blk)

theorem foldl_stageCmd_calls : (cells.foldl (fun k c => stageCmd port k c (bytes k c)) k).calls = k.calls :=
  List.foldlRecOn (motive := fun k' : Blk => k'.calls = k.calls) cells _ rfl fun _ same _ _ => same

theorem foldl_stageCmd_reps : (cells.foldl (fun k c => stageCmd port k c (bytes k c)) k).reps = k.reps :=
  List.foldlRecOn (motive := fun k' : Blk => k'.reps = k.reps) cells _ rfl fun _ same _ _ => same

end

section
variable {x : Issue} {k : Blk} {pc : Nat} {reps : List Rep} {t : TaskInfo} {s : State} {port : Fin 16} {d a b : Fin 32}
  (goes : GoesOn s.mod x 1 k pc reps) (loaded : s.mod.taskInfo x.le k.task = some t) (mon : k.mon = false)
  (named : s.mod.portNamed port = true) (cell : (k.regs.rg a).toNat < (s.mod.port port).cfg.count)
include goes loaded mon named

theorem proceeds_lnxApply (out : (2, port.val) ∈ t.outs) (small : (k.regs.rg b).toNat ≤ 0xFFFF) :
    Proceeds s x pc reps (.lnxApply x b port) { k with st := { k.st with
      apply := k.st.apply.filter (fun o => o.1 ≠ port.val) ++ [(port.val, (k.regs.rg b).toNat)] } } := by
  refine proceeds_of_issue goes rfl rfl rfl ?_
  rw [primCheck_of_passes loaded (.inr mon) rfl (by simp) (by simpa using out), lnxCheck_of_named named (by simp)]
  exact if_neg (Nat.not_lt.2 small)

theorem proceeds_lnxArm (out : (2, port.val) ∈ t.outs) (range : b.val + 2 ≤ 32) :
    Proceeds s x pc reps (.lnxArm x a b port) (((List.range (s.mod.port port).cfg.count).filter
      (fun c => (s.mod.view k).cellArm ((s.mod.port port).cfg.base + c) == (k.regs.rg a).toNat)).foldl (fun k' c =>
        stageCmd port k' c (withIns (pairBytes k'.regs b)
          (s.mod.armInserts k' (k.regs.rg a).toNat ((s.mod.port port).cfg.base + c)))) k) := by
  refine proceeds_of_issue goes rfl (foldl_stageCmd_calls ..) (foldl_stageCmd_reps ..) ?_
  rw [primCheck_of_passes loaded (.inr mon) rfl (by simpa using range) (by simpa using out), lnxCheck_of_named named (by simp)]
  rfl

include cell

theorem proceeds_lnxCmd (out : (2, port.val) ∈ t.outs) (range : b.val + 2 ≤ 32) :
    Proceeds s x pc reps (.lnxCmd x a b port) (stageCmd port k (k.regs.rg a).toNat (pairBytes k.regs b)) := by
  refine proceeds_of_issue goes rfl rfl rfl ?_
  rw [primCheck_of_passes loaded (.inr mon) rfl (by simpa using range) (by simpa using out),
    lnxCheck_of_named named (by simpa using cell)]
  rfl

theorem proceeds_lnxSlow (out : (2, port.val) ∈ t.outs) (inside : (k.regs.rg b).toNat.testBit 31 = true
      ∨ bitsN (k.regs.rg b).toNat 23 16 + bitsN (k.regs.rg b).toNat 27 24 ≤ 255) :
    Proceeds s x pc reps (.lnxSlow x a b port) { k with st := { k.st with
      slow := k.st.slow ++ [(port.val, (k.regs.rg a).toNat, k.regs.rg b)] } } := by
  refine proceeds_of_issue goes rfl rfl rfl ?_
  rw [primCheck_of_passes loaded (.inr mon) rfl (by simp) (by simpa using out), lnxCheck_of_named named (by simpa using cell)]
  refine if_neg fun ⟨reads, beyond⟩ => ?_
  rcases inside with write | within
  · simp [write] at reads
  · omega

theorem proceeds_lnxResp (range : d.val + 2 ≤ 32) :
    let v := s.mod.view k
    let entry := s.mod.cellEntry port (k.regs.rg a).toNat
    Proceeds s x pc reps (.lnxResp x d a port)
      { k with regs := (k.regs.setG d (v.mw (entry + 0x10))).setG (d + 1) (v.mw (entry + 0x14)) } := by
  refine proceeds_of_issue goes rfl rfl rfl ?_
  rw [primCheck_of_passes loaded (.inr mon) rfl (by simpa using range) (by simp), lnxCheck_of_named named (by simpa using cell)]
  rfl

theorem proceeds_lnxRstat_of_response
    (response : ((s.mod.view k).mn (s.mod.cellEntry port (k.regs.rg a).toNat + 0x10) 1).testBit 7 = true) :
    Proceeds s x pc reps (.lnxRstat x d a port) { k with regs := k.regs.setG d (BitVec.ofNat 32 (min 0xFFFF
      ((k.viewCyc.getD port 0 + 2 ^ 32 - (s.mod.view k).mn (s.mod.cellEntry port (k.regs.rg a).toNat + 0x20) 4) % 2 ^ 32))) } := by
  refine proceeds_of_issue goes rfl rfl rfl ?_
  rw [primCheck_of_passes loaded (.inr mon) rfl (by simp) (by simp), lnxCheck_of_named named (by simpa using cell)]
  exact if_pos response

/-- With no response ever the count is the free value drawn. -/
theorem exec_lnxRstat_of_none
    (none : ((s.mod.view k).mn (s.mod.cellEntry port (k.regs.rg a).toNat + 0x10) 1).testBit 7 = false) :
    exec (.lnxRstat x d a port) s = .next ⟨s.mod.free.2.setBlk x.le (some { k with
      regs := k.regs.setG d (BitVec.ofNat 32 (2 ^ 31 + s.mod.free.1.toNat % 0x10000)), pc := pc, reps := reps }), s.pending⟩ := by
  refine exec_of_issue rfl goes
    (b' := { k with regs := k.regs.setG d (BitVec.ofNat 32 (2 ^ 31 + s.mod.free.1.toNat % 0x10000)) }) ?_ rfl rfl
  rw [primCheck_of_passes loaded (.inr mon) rfl (by simp) (by simp), lnxCheck_of_named named (by simpa using cell)]
  exact if_neg (Bool.eq_false_iff.1 none)

end

/-! ### O13: waits and their release (R167, R168) -/

theorem exec_of_wait {x : Issue} {s : State} {b : Blk} {c : Instr} {ev d inst w : Nat}
    (isWait : exec c s = s.run (·.wait x ev d inst w)) (issues : Issues s.mod x b) (firm : b.firm = true) (bounded : w ≠ 0)
    (inRange : inst ≤ waitMax ev) : exec c s = .next ⟨(if ev = 2 then s.mod.armCapture inst else s.mod).setBlk x.le
      (some { b with wait := some ⟨ev, inst, w, s.mod.now, d⟩ }), s.pending⟩ := by
  refine exec_of_issueRaw isWait issues ?_
  rw [if_neg (by omega), firm]
  rfl

/-- The block with the release tick from the start of its minor period, and what released it, in the register that the wait
names. -/
def Blk.released (b : Blk) (v : WaitFor) (tick bit : Nat) : Blk := { b with
  wait := none, regs := b.regs.setG v.dest (BitVec.ofNat 32 ((tick - b.periodStart) % 2 ^ 24 * 256 + bit)) }

/-- The released block goes on at the next word; at levels that cannot close it is a detection. -/
def Module.waitEnds (m : Module) (e : Nat) (b : Blk) (v : WaitFor) (tick bit : Nat) : Module :=
  match (b.released v tick bit).goto (b.pc + 1) with
  | .ok b' => m.setBlk e (some b')
  | .error _ => m.detect e (b.released v tick bit) ⟨0, BitVec.ofNat 24 (m.imOff e b b.pc), false⟩

section
variable {e : Nat} {b : Blk} {v : WaitFor}

/-- A wait under way ends at its event, else at its bound, else not yet. -/
theorem waitRelease_eq (isOpen : m.blk e = some b) (running : b.state = .running) (waiting : b.wait = some v) :
    m.waitRelease e = (m.waitEvent b v).elim (if v.from' + v.bound ≤ m.now then m.waitEnds e b v m.now 0 else m)
      (fun t => m.waitEnds e b v (if v.ev = 2 ∨ v.ev = 3 then t else m.now) 1) := by
  simp only [Module.waitRelease, isOpen, waiting, if_neg (not_not.2 running), Nat.shiftLeft_eq]
  cases m.waitEvent b v <;> rfl

theorem waitEnds_of_onward {pc : Nat} {reps : List Rep}
    (onward : closeBody b.calls.length b.reps (b.pc + 1) = some (pc, reps)) (tick bit : Nat) :
    m.waitEnds e b v tick bit = m.setBlk e (some { b.released v tick bit with pc := pc, reps := reps }) := by
  rw [Module.waitEnds, goto_of_closeBody (b := b.released v tick bit) onward]

end

/-- Settles O13: the ring primitives by the lemma of each, the waits by `exec_of_wait`, their release by `waitRelease_eq`. -/
theorem ringPrimitivesAndWaits : Obligations.RingPrimitivesAndWaits := by
  refine ⟨fun x d a b port s k pc reps t goesOn loaded mon named => ?_,
    fun x d inst w s b => ⟨fun issues firm bounded => ?_, ?_⟩⟩
  · exact ⟨fun out range cell => proceeds_lnxCmd goesOn loaded mon named cell out range,
      fun out small => proceeds_lnxApply goesOn loaded mon named out small,
      fun out cell inside => proceeds_lnxSlow goesOn loaded mon named cell out inside,
      fun out range => proceeds_lnxArm goesOn loaded mon named out range,
      fun range cell => proceeds_lnxResp goesOn loaded mon named cell range,
      fun cell response => proceeds_lnxRstat_of_response goesOn loaded mon named cell response,
      fun cell none => ⟨_, Nat.mod_lt _ (by decide), exec_lnxRstat_of_none goesOn loaded mon named cell none⟩⟩
  · have nonzero : w.toNat ≠ 0 := fun zero => bounded (BitVec.eq_of_toNat_eq zero)
    exact ⟨exec_of_wait rfl issues firm nonzero, exec_of_wait rfl issues firm nonzero, exec_of_wait rfl issues firm nonzero,
      exec_of_wait rfl issues firm nonzero, exec_of_wait rfl issues firm nonzero, exec_of_wait rfl issues firm nonzero,
      exec_of_wait rfl issues firm nonzero⟩
  · intro v pc reps isOpen running waiting onward
    have released := waitRelease_eq isOpen running waiting
    have leads {n : Module} (h : s.mod.waitRelease x.le = n) : exec (.waitRelease x.le) s = .next ⟨n, s.pending⟩ :=
      run_of_eq (f := (·.waitRelease x.le)) h
    refine ⟨fun e event => leads ?_, fun event due => leads ?_, fun event early => leads ?_⟩
    · rw [released, event]
      exact waitEnds_of_onward onward _ _
    · rw [released, event]
      exact (if_pos due).trans (waitEnds_of_onward onward _ _)
    · rw [released, event]
      exact if_neg (Nat.not_le.2 early)

end Sys2Proof.Machine

namespace Sys2Proof.Machine
variable {m n : Module}

/-! ### The station clock: its registers (R190, R205) -/

theorem rf_congr {a : Nat} (h : n.rd a = m.rd a) (f : Field) : n.rf a f = m.rf a f := by rw [Module.rf, Module.rf, h]

theorem flag_congr {a : Nat} (h : n.rd a = m.rd a) (f : Field) : n.flag a f = m.flag a f := by
  rw [Module.flag, Module.flag, rf_congr h]

theorem rn_congr {a : Nat} (h : n.rd a = m.rd a) : n.rn a = m.rn a := by rw [Module.rn, Module.rn, h]

theorem raiseFree_rd (m : Module) (src : Nat) (o : Owner) (a : Nat) : (m.raiseFree src o).rd a = m.rd a := rd_congr rfl a

theorem rn_wn_same (m : Module) {a v : Nat} (h : v < 2 ^ 64) : (m.wn a v).rn a = v := by
  rw [Module.rn, Module.wn, rd_wr_same, BitVec.toNat_ofNat, Nat.mod_eq_of_lt h]

theorem rn_word (m : Module) (a : Nat) (w : Word) : (m.wn a w.toNat).rn a = w.toNat :=
  rn_wn_same m (lt_trans w.isLt (by decide))

theorem clkState_setClkState (m : Module) {st : Nat} (h : st < 16) : (m.setClkState st).clkState = st :=
  (rf_wf_same m _ _ st (by decide)).trans (Nat.mod_eq_of_lt h)

theorem clkState_setFlag (m : Module) (f : Field) (b : Bool) (h : 3 < f.lo) : (m.setFlag R.CLK_STAT f b).clkState = m.clkState :=
  rf_setFlag_apart m _ f _ b (by decide) (.inr h)

theorem flag_setClkState (m : Module) (st : Nat) (f : Field) (high : f.hi < 64) (h : 3 < f.lo) :
    (m.setClkState st).flag R.CLK_STAT f = m.flag R.CLK_STAT f :=
  congrArg (· != 0) (rf_wf_apart m _ _ f st high (.inl h))

theorem clkLine_lt (m : Module) : m.clkLine < 64 := lt_trans (rf_lt m _ F.CLK_CFG_FLINE) (by decide)

/-! #### The period guard (R195) -/

theorem swallow_of_long {edges : List (BitVec 16)} (long : ∀ e ∈ edges, 1900 ≤ e.toNat) (m : Module) : m.swallow edges = m := by
  have none_short : edges.filter (fun e => decide (e.toNat < 1900)) = [] := by simpa using long
  rw [Module.swallow, none_short]
  rfl

theorem swallow_of_short {e : BitVec 16} (short : e.toNat < 1900) (m : Module) : m.swallow [e] = m.swallowOne := by
  simp [Module.swallow, short]

/-- What a suppressed edge leaves: its count, the 2 ns of the time of day, and in a locked clock its report. -/
structure Guarded (m n : Module) : Prop where
  count : n.rn R.CLK_SWALLOW = if m.rn R.CLK_SWALLOW < 0xFFFFFFFF then m.rn R.CLK_SWALLOW + 1 else m.rn R.CLK_SWALLOW
  now : n.now = m.now
  tod : m.todNs < 999999998 → n.todNs = m.todNs + 2 ∧ n.todSec = m.todSec
  others : ∀ a, a ≠ R.CLK_SWALLOW → a ≠ R.CLK_SAT → n.rd a = m.rd a
  report : ∃ r ∈ n.reports, r.src = FS.CLK_GUARD ∧ r.at' = m.now

theorem bump_rd (m : Module) {a sat b : Nat} (i : Nat) (ha : b ≠ a) (hs : b ≠ sat) : (m.bump a sat i).rd b = m.rd b := by
  obtain ⟨regs, eq, kept⟩ := bump_inv m a sat i
  rw [eq]
  exact kept b ha hs

theorem tickTod_rd (m : Module) (a : Nat) : m.tickTod.rd a = m.rd a := by
  obtain ⟨_, _, eq⟩ := todAdd_eq m 2
  rw [Module.tickTod, eq]
  rfl

theorem swallowOne_eq (h : m.clkState = 3) :
    m.swallowOne = (m.tickTod.bump R.CLK_SWALLOW R.CLK_SAT 0).raiseFree FS.CLK_GUARD .none := by
  have state : (m.tickTod.bump R.CLK_SWALLOW R.CLK_SAT 0).clkState = 3 :=
    (rf_congr ((bump_rd _ 0 (by decide) (by decide)).trans (tickTod_rd m _)) _).trans h
  unfold Module.swallowOne
  exact if_pos (.inl state)

theorem swallowOne_guarded (h : m.clkState = 3) : Guarded m m.swallowOne := by
  obtain ⟨ns, sec, tick⟩ := todAdd_eq m 2
  obtain ⟨regs, counted, -⟩ := bump_inv m.tickTod R.CLK_SWALLOW R.CLK_SAT 0
  have count := rn_bump_same m.tickTod (a := R.CLK_SWALLOW) (sat := R.CLK_SAT) 0 (by decide)
  rw [rn_congr (tickTod_rd m R.CLK_SWALLOW)] at count
  have others (a) (h1 : a ≠ R.CLK_SWALLOW) (h2 : a ≠ R.CLK_SAT) := (bump_rd m.tickTod 0 h1 h2).trans (tickTod_rd m a)
  rw [swallowOne_eq h]
  refine ⟨(rn_congr (raiseFree_rd _ _ _ _)).trans count, ?_, fun below => ?_, fun a h1 h2 => (raiseFree_rd _ _ _ a).trans (others a h1 h2), ?_⟩
  · rw [counted, Module.tickTod, tick]
    rfl
  · have early : m.tickTod = { m with todNs := m.todNs + 2 } := if_pos (by omega)
    rw [counted, early]
    exact ⟨rfl, rfl⟩
  · rw [counted, Module.tickTod, tick]
    exact ⟨_, List.mem_append_right _ (List.mem_singleton_self _), rfl, rfl⟩

/-! #### Phase and time error (R191, R196) -/

theorem setTerr_eq (m : Module) (o : Int) : ∃ run reports freeCtr, m.setTerr o =
    { m.wr R.CLK_TERR (BitVec.ofInt 64 o) with clk := { m.clk with terrRun := run }, reports := reports, freeCtr := freeCtr } := by
  unfold Module.setTerr
  extract_lets m1 run clk m2
  split
  · exact ⟨run, _, _, rfl⟩
  · exact ⟨run, _, _, rfl⟩

/-- `n` is `m` with the phase error, and it may be the time error, shown anew. -/
structure Measured (m : Module) (err : Word) (n : Module) : Prop where
  same : ∃ regs run reports freeCtr,
    n = { m with regs := regs, clk := { m.clk with terrRun := run }, reports := reports, freeCtr := freeCtr }
  phase : n.rn R.CLK_PHERR = err.toNat
  others : ∀ a, a ≠ R.CLK_PHERR → a ≠ R.CLK_TERR → n.rd a = m.rd a

theorem measure_eq (m : Module) (err : Word) : m.measure err = if m.clkSrc = 1 then
    (m.wn R.CLK_PHERR err.toNat).setTerr (err.toInt.tdiv 1000) else m.wn R.CLK_PHERR err.toNat := by
  have src : (m.wn R.CLK_PHERR err.toNat).clkSrc = m.clkSrc := rf_congr (rd_wr_ne m _ (by decide)) _
  rw [Module.measure, src]

theorem measure_of_src (h : m.clkSrc ≠ 1) (err : Word) : m.measure err = m.wn R.CLK_PHERR err.toNat :=
  (measure_eq m err).trans (if_neg h)

theorem measure_measured (m : Module) (err : Word) : Measured m err (m.measure err) := by
  have shown := rn_word m R.CLK_PHERR err
  have kept (a) (h : a ≠ R.CLK_PHERR) : (m.wn R.CLK_PHERR err.toNat).rd a = m.rd a := rd_wr_ne m _ h.symm
  rw [measure_eq]
  split
  · obtain ⟨run, reports, freeCtr, eq⟩ := setTerr_eq (m.wn R.CLK_PHERR err.toNat) (err.toInt.tdiv 1000)
    rw [eq]
    exact ⟨⟨_, _, _, _, rfl⟩, (rn_congr (rd_wr_ne _ _ (by decide))).trans shown,
      fun a h1 h2 => (rd_wr_ne _ _ h2.symm).trans (kept a h1)⟩
  · exact ⟨⟨_, _, _, _, rfl⟩, shown, fun a h _ => kept a h⟩

theorem measure_rf (m : Module) (err : Word) {a : Nat} (h1 : a ≠ R.CLK_PHERR) (h2 : a ≠ R.CLK_TERR) (f : Field) :
    (m.measure err).rf a f = m.rf a f := rf_congr ((measure_measured m err).others a h1 h2) f

theorem measure_clkState (m : Module) (err : Word) : (m.measure err).clkState = m.clkState :=
  measure_rf m err (by decide) (by decide) _

theorem measure_outerLoop (m : Module) (err : Word) : (m.measure err).outerLoop = m.outerLoop := by
  simp only [Module.outerLoop, Module.clkSrc, measure_rf m err (a := R.CLK_CFG) (by decide) (by decide)]

theorem measure_lockWin (m : Module) (err : Word) : (m.measure err).lockWin = m.lockWin := by
  simp only [Module.lockWin, measure_rf m err (a := R.CLK_LOCK) (by decide) (by decide)]

theorem measure_lockN (m : Module) (err : Word) : (m.measure err).lockN = m.lockN := by
  simp only [Module.lockN, measure_rf m err (a := R.CLK_LOCK) (by decide) (by decide)]

theorem measure_stopAt (m : Module) (err : Word) : (m.measure err).clk.stopAt = m.clk.stopAt := by
  obtain ⟨_, _, _, _, eq⟩ := (measure_measured m err).same
  rw [eq]

/-! #### Lock (R191, R194, R196) -/

theorem lockDeclared_eq (m : Module) (err cycles : Word) : m.lockDeclared err cycles =
    if m.clk.stopAt.isSome ∨ m.lockWin ≤ err.toInt.natAbs ∨ cycles.toNat < m.lockN then m.measure err
    else if m.clkState = 2 ∧ m.outerLoop then (m.measure err).reacquire
    else if m.clkState = 2 ∨ (m.clkState = 6 ∧ !m.outerLoop) then
      (m.measure err).enterLocked.setFlag R.CLK_STAT F.CLK_STAT_REF_OK true
    else m.measure err := by
  simp only [Module.lockDeclared, measure_clkState, measure_lockWin, measure_lockN, measure_stopAt, measure_outerLoop]

/-- The conditions of a lock (R191), while no loss is about to stop the tick. -/
def Module.locks (m : Module) (err cycles : Word) : Prop :=
  m.clk.stopAt = none ∧ err.toInt.natAbs < m.lockWin ∧ m.lockN ≤ cycles.toNat

theorem lockDeclared_of_no_lock {err cycles : Word} (h : ¬ m.locks err cycles ∨ (m.clkState ≠ 2 ∧ m.clkState ≠ 6)) :
    m.lockDeclared err cycles = m.measure err := by
  rw [lockDeclared_eq]
  split
  · rfl
  · next may =>
    have locks : m.locks err cycles := by
      simp only [not_or, Nat.not_le, Nat.not_lt, Option.not_isSome_iff_eq_none] at may
      exact may
    obtain ⟨h2, h6⟩ := h.resolve_left (not_not.2 locks)
    simp [h2, h6]

theorem lockDeclared_of_outer {err cycles : Word} (locks : m.locks err cycles) (outer : m.outerLoop = true) (st : m.clkState = 2) :
    m.lockDeclared err cycles = (m.measure err).reacquire := by
  obtain ⟨stop, small, long⟩ := locks
  simp [lockDeclared_eq, stop, outer, st, Nat.not_le.2 small, Nat.not_lt.2 long]

theorem lockDeclared_of_inner {err cycles : Word} (locks : m.locks err cycles) (inner : m.outerLoop = false)
    (st : m.clkState = 2 ∨ m.clkState = 6) :
    m.lockDeclared err cycles = (m.measure err).enterLocked.setFlag R.CLK_STAT F.CLK_STAT_REF_OK true := by
  obtain ⟨stop, small, long⟩ := locks
  simp [lockDeclared_eq, stop, inner, st, Nat.not_le.2 small, Nat.not_lt.2 long]

theorem settleLine_reqs (m : Module) (l : Nat) : (m.settleLine l).pwm.reqs = m.pwm.reqs := by
  unfold Module.settleLine
  split
  · split
    · rfl
    · split
      · rfl
      · exact setLine_reqs m l false
  · rfl

/-- A request that is withdrawn stands no more (R273). -/
theorem withdrawLine_not_mem (m : Module) (l : Nat) (r : Req) : r ∉ (m.withdrawLine l r).lineReqs l := by
  unfold Module.withdrawLine
  split
  · rw [Module.lineReqs, settleLine_reqs, ← Module.lineReqs, lineReqs_setReqs, if_pos rfl]
    simp
  · next absent => exact absent

/-- What entering LOCKED does without an outer loop (R194). -/
structure Locked (m n : Module) : Prop where
  state : n.clkState = 3
  withdrawn : .clk ∉ n.lineReqs m.clkLine
  time : TimeStands m n
  low : ∀ a < 0x90000, a ≠ R.CLK_STAT → n.rd a = m.rd a

/-- The module with LOCKED shown and no phase left. -/
def Module.lockShown (m : Module) : Module := { m.setClkState 3 with clk := { m.clk with phase := 0 } }

theorem lockShown_rd (m : Module) {a : Nat} (h : a ≠ R.CLK_STAT) : m.lockShown.rd a = m.rd a :=
  (rd_congr rfl a).trans (rd_wf_ne m _ _ h.symm)

theorem enterLocked_eq (free : m.clk.stopAt = none) (inner : m.outerLoop = false) :
    m.enterLocked = (m.lockShown.withdrawLine m.clkLine .clk).setCorr 0 := by
  have line : m.lockShown.clkLine = m.clkLine := rf_congr (lockShown_rd m (by decide)) _
  have src : (m.lockShown.withdrawLine m.clkLine .clk).clkSrc = m.clkSrc :=
    rf_congr (((withdrawLine_linesOnly _ _ _).2 _ (by decide)).trans (lockShown_rd m (by decide))) _
  have outer : (m.lockShown.withdrawLine m.clkLine .clk).outerLoop = false := by rw [Module.outerLoop, src]; exact inner
  have ptp : m.clkSrc ≠ 3 := fun h => by simp [Module.outerLoop, h] at inner
  rw [Module.enterLocked, free]
  change (let k := m.lockShown.withdrawLine m.lockShown.clkLine .clk
    let k := if k.outerLoop then k.takeTime else k.setCorr 0
    if k.clkSrc = 3 then k.wf R.CLK_PTP F.CLK_PTP_PSTATE 3 else k) = _
  simp only [line, outer]
  exact if_neg (src ▸ ptp)

theorem enterLocked_locked (free : m.clk.stopAt = none) (inner : m.outerLoop = false) : Locked m m.enterLocked := by
  have lines : LinesOnly m.lockShown (m.lockShown.withdrawLine m.clkLine .clk) := withdrawLine_linesOnly _ _ _
  rw [enterLocked_eq free inner]
  exact {
    state := (rf_congr (lines.2 _ (by decide)) _).trans (clkState_setClkState m (by decide))
    withdrawn := withdrawLine_not_mem _ _ _
    time := (((TimeStands.wr m _ _).trans (.clk _ _)).trans lines.timeStands).trans (.clk _ _)
    low := fun a high h => (lines.2 a high).trans (lockShown_rd m h) }

/-! #### Loss (R191 to R194) -/

/-- The loss counted (R192): what waits for a step or for PTP_WIN starts anew. -/
def Module.lossCounted (m : Module) : Module :=
  let n := m.bump R.CLK_LOSSES R.CLK_SAT 1
  { n with clk := { n.clk with winRun := 0, stepDue := false } }

theorem lossCounted_inv (m : Module) : ∃ regs,
    m.lossCounted = { m with regs := regs, clk := { m.clk with winRun := 0, stepDue := false } } := by
  obtain ⟨_, eq, -⟩ := bump_inv m R.CLK_LOSSES R.CLK_SAT 1
  exact ⟨_, by rw [Module.lossCounted, eq]⟩

theorem lossCounted_rd (m : Module) {a : Nat} (h : a ≠ R.CLK_LOSSES) (h' : a ≠ R.CLK_SAT) : m.lossCounted.rd a = m.rd a :=
  (rd_congr rfl a).trans (bump_rd m 1 h h')

theorem lossCounted_count (m : Module) : m.lossCounted.rn R.CLK_LOSSES =
    if m.rn R.CLK_LOSSES < 0xFFFFFFFF then m.rn R.CLK_LOSSES + 1 else m.rn R.CLK_LOSSES :=
  (rn_congr (rd_congr rfl _)).trans (rn_bump_same m 1 (by decide))

theorem lossCounted_clkState (m : Module) : m.lossCounted.clkState = m.clkState :=
  rf_congr (lossCounted_rd m (by decide) (by decide)) _

/-- The clock coasts from a state with its lock (R193): HOLDOVER. -/
def Module.holdOver (m : Module) : Module := { m.setClkState 4 with clk := { m.clk with holdoverAt := m.now + 1 } }

/-- The loss counted and CLK_COAST reported (R193). -/
def Module.lossCoasted (m : Module) : Module := m.lossCounted.raiseFree FS.CLK_COAST .none

theorem lossCoasted_inv (m : Module) : ∃ regs w, m.lossCoasted = { m with
    regs := regs, clk := { m.clk with winRun := 0, stepDue := false }
    reports := m.reports ++ [⟨FS.CLK_COAST, w, .none, m.now, m.todSec, m.todNs⟩], freeCtr := m.freeCtr + 1 } := by
  obtain ⟨_, counted⟩ := lossCounted_inv m
  exact ⟨_, _, by rw [Module.lossCoasted, counted]; rfl⟩

theorem lossCoasted_rd (m : Module) (a : Nat) : m.lossCoasted.rd a = m.lossCounted.rd a := by
  rw [Module.lossCoasted, raiseFree_rd]

theorem holdOver_rd (m : Module) (a : Nat) : m.holdOver.rd a = (m.setClkState 4).rd a := rd_congr rfl a

theorem holdOver_rd_ne (m : Module) {a : Nat} (h : a ≠ R.CLK_STAT) : m.holdOver.rd a = m.rd a :=
  (holdOver_rd m a).trans (rd_wf_ne m _ _ h.symm)

/-- FL_CLK requested and the loss reported (R194). -/
def Module.lossGated (m : Module) : Module := (m.lossCounted.requestLine m.clkLine .clk).raiseFree FS.CLK_GATE .none

/-- The tick stops 32 ticks later, or where a loss has set when it stops, then (R194). -/
def Module.stopsLater (m : Module) : Module :=
  { m with clk := { m.clk with stopAt := some (m.clk.stopAt.getD (m.now + 32)) } }

theorem stopsLater_rd (m : Module) (a : Nat) : m.stopsLater.rd a = m.rd a := rd_congr rfl a

theorem lossCounted_rf (m : Module) {a : Nat} (h : a ≠ R.CLK_LOSSES) (h' : a ≠ R.CLK_SAT) (f : Field) :
    m.lossCounted.rf a f = m.rf a f := rf_congr (lossCounted_rd m h h') f

theorem ticking_congr (h : n.clkState = m.clkState) (power : n.powered = m.powered) (hold : n.clk.tickHold = m.clk.tickHold) :
    n.ticking = m.ticking := by
  rw [Module.clkState, Module.clkState] at h
  simp only [Module.ticking, power, hold, h]

theorem lossGated_linesOnly (m : Module) : LinesOnly m.lossCounted (m.lossCounted.requestLine m.clkLine .clk) :=
  requestLine_linesOnly _ _ _

theorem lossGated_low (m : Module) {a : Nat} (h : a < 0x90000) : m.lossGated.rd a = m.lossCounted.rd a :=
  (raiseFree_rd _ _ _ a).trans ((lossGated_linesOnly m).2 a h)

theorem lossGated_clkState (m : Module) : m.lossGated.clkState = m.clkState :=
  (rf_congr (lossGated_low m (by decide)) _).trans (lossCounted_clkState m)

theorem lossGated_inv (m : Module) : ∃ regs pwm gate rings w,
    m.lossGated = { m with
      regs := regs, pwm := pwm, gate := gate, rings := rings, clk := { m.clk with winRun := 0, stepDue := false },
      reports := m.reports ++ [⟨FS.CLK_GATE, w, .none, m.now, m.todSec, m.todNs⟩], freeCtr := m.freeCtr + 1 } := by
  obtain ⟨_, counted⟩ := lossCounted_inv m
  obtain ⟨⟨_, _, _, _, lines⟩, -⟩ := lossGated_linesOnly m
  exact ⟨_, _, _, _, _, by rw [Module.lossGated, lines, counted]; rfl⟩

theorem lossGated_ticking (m : Module) : m.lossGated.ticking = m.ticking := by
  obtain ⟨_, _, _, _, _, eq⟩ := lossGated_inv m
  exact ticking_congr (lossGated_clkState m) (by rw [eq]; rfl) (by rw [eq])

theorem clockLoss_eq (m : Module) (crystal : Bool) : m.clockLoss crystal =
    if m.flag R.CLK_CFG F.CLK_CFG_POLICY && !crystal then
      if m.clkState = 3 ∨ m.clkState = 5 ∨ m.clkState = 6 then m.lossCoasted.holdOver
      else m.lossCoasted
    else if m.ticking then m.lossGated.stopsLater else m.lossGated.stopTick := by
  have policy : m.lossCounted.flag R.CLK_CFG F.CLK_CFG_POLICY = m.flag R.CLK_CFG F.CLK_CFG_POLICY :=
    flag_congr (lossCounted_rd m (by decide) (by decide)) _
  have line : m.lossCounted.clkLine = m.clkLine := lossCounted_rf m (by decide) (by decide) _
  rw [← policy, ← lossGated_ticking, ← lossCounted_clkState, Module.lossCoasted, Module.lossGated, ← line]
  rfl

/-! #### The tick stopped (R190, R194) -/

/-- Stopping every generator: what they hold, then the gate channels. -/
theorem stopGens_inv (m : Module) : ∃ p : Module, (∃ gens, p = { m with pwm := { m.pwm with gens := gens } })
    ∧ (∀ g < 34, (p.gen g).running = false) ∧ GatesOnly p m.stopGens := by
  refine ⟨_, ?_, fun g hg => ?_, dropGates_gatesOnly _⟩
  · refine List.foldlRecOn (motive := fun p : Module => ∃ gens, p = { m with pwm := { m.pwm with gens := gens } }) _ _ ⟨_, rfl⟩
      fun p h g _ => ?_
    obtain ⟨_, rfl⟩ := h
    exact ⟨_, rfl⟩
  · refine foldl_establishes (P := fun g (p : Module) => (p.gen g).running = false) (fun p g => ?_) (fun p g k h => ?_) _ m g
      (List.mem_range.2 hg)
    · rw [gen_setGen, if_pos rfl]
    · rw [gen_setGen]
      split
      · next same => exact rfl
      · exact h

theorem stopGens_running (m : Module) {g : Nat} (hg : g < 34) : (m.stopGens.gen g).running = false := by
  obtain ⟨p, -, stopped, ⟨_, _, eq⟩, -⟩ := stopGens_inv m
  rw [eq]
  exact stopped g hg

theorem Asserts.stopGens {l : Nat} {r : Req} (h : Asserts m l r) : Asserts m.stopGens l r := by
  obtain ⟨_, ⟨gens, rfl⟩, -, ⟨_, _, eq⟩, kept⟩ := stopGens_inv m
  refine h.congr (by rw [eq]) (kept _ fun ch => ?_)
  simp only [R.PWM_FL_ACT, R.GD_STAT]
  omega

theorem stopGens_reports (m : Module) : m.stopGens.reports = m.reports := by
  obtain ⟨⟨_, _, _, _, eq⟩, -⟩ := stopGens_linesOnly m
  rw [eq]

theorem stopTick_rd (m : Module) {a : Nat} (low : a < 0x90000) : m.stopTick.rd a = (m.setClkState 7).rd a := by
  have gens : m.stopTick.rd a = (m.setClkState 7).stopGens.rd a := rd_congr rfl a
  rw [gens, (stopGens_linesOnly _).2 a low]

theorem stopTick_low (m : Module) {a : Nat} (low : a < 0x90000) (h : a ≠ R.CLK_STAT) : m.stopTick.rd a = m.rd a :=
  (stopTick_rd m low).trans (rd_wf_ne m _ _ h.symm)

theorem stopTick_clkState (m : Module) : m.stopTick.clkState = 7 :=
  (rf_congr (stopTick_rd m (by decide)) _).trans (clkState_setClkState m (by decide))

theorem Asserts.stopTick {l : Nat} {r : Req} (h : Asserts m l r) : Asserts m.stopTick l r := by
  have gens : Asserts (m.setClkState 7).stopGens l r := (h.wr (a := R.CLK_STAT) _ (by decide)).stopGens
  exact gens.congr rfl (rd_congr rfl _)

theorem stopTick_reports (m : Module) : m.stopTick.reports = m.reports := stopGens_reports (m.setClkState 7)

theorem stopTick_running (m : Module) {g : Nat} (hg : g < 34) : (m.stopTick.gen g).running = false :=
  stopGens_running (m.setClkState 7) hg

/-! #### What a loss does (R192 to R194) -/

/-- The loss is counted, and the time of day goes on. -/
def LossCounts (m n : Module) : Prop := (n.todSec = m.todSec ∧ n.todNs = m.todNs)
  ∧ n.rn R.CLK_LOSSES = if m.rn R.CLK_LOSSES < 0xFFFFFFFF then m.rn R.CLK_LOSSES + 1 else m.rn R.CLK_LOSSES

/-- The clock coasts (R193): the generators as they were, CLK_COAST reported, and from a lock HOLDOVER. -/
def Coasts (m n : Module) : Prop := LossCounts m n ∧ n.pwm = m.pwm ∧ Raised m n FS.CLK_COAST .none
  ∧ (m.clkState = 3 ∨ m.clkState = 5 ∨ m.clkState = 6 → n.clkState = 4 ∧ n.clk.holdoverAt = m.now + 1)
  ∧ (¬(m.clkState = 3 ∨ m.clkState = 5 ∨ m.clkState = 6) → n.clkState = m.clkState)

/-- The clock gates (R194): FL_CLK requested, CLK_GATE reported, and the tick stops. -/
def Gates (m n : Module) : Prop := LossCounts m n ∧ .clk ∈ n.lineReqs m.clkLine ∧ n.bit R.PWM_FL_ACT m.clkLine = true
  ∧ (∃ r ∈ n.reports, r.src = FS.CLK_GATE ∧ r.at' = m.now)
  ∧ (m.ticking = true → n.clkState = m.clkState ∧ n.clk.stopAt = some (m.clk.stopAt.getD (m.now + 32)))
  ∧ (m.ticking = false → n.clkState = 7 ∧ ∀ g < 34, (n.gen g).running = false)

theorem clockLoss_coasts (coast : m.flag R.CLK_CFG F.CLK_CFG_POLICY = true) : Coasts m (m.clockLoss false) := by
  have count : m.lossCoasted.rn R.CLK_LOSSES = _ := (rn_congr (lossCoasted_rd m _)).trans (lossCounted_count m)
  have state : m.lossCoasted.clkState = m.clkState := (rf_congr (lossCoasted_rd m _) _).trans (lossCounted_clkState m)
  have eq : m.clockLoss false =
      if m.clkState = 3 ∨ m.clkState = 5 ∨ m.clkState = 6 then m.lossCoasted.holdOver else m.lossCoasted := by
    rw [clockLoss_eq, coast]
    exact if_pos rfl
  have ⟨time, gens, raised, now⟩ : (m.lossCoasted.todSec = m.todSec ∧ m.lossCoasted.todNs = m.todNs) ∧ m.lossCoasted.pwm = m.pwm
      ∧ Raised m m.lossCoasted FS.CLK_COAST .none ∧ m.lossCoasted.now = m.now := by
    obtain ⟨_, w, coasted⟩ := lossCoasted_inv m
    rw [coasted]
    exact ⟨⟨rfl, rfl⟩, rfl, ⟨w, rfl⟩, rfl⟩
  rw [eq]
  generalize m.lossCoasted = p at *
  split
  · next runs =>
    have held : p.holdOver.clkState = 4 := (rf_congr (holdOver_rd _ _) _).trans (clkState_setClkState _ (by decide))
    exact ⟨⟨time, (rn_congr (holdOver_rd_ne _ (by decide))).trans count⟩, gens, raised,
      fun _ => ⟨held, congrArg (· + 1) now⟩, fun no => absurd runs no⟩
  · next no => exact ⟨⟨time, count⟩, gens, raised, fun runs => absurd runs no, fun _ => state⟩

theorem lossGated_asserts (m : Module) : Asserts m.lossGated m.clkLine .clk :=
  (requestLine_asserts m.lossCounted (clkLine_lt m) (by simp)).congr rfl (raiseFree_rd _ _ _ _)

theorem lossGated_time (m : Module) : m.lossGated.todSec = m.todSec ∧ m.lossGated.todNs = m.todNs := by
  obtain ⟨_, _, _, _, _, eq⟩ := lossGated_inv m
  rw [eq]
  exact ⟨rfl, rfl⟩

theorem lossGated_count (m : Module) : m.lossGated.rn R.CLK_LOSSES =
    if m.rn R.CLK_LOSSES < 0xFFFFFFFF then m.rn R.CLK_LOSSES + 1 else m.rn R.CLK_LOSSES :=
  (rn_congr (lossGated_low m (by decide))).trans (lossCounted_count m)

theorem lossGated_report (m : Module) : ∃ r ∈ m.lossGated.reports, r.src = FS.CLK_GATE ∧ r.at' = m.now := by
  obtain ⟨_, _, _, _, w, eq⟩ := lossGated_inv m
  rw [eq]
  exact ⟨_, List.mem_append_right _ (List.mem_singleton_self _), rfl, rfl⟩

theorem lossGated_stop (m : Module) : m.lossGated.now = m.now ∧ m.lossGated.clk.stopAt = m.clk.stopAt := by
  obtain ⟨_, _, _, _, _, eq⟩ := lossGated_inv m
  rw [eq]
  exact ⟨rfl, rfl⟩

theorem clockLoss_gates {crystal : Bool} (gate : (m.flag R.CLK_CFG F.CLK_CFG_POLICY && !crystal) = false) :
    Gates m (m.clockLoss crystal) := by
  have asserts := lossGated_asserts m
  have count := lossGated_count m
  have state := lossGated_clkState m
  have report := lossGated_report m
  have ⟨sec, ns⟩ := lossGated_time m
  have ⟨now, stopAt⟩ := lossGated_stop m
  rw [clockLoss_eq, gate, if_neg Bool.false_ne_true]
  generalize m.lossGated = p at *
  split
  · next ticks =>
    have later : p.stopsLater.clk.stopAt = some (m.clk.stopAt.getD (m.now + 32)) := by
      rw [← stopAt, ← now]
      rfl
    exact ⟨⟨⟨sec, ns⟩, (rn_congr (stopsLater_rd p _)).trans count⟩, asserts.stands, asserts.active, report,
      fun _ => ⟨(rf_congr (stopsLater_rd p _) _).trans state, later⟩, fun no => by simp [ticks] at no⟩
  · next no =>
    have stands := stopTick_timeStands p
    exact ⟨⟨⟨stands.todSec.trans sec, stands.todNs.trans ns⟩, (rn_congr (stopTick_low p (by decide) (by decide))).trans count⟩,
      asserts.stopTick.stands, asserts.stopTick.active, (stopTick_reports p).symm ▸ report, fun ticks => absurd ticks no,
      fun _ => ⟨stopTick_clkState p, fun g hg => stopTick_running p hg⟩⟩

/-- What a loss leaves of a register below those of the lines, but for its count and the state. -/
theorem clockLoss_low (m : Module) (crystal : Bool) {a : Nat} (low : a < 0x90000) (losses : a ≠ R.CLK_LOSSES) (sat : a ≠ R.CLK_SAT)
    (stat : a ≠ R.CLK_STAT) : (m.clockLoss crystal).rd a = m.rd a := by
  have counted := lossCounted_rd m losses sat
  have gated := (lossGated_low m low).trans counted
  rw [clockLoss_eq]
  split
  · split
    · exact (holdOver_rd_ne m.lossCoasted stat).trans ((lossCoasted_rd m a).trans counted)
    · exact (lossCoasted_rd m a).trans counted
  · split
    · exact (stopsLater_rd _ _).trans gated
    · exact (stopTick_low _ low stat).trans gated

theorem clockLoss_refOk (m : Module) (crystal : Bool) :
    (m.clockLoss crystal).flag R.CLK_STAT F.CLK_STAT_REF_OK = m.flag R.CLK_STAT F.CLK_STAT_REF_OK := by
  have counted : m.lossCounted.flag R.CLK_STAT F.CLK_STAT_REF_OK = m.flag R.CLK_STAT F.CLK_STAT_REF_OK :=
    flag_congr (lossCounted_rd m (by decide) (by decide)) _
  have coasted : m.lossCoasted.flag R.CLK_STAT F.CLK_STAT_REF_OK = m.flag R.CLK_STAT F.CLK_STAT_REF_OK :=
    (flag_congr (lossCoasted_rd m _) _).trans counted
  have gated : m.lossGated.flag R.CLK_STAT F.CLK_STAT_REF_OK = m.flag R.CLK_STAT F.CLK_STAT_REF_OK :=
    (flag_congr (lossGated_low m (by decide)) _).trans counted
  rw [clockLoss_eq]
  split
  · split
    · exact ((flag_congr (holdOver_rd m.lossCoasted _) _).trans (flag_setClkState _ _ _ (by decide) (by decide))).trans coasted
    · exact coasted
  · split
    · exact (flag_congr (stopsLater_rd _ _) _).trans gated
    · exact ((flag_congr (stopTick_rd _ (by decide)) _).trans (flag_setClkState _ _ _ (by decide) (by decide))).trans gated

/-- `n` is `m` but for CLK_PHERR, for the flags beside STATE in CLK_STAT, and for when the reference was last seen. -/
structure SameLock (m n : Module) : Prop where
  same : ∃ regs refAt, n = { m with regs := regs, clk := { m.clk with refAt := refAt } }
  state : n.clkState = m.clkState
  others : ∀ a, a ≠ R.CLK_PHERR → a ≠ R.CLK_STAT → n.rd a = m.rd a

theorem SameLock.lossCounts {l : Module} (h : SameLock m l) (loss : LossCounts l n) : LossCounts m n := by
  have count : l.rn R.CLK_LOSSES = m.rn R.CLK_LOSSES := rn_congr (h.others _ (by decide) (by decide))
  obtain ⟨_, _, rfl⟩ := h.same
  exact ⟨loss.1, count ▸ loss.2⟩

theorem SameLock.coasts {l : Module} (h : SameLock m l) (loss : Coasts l n) : Coasts m n := by
  obtain ⟨loss, gens, raised, holds, stays⟩ := loss
  have count := h.lossCounts loss
  rw [h.state] at holds stays
  obtain ⟨_, _, rfl⟩ := h.same
  exact ⟨count, gens, raised, holds, stays⟩

theorem SameLock.gates {l : Module} (h : SameLock m l) (loss : Gates l n) : Gates m n := by
  obtain ⟨loss, stands, active, report, later, now⟩ := loss
  have count := h.lossCounts loss
  have line : l.clkLine = m.clkLine := rf_congr (h.others R.CLK_CFG (by decide) (by decide)) _
  rw [h.state] at later
  rw [line] at stands active
  have state := h.state
  obtain ⟨_, _, rfl⟩ := h.same
  rw [ticking_congr (m := m) state rfl rfl] at later now
  exact ⟨count, stands, active, report, later, now⟩

/-! #### Loss and return of a reference (R191, R196) -/

theorem refLost_of_heard {l : RefLoss} (h : m.silent l = false) : m.refLost l = m := by
  unfold Module.refLost
  exact if_pos (by simp [h])

/-- The reference is shown missing, and when it was last seen forgotten. -/
def Module.refMissing (m : Module) : Module :=
  { m.setFlag R.CLK_STAT F.CLK_STAT_REF_OK false with clk := { m.clk with refAt := 0 } }

theorem refMissing_rd (m : Module) (a : Nat) : m.refMissing.rd a = (m.setFlag R.CLK_STAT F.CLK_STAT_REF_OK false).rd a := rd_congr rfl a

theorem refMissing_sameLock (m : Module) : SameLock m m.refMissing where
  same := ⟨_, 0, rfl⟩
  state := (rf_congr (refMissing_rd m _) _).trans (clkState_setFlag m F.CLK_STAT_REF_OK false (by decide))
  others a _ h := (refMissing_rd m a).trans (rd_setFlag_ne m _ _ h.symm)

/-- A silence is noted, but of a crystal that is not the reference in use, and is a loss (R191). -/
theorem refLost_of_silent {l : RefLoss} (h : m.silent l = true) : ∃ k, SameLock m k ∧ m.refLost l = k.clockLoss l.isCrystal
    ∧ (l.isCrystal = false ∨ m.clkSrc = 0 → k.flag R.CLK_STAT F.CLK_STAT_REF_OK = false) := by
  have lost : m.refLost l = (if l.isCrystal && m.clkSrc != 0 then m else m.refMissing).clockLoss l.isCrystal := by
    unfold Module.refLost
    exact if_neg (by simp [h])
  by_cases other : (l.isCrystal && m.clkSrc != 0) = true
  · rw [if_pos other] at lost
    refine ⟨m, ⟨⟨_, _, rfl⟩, rfl, fun _ _ _ => rfl⟩, lost, fun own => ?_⟩
    obtain own | own := own <;> simp [own] at other
  · rw [if_neg other] at lost
    exact ⟨_, refMissing_sameLock m, lost,
      fun _ => (flag_congr (refMissing_rd m _) _).trans (flag_setFlag_same m _ _ false (by decide) rfl)⟩

theorem reacquire_rd (m : Module) (a : Nat) : m.reacquire.rd a = (m.setClkState 5).rd a := rd_congr rfl a

theorem reacquire_rd_ne (m : Module) {a : Nat} (h : a ≠ R.CLK_STAT) : m.reacquire.rd a = m.rd a :=
  (reacquire_rd m a).trans (rd_wf_ne m _ _ h.symm)

theorem reacquire_clkState (m : Module) : m.reacquire.clkState = 5 :=
  (rf_congr (reacquire_rd m _) _).trans (clkState_setClkState m (by decide))

theorem reacquire_refOk (m : Module) : m.reacquire.flag R.CLK_STAT F.CLK_STAT_REF_OK = m.flag R.CLK_STAT F.CLK_STAT_REF_OK :=
  (flag_congr (reacquire_rd m _) _).trans (flag_setClkState m _ _ (by decide) (by decide))

/-! #### The offset known (R196, R197) -/

theorem slew_eq (m : Module) : ∃ clk, m.slew = { m.setClkState 6 with clk := clk } := by
  unfold Module.slew
  extract_lets p
  split
  · exact ⟨p.clk, rfl⟩
  · exact ⟨_, rfl⟩

theorem stepAllowed_congr (mode : n.rd R.SYS_MODE = m.rd R.SYS_MODE) (slew : n.rd R.CLK_SLEW = m.rd R.CLK_SLEW) :
    n.stepAllowed = m.stepAllowed := by
  simp only [Module.stepAllowed, rf_congr mode, flag_congr slew]

theorem stepAllowed_iff (m : Module) : m.stepAllowed = true ↔ m.flag R.CLK_SLEW F.CLK_SLEW_STEP_OK = true
    ∧ 3 ≤ m.rf R.SYS_MODE F.SYS_MODE_MODE ∧ m.rf R.SYS_MODE F.SYS_MODE_MODE ≤ 5 := by
  simp [Module.stepAllowed, and_assoc]

/-- A known offset waits for its step, or the clock slews. -/
theorem offsetKnown_inv (m : Module) :
    (m.stepAllowed = true ∧ m.offsetKnown = { m with clk := { m.clk with integ := 0, winRun := 0, stepDue := true } })
    ∨ (m.stepAllowed = false ∧ ∃ clk, m.offsetKnown = { m.setClkState 6 with clk := clk }) := by
  let p : Module := { m with clk := { m.clk with integ := 0, winRun := 0 } }
  have allowed : p.stepAllowed = m.stepAllowed := stepAllowed_congr (rd_congr rfl _) (rd_congr rfl _)
  have eq : m.offsetKnown = if p.stepAllowed then { p with clk := { p.clk with stepDue := true } } else p.slew := rfl
  rw [eq, allowed]
  split
  · next yes => exact .inl ⟨yes, rfl⟩
  · next no =>
    obtain ⟨clk, slews⟩ := slew_eq p
    exact .inr ⟨by simpa using no, clk, slews⟩

/-- What a clock that knows its offset does (R196): it waits for its step where one is allowed, else it slews. -/
def OffsetKnown (m n : Module) : Prop :=
  (if m.flag R.CLK_SLEW F.CLK_SLEW_STEP_OK ∧ 3 ≤ m.rf R.SYS_MODE F.SYS_MODE_MODE ∧ m.rf R.SYS_MODE F.SYS_MODE_MODE ≤ 5 then
    n.clk.stepDue = true ∧ n.clkState = 5 else n.clkState = 6)
  ∧ (∀ a, a ≠ R.CLK_TERR → a ≠ R.CLK_STAT → n.rd a = m.rd a)
  ∧ n = { m with regs := n.regs, clk := n.clk, reports := n.reports, freeCtr := n.freeCtr }

/-- `k` is `m` with CLK_TERR shown anew. -/
structure TerrShown (m k : Module) : Prop where
  same : ∃ regs clk reports freeCtr, k = { m with regs := regs, clk := clk, reports := reports, freeCtr := freeCtr }
  others : ∀ a, a ≠ R.CLK_TERR → k.rd a = m.rd a

theorem TerrShown.refl (m : Module) : TerrShown m m := ⟨⟨_, _, _, _, rfl⟩, fun _ _ => rfl⟩

theorem setTerr_rd (m : Module) (o : Int) (a : Nat) : (m.setTerr o).rd a = (m.wr R.CLK_TERR (BitVec.ofInt 64 o)).rd a := by
  obtain ⟨_, _, _, eq⟩ := setTerr_eq m o
  rw [eq]
  exact rd_congr rfl a

theorem setTerr_rd_same (m : Module) (o : Int) : (m.setTerr o).rd R.CLK_TERR = BitVec.ofInt 64 o :=
  (setTerr_rd m o _).trans (rd_wr_same m _ _)

theorem setTerr_rd_ne (m : Module) (o : Int) {a : Nat} (h : a ≠ R.CLK_TERR) : (m.setTerr o).rd a = m.rd a :=
  (setTerr_rd m o a).trans (rd_wr_ne m _ h.symm)

theorem setTerr_terrShown (m : Module) (o : Int) : TerrShown m (m.setTerr o) := by
  obtain ⟨_, _, _, eq⟩ := setTerr_eq m o
  exact ⟨⟨_, _, _, _, eq⟩, fun a h => setTerr_rd_ne m o h⟩

theorem offsetKnown_known {k : Module} (shown : TerrShown m k) (st : m.clkState = 5) :
    OffsetKnown m k.offsetKnown ∧ k.offsetKnown.rd R.CLK_TERR = k.rd R.CLK_TERR := by
  have allowed : k.stepAllowed = m.stepAllowed := stepAllowed_congr (shown.others _ (by decide)) (shown.others _ (by decide))
  have state : k.clkState = 5 := (rf_congr (shown.others R.CLK_STAT (by decide)) _).trans st
  have others := shown.others
  obtain ⟨_, _, _, _, same⟩ := shown.same
  have may_iff := stepAllowed_iff m
  rw [← allowed] at may_iff
  obtain ⟨may, eq⟩ | ⟨may, clk, eq⟩ := offsetKnown_inv k
  · have kept (a) : k.offsetKnown.rd a = k.rd a := by rw [eq]; exact rd_congr rfl a
    refine ⟨⟨?_, fun a terr _ => (kept a).trans (others a terr), ?_⟩, kept _⟩
    · rw [if_pos (may_iff.1 may)]
      exact ⟨by rw [eq], (rf_congr (kept _) _).trans state⟩
    · rw [eq, same]
  · have kept (a) : k.offsetKnown.rd a = (k.setClkState 6).rd a := by rw [eq]; exact rd_congr rfl a
    refine ⟨⟨?_, fun a terr stat => ((kept a).trans (rd_wf_ne k _ _ stat.symm)).trans (others a terr), ?_⟩,
      (kept _).trans (rd_wf_ne k _ _ (by decide))⟩
    · rw [if_neg fun can => by simp [may_iff.2 can] at may]
      exact (rf_congr (kept _) _).trans (clkState_setClkState k (by decide))
    · rw [eq, same]
      rfl

section
variable {o : Int} {cycles : Nat} (st : m.clkState = 5) (free : m.clk.stopAt = none)
include st free

theorem freqReacquired_of_outer (outer : m.outerLoop = true) : m.freqReacquired o cycles =
    if m.clk.syncs < max 2 (m.rf R.CLK_SERVO F.CLK_SERVO_FREQ_N) then m else m.offsetKnown := by
  simp [Module.freqReacquired, st, free, outer]

theorem freqReacquired_of_inner (inner : m.outerLoop = false) : m.freqReacquired o cycles = if cycles < m.lockN then m else
    ({ m.setTerr o with clk := { (m.setTerr o).clk with phase := o * 1000000 } } : Module).offsetKnown := by
  simp [Module.freqReacquired, st, free, inner]

end

/-! #### The conditions of a loss of lock, and what it works on (R191) -/

/-- The conditions of a loss of lock (R191) on a clock that holds one. -/
def Module.losesLock (m : Module) (err cycles : Word) : Prop :=
  3 ≤ m.clkState ∧ m.clkState ≤ 6 ∧ 4 ≤ cycles.toNat ∧ 4 * m.lockWin < err.toInt.natAbs

theorem measure_losesLock_iff (m : Module) (err cycles : Word) : m.losesLock err cycles ↔
    ((m.measure err).clkRuns && 4 ≤ cycles.toNat && 4 * (m.measure err).lockWin < err.toInt.natAbs) = true := by
  simp [Module.losesLock, Module.clkRuns, measure_clkState, measure_lockWin, and_assoc]

theorem measure_sameLock (src : m.clkSrc ≠ 1) (err : Word) : SameLock m (m.measure err) where
  same := ⟨_, m.clk.refAt, measure_of_src src err⟩
  state := measure_clkState m err
  others a h _ := by rw [measure_of_src src, rd_wn, if_neg h.symm]

theorem clockLoss_measure_phase (m : Module) (err : Word) (crystal : Bool) :
    ((m.measure err).clockLoss crystal).rn R.CLK_PHERR = err.toNat :=
  (rn_congr (clockLoss_low _ _ (by decide) (by decide) (by decide) (by decide))).trans (measure_measured m err).phase

/-! #### The clock's commands on a module with its supply -/

section
variable {s : State} {edges : List (BitVec 16)} {err cycles : Word} (on : s.mod.powered = true)
include on

theorem exec_lockDeclared (run : PhaseRun) : exec (.lockDeclared run) s
    = .next ⟨(s.mod.swallow run.edges).lockDeclared run.err run.cycles, s.pending⟩ := by
  show execLockDeclared run s = _
  rw [execLockDeclared, runOn_of_powered on]

theorem exec_lossOfLock (long : ∀ e ∈ edges, 1900 ≤ e.toNat) : exec (.lossOfLock ⟨err, cycles, edges⟩) s = .next
    ⟨if (s.mod.measure err).clkRuns && 4 ≤ cycles.toNat && 4 * (s.mod.measure err).lockWin < err.toInt.natAbs then
      (s.mod.measure err).clockLoss false else s.mod.measure err, s.pending⟩ := by
  show execLossOfLock ⟨err, cycles, edges⟩ s = _
  rw [execLossOfLock, runOn_of_powered on, swallow_of_long long]

theorem exec_lossOfReference (l : RefLoss) : exec (.lossOfReference l) s = .next ⟨s.mod.refLost l, s.pending⟩ :=
  runOn_of_powered on (·.refLost l)

theorem exec_referenceReturn : exec .referenceReturn s = .next ⟨
    if (s.mod.setFlag R.CLK_STAT F.CLK_STAT_REF_OK true).clkState = 4 ∧ s.mod.clk.stopAt = none then
      (s.mod.setFlag R.CLK_STAT F.CLK_STAT_REF_OK true).reacquire
    else s.mod.setFlag R.CLK_STAT F.CLK_STAT_REF_OK true, s.pending⟩ := by
  show execReferenceReturn s = _
  rw [execReferenceReturn, runOn_of_powered on]
  rfl

theorem exec_frequencyReacquired (long : ∀ e ∈ edges, 1900 ≤ e.toNat) (o : BitVec 64) : exec (.frequencyReacquired ⟨o, cycles, edges⟩) s
    = .next ⟨s.mod.freqReacquired o.toInt cycles.toNat, s.pending⟩ := by
  show execFrequencyReacquired ⟨o, cycles, edges⟩ s = _
  rw [execFrequencyReacquired, runOn_of_powered on, swallow_of_long long]

/-! #### O30: lock -/

section
variable (long : ∀ e ∈ edges, 1900 ≤ e.toNat)
include long

theorem exec_lockDeclared_of_long : exec (.lockDeclared ⟨err, cycles, edges⟩) s = .next ⟨s.mod.lockDeclared err cycles, s.pending⟩ := by
  rw [exec_lockDeclared on, swallow_of_long long]

theorem leads_locked (locks : s.mod.locks err cycles) (inner : s.mod.outerLoop = false)
    (st : s.mod.clkState = 2 ∨ s.mod.clkState = 6) : Leads (.lockDeclared ⟨err, cycles, edges⟩) s (fun m =>
      m.rn R.CLK_PHERR = err.toNat ∧ m.clkState = 3 ∧ m.flag R.CLK_STAT F.CLK_STAT_REF_OK = true
      ∧ .clk ∉ m.lineReqs s.mod.clkLine ∧ m.todSec = s.mod.todSec ∧ m.todNs = s.mod.todNs) := by
  refine ⟨_, exec_lockDeclared_of_long on long, ?_⟩
  have shown := measure_measured s.mod err
  have line : (s.mod.measure err).clkLine = s.mod.clkLine := measure_rf _ _ (a := R.CLK_CFG) (by decide) (by decide) _
  have lock := enterLocked_locked (m := s.mod.measure err) ((measure_stopAt _ _).trans locks.1) ((measure_outerLoop _ _).trans inner)
  have ⟨sec, ns⟩ : (s.mod.measure err).todSec = s.mod.todSec ∧ (s.mod.measure err).todNs = s.mod.todNs := by
    obtain ⟨_, _, _, _, eq⟩ := shown.same
    rw [eq]
    exact ⟨rfl, rfl⟩
  rw [lockDeclared_of_inner locks inner st]
  generalize (s.mod.measure err).enterLocked = l at *
  exact ⟨(rn_congr ((rd_setFlag_ne l _ _ (by decide)).trans (lock.low _ (by decide) (by decide)))).trans shown.phase,
    (clkState_setFlag l _ _ (by decide)).trans lock.state, flag_setFlag_same l _ _ true (by decide) rfl,
    line ▸ lock.withdrawn, lock.time.todSec.trans sec, lock.time.todNs.trans ns⟩

theorem leads_lock_of_outer (locks : s.mod.locks err cycles) (outer : s.mod.outerLoop = true) (st : s.mod.clkState = 2) :
    Leads (.lockDeclared ⟨err, cycles, edges⟩) s (fun m => m.rn R.CLK_PHERR = err.toNat ∧ m.clkState = 5 ∧ m.clk.syncs = 0
      ∧ m.pwm = s.mod.pwm ∧ m.todSec = s.mod.todSec ∧ m.todNs = s.mod.todNs) := by
  refine ⟨_, exec_lockDeclared_of_long on long, ?_⟩
  have shown := measure_measured s.mod err
  rw [lockDeclared_of_outer locks outer st]
  refine ⟨(rn_congr (reacquire_rd_ne _ (by decide))).trans shown.phase, reacquire_clkState _, rfl, ?_⟩
  obtain ⟨_, _, _, _, eq⟩ := shown.same
  rw [eq]
  exact ⟨rfl, rfl, rfl⟩

end

theorem leads_guarded {e : BitVec 16} (short : e.toNat < 1900) (src : s.mod.clkSrc ≠ 1) (st : s.mod.clkState = 3) :
    Leads (.lockDeclared ⟨err, cycles, [e]⟩) s (fun m =>
      m.rn R.CLK_SWALLOW = (if s.mod.rn R.CLK_SWALLOW < 0xFFFFFFFF then s.mod.rn R.CLK_SWALLOW + 1 else s.mod.rn R.CLK_SWALLOW)
      ∧ m.now = s.mod.now ∧ (s.mod.todNs < 999999998 → m.todNs = s.mod.todNs + 2 ∧ m.todSec = s.mod.todSec)
      ∧ ∃ r ∈ m.reports, r.src = FS.CLK_GUARD ∧ r.at' = s.mod.now) := by
  refine ⟨_, exec_lockDeclared on _, ?_⟩
  have guarded := swallowOne_guarded st
  have state : s.mod.swallowOne.clkState = 3 := (rf_congr (guarded.others R.CLK_STAT (by decide) (by decide)) _).trans st
  have source : s.mod.swallowOne.clkSrc ≠ 1 := ne_of_eq_of_ne (rf_congr (guarded.others R.CLK_CFG (by decide) (by decide)) _) src
  rw [swallow_of_short short, lockDeclared_of_no_lock (.inr (by simp [state])), measure_of_src source]
  generalize s.mod.swallowOne = l at *
  exact ⟨(rn_congr (rd_wr_ne l _ (by decide))).trans guarded.count, guarded.now, guarded.tod, guarded.report⟩

/-! #### O30: loss -/

section
variable (long : ∀ e ∈ edges, 1900 ≤ e.toNat)
include long

theorem exec_lossOfLock_of_lost (lost : s.mod.losesLock err cycles) : exec (.lossOfLock ⟨err, cycles, edges⟩) s
    = .next ⟨(s.mod.measure err).clockLoss false, s.pending⟩ := by
  rw [exec_lossOfLock on long, if_pos ((measure_losesLock_iff _ _ _).1 lost)]

theorem exec_lossOfLock_of_held (held : ¬ s.mod.losesLock err cycles) : exec (.lossOfLock ⟨err, cycles, edges⟩) s
    = .next ⟨s.mod.measure err, s.pending⟩ := by
  rw [exec_lossOfLock on long, if_neg (mt (measure_losesLock_iff _ _ _).2 held)]

end

theorem leads_lossOfReference {l : RefLoss} (silent : s.mod.silent l = true) : Leads (.lossOfReference l) s (fun m =>
    (l.isCrystal = false ∨ s.mod.clkSrc = 0 → m.flag R.CLK_STAT F.CLK_STAT_REF_OK = false)
    ∧ ((s.mod.flag R.CLK_CFG F.CLK_CFG_POLICY && !l.isCrystal) = true → Coasts s.mod m)
    ∧ ((s.mod.flag R.CLK_CFG F.CLK_CFG_POLICY && !l.isCrystal) = false → Gates s.mod m)) := by
  obtain ⟨k, lock, lost, missing⟩ := refLost_of_silent silent
  have policy : k.flag R.CLK_CFG F.CLK_CFG_POLICY = s.mod.flag R.CLK_CFG F.CLK_CFG_POLICY :=
    flag_congr (lock.others _ (by decide) (by decide)) _
  refine ⟨_, exec_lossOfReference on l, ?_⟩
  rw [lost, ← policy]
  refine ⟨fun own => (clockLoss_refOk k _).trans (missing own), fun coast => ?_, fun gate => lock.gates (clockLoss_gates gate)⟩
  have ⟨coast, other⟩ : k.flag R.CLK_CFG F.CLK_CFG_POLICY = true ∧ l.isCrystal = false := by simpa using coast
  rw [other]
  exact lock.coasts (clockLoss_coasts coast)

/-! #### O30: the reference's return, and frequency reacquired -/

theorem leads_returned (st : s.mod.clkState = 4) (free : s.mod.clk.stopAt = none) : Leads .referenceReturn s (fun m =>
    m.clkState = 5 ∧ m.flag R.CLK_STAT F.CLK_STAT_REF_OK = true ∧ m.clk = { s.mod.clk with syncs := 0, winRun := 0, stepDue := false }
    ∧ m = { s.mod with regs := m.regs, clk := m.clk }) := by
  have state := (clkState_setFlag s.mod F.CLK_STAT_REF_OK true (by decide)).trans st
  refine ⟨_, exec_referenceReturn on, ?_⟩
  rw [if_pos ⟨state, free⟩]
  exact ⟨reacquire_clkState _, (reacquire_refOk _).trans (flag_setFlag_same _ _ _ true (by decide) rfl), rfl, rfl⟩

theorem leads_returned_elsewhere (st : s.mod.clkState ≠ 4) : Leads .referenceReturn s (fun m =>
    m.flag R.CLK_STAT F.CLK_STAT_REF_OK = true ∧ m.clkState = s.mod.clkState ∧ (∀ a, a ≠ R.CLK_STAT → m.rd a = s.mod.rd a)
    ∧ m = { s.mod with regs := m.regs }) := by
  have state := clkState_setFlag s.mod F.CLK_STAT_REF_OK true (by decide)
  refine ⟨_, exec_referenceReturn on, ?_⟩
  rw [if_neg fun h => st (state.symm.trans h.1)]
  exact ⟨flag_setFlag_same _ _ _ true (by decide) rfl, state, fun a h => rd_setFlag_ne _ _ _ h.symm, rfl⟩

section
variable (long : ∀ e ∈ edges, 1900 ≤ e.toNat) (st : s.mod.clkState = 5) (free : s.mod.clk.stopAt = none) (o : BitVec 64)
include long st free

theorem leads_reacquired_inner (inner : s.mod.outerLoop = false) (enough : s.mod.lockN ≤ cycles.toNat) :
    Leads (.frequencyReacquired ⟨o, cycles, edges⟩) s (fun m => m.rd R.CLK_TERR = o ∧ OffsetKnown s.mod m) := by
  have shown := setTerr_terrShown s.mod o.toInt
  have terr := setTerr_rd_same s.mod o.toInt
  refine ⟨_, exec_frequencyReacquired on long o, ?_⟩
  rw [freqReacquired_of_inner st free inner, if_neg (Nat.not_lt.2 enough)]
  generalize s.mod.setTerr o.toInt = k at *
  obtain ⟨known, kept⟩ := offsetKnown_known (k := { k with clk := { k.clk with phase := o.toInt * 1000000 } })
    ⟨by obtain ⟨_, _, _, _, eq⟩ := shown.same; exact ⟨_, _, _, _, by rw [eq]⟩, shown.others⟩ st
  exact ⟨(kept.trans (rd_congr rfl _)).trans (terr.trans (BitVec.ofInt_toInt)), known⟩

theorem exec_reacquired_inner_early (inner : s.mod.outerLoop = false) (early : cycles.toNat < s.mod.lockN) :
    exec (.frequencyReacquired ⟨o, cycles, edges⟩) s = .next s := by
  rw [exec_frequencyReacquired on long o, freqReacquired_of_inner st free inner, if_pos early]

theorem leads_reacquired_outer (outer : s.mod.outerLoop = true)
    (enough : max 2 (s.mod.rf R.CLK_SERVO F.CLK_SERVO_FREQ_N) ≤ s.mod.clk.syncs) :
    Leads (.frequencyReacquired ⟨o, cycles, edges⟩) s (OffsetKnown s.mod) := by
  refine ⟨_, exec_frequencyReacquired on long o, ?_⟩
  rw [freqReacquired_of_outer st free outer, if_neg (Nat.not_lt.2 enough)]
  exact (offsetKnown_known (.refl _) st).1

theorem exec_reacquired_outer_early (outer : s.mod.outerLoop = true)
    (early : s.mod.clk.syncs < max 2 (s.mod.rf R.CLK_SERVO F.CLK_SERVO_FREQ_N)) :
    exec (.frequencyReacquired ⟨o, cycles, edges⟩) s = .next s := by
  rw [exec_frequencyReacquired on long o, freqReacquired_of_outer st free outer, if_pos early]

end
end

/-- Settles O30: each command by its lemma above. -/
theorem clockLocksAndLoses : Obligations.ClockLocksAndLoses := by
  intro s edges on long
  refine ⟨fun err cycles => ⟨leads_locked on long, leads_lock_of_outer on long, fun src no => ?_,
      fun e short src st => leads_guarded on short src st, fun src => ⟨fun lost coast => ?_, fun lost gate => ?_, fun held => ?_⟩⟩,
    fun l => ⟨fun heard => ?_, fun silent coast other => ?_, fun silent gate => ?_⟩, fun _ => rfl, leads_returned on,
    leads_returned_elsewhere on, fun o cycles st free => ⟨leads_reacquired_inner on long st free o,
      exec_reacquired_inner_early on long st free o, leads_reacquired_outer on long st free o,
      exec_reacquired_outer_early on long st free o⟩⟩
  · refine ⟨_, exec_lockDeclared_of_long on long, ?_⟩
    rw [lockDeclared_of_no_lock no, measure_of_src src]
    exact ⟨rn_word _ _ err, fun a h => rd_wr_ne _ _ h.symm, rfl⟩
  · have lock := measure_sameLock src err
    exact ⟨_, exec_lossOfLock_of_lost on long lost, clockLoss_measure_phase _ err _,
      lock.coasts (clockLoss_coasts ((flag_congr (lock.others _ (by decide) (by decide)) _).trans coast))⟩
  · have lock := measure_sameLock src err
    have policy : (s.mod.measure err).flag R.CLK_CFG F.CLK_CFG_POLICY = false :=
      (flag_congr (lock.others _ (by decide) (by decide)) _).trans gate
    exact ⟨_, exec_lossOfLock_of_lost on long lost, clockLoss_measure_phase _ err _, lock.gates (clockLoss_gates (by simp [policy]))⟩
  · refine ⟨_, exec_lossOfLock_of_held on long held, ?_⟩
    rw [measure_of_src src]
    exact ⟨rn_word _ _ err, rfl⟩
  · rw [exec_lossOfReference on, refLost_of_heard heard]
  · obtain ⟨m, next, missing, coasts, -⟩ := leads_lossOfReference on silent
    exact ⟨m, next, missing (.inl other), coasts (by simp only [other, Bool.not_false, Bool.and_true]; exact coast)⟩
  · obtain ⟨m, next, missing, -, gates⟩ := leads_lossOfReference on silent
    refine ⟨m, next, missing, gates ?_⟩
    obtain gate | crystal := gate
    · rw [gate, Bool.false_and]
    · rw [crystal, Bool.not_true, Bool.and_false]

/-! ### O31: the servo (R200) -/

theorem noteRef_rd (m : Module) (a : Nat) : m.noteRef.rd a = (m.setFlag R.CLK_STAT F.CLK_STAT_REF_OK true).rd a := rd_congr rfl a

theorem noteRef_rd_ne (m : Module) {a : Nat} (h : a ≠ R.CLK_STAT) : m.noteRef.rd a = m.rd a :=
  (noteRef_rd m a).trans (rd_setFlag_ne m _ _ h.symm)

/-- The module with the reference noted and its offset shown (R191, R196). -/
def Module.offsetShown (m : Module) (o : Int) : Module := m.noteRef.setTerr o

theorem offsetShown_eq (m : Module) (o : Int) : ∃ regs run reports freeCtr, m.offsetShown o = { m with
    regs := regs, clk := { m.clk with refAt := m.now + 1, terrRun := run }, reports := reports, freeCtr := freeCtr } := by
  obtain ⟨run, reports, freeCtr, eq⟩ := setTerr_eq m.noteRef o
  refine ⟨(m.noteRef.wr R.CLK_TERR (BitVec.ofInt 64 o)).regs, run, reports, freeCtr, ?_⟩
  rw [Module.offsetShown, eq]
  rfl

theorem offsetShown_rd (m : Module) (o : Int) {a : Nat} (h : a ≠ R.CLK_TERR) : (m.offsetShown o).rd a = m.noteRef.rd a :=
  setTerr_rd_ne _ o h

theorem offsetShown_rd_ne (m : Module) (o : Int) {a : Nat} (terr : a ≠ R.CLK_TERR) (stat : a ≠ R.CLK_STAT) :
    (m.offsetShown o).rd a = m.rd a := (offsetShown_rd m o terr).trans (noteRef_rd_ne m stat)

theorem offsetShown_clkState (m : Module) (o : Int) : (m.offsetShown o).clkState = m.clkState :=
  (rf_congr ((offsetShown_rd m o (by decide)).trans (noteRef_rd m _)) _).trans (clkState_setFlag m F.CLK_STAT_REF_OK true (by decide))

theorem offsetShown_refOk (m : Module) (o : Int) : (m.offsetShown o).flag R.CLK_STAT F.CLK_STAT_REF_OK = true :=
  (flag_congr ((offsetShown_rd m o (by decide)).trans (noteRef_rd m _)) _).trans (flag_setFlag_same m _ _ true (by decide) rfl)

theorem slewLimit_eq (m : Module) :
    m.slewLimit = 65536 * 100 * ((min 1000 (max 1 (m.rf R.CLK_SLEW F.CLK_SLEW_PHASE_SLEW)) : Nat) : Int) := by
  rw [Module.slewLimit, Module.phaseSlew]
  norm_num

theorem slewLimit_congr (h : n.rd R.CLK_SLEW = m.rd R.CLK_SLEW) : n.slewLimit = m.slewLimit := by
  rw [slewLimit_eq, slewLimit_eq, rf_congr h]

/-- The correction of the servo (R200): proportional and integral part, clamped. -/
def Module.servoCorr (m : Module) (o : Int) : Int :=
  clampInt m.slewLimit (o * 2 ^ (16 - m.rf R.CLK_SERVO F.CLK_SERVO_KP_SH) + m.clk.integ)

/-- A run of the servo outside SLEWING, where it may lock the clock: the offset shown, a Sync counted in REACQUIRE, the
correction set in LOCKED. -/
theorem servo_inv (st6 : m.clkState ≠ 6) (o : Int) : ∃ clk, m.servo o = { m.offsetShown o with clk := clk }
    ∧ clk.refAt = m.now + 1 ∧ (m.clkState = 5 → clk.syncs = m.clk.syncs + 1 ∧ clk.corr = m.clk.corr)
    ∧ (m.clkState = 3 → clk.corr = m.servoCorr o
      ∧ clk.integ = m.clk.integ + o * 2 ^ (16 - m.rf R.CLK_SERVO F.CLK_SERVO_KI_SH)) := by
  have state := offsetShown_clkState m o
  have slew := slewLimit_congr (offsetShown_rd_ne m o (a := R.CLK_SLEW) (by decide) (by decide))
  have servo := rf_congr (offsetShown_rd_ne m o (a := R.CLK_SERVO) (by decide) (by decide))
  have ⟨refAt, syncs, corr, integ⟩ : (m.offsetShown o).clk.refAt = m.now + 1 ∧ (m.offsetShown o).clk.syncs = m.clk.syncs
      ∧ (m.offsetShown o).clk.corr = m.clk.corr ∧ (m.offsetShown o).clk.integ = m.clk.integ := by
    obtain ⟨_, _, _, _, eq⟩ := offsetShown_eq m o
    rw [eq]
    exact ⟨rfl, rfl, rfl, rfl⟩
  rw [Module.servoCorr, ← state, ← slew, ← servo, ← servo, ← syncs, ← corr, ← integ, ← refAt]
  have st6 := ne_of_eq_of_ne state st6
  unfold Module.servo
  rw [← Module.offsetShown]
  generalize m.offsetShown o = q at *
  by_cases reacquires : q.clkState = 5
  · exact ⟨_, if_pos reacquires, rfl, fun _ => ⟨rfl, rfl⟩, fun locked => by omega⟩
  · by_cases locked : q.clkState = 3
    · exact ⟨_, (if_neg reacquires).trans ((if_pos (.inl locked)).trans (if_neg fun locks => st6 locks.2)), rfl,
        fun h => absurd h reacquires, fun _ => ⟨rfl, rfl⟩⟩
    · exact ⟨q.clk, by simp [reacquires, locked, st6], rfl, fun h => absurd h reacquires, fun h => absurd h locked⟩

/-- What a run of the servo on offset `o` shows (R196, R200), of a module `m0` that an edge may have left of `m`. -/
def ServoRuns (m m0 : Module) (o : Int) (n : Module) : Prop := n.rd R.CLK_TERR = BitVec.ofInt 64 o
  ∧ n = { m0 with regs := n.regs, clk := n.clk, reports := n.reports, freeCtr := n.freeCtr }
  ∧ (∀ a, a ≠ R.CLK_TERR → a ≠ R.CLK_STAT → n.rd a = m0.rd a)
  ∧ n.flag R.CLK_STAT F.CLK_STAT_REF_OK = true ∧ n.clk.refAt = m.now + 1
  ∧ (m.clkState = 5 → n.clk.syncs = m.clk.syncs + 1 ∧ n.clk.corr = m.clk.corr)
  ∧ (m.clkState = 3 →
      let lim : Int := 65536 * 100 * (min 1000 (max 1 (m.rf R.CLK_SLEW F.CLK_SLEW_PHASE_SLEW)) : Nat)
      n.clk.corr = max (-lim) (min lim (o * 2 ^ (16 - m.rf R.CLK_SERVO F.CLK_SERVO_KP_SH) + m.clk.integ))
      ∧ n.clk.integ = m.clk.integ + o * 2 ^ (16 - m.rf R.CLK_SERVO F.CLK_SERVO_KI_SH))

theorem servo_runs (st6 : m.clkState ≠ 6) (o : Int) : ServoRuns m m o (m.servo o) := by
  obtain ⟨clk, eq, refAt, syncs, steers⟩ := servo_inv st6 o
  have rd (a) : (m.servo o).rd a = (m.offsetShown o).rd a := by rw [eq]; exact rd_congr rfl a
  have own : (m.servo o).clk = clk := by rw [eq]
  obtain ⟨_, _, _, _, shown⟩ := offsetShown_eq m o
  refine ⟨(rd _).trans (setTerr_rd_same _ o), ?_, fun a terr stat => (rd a).trans (offsetShown_rd_ne m o terr stat),
    (flag_congr (rd _) _).trans (offsetShown_refOk m o), by rw [own, refAt], by rwa [own], fun locked => ?_⟩
  · rw [eq, shown]
  · obtain ⟨corr, integ⟩ := steers locked
    rw [Module.servoCorr, clampInt, slewLimit_eq] at corr
    rw [own]
    exact ⟨corr, integ⟩

/-! #### The edge of PPS_IN (R280) -/

/-- `n` differs from `m` at most in what the engines hold and in registers of the capture units. -/
def CapturesOnly (m n : Module) : Prop :=
  (∃ regs eng, n = { m with regs := regs, eng := eng }) ∧ ∀ a < 0x90000, n.rd a = m.rd a

theorem CapturesOnly.refl (m : Module) : CapturesOnly m m := ⟨⟨_, _, rfl⟩, fun _ _ => rfl⟩

theorem CapturesOnly.trans {l : Module} (h : CapturesOnly l m) (h' : CapturesOnly m n) : CapturesOnly l n := by
  obtain ⟨⟨_, _, rfl⟩, low⟩ := h
  obtain ⟨⟨_, _, rfl⟩, low'⟩ := h'
  exact ⟨⟨_, _, rfl⟩, fun a ha => (low' a ha).trans (low a ha)⟩

theorem CapturesOnly.wr (h : CapturesOnly m n) {a : Nat} (v : DWord) (ha : 0x90000 ≤ a) : CapturesOnly m (n.wr a v) :=
  h.trans ⟨⟨_, _, rfl⟩, fun b hb => rd_wr_ne n v (by omega)⟩

theorem CapturesOnly.bump (h : CapturesOnly m n) {a sat : Nat} (i : Nat) (ha : 0x90000 ≤ a) (hs : 0x90000 ≤ sat) :
    CapturesOnly m (n.bump a sat i) := by
  obtain ⟨_, eq, kept⟩ := bump_inv n a sat i
  exact h.trans ⟨⟨_, _, eq⟩, fun b hb => bump_rd n i (by omega) (by omega)⟩

theorem latchEvent_capturesOnly (m : Module) (ev k : Nat) : CapturesOnly m (m.latchEvent ev k) := ⟨⟨_, _, rfl⟩, fun a _ => rd_congr rfl a⟩

theorem cap_regs_high (u : Nat) : 0x90000 ≤ R.CAP_CTRL u ∧ 0x90000 ≤ R.CAP_STAT u ∧ 0x90000 ≤ R.CAP_SEQ u ∧ 0x90000 ≤ R.CAP_TICK u
    ∧ 0x90000 ≤ R.CAP_NS u ∧ 0x90000 ≤ R.CAP_SEC u ∧ 0x90000 ≤ R.CAP_OVR u ∧ 0x90000 ≤ R.CAP_SAT u := by
  simp only [R.CAP_CTRL, R.CAP_STAT, R.CAP_SEQ, R.CAP_TICK, R.CAP_NS, R.CAP_SEC, R.CAP_OVR, R.CAP_SAT]
  omega

theorem capture_capturesOnly (m : Module) (u : Nat) : CapturesOnly m (m.capture u) := by
  obtain ⟨ctrl, stat, seq, tick, ns, sec, ovr, sat⟩ := cap_regs_high u
  unfold Module.capture
  split
  · exact .refl m
  · extract_lets svc m1 m2 m3 m4 m5 m6 m7 m8
    have counted : CapturesOnly m m1 := by
      unfold m1
      split
      · exact (CapturesOnly.refl m).bump 0 ovr sat
      · exact .refl m
    have ticked : CapturesOnly m m2 := counted.wr _ tick
    have stamped : CapturesOnly m m4 := (ticked.wr _ ns).wr _ sec
    have numbered : CapturesOnly m m5 := stamped.wr _ seq
    have shown : CapturesOnly m m6 := numbered.wr _ stat
    have disarmed : CapturesOnly m m7 := shown.wr _ stat
    have cleared : CapturesOnly m m8 := disarmed.wr _ ctrl
    exact cleared.trans (latchEvent_capturesOnly m8 3 u)

theorem ppsEdge_capturesOnly (m : Module) : CapturesOnly m m.ppsEdge := by
  refine List.foldlRecOn (motive := CapturesOnly m) _ _ (.refl m) fun n h u _ => ?_
  split
  · exact h.trans (capture_capturesOnly n u)
  · exact h

theorem ppsEdge_of_no_unit (h : ∀ u < 16, m.cf (R.CAP_CFG u) F.CAP_CFG_SRC ≠ 1) : m.ppsEdge = m := by
  refine List.foldlRecOn (motive := (· = m)) _ _ rfl fun n same u hu => ?_
  subst same
  exact if_neg fun takes => h u (List.mem_range.1 hu) takes.1

theorem CapturesOnly.servoRuns {o : Int} {k : Module} (h : CapturesOnly m k) (runs : ServoRuns k k o n) : ServoRuns m k o n := by
  have state : k.clkState = m.clkState := rf_congr (h.2 _ (by decide)) _
  have slew := rf_congr (h.2 R.CLK_SLEW (by decide))
  have servo := rf_congr (h.2 R.CLK_SERVO (by decide))
  have ⟨now, clk⟩ : k.now = m.now ∧ k.clk = m.clk := by
    obtain ⟨⟨_, _, rfl⟩, -⟩ := h
    exact ⟨rfl, rfl⟩
  obtain ⟨terr, same, others, refOk, refAt, syncs, steers⟩ := runs
  rw [now] at refAt
  rw [state, clk] at syncs
  rw [state, slew, servo, servo, clk] at steers
  exact ⟨terr, same, others, refOk, refAt, syncs, steers⟩

/-! #### PTP frames without a tag (R201, R207) -/

theorem ptpReceive_of_own {p : Nat} {src : BitVec 48} (own : m.ownFrame p src = true) (tag : Option (BitVec 16)) (take : Module → Module) :
    m.ptpReceive p src tag take = m := if_pos own

theorem ptpReceive_untagged {p : Nat} {src : BitVec 48} (foreign : m.ownFrame p src = false) (take : Module → Module) :
    m.ptpReceive p src none take = take m := by
  simp [Module.ptpReceive, foreign, Module.isDup, Module.noteFrame]

/-- The Announce of port `p` kept where none was received. -/
theorem keepAnnounce_of_none (none_yet : m.clk.announces = []) (p : Nat) (a : Announce) : m.keepAnnounce p a = { m with
    clk := { m.clk with announces := [(p, some a)], announceAt := SMap.setD 0 m.clk.announceAt p m.now } } := by
  simp [Module.keepAnnounce, none_yet, SMap.setD, SMap.put, SMap.ins]

theorem keepAnnounce_announceOf (none_yet : m.clk.announces = []) (p : Nat) (a : Announce) (q : Nat) :
    (m.keepAnnounce p a).announceOf q = if q = p then some a else none := by
  rw [keepAnnounce_of_none none_yet]
  by_cases own : q = p
  · have fresh : SMap.getD 0 (SMap.setD 0 m.clk.announceAt p m.now) p = m.now := SMap.getD_setD_same _ _ _ _
    have young : m.now < m.now + 1500000000 := by omega
    rw [own, if_pos rfl, Module.announceOf, fresh, if_pos young]
    exact if_pos rfl
  · simp [Module.announceOf, SMap.getD, SMap.get, own, Ne.symm own]

/-- The one port that has received an Announce is the best (R201). -/
theorem keepAnnounce_bestPort (none_yet : m.clk.announces = []) (p : Fin 4) (a : Announce) :
    (m.keepAnnounce p a).bestPort = some (p.val, a) := by
  simp only [Module.bestPort, keepAnnounce_announceOf none_yet]
  fin_cases p <;> rfl

/-- Grandmaster, UTC offset, port in use and its delay as the Announce `a` at port `p` gives them (R201). -/
def Module.masterTold (m : Module) (p : Nat) (a : Announce) : Module :=
  (((m.wn R.CLK_GMID a.identity.toNat).wn R.CLK_UTC a.utc.toNat).wf R.CLK_PTP F.CLK_PTP_PORT p).wn R.CLK_MPD
    (SMap.getD 0 m.clk.pdelay p).toNat

/-- The same, with PSTATE, which stays in SLAVE. -/
def Module.masterShown (m : Module) (p : Nat) (a : Announce) : Module :=
  if (m.masterTold p a).rf R.CLK_PTP F.CLK_PTP_PSTATE = 3 then m.masterTold p a
  else (m.masterTold p a).wf R.CLK_PTP F.CLK_PTP_PSTATE 2

/-- `n` differs from `m` in registers only. -/
def RegsOnly (m n : Module) : Prop := ∃ regs, n = { m with regs := regs }

theorem RegsOnly.refl (m : Module) : RegsOnly m m := ⟨_, rfl⟩

theorem RegsOnly.wr (h : RegsOnly m n) (a : Nat) (v : DWord) : RegsOnly m (n.wr a v) := by
  obtain ⟨_, rfl⟩ := h
  exact ⟨_, rfl⟩

theorem masterTold_regsOnly (m : Module) (p : Nat) (a : Announce) : RegsOnly m (m.masterTold p a) :=
  ((((RegsOnly.refl m).wr R.CLK_GMID _).wr R.CLK_UTC _).wr R.CLK_PTP _).wr R.CLK_MPD _

theorem masterShown_inv (m : Module) (p : Nat) (a : Announce) :
    RegsOnly m (m.masterShown p a)
    ∧ (∀ r, r ≠ R.CLK_PTP → (m.masterShown p a).rd r = (m.masterTold p a).rd r)
    ∧ (m.masterShown p a).rf R.CLK_PTP F.CLK_PTP_PORT = (m.masterTold p a).rf R.CLK_PTP F.CLK_PTP_PORT := by
  have told := masterTold_regsOnly m p a
  unfold Module.masterShown
  generalize m.masterTold p a = k at *
  split
  · exact ⟨told, fun _ _ => rfl, rfl⟩
  · exact ⟨told.wr _ _, fun r h => rd_wf_ne _ _ _ h.symm, rf_wf_apart _ _ _ _ _ (by decide) (.inr (by decide))⟩

theorem masterTold_leads (m : Module) (p : Fin 4) (a : Announce) :
    (m.masterTold p a).rd R.CLK_GMID = a.identity.setWidth 64 ∧ (m.masterTold p a).rn R.CLK_UTC = a.utc.toNat
    ∧ (m.masterTold p a).rf R.CLK_PTP F.CLK_PTP_PORT = p.val
    ∧ (m.masterTold p a).rn R.CLK_MPD = (SMap.getD 0 m.clk.pdelay p).toNat
    ∧ (∀ r, r ∉ [R.CLK_GMID, R.CLK_UTC, R.CLK_PTP, R.CLK_MPD] → (m.masterTold p a).rd r = m.rd r) := by
  let k := (m.wn R.CLK_GMID a.identity.toNat).wn R.CLK_UTC a.utc.toNat
  have delay (r) (h : R.CLK_MPD ≠ r) : (m.masterTold p a).rd r = (k.wf R.CLK_PTP F.CLK_PTP_PORT p).rd r := rd_wr_ne _ _ h
  have port (r) (h : R.CLK_PTP ≠ r) : (k.wf R.CLK_PTP F.CLK_PTP_PORT p).rd r = k.rd r := rd_wr_ne _ _ h
  have utc : a.utc.toNat < 2 ^ 64 := lt_trans a.utc.isLt (by decide)
  refine ⟨?_, ?_, ?_, rn_word _ _ _, fun r h => ?_⟩
  · rw [delay _ (by decide), port _ (by decide), rd_wn, if_neg (by decide), rd_wn, if_pos rfl]
    simp
  · exact (rn_congr ((delay _ (by decide)).trans (port _ (by decide)))).trans (rn_wn_same _ utc)
  · refine ((rf_congr (delay _ (by decide)) _).trans (rf_wf_same k _ _ _ (by decide))).trans (Nat.mod_eq_of_lt ?_)
    exact lt_trans p.isLt (by decide)
  · have ⟨gmid, utc, ptp, mpd⟩ : r ≠ R.CLK_GMID ∧ r ≠ R.CLK_UTC ∧ r ≠ R.CLK_PTP ∧ r ≠ R.CLK_MPD := by simpa using h
    rw [delay r mpd.symm, port r ptp.symm, rd_wn, if_neg utc.symm, rd_wn, if_neg gmid.symm]

/-- The first Announce of the domain is that of the best master, and changes none (R201, R202). -/
theorem announce_of_first {p : Fin 4} {a : Announce} (src : m.clkSrc = 3) (domain : a.domain.toNat = m.rf R.CLK_PTP F.CLK_PTP_DOMAIN)
    (none_yet : m.clk.announces = []) (unknown : m.rn R.CLK_GMID = 0) : m.announce p a = (m.keepAnnounce p a).masterShown p a := by
  have best := keepAnnounce_bestPort none_yet p a
  have before : (m.keepAnnounce p a).rn R.CLK_GMID = 0 := (rn_congr (rd_congr rfl _)).trans unknown
  simp only [Module.announce, src, domain, best, before]
  simp
  rfl

theorem announce_elsewhere {p : Nat} {a : Announce} (h : m.clkSrc ≠ 3 ∨ a.domain.toNat ≠ m.rf R.CLK_PTP F.CLK_PTP_DOMAIN) :
    m.announce p a = m := if_pos h

/-! #### A go bit set by the host (R55, R56, R58) -/

/-- `f` is the row found at `a`: one word of rw fields, which the host may write at any time and whose writes do not wait. -/
structure GoRow (a : Nat) (f : Found) : Prop where
  found : findReg a regTable = some f
  normal : a < 0x400000
  aligned : a % 4 = 0
  request : a ≠ R.SYS_MODE_REQ
  config : a / 0x10000 ≠ 0xD
  narrow : f.reg.wide = false
  atOnce : f.reg.deferred = false
  event : f.reg.counter = false
  rule : f.reg.rule = .any
  fields : f.reg.fields ≠ []
  rw : ∀ d ∈ f.reg.fields, d.acc = .rw

theorem maskOf_eq_zero {d : RegDef} {p : FieldDef → Bool} (h : ∀ f ∈ d.fields, p f = false) : d.maskOf p = 0 := by
  refine List.foldlRecOn (motive := (· = 0)) _ _ rfl fun v zero f hf => ?_
  rw [h f hf]
  exact zero

theorem maskOf_eq_used {d : RegDef} {p : FieldDef → Bool} (h : ∀ f ∈ d.fields, p f = true) : d.maskOf p = d.used := by
  refine List.foldl_ext _ _ _ fun v f hf => ?_
  rw [h f hf]

theorem winOf_set {a : Nat} (h : a < 0x400000) : winOf (winBase Win.set + a) = some (Win.set, a) := by
  simp [winOf, List.range_succ_eq_map, winBase]
  omega

section
variable {a : Nat} {f : Found}

/-- A write of the ones `v` to the SET window of register `a`, as the decision table sees it. -/
def setWr (f : Found) (a : Nat) (v new : DWord) : Wr := ⟨f, a, Win.set, v, v, new⟩

theorem GoRow.place (g : GoRow a f) (free : m.sys.inspecting = false) :
    m.place (winBase Win.set + a) 4 = .ok ⟨Win.set, a, f⟩ := by
  have reached : ¬ (m.sys.inspecting = true ∧ 0x20000 ≤ a) := by simp [free]
  simp only [Module.place, winOf_set g.normal, g.found, if_neg reached, g.aligned, ne_eq, not_true_eq_false, if_false]

theorem GoRow.voteReg (g : GoRow a f) (m : Module) : m.voteReg a = m :=
  voteReg_of_unvoted m g.found (List.all_eq_true.2 fun d hd => by rw [g.rw d hd]; rfl)

/-- No reason of R58 refuses to set bits of the register's fields. -/
theorem GoRow.writeReason (g : GoRow a f) {v new : DWord} (used : v &&& ~~~ f.reg.used = 0) : m.writeReason (setWr f a v new) = none := by
  have held : m.heldBits f a = 0 := maskOf_eq_zero fun d hd => by rw [g.rw d hd]; rfl
  have may : m.mayWrite (setWr f a v new) = true := by simp only [Module.mayWrite, setWr, g.rule]
  have plain : f.reg.maskOf (fun d => d.acc == .ro || d.acc == .wo || d.acc == .w1c) = 0 :=
    maskOf_eq_zero fun d hd => by rw [g.rw d hd]; rfl
  have wo : f.reg.holdsWo = false := List.any_eq_false.2 fun d hd => by rw [g.rw d hd]; decide
  have writable : ¬ (f.reg.fields.all (fun d => d.acc == .ro) = true ∨ a / 0x10000 = 0xD) := by
    obtain ⟨d, hd⟩ := List.exists_mem_of_ne_nil _ g.fields
    rintro (ro | config)
    · have := List.all_eq_true.1 ro d hd
      rw [g.rw d hd] at this
      exact absurd this (by decide)
    · exact g.config config
  rw [Module.writeReason, may]
  simp only [setWr, used, held, plain, wo, g.event, if_neg writable]
  simp

/-- The write sets the bits in the register and drops its upset copies, nothing else. -/
theorem GoRow.writeFields (g : GoRow a f) (v new : DWord) : m.writeFields (setWr f a v new)
    = (m.wr a ((m.rd a &&& ~~~ f.reg.used) ||| (new &&& f.reg.used))).dropUpsets a f.reg.used := by
  have plain : f.reg.maskOf (fun d => d.acc == .rw || d.acc == .rt) = f.reg.used :=
    maskOf_eq_used fun d hd => by rw [g.rw d hd]; rfl
  have clear : f.reg.maskOf (fun d => d.acc == .w1c) = 0 := maskOf_eq_zero fun d hd => by rw [g.rw d hd]; rfl
  have buffered : f.reg.maskOf (fun d => d.acc.buffered && (Win.set == Win.normal || fget v ⟨d.hi, d.lo⟩ != 0)) = 0 :=
    maskOf_eq_zero fun d hd => by rw [g.rw d hd]; rfl
  have nothing (x : DWord) : x &&& ~~~ (0 &&& v) = x := (congrArg (x &&& ~~~ ·) BitVec.zero_and).trans BitVec.and_allOnes
  simp only [Module.writeFields, setWr, plain, clear, buffered, g.atOnce, nothing, Bool.false_eq_true, if_false, if_true]

theorem bit_eq_getLsbD (m : Module) (a k : Nat) : m.bit a k = (m.rd a).getLsbD k := by
  have one : k + 1 - k = 1 := by omega
  rw [Module.bit, Module.flag, Module.rf, fget_eq, one, pow_one, BitVec.getLsbD, ← Nat.toNat_testBit]
  cases (m.rd a).toNat.testBit k <;> rfl

theorem lanes_fmask_bit (k : Fin 32) : lanes (fmask ⟨k, k⟩) 0 4 = fmask ⟨k, k⟩ := by
  revert k
  decide

/-- A host that sets bit `k` reaches what the register's chapter gives with the bit set and nothing else changed. -/
theorem GoRow.setBitHost (g : GoRow a f) (up : m.up = true) (k : Fin 32) (used : fmask ⟨k, k⟩ &&& ~~~ f.reg.used = 0) :
    ∃ l old : Module, ∃ new, m.setBitHost a ⟨k, k⟩ = l.afterWrite old (setWr f a (fmask ⟨k, k⟩) new)
      ∧ (∃ host regs upsets, l = { m with host := host, regs := regs, upsets := upsets })
      ∧ (∀ b, b ≠ a → l.rd b = m.rd b) ∧ l.bit a k = true := by
  have ⟨live, free⟩ : m.live = true ∧ m.sys.inspecting = false := by simpa [Module.up] using up
  have ones (old : DWord) : fmask ⟨k, k⟩ &&& (old ||| fmask ⟨k, k⟩) = fmask ⟨k, k⟩ := by
    ext i
    simp +contextual
  let new := (m.setHigh .pcie none).pendView a ||| fmask ⟨k, k⟩
  have accepted := g.writeReason (m := m.setHigh .pcie none) (new := new) used
  have placed := g.place (m := m.setHigh .pcie none) free
  have fields := g.writeFields (m := m.setHigh .pcie none) (fmask ⟨k, k⟩) new
  have own : (fmask ⟨k, k⟩).getLsbD k = true := by rw [fmask_getLsbD _ _ (by omega)]; simp
  have inside : f.reg.used.getLsbD k = true := by
    have bit := congrArg (BitVec.getLsbD · k.val) used
    simpa [own, show k.val < 64 by omega] using bit
  refine ⟨(m.setHigh .pcie none).writeFields (setWr f a (fmask ⟨k, k⟩) new), m.setHigh .pcie none, new, ?_, ?_, ?_, ?_⟩
  · simp only [setWr, new] at accepted ⊢
    simp only [Module.setBitHost, Module.pcieWrite, Module.hostServed, live, Module.regWrite, placed, lanes_fmask_bit, g.narrow,
      g.voteReg (m.setHigh .pcie none), winOp]
    simp [accepted, ones, Module.writeEffect, g.request]
  · exact ⟨_, _, _, fields⟩
  · intro b h
    rw [fields]
    exact rd_wr_ne _ _ h.symm
  · rw [bit_eq_getLsbD, fields]
    refine (congrArg (BitVec.getLsbD · k.val) (rd_wr_same (m.setHigh .pcie none) a _)).trans ?_
    simp [new, own, inside]
end

/-! #### The go bits of CLK_CTRL (R197, R203, R205) -/

/-- The row of CLK_CTRL (R205). -/
def clkCtrlRow : RegDef :=
  ⟨R.CLK_CTRL, 1, 0, 1, 0, false, .val 0, .any, false, [⟨3, 3, .rw⟩, ⟨2, 2, .rw⟩, ⟨1, 1, .rw⟩, ⟨0, 0, .rw⟩]⟩

theorem clkCtrl_goRow : GoRow R.CLK_CTRL ⟨clkCtrlRow, 0, 0, 0⟩ where
  found := rfl
  normal := by decide
  aligned := rfl
  request := by decide
  config := by decide
  narrow := rfl
  atOnce := rfl
  event := by decide
  rule := rfl
  fields := by decide
  rw := by decide

theorem afterWrite_clkCtrl (m old : Module) (v new : DWord) : m.afterWrite old (setWr ⟨clkCtrlRow, 0, 0, 0⟩ R.CLK_CTRL v new)
    = (m.goIf (setWr ⟨clkCtrlRow, 0, 0, 0⟩ R.CLK_CTRL v new) F.CLK_CTRL_SNAP Module.goSnap).goIf
      (setWr ⟨clkCtrlRow, 0, 0, 0⟩ R.CLK_CTRL v new) F.CLK_CTRL_SAVE (·.goSave 2) := by
  simp only [Module.afterWrite, Module.afterCore, setWr, clkCtrlRow, R.SYS_MODE_REQ, R.SYS_SHUNT, R.SYS_TIMES, R.SYS_SHUNT_EX,
    R.HOST_IRQ_EN, R.TTB_CTRL, R.LU_CTRL, R.CLK_CFG, R.CLK_CTRL]
  rfl

/-- Of CLK_CTRL's bits below SAVE, SNAP acts at once; the others stand for their boundary. -/
theorem setBitHost_clkCtrl (up : m.up = true) {k : Fin 32} (below : k < 3) : ∃ l : Module,
    m.setBitHost R.CLK_CTRL ⟨k, k⟩ = (if k = 0 then l.goSnap else l)
    ∧ (∃ host regs upsets, l = { m with host := host, regs := regs, upsets := upsets })
    ∧ (∀ b, b ≠ R.CLK_CTRL → l.rd b = m.rd b) ∧ l.bit R.CLK_CTRL k = true := by
  have used : ∀ k : Fin 32, k < 3 → fmask ⟨k, k⟩ &&& ~~~ clkCtrlRow.used = 0 := by decide
  have snap : (fget (fmask ⟨k, k⟩) F.CLK_CTRL_SNAP != 0) = decide (k = 0) := by
    rw [F.CLK_CTRL_SNAP, fget_fmask_bit (by decide)]
    exact decide_eq_decide.2 (eq_comm.trans (Fin.ext_iff (b := 0)).symm)
  have save : (fget (fmask ⟨k, k⟩) F.CLK_CTRL_SAVE != 0) = false := by
    rw [F.CLK_CTRL_SAVE, fget_fmask_bit (by decide)]
    exact decide_eq_false (by have := Fin.lt_def.1 below; omega)
  obtain ⟨l, old, new, writes, same, others, own⟩ := clkCtrl_goRow.setBitHost up k (used k below)
  refine ⟨l, ?_, same, others, own⟩
  rw [writes, afterWrite_clkCtrl]
  simp only [Module.goIf, Wr.sets, setWr, snap, save]
  simp

/-! #### Band selection and the divider (R189, R198) -/

/-- What a band selection leaves: the clock in its next state, or in BAND; the registers below those of the gate channels
but for CLK_STAT, and there DIV_BAD; the divider that waits. -/
structure BandSelected (m : Module) (next : Nat) (n : Module) : Prop where
  state : n.clkState = 1 ∨ n.clkState = next
  divBad : n.flag R.CLK_STAT F.CLK_STAT_DIV_BAD = m.flag R.CLK_STAT F.CLK_STAT_DIV_BAD
  divDue : n.clk.divDue = m.clk.divDue
  low : ∀ a < 0x90000, a ≠ R.CLK_STAT → n.rd a = m.rd a

/-- The bands checked and the dither register loaded (R188, R199). -/
def Module.bandsChecked (m : Module) : Module := (m.setFlag R.CLK_STAT F.CLK_STAT_BADBAND m.bandBad).loadDither

theorem bandsChecked_rd (m : Module) (a : Nat) :
    m.bandsChecked.rd a = (m.setFlag R.CLK_STAT F.CLK_STAT_BADBAND m.bandBad).rd a := rd_congr rfl a

theorem bandsChecked_low (m : Module) {a : Nat} (h : a ≠ R.CLK_STAT) : m.bandsChecked.rd a = m.rd a :=
  (bandsChecked_rd m a).trans (rd_setFlag_ne m _ _ h.symm)

theorem bandsChecked_divBad (m : Module) :
    m.bandsChecked.flag R.CLK_STAT F.CLK_STAT_DIV_BAD = m.flag R.CLK_STAT F.CLK_STAT_DIV_BAD :=
  (flag_congr (bandsChecked_rd m _) _).trans (flag_setFlag_apart m _ _ _ _ (by decide) (.inl (by decide)))

theorem bandSelect_bandSelected (m : Module) {next : Nat} (h : next < 16) : BandSelected m next (m.bandSelect next) := by
  have eq : m.bandSelect next = match m.bandsChecked.bandPick with
    | some k => (m.bandsChecked.wf R.CLK_STAT F.CLK_STAT_BAND k).setClkState next
    | none => ((m.bandsChecked.setClkState 1).stopGens).raiseFree FS.CLK_NO_BAND .none := rfl
  have low (a) (h : a ≠ R.CLK_STAT) := bandsChecked_low m h
  have divBad := bandsChecked_divBad m
  have divDue : m.bandsChecked.clk.divDue = m.clk.divDue := rfl
  rw [eq]
  generalize m.bandsChecked = p at *
  split
  · next k _ =>
    exact {
      state := .inr (clkState_setClkState _ h)
      divBad := (flag_setClkState _ _ _ (by decide) (by decide)).trans
        ((congrArg (· != 0) (rf_wf_apart p _ _ _ k (by decide) (.inl (by decide)))).trans divBad)
      divDue := divDue
      low := fun a _ stat => ((rd_wf_ne _ _ _ stat.symm).trans (rd_wf_ne p _ _ stat.symm)).trans (low a stat) }
  · have lines := stopGens_linesOnly (p.setClkState 1)
    have kept (a) (h : a < 0x90000) : ((p.setClkState 1).stopGens.raiseFree FS.CLK_NO_BAND .none).rd a = (p.setClkState 1).rd a :=
      (raiseFree_rd _ _ _ a).trans (lines.2 a h)
    obtain ⟨_, _, _, _, stopped⟩ := lines.1
    exact {
      state := .inl ((rf_congr (kept _ (by decide)) _).trans (clkState_setClkState p (by decide)))
      divBad := ((flag_congr (kept _ (by decide)) _).trans (flag_setClkState p _ _ (by decide) (by decide))).trans divBad
      divDue := by rw [stopped]; exact divDue
      low := fun a high stat => ((kept a high).trans (rd_wf_ne p _ _ stat.symm)).trans (low a stat) }

/-- No divider pair waits for its compare edge. -/
def Module.noDivDue (m : Module) : Module := { m with clk := { m.clk with divDue := none } }

theorem dividerApply_of_bad {v : Nat} (due : m.clk.divDue = some v) (bad : divProductOk v = false) :
    m.dividerApply = m.noDivDue.setFlag R.CLK_STAT F.CLK_STAT_DIV_BAD true := by
  simp only [Module.dividerApply, due, bad]
  rfl

/-- The divider pair in force (R198). -/
def Module.divided (m : Module) (v : Nat) : Module :=
  let n := (m.noDivDue.setFlag R.CLK_STAT F.CLK_STAT_DIV_BAD false).wn R.CLK_DIV (bitsN v 7 0)
  n.setCorr n.clk.corr

theorem divided_rd (m : Module) (v a : Nat) : (m.divided v).rd a =
    ((m.setFlag R.CLK_STAT F.CLK_STAT_DIV_BAD false).wn R.CLK_DIV (bitsN v 7 0)).rd a := rd_congr rfl a

theorem divided_stat (m : Module) (v : Nat) :
    (m.divided v).rd R.CLK_STAT = (m.setFlag R.CLK_STAT F.CLK_STAT_DIV_BAD false).rd R.CLK_STAT :=
  (divided_rd m v _).trans (rd_wr_ne _ _ (by decide))

theorem divided_clkState (m : Module) (v : Nat) : (m.divided v).clkState = m.clkState :=
  (rf_congr (divided_stat m v) _).trans (clkState_setFlag m _ _ (by decide))

theorem divided_divBad (m : Module) (v : Nat) : (m.divided v).flag R.CLK_STAT F.CLK_STAT_DIV_BAD = false :=
  (flag_congr (divided_stat m v) _).trans (flag_setFlag_same m _ _ false (by decide) rfl)

theorem divided_div (m : Module) (v : Nat) : (m.divided v).rn R.CLK_DIV = v % 256 := by
  have byte : bitsN v 7 0 = v % 256 := by simp [bitsN]
  rw [rn_congr (divided_rd m v _), byte]
  exact rn_wn_same _ (lt_trans (Nat.mod_lt _ (by decide)) (by decide))

theorem dividerApply_of_good {v : Nat} (due : m.clk.divDue = some v) (good : divProductOk v = true) : m.dividerApply =
    let n := (m.divided v).bandSelect (if (m.divided v).clkRuns then 5 else 2)
    if n.clkState = 5 then n.reacquire else n := by
  simp only [Module.dividerApply, due, good]
  rfl

/-- A divider pair taken (R198): its registers, and the clock on its way to a lock, or without a band. -/
theorem dividerApply_takes {v : Nat} (due : m.clk.divDue = some v) (good : divProductOk v = true) :
    m.dividerApply.clk.divDue = none ∧ m.dividerApply.flag R.CLK_STAT F.CLK_STAT_DIV_BAD = false
    ∧ m.dividerApply.rn R.CLK_DIV = v % 256
    ∧ (m.dividerApply.clkState = 1 ∨ m.dividerApply.clkState = if 3 ≤ m.clkState ∧ m.clkState ≤ 6 then 5 else 2) := by
  have runs : (if (m.divided v).clkRuns then 5 else 2) = if 3 ≤ m.clkState ∧ m.clkState ≤ 6 then 5 else 2 := by
    simp [Module.clkRuns, divided_clkState]
  have band := bandSelect_bandSelected (m.divided v) (next := if 3 ≤ m.clkState ∧ m.clkState ≤ 6 then 5 else 2) (by split <;> decide)
  have div := (rn_congr (band.low R.CLK_DIV (by decide) (by decide))).trans (divided_div m v)
  have divBad := band.divBad.trans (divided_divBad m v)
  have divDue := band.divDue.trans (show (m.divided v).clk.divDue = none from rfl)
  have state := band.state
  rw [dividerApply_of_good due good, runs]
  generalize (m.divided v).bandSelect _ = n at *
  dsimp only
  split
  · next again =>
    refine ⟨divDue, (flag_congr (reacquire_rd n _) _).trans ((flag_setClkState n _ _ (by decide) (by decide)).trans divBad),
      (rn_congr (reacquire_rd_ne n (by decide))).trans div, ?_⟩
    rw [reacquire_clkState]
    rwa [again] at state
  · exact ⟨divDue, divBad, div, state⟩

/-! #### O31: the commands -/

/-- The Sync is of the domain, on the port in use (R201). -/
abbrev Module.syncHere (m : Module) (p : Fin 4) (f : PtpSync) : Prop := m.clkSrc = 3 ∧ m.rf R.CLK_PTP F.CLK_PTP_PORT = p.val
  ∧ f.domain.toNat = m.rf R.CLK_PTP F.CLK_PTP_DOMAIN

section
variable {s : State} (on : s.mod.powered = true) {p : Fin 4}
include on

theorem exec_ptpSync {f : PtpSync} : exec (.ptpSync p f) s = .next ⟨s.mod.ptpReceive p f.src f.tag fun m =>
    if m.syncHere p f then m.servo (m.syncOffset f) else m, s.pending⟩ := by
  show execPtpSync p f s = _
  rw [execPtpSync, runOn_of_powered on]

theorem leads_ptpSync {f : PtpSync} (untagged : f.tag = none) (here : s.mod.syncHere p f) (st6 : s.mod.clkState ≠ 6)
    (foreign : s.mod.ownFrame p f.src = false) : Leads (.ptpSync p f) s (ServoRuns s.mod s.mod (s.mod.syncOffset f)) := by
  refine ⟨_, exec_ptpSync on, ?_⟩
  rw [untagged, ptpReceive_untagged foreign, if_pos here]
  exact servo_runs st6 _

theorem exec_ptpSync_elsewhere {f : PtpSync} (untagged : f.tag = none)
    (h : ¬ s.mod.syncHere p f ∨ s.mod.ownFrame p f.src = true) : exec (.ptpSync p f) s = .next s := by
  rw [exec_ptpSync on]
  by_cases own : s.mod.ownFrame p f.src = true
  · rw [ptpReceive_of_own own]
  · rw [untagged, ptpReceive_untagged (by simpa using own), if_neg (h.resolve_right own)]

theorem exec_ppsPulse : exec .ppsPulse s = .next
    ⟨if s.mod.ppsEdge.clkSrc = 2 then s.mod.ppsEdge.servo s.mod.ppsEdge.todNs else s.mod.ppsEdge, s.pending⟩ := by
  show execPpsPulse s = _
  rw [execPpsPulse, runOn_of_powered on]

theorem leads_ppsPulse (src : s.mod.clkSrc = 2) (st6 : s.mod.clkState ≠ 6) :
    Leads .ppsPulse s (ServoRuns s.mod s.mod.ppsEdge s.mod.todNs) := by
  have edge := ppsEdge_capturesOnly s.mod
  have source : s.mod.ppsEdge.clkSrc = 2 := (rf_congr (edge.2 _ (by decide)) _).trans src
  have st : s.mod.ppsEdge.clkState ≠ 6 := ne_of_eq_of_ne (rf_congr (edge.2 _ (by decide)) _) st6
  have tod : s.mod.ppsEdge.todNs = s.mod.todNs := by
    obtain ⟨⟨_, _, eq⟩, -⟩ := edge
    rw [eq]
  refine ⟨_, exec_ppsPulse on, ?_⟩
  rw [if_pos source, tod]
  exact edge.servoRuns (servo_runs st _)

theorem exec_ppsPulse_elsewhere (src : s.mod.clkSrc ≠ 2) : exec .ppsPulse s = .next ⟨s.mod.ppsEdge, s.pending⟩ := by
  have source : s.mod.ppsEdge.clkSrc ≠ 2 := ne_of_eq_of_ne (rf_congr ((ppsEdge_capturesOnly s.mod).2 _ (by decide)) _) src
  rw [exec_ppsPulse on, if_neg source]

theorem exec_ptpAnnounce {a : Announce} (untagged : a.tag = none) (foreign : s.mod.ownFrame p a.src = false) :
    exec (.ptpAnnounce p a) s = .next ⟨s.mod.announce p a, s.pending⟩ := by
  show execPtpAnnounce p a s = _
  rw [execPtpAnnounce, runOn_of_powered on, untagged, ptpReceive_untagged foreign]

theorem leads_firstAnnounce {a : Announce} (untagged : a.tag = none) (foreign : s.mod.ownFrame p a.src = false)
    (src : s.mod.clkSrc = 3) (domain : a.domain.toNat = s.mod.rf R.CLK_PTP F.CLK_PTP_DOMAIN) (none_yet : s.mod.clk.announces = [])
    (unknown : s.mod.rn R.CLK_GMID = 0) : Leads (.ptpAnnounce p a) s (fun m =>
      m.rd R.CLK_GMID = a.identity.setWidth 64 ∧ m.rn R.CLK_UTC = a.utc.toNat ∧ m.rf R.CLK_PTP F.CLK_PTP_PORT = p.val
      ∧ m.rn R.CLK_MPD = (SMap.getD 0 s.mod.clk.pdelay p).toNat
      ∧ m.clk = { s.mod.clk with announces := [(p.val, some a)], announceAt := SMap.setD 0 s.mod.clk.announceAt p s.mod.now }
      ∧ (∀ r, r ∉ [R.CLK_GMID, R.CLK_UTC, R.CLK_PTP, R.CLK_MPD] → m.rd r = s.mod.rd r)
      ∧ m = { s.mod with regs := m.regs, clk := m.clk }) := by
  refine ⟨_, exec_ptpAnnounce on untagged foreign, ?_⟩
  rw [announce_of_first src domain none_yet unknown]
  have kept := keepAnnounce_of_none none_yet p a
  obtain ⟨gmid, utc, port, delay, others⟩ := masterTold_leads (s.mod.keepAnnounce p a) p a
  obtain ⟨⟨regs, shown⟩, told, port'⟩ := masterShown_inv (s.mod.keepAnnounce p a) p a
  have clk : ((s.mod.keepAnnounce p a).masterShown p a).clk = (s.mod.keepAnnounce p a).clk := by rw [shown]
  refine ⟨(told _ (by decide)).trans gmid, (rn_congr (told _ (by decide))).trans utc, port'.trans port,
    (rn_congr (told _ (by decide))).trans delay, by rw [clk, kept], fun r h => ?_, by rw [shown, kept]⟩
  exact ((told r fun ptp => h (by simp [ptp])).trans (others r h)).trans (rd_congr rfl r)

/-- A port without a link measures no delay and answers no request (R201). -/
theorem exec_pdelay_unlinked (down : s.mod.portUp p = false) :
    (∀ d, exec (.pdelayExchange p d) s = .next s) ∧ exec (.pdelayReqReceived p) s = .next s := by
  refine ⟨fun d => ?_, ?_⟩
  · show execPdelayExchange p d s = _
    rw [execPdelayExchange, runOn_of_powered on, down]
    rfl
  · show execPdelayReqReceived p s = _
    rw [execPdelayReqReceived, runOn_of_powered on, down]
    rfl

theorem leads_pdelayExchange (d : BitVec 32) (up : s.mod.portUp p = true) : Leads (.pdelayExchange p d) s (fun m =>
    (s.mod.rf R.CLK_PTP F.CLK_PTP_PORT = p.val → m.rn R.CLK_MPD = d.toNat)
    ∧ (s.mod.rf R.CLK_PTP F.CLK_PTP_PORT ≠ p.val → m.regs = s.mod.regs)
    ∧ (∀ a, a ≠ R.CLK_MPD → m.rd a = s.mod.rd a)
    ∧ m = { s.mod with regs := m.regs, clk := { s.mod.clk with pdelay := SMap.setD 0 s.mod.clk.pdelay p d } }) := by
  let k : Module := { s.mod with clk := { s.mod.clk with pdelay := SMap.setD 0 s.mod.clk.pdelay p d } }
  have measured : exec (.pdelayExchange p d) s
      = .next ⟨if s.mod.rf R.CLK_PTP F.CLK_PTP_PORT = p.val then k.wn R.CLK_MPD d.toNat else k, s.pending⟩ := by
    show execPdelayExchange p d s = _
    rw [execPdelayExchange, runOn_of_powered on, up]
    rfl
  refine ⟨_, measured, ?_⟩
  split
  · next used => exact ⟨fun _ => rn_word k _ d, fun no => absurd used no, fun a h => (rd_wr_ne k _ h.symm).trans (rd_congr rfl a), rfl⟩
  · next unused => exact ⟨fun used => absurd used unused, fun _ => rfl, fun a _ => rd_congr rfl a, rfl⟩

theorem leads_pdelayReqReceived (up : s.mod.portUp p = true) : Leads (.pdelayReqReceived p) s (fun m =>
    SMap.getD 0 m.clk.pdelaySent p = SMap.getD 0 s.mod.clk.pdelaySent p + 1
    ∧ (∀ q, q ≠ p.val → SMap.getD 0 m.clk.pdelaySent q = SMap.getD 0 s.mod.clk.pdelaySent q)
    ∧ m = { s.mod with clk := { s.mod.clk with pdelaySent := m.clk.pdelaySent } }) := by
  have answers : exec (.pdelayReqReceived p) s = .next ⟨{ s.mod with clk := { s.mod.clk with
      pdelaySent := SMap.setD 0 s.mod.clk.pdelaySent p (SMap.getD 0 s.mod.clk.pdelaySent p + 1) } }, s.pending⟩ := by
    show execPdelayReqReceived p s = _
    rw [execPdelayReqReceived, runOn_of_powered on, up]
    rfl
  have others (q : Nat) (h : q ≠ p.val) : SMap.getD 0
      (SMap.setD 0 s.mod.clk.pdelaySent p (SMap.getD 0 s.mod.clk.pdelaySent p + 1)) q = SMap.getD 0 s.mod.clk.pdelaySent q :=
    SMap.getD_setD_ne _ _ _ h.symm
  have own := SMap.getD_setD_same 0 s.mod.clk.pdelaySent p.val (SMap.getD 0 s.mod.clk.pdelaySent p + 1)
  exact ⟨_, answers, own, others, rfl⟩

end

section
variable {s : State}

/-- What a bit of CLK_CTRL may change: registers `as`, disturbed copies and the host port. -/
def HostOnly (as : List Nat) (m n : Module) : Prop :=
  (∀ a, a ∉ as → n.rd a = m.rd a) ∧ n = { m with regs := n.regs, upsets := n.upsets, host := n.host }

theorem leads_clkBit (up : s.mod.up = true) {c : Instr} {k : Fin 32} (sets : exec c s = s.run (·.setBitHost R.CLK_CTRL ⟨k, k⟩))
    (below : k < 3) (stands : k ≠ 0) : Leads c s (fun m => m.bit R.CLK_CTRL k = true ∧ HostOnly [R.CLK_CTRL] s.mod m) := by
  obtain ⟨l, writes, same, others, own⟩ := setBitHost_clkCtrl up below
  rw [if_neg stands] at writes
  refine ⟨l, sets.trans (run_of_eq writes), own, fun a h => others a (by simpa using h), ?_⟩
  obtain ⟨_, _, _, rfl⟩ := same
  rfl

theorem leads_clkSnap (up : s.mod.up = true) : Leads .clkSnap s (fun m => m.rd R.CLK_TOD_SEC = BitVec.ofNat 64 s.mod.todSec
    ∧ m.rd R.CLK_TOD_NS = BitVec.ofNat 64 s.mod.todNs ∧ m.flag R.CLK_CTRL F.CLK_CTRL_SNAP = false
    ∧ HostOnly [R.CLK_CTRL, R.CLK_TOD_SEC, R.CLK_TOD_NS] s.mod m) := by
  obtain ⟨l, writes, same, others, -⟩ := setBitHost_clkCtrl up (k := 0) (by decide)
  rw [if_pos rfl] at writes
  have ⟨sec, ns⟩ : l.todSec = s.mod.todSec ∧ l.todNs = s.mod.todNs := by
    obtain ⟨_, _, _, rfl⟩ := same
    exact ⟨rfl, rfl⟩
  refine ⟨l.goSnap, run_of_eq (f := (·.setBitHost R.CLK_CTRL F.CLK_CTRL_SNAP)) writes, ?_⟩
  have snap : l.goSnap = ((l.wn R.CLK_TOD_SEC l.todSec).wn R.CLK_TOD_NS l.todNs).setFlag R.CLK_CTRL F.CLK_CTRL_SNAP false := rfl
  rw [snap, sec, ns]
  refine ⟨?_, ?_, flag_setFlag_same _ _ _ false (by decide) rfl, fun a h => ?_, ?_⟩
  · rw [rd_setFlag_ne _ _ _ (by decide), rd_wn, if_neg (by decide), rd_wn, if_pos rfl]
  · rw [rd_setFlag_ne _ _ _ (by decide), rd_wn, if_pos rfl]
  · have ⟨ctrl, todSec, todNs⟩ : a ≠ R.CLK_CTRL ∧ a ≠ R.CLK_TOD_SEC ∧ a ≠ R.CLK_TOD_NS := by simpa using h
    rw [rd_setFlag_ne _ _ _ ctrl.symm, rd_wn, if_neg todNs.symm, rd_wn, if_neg todSec.symm, others a ctrl]
  · obtain ⟨_, _, _, rfl⟩ := same
    rfl

theorem exec_dividerApply (on : s.mod.powered = true) {edges : List (BitVec 16)} (long : ∀ e ∈ edges, 1900 ≤ e.toNat) :
    exec (.dividerApply edges) s = .next ⟨s.mod.dividerApply, s.pending⟩ := by
  show execDividerApply s edges = _
  rw [execDividerApply, runOn_of_powered on, swallow_of_long long]

theorem divProductOk_iff (v : Nat) : divProductOk v = true ↔ 8 ≤ bitsN v 7 4 * bitsN v 3 0 ∧ bitsN v 7 4 * bitsN v 3 0 ≤ 12 := by
  simp [divProductOk]

end

/-- Settles O31: each command by its lemma above. -/
theorem clockServoMessagesAndCommands : Obligations.ClockServoMessagesAndCommands := by
  refine ⟨fun s on => ⟨fun p f untagged => ⟨leads_ptpSync on untagged, exec_ptpSync_elsewhere on untagged⟩, leads_ppsPulse on,
      exec_ppsPulse_elsewhere on, ppsEdge_of_no_unit, fun p a untagged foreign => ⟨leads_firstAnnounce on untagged foreign, fun h => ?_⟩,
      fun p => exec_pdelay_unlinked on, fun p d => leads_pdelayExchange on d, fun p => leads_pdelayReqReceived on⟩,
    fun s => ⟨fun up => ⟨leads_clkBit up (k := 2) rfl (by decide) (by decide), leads_clkBit up (k := 1) rfl (by decide) (by decide),
      leads_clkSnap up⟩, fun on edges long => ⟨fun none_due => ?_, fun v due => ⟨fun outside => ?_, fun low high => ?_⟩⟩⟩⟩
  · rw [exec_ptpAnnounce on untagged foreign, announce_elsewhere h]
  · have nothing : s.mod.dividerApply = s.mod := by simp only [Module.dividerApply, none_due]
    rw [exec_dividerApply on long, nothing]
  · have bad : divProductOk v = false := by
      rw [← Bool.not_eq_true, divProductOk_iff]
      omega
    refine ⟨_, exec_dividerApply on long, ?_⟩
    rw [dividerApply_of_bad due bad]
    exact ⟨rfl, flag_setFlag_same _ _ _ true (by decide) rfl, fun a h => (rd_setFlag_ne _ _ _ h.symm).trans (rd_congr rfl a)⟩
  · exact ⟨_, exec_dividerApply on long, dividerApply_takes due ((divProductOk_iff v).2 ⟨low, high⟩)⟩

end Sys2Proof.Machine
